-- ==== Sys2Proof/Word.lean ====
section
/-!
DEFINITION. The plain value types of the Volano VLN model: bytes and register words, the sparse map that
holds every addressed store of the block, and nothing that a chapter of the spec could correct.
Quantities in the spec's number formats (R6) are held as integers counted in the LSB of their format.
-/

namespace Sys2Proof

/-- One byte of host memory or of a frame. -/
abbrev Byte := BitVec 8

/-- One 32-bit BAR0 register (R13). -/
abbrev Reg32 := BitVec 32

/-- A sparse store: `(key, value)` pairs with strictly rising keys, no value equal to what an unlisted
key reads as. Every addressed store of the block (registers, parameter numbers, host memory, the signal
store, tables by number) is one of these. -/
abbrev SMap (α : Type) := List (Nat × α)

/-- What key `k` holds, with `d` the value of an unlisted key. -/
def SMap.get {α : Type} (d : α) (m : SMap α) (k : Nat) : α :=
  match m with
  | [] => d
  | (k', v) :: rest => if k' = k then v else SMap.get d rest k

/-- `m` without key `k`. -/
def SMap.erase {α : Type} (m : SMap α) (k : Nat) : SMap α :=
  match m with
  | [] => []
  | (k', v) :: rest => if k' = k then SMap.erase rest k else (k', v) :: SMap.erase rest k

/-- `m` with key `k` listed as `v`. -/
def SMap.insert {α : Type} (m : SMap α) (k : Nat) (v : α) : SMap α :=
  match m with
  | [] => [(k, v)]
  | (k', v') :: rest =>
    if k < k' then (k, v) :: (k', v') :: rest
    else if k = k' then (k, v) :: rest
    else (k', v') :: SMap.insert rest k v

/-- `m` with key `k` holding `v`; writing the default `d` removes the entry. -/
def SMap.set {α : Type} [DecidableEq α] (d : α) (m : SMap α) (k : Nat) (v : α) : SMap α :=
  if v = d then m.erase k else m.insert k v

/-- The keys rise strictly, all above `lo`. -/
def SMap.risesFrom {α : Type} (lo : Nat) (m : SMap α) : Bool :=
  match m with
  | [] => true
  | (k, _) :: rest => decide (lo ≤ k) && SMap.risesFrom (k + 1) rest

/-- The canonical form: keys rise strictly and no entry holds the default of its key. -/
def SMap.wf {α : Type} [DecidableEq α] (d : Nat → α) (m : SMap α) : Bool :=
  SMap.risesFrom 0 m && m.all (fun e => decide (e.2 ≠ d e.1))

end Sys2Proof
end

