-- ==== Sys2Proof/Config.lean ====
section
/-!
DEFINITION. What one part fixes and the spec leaves open. Every `opaque` constant below has no body: no proof
can see its value, so a claim holds whatever the value is. `free` counters in `State` are the arguments that
make each use of a per-use free value fresh.
-/

namespace Sys2Proof.Config

/-- Error of a sine evaluation (R79 bounds it by 2^-33): argument in 2^-48 rad, answer in 2^-48 before the
model clamps it to the bound. Log entry 6. -/
opaque sinError : Int → Int
/-- Error of a cosine evaluation, as `sinError`. Log entry 6. -/
opaque cosError : Int → Int
/-- Error of a circle square root (R79: within 1 LSB of H36), in LSB before the model clamps it. Log entry 6. -/
opaque sqrtError : Nat → Int
/-- A bus word whose value the spec leaves open (a read lane, a register the spec calls fixed or measured
without a rule), numbered by use. Log entry 7. -/
opaque freeWord : Nat → BitVec 72
/-- SHA-256 of a byte string, named but not defined by the spec (R515, R516, R519). Log entry 8. -/
opaque sha256 : List Byte → List Byte
/-- Whether an ECDSA P-256 signature `r ‖ s` over a digest verifies under a public key `X ‖ Y` (R515, R519).
Log entry 8. -/
opaque ecdsaVerifies : (key digest signature : List Byte) → Bool
/-- Whether 64 bytes are a point on P-256 (R513). Log entry 8. -/
opaque onP256 : List Byte → Bool
/-- The Preril key hash in the boot ROM (R516). Log entry 8. -/
opaque romKeyHash : List Byte
/-- The challenge of the true random source, numbered by use (R519). Log entry 8. -/
opaque randomChallenge : Nat → List Byte
/-- The byte a JNL_STATUS or LOG_READ buffer receives where the spec gives the buffer no layout (R356).
Arguments: use number, byte offset. Log entry 9. -/
opaque bufferByte : Nat → Nat → Byte

/-- The node number and node-local axis that a servo axis with POWER_PORT 4 runs on: the spec binds the two by no
rule. Log entry 14. -/
opaque remoteHome : Nat → Nat × Nat
/-- Clock periods for which engine `e` is gated in a cycle in which it has a burst, by the number of the cycle: no rule gives the
length of a burst (R51). Log entry 44. -/
opaque gatedClocks : (e cycle : Nat) → Nat
/-- The die stepping that SYS_REV reads as (R542). Log entry 7. -/
opaque dieStepping : BitVec 16

/-- Whether the even cycles take the longer of the two alternating P_cyc of rung 0 (R248). Log entry 15. -/
opaque longEven : Bool

/-- Full scales (A, V) of the modulators at a Node-role VLN's port `k`: the conductor's settings do not carry them to the
node (R103, R314). Log entry 16. -/
opaque nodeScale : Nat → Rat × Rat

/-- Amplitude of the voltage steps of an identification on an axis, in 2^-35 of U_FS (R239). Log entry 107. -/
opaque identStep : (axis : Nat) → BitVec 35

/-- What the uplink adds to the arrival of a scatter frame at a conductor beyond the delay of its own first link (R333):
the passage and link delays of the nodes between the lead and it, which no frame tells it, in ns. Log entry 143. -/
opaque uplinkRest : Nat

/-- The node number a conductor claims on its uplink: the spec gives none (R286, R530). Log entry 17. -/
opaque ownNodeNo : Nat

end Sys2Proof.Config
end

