-- ==== Sys2Proof/Syntax.lean ====
section
/-!
DEFINITION. The commands the block takes: one constructor of `Instr` per row of spec/opcode_table.json, with the
row's operands, and before it the plain records that operands and state share (frames, records, samples).
Quantities are integers in the LSB of their format (R6); host addresses, numbers and counts are naturals.
-/

namespace Sys2Proof

/-- The two safety channels (R392). -/
inductive Chan where
  | a
  | b
  deriving DecidableEq, Repr

/-- Header of a command image (R346) and the ring that carries it. -/
structure Hdr where
  ring : Nat
  nslot : Nat
  dflags : Nat
  subj : Nat
  zero : Nat
  tag : Nat
  deriving DecidableEq, Repr

/-- A change of the lines of feedback port `port`, `after` quiet ticks of 2 ns after the change before it (R191, R196): A, B and Z,
or U, V and W; in sine/cosine mode the internal comparators of sine and cosine and the reference mark. -/
structure FbEdge where
  after : Nat
  port : Nat
  a : Bool
  b : Bool
  z : Bool
  deriving DecidableEq, Repr

/-- What the pins of the feedback ports did since the last command that brought their history: every change in order, then `quiet`
ticks without one. -/
structure PinRun where
  edges : List FbEdge
  quiet : Nat
  deriving DecidableEq, Repr

/-- An event of one port with the history of the pins up to it. -/
structure PortRun where
  port : Nat
  run : PinRun
  deriving DecidableEq, Repr

/-- A buoy's instant with the history of the pins up to it. -/
structure BuoyShot where
  buoy : Nat
  run : PinRun
  deriving DecidableEq, Repr

/-- What every local power stage and feedback port presents at φ0 (R59, R195): the history of the feedback pins up to φ0; per
port the sine and cosine codes and the share of the past cycle (in 2^-16) its chopper was on; per modulator channel the filter
output of the bit stream at its ball, in 2^-35 of full scale. -/
structure Phi0Sample where
  pins : PinRun
  sin : List Int
  cos : List Int
  chopShare : List Nat
  sdm : List Int
  deriving DecidableEq, Repr

/-- Capability record of R286, field by field. `zeroOk` says that every reserved byte is zero. -/
structure CapRecord where
  rectype : Nat
  profile : Nat
  nodeNo : Nat
  vendor : Nat
  uid : Nat
  fwdDly : Nat
  sincDly : Nat
  axes : Nat
  rungs : Nat
  flags : Nat
  oscPpm : Nat
  rank : Nat
  role : Nat
  firmware : Nat
  axisFmt : List (Nat × Nat)
  zeroOk : Bool
  crcOk : Bool
  deriving DecidableEq, Repr

/-- Skegil identity record of R292. -/
structure SkegilRecord where
  rectype : Nat
  sver : Nat
  nodeNo : Nat
  uid : Nat
  axes : Nat
  vendor : Nat
  firmware : Nat
  zeroOk : Bool
  crcOk : Bool
  deriving DecidableEq, Repr

/-- The Flash of R303 as a port receives it. `corr` is CORR of its frame (R301), `rx` the receive stamp, both in T72 LSB; `conductor` is
the sender's number and `valid` the frame's validity (R297). -/
structure FlashIn where
  tx : Nat
  corr : Int
  rx : Nat
  epoch : Nat
  nE : Nat
  rung : Nat
  nextRung : Nat
  nextCycle : Nat
  void : Bool
  relayed : Bool
  syncin : Bool
  lanternUid : Nat
  conductor : Nat
  cycle : Nat
  valid : Bool
  deriving DecidableEq, Repr

/-- Cycle header of R300. -/
structure CycleHeader where
  ftype : Nat
  ver : Nat
  len8 : Nat
  cycle : Nat
  corr : Int
  lane : Nat
  oddCopy : Bool
  conductor : Nat
  fog : Bool
  ring : Bool
  turn : Nat
  schedGen : Nat
  entries : Nat
  sig8 : Nat
  safe : Nat
  mgmt8 : Nat
  condUid : Nat
  fogNode : Nat
  deriving DecidableEq, Repr

/-- Gather entry of R305. `eflags` and `estat` keep the bit order of the table. -/
structure GEntry where
  node : Nat
  axis : Nat
  eflags : Nat
  estat : Nat
  pos : Int
  iu : Int
  iv : Int
  udc : Int
  deriving DecidableEq, Repr

/-- Scatter entry of R308. `d` holds DU, DV, DW, or ID*, IQ*, 0 under split closure. -/
structure SEntry where
  node : Nat
  axis : Nat
  en : Bool
  split : Bool
  react : Nat
  stale : Bool
  fly : Bool
  seq : Nat
  d : List Int
  deriving DecidableEq, Repr

/-- Signal block of R309; `payload` holds one value per signal (two words per string). -/
structure SigBlock where
  block : Nat
  kind : Nat
  count : Nat
  valid : Bool
  bseq : Nat
  payload : List (BitVec 72)
  deriving DecidableEq, Repr

/-- Safety PDU of R413 with the payload of R414. A command uses `cmd`, a report `pos` and `state`. -/
structure SafetyPdu where
  connId : Nat
  seq : Nat
  pkind : Nat
  len : Nat
  cmd : Nat
  echo : Nat
  cycle : Nat
  pos : Int
  state : Nat
  crcOk : Bool
  deriving DecidableEq, Repr

/-- Safety container of R310. -/
structure Container where
  chan : Nat
  node : Nat
  saxis : Nat
  pdu : SafetyPdu
  deriving DecidableEq, Repr

/-- What a join slot holds (R286, R292): nothing, a native record or a Skegil identity record. -/
inductive JoinSlot where
  | empty
  | native (r : CapRecord)
  | skegil (r : SkegilRecord)
  deriving DecidableEq, Repr

/-- The trailer of a frame (R297), and what the coding layer found in it where it arrived: error blocks, and how many blocks with
an invalid sync header, each of which is an error block from here on (R298). -/
structure Trailer where
  crc : Nat
  errNode : Nat
  errCnt : Nat
  errBlock : Bool
  badSync : Nat
  deriving DecidableEq, Repr

/-- What stands around the content of a short frame (R297): VER, LEN8 and the trailer. -/
structure Ends where
  ver : Nat
  len8 : Nat
  tail : Trailer
  deriving DecidableEq, Repr

/-- Gather frame of R302. -/
structure GatherFrame where
  hdr : CycleHeader
  flash : FlashIn
  entries : List GEntry
  blocks : List SigBlock
  conts : List Container
  join : JoinSlot
  tail : Trailer
  deriving DecidableEq, Repr

/-- Control area of R307. -/
structure ControlArea where
  ackUid : Nat
  ackNode : Nat
  ackCode : Nat
  quarKind : Nat
  quarNode : Nat
  quarUid : Nat
  commitCycle : Nat
  commitGen : Nat
  ringCloseCycle : Nat
  fogClrSeq : Nat
  deriving DecidableEq, Repr

/-- Scatter frame of R306. -/
structure ScatterFrame where
  hdr : CycleHeader
  ctl : ControlArea
  entries : List SEntry
  blocks : List SigBlock
  conts : List Container
  tail : Trailer
  deriving DecidableEq, Repr

/-- Block assignment of a SCHEDULE record (R313). -/
structure BlkAssign where
  block : Nat
  consumed : Bool
  cls : Nat
  phase : Nat
  offset8 : Nat
  deriving DecidableEq, Repr

/-- SCHEDULE record of R311 and R313. -/
structure ScheduleRec where
  dest : Nat
  gen : Nat
  part : Nat
  parts : Nat
  gEntry : Nat
  sEntry : Nat
  nEntry : Nat
  nSafe : Nat
  gSafe : Nat
  sSafe : Nat
  sflags : Nat
  blks : List BlkAssign
  deriving DecidableEq, Repr

/-- Item of a CONFIG record (R314). -/
structure ConfigItem where
  kind : Nat
  axis : Nat
  addr : Nat
  block : Nat
  value : Int
  deriving DecidableEq, Repr

/-- CONFIG record of R311 and R314. -/
structure ConfigRec where
  dest : Nat
  gen : Nat
  part : Nat
  parts : Nat
  items : List ConfigItem
  deriving DecidableEq, Repr

/-- ACK record of R315. -/
structure AckRec where
  node : Nat
  gen : Nat
  result : Nat
  item : Nat
  deriving DecidableEq, Repr

/-- A record of a management area by its RTYPE (R311, R312); one of another type is kept as its bytes after the header. -/
inductive MgmtRec where
  | reply (dest gen : Nat)
  | schedule (r : ScheduleRec)
  | config (r : ConfigRec)
  | ack (r : AckRec)
  | other (dest rtype gen : Nat) (payload : List (BitVec 8))
  deriving DecidableEq, Repr

/-- Slow frame of R311: its management records, and its signal blocks with their OFFSET8, ascending. -/
structure SlowFrame where
  hdr : CycleHeader
  recs : List MgmtRec
  blocks : List (Nat × SigBlock)
  tail : Trailer
  deriving DecidableEq, Repr

/-- Foghorn frame (R317). -/
structure FogFrame where
  cycle : Nat
  origin : Nat
  seq : Nat
  cause : Nat
  reason : Nat
  ends : Ends
  deriving DecidableEq, Repr

/-- Coldstart frame (R320). -/
structure ColdFrame where
  rank : Nat
  uid : Nat
  ends : Ends
  deriving DecidableEq, Repr

/-- Link frame (R321): a response carries the stamps T2 and T3. -/
structure LinkFrame where
  response : Bool
  seq : Nat
  node : Nat
  t2 : Nat
  t3 : Nat
  uid : Nat
  ends : Ends
  deriving DecidableEq, Repr

/-- A frame at a port of a node, by its type (R299); one of an unknown type is its bytes, the trailer among them. -/
inductive FwdFrame where
  | gather (f : GatherFrame)
  | scatter (f : ScatterFrame)
  | slow (f : SlowFrame)
  | foghorn (f : FogFrame)
  | coldstart (f : ColdFrame)
  | link (f : LinkFrame)
  | other (bytes : List (BitVec 8))
  deriving DecidableEq, Repr

/-- Frame of the die-to-die link (R25). `syncOk` says that its synchronisation word was present (R24). -/
structure DieFrame where
  ftype : Nat
  seq : Nat
  fio : BitVec 32
  stat : BitVec 16
  cfg : BitVec 24
  safe : BitVec 32
  crc : BitVec 16
  syncOk : Bool
  deriving DecidableEq, Repr

/-- What a receiver of the link gets in one frame period (R24): the field die's where `atField`, else the core die's. -/
structure DieSlot where
  atField : Bool
  frame : DieFrame
  deriving DecidableEq, Repr

/-- Cross-talk message of R394. -/
structure CrossTalk where
  sw : Nat
  pairs : Nat
  states : List Nat
  positions : List Int
  seq : Nat
  crcOk : Bool
  deriving DecidableEq, Repr

/-- A firmware image (R515): the header, and the body as far as R516 judges it. -/
structure Image where
  header : List Byte
  body : List Byte
  deriving DecidableEq, Repr

/-- A beat request (R43): its requester, the SRAM word it addresses, and the 2 ns clock of the window in which it is made. -/
structure BeatReq where
  requester : Nat
  word : Nat
  clock : Nat
  deriving DecidableEq, Repr

/-- A budget window (R42): its length in ns, and the beat requests made in it. -/
structure BudgetSpan where
  lenNs : Nat
  reqs : List BeatReq
  deriving DecidableEq, Repr

/-- A memory error found by the scrubber (R38, R39): where, and whether it can be corrected. -/
inductive SramRegion where
  | engine (e : Nat)
  | axisRecord (a : Nat)
  | signalStore (word : Nat)
  | network (axis : Nat)
  -- the pea in progress, or one of the complete peas that wait, from 1 on
  | pod (p w : Nat)
  | trace (a : Nat)
  | resultCache (ring seq : Nat)
  | extPool (ring seq : Nat)
  deriving DecidableEq, Repr

structure SramError where
  region : SramRegion
  double : Bool
  deriving DecidableEq, Repr

/-- A CAN frame (R473, R480). -/
structure CanFrame where
  ident : Nat
  ide : Bool
  rtr : Bool
  fdf : Bool
  brs : Bool
  esi : Bool
  dlc : Nat
  data : List Byte
  deriving DecidableEq, Repr

/-- What a debugger asks through the TAP (R518, R521). Word `word` of an engine memory lies in its instruction memory below
16,384 and in its data memory from there on (R36). -/
inductive DbgRequest where
  | idcode
  | bypass
  | sample
  | extest
  | readMem (engine word : Nat)
  | writeMem (engine word : Nat) (v : BitVec 72)
  | readReg (off : Nat)
  | writeReg (off : Nat) (v : Reg32)
  | halt (engine : Nat)
  | resume (engine : Nat)
  | channelB
  deriving DecidableEq, Repr

/-- The injected trigger of a converter (R450). -/
inductive AdcTrigger where
  | phi0
  | buoy (b : Nat)
  deriving DecidableEq, Repr

/-- The causes that wake a VLN in Standby (R494). -/
inductive WakeCause where
  | hifWake
  | can (k : Nat) (cause : Nat)
  | field (ch : Nat)
  deriving DecidableEq, Repr

/-- A bus error of R473, in the code of CANk_STAT.LEC. -/
structure CanError where
  lec : Nat
  transmitting : Bool
  tecStep : Nat
  recStep : Nat
  deriving DecidableEq, Repr

/-- The commands. The constructors stand in the order of spec/opcode_table.json. -/
inductive Instr where
  -- host commands (R356)
  | nop (h : Hdr)
  | fence (h : Hdr) (mask mode : Nat)
  | query (h : Hdr) (handle buf : Nat)
  | move (h : Hdr) (flags : Nat) (target v a j : Int)
  | stop (h : Hdr)
  | resume (h : Hdr)
  | flush (h : Hdr)
  | setLimits (h : Hdr) (v a j : Int)
  | setVelocity (h : Hdr) (v : Int)
  | setCurrent (h : Hdr) (iq : Int)
  | axisEnable (h : Hdr)
  | axisEnableEffect (axis : Nat)
  | axisDisable (h : Hdr)
  | faultClear (h : Hdr)
  | groupMove (h : Hdr) (list : Nat)
  | groupStop (h : Hdr)
  | groupResume (h : Hdr)
  | groupFlush (h : Hdr)
  | gearEngage (h : Hdr) (mkind master : Nat) (num den b : Int)
  | camEngage (h : Hdr) (mkind table master : Nat) (mOrg offset scale b : Int)
  | decouple (h : Hdr) (mode : Nat) (b : Int)
  | home (h : Hdr)
  | stageWrite (h : Hdr) (set addr len : Nat)
  | stageCheck (h : Hdr) (set : Nat)
  | stageCommit (h : Hdr) (set cycle : Nat)
  | stageDiscard (h : Hdr) (set : Nat)
  | paramWrite (h : Hdr) (count : Nat) (writes : List (Nat × Int))
  | paramWriteEffect
  | paramRead (h : Hdr) (pn count buf : Nat)
  | sigStatus (h : Hdr) (block count buf : Nat)
  | bbNodeInfo (h : Hdr) (buf : Nat)
  | bbRelease (h : Hdr)
  | bbFoghorn (h : Hdr) (reason : Nat)
  | bbFogClear (h : Hdr)
  | acqArm (h : Hdr) (cfg : Nat)
  | acqDisarm (h : Hdr)
  | inject (h : Hdr) (cfg : Nat)
  | injectStop (h : Hdr)
  | traceFreeze (h : Hdr)
  | traceRead (h : Hdr) (buf len : Nat)
  | loadIdent (h : Hdr) (steps : Nat) (iTest vTest : Int)
  | loadIdentStepEnd (axis : Nat) (short : Bool) (slopes : List Int × List Int)
  | safLoad (h : Hdr) (addr len : Nat)
  | safConfirm (h : Hdr) (check : Nat)
  | safAck (h : Hdr)
  | safStatus (h : Hdr) (buf : Nat)
  | fwUpdate (h : Hdr) (addr len : Nat)
  | powerState (h : Hdr) (state : Nat)
  | jnlStatus (h : Hdr) (buf : Nat)
  | logRead (h : Hdr) (start count buf : Nat)
  | lifecycleSet (h : Hdr) (state auth : Nat)
  -- host interface (R343 to R364)
  | doorbellPoll
  | hostHeartbeatLost
  | journalRecordWrite (badBank : Option Nat)
  | eventRecordWrite
  | snapshotWrite
  | hifWake (v : Reg32)
  | hifCqCfgWrite (n : Nat) (v : Reg32)
  | hifErCfgWrite (v : Reg32)
  | hifSnapCfgWrite (v : Reg32)
  | registerWrite (off : Nat) (v : Reg32)
  | badRegisterAccess (write : Bool) (off size : Nat) (v : Nat)
  | loRegisterRead (off : Nat)
  | hiRegisterWrite (off : Nat) (v : Reg32)
  | rcRegisterRead (off : Nat)
  | bar2Read (off size : Nat)
  | bar2Write (off size : Nat) (v : Nat)
  | perstNAssert
  | ptmDialogue (pair : Option (Nat × Nat))
  -- the cycle (R42 to R137)
  | cyclePhi0 (smp : Phi0Sample)
  | budgetWindow (w : BudgetSpan)
  | scrubPass (errs : List SramError)
  | gatherDeparture (lane : Nat) (tx : Nat)
  | gatherFrameReturn (lane : Nat) (copies : List GatherFrame)
  | memberLost (node : Nat)
  | loopCriticalPart (axis : Nat)
  | criticalPartOverrun (axis : Nat)
  | loopBackgroundPart (axis : Nat)
  | traceAutoFreeze (axis : Nat)
  | standstillReached (axis : Nat)
  | qstopTimeout (axis : Nat)
  | tstopTimeout (axis : Nat)
  | scatterDeparture (lane : Nat)
  | profileEvaluation (pe : Nat)
  | streamLost (axis : Nat)
  | profileMiss (axis : Nat)
  | switchEdgeConfirmed (axis sw : Nat) (active : Bool) (pos : Int)
  | homingStallDetected (axis : Nat)
  | slowFrameDeparture (lane : Nat)
  | slowFrameReturn (lane : Nat) (copies : List SlowFrame)
  -- time (R64 to R76)
  | flashReceived (lane : Nat) (f : FlashIn)
  | flashMissed
  | lanternTakeover
  | syncInEdge (stamp : Nat)
  | syncinMiss
  | buoyFire (x : BuoyShot)
  | buoyPinEnd (b : Nat)
  -- die-to-die link (R24 to R29)
  | linkFrameReceived (x : DieSlot)
  | dieLinkLoss
  | dieLinkRetrain (trained : Bool)
  -- backbone (R266 to R337)
  | laneLinkUp (lane : Nat)
  | laneLinkDown (lane : Nat)
  | ringClose (lane : Nat)
  | linkDelayRequest (lane : Nat)
  | linkFrame (lane : Nat) (response : Bool) (seq node : Nat) (uid : Nat × Ends) (t1 t2 t3 t4 : Nat)
  | coldListenEnd
  | coldstartSend
  | coldstartFrame (lane rank : Nat) (uid : Nat × Ends)
  | contentionWindowEnd
  | integrateTimeout
  | capabilityRecordReceived (lane position : Nat) (r : CapRecord)
  | readmission (node : Nat)
  | skegilIdentityRecord (lane position : Nat) (r : SkegilRecord)
  | nodeFrameForward (port : Nat) (f : FwdFrame) (residence : Int)
  | nodeScatterReceived (port : Nat) (f : ScatterFrame) (late : Bool)
  | nodeScatterMiss (axis : Nat)
  | nodeFlashTimeout
  | scheduleRecord (r : ScheduleRec)
  | configRecord (r : ConfigRec)
  | ackRecord (lane : Nat) (r : AckRec)
  | generationAdopt
  | fogNodeRequest (node : Nat)
  | foghornFrame (lane : Nat) (originUid seq causeNode reason : Nat) (cycle : Nat × Ends)
  | flashRelay (lane : Nat) (residence : Int)
  -- commit and journal (R365 to R391)
  | commitApply
  | commitReadyMiss (isNode : Bool) (subject : Nat)
  | commitAnswerTimeout
  | paramStoreWriteDone
  | journalReplay
  | replayFinalRelease (ring : Nat)
  | journalRecordScrub (badBank : Option Nat)
  | jnlRateUpdate
  -- safety (R392 to R426)
  | crossTalkMessage (c : Chan) (m : CrossTalk)
  | xtalkFault
  | stoReadbackFault (c : Chan)
  | switchRead (a b : Nat) (atStart : Bool)
  | guardPairChange (c : Chan) (pair : Nat) (closed : Bool)
  | pairDiscrepancy (pair : Nat)
  | testPulse (missed : List Nat)
  | rstInAck
  | safetyEvaluation (c : Chan) (counts : List Int) (bad : List Nat)
  | ss1End (saxis : Nat)
  | safetyPduReceived (saxis : Nat) (c : Chan) (p : SafetyPdu)
  | safetyPduExchange
  | safetyWatchdogTrip (saxis : Nat) (c : Chan)
  -- acquisition (R427 to R442)
  | captureSample (pod : Nat)
  | peaCopyDone (pod : Nat)
  | injectionEnd (axis : Nat)
  -- converters (R444 to R459)
  | adcRegularConversion (k : Nat) (code : Int) (sat current : Bool)
  | adcInjectedTrigger (k : Nat) (src : AdcTrigger)
  | adcInjectedEnd (k : Nat) (codes : List Int)
  | adcStandbyConversion (ref diode : Int) (current : Bool)
  -- feedback ports (R194 to R215)
  | illegalTransition (x : PortRun)
  | indexPulse (port : Nat) (run : PinRun)
  | ssiFrame (port : Nat) (bits : Nat) (stopBit : Bool)
  | ssiLoopMeasurement (port : Nat) (delays : List (Option Nat))
  | latchArm (port j : Nat) (v : Reg32)
  | latchTrigger (port j : Nat) (run : PinRun) (t : Nat) (rise : Bool)
  | compareHit (port j : Nat) (run : PinRun)
  | compareValCommit (port j : Nat) (hi : Reg32) (run : PinRun)
  | emulationBacklogOverflow (port : Nat)
  -- power stage and PWM (R217 to R263)
  | sdmStuck (ch : Nat)
  | fastComparatorCrossing (ch : Nat) (x : Int)
  | chopperThreshold (port : Nat) (udc : Int)
  | chopperOpenDetect (port : Nat) (uStart uEnd : Int)
  | flyingStartWindowEnd (axis : Nat) (us vs : List Int) (atLimit : Bool) (ns : Nat)
  | flyingStartTakeover (axis : Nat)
  | tripInput (port : Nat)
  | tripClear (port : Nat)
  | clockMonitorFail
  | manualTripleWrite (port : Nat) (w : Reg32)
  | chopperPulseEnd (c : Nat) (byComparator : Bool)
  -- field channels (R460 to R471)
  | fieldInputChange (ch : Nat) (level : Bool) (t : Nat)
  | fieldOutputWrite (enables : Bool) (v : Reg32)
  | outputOverload (ch : Nat) (overTemp : Bool)
  | dioTest (mask : Nat)
  | readbackCheck (ch : Nat) (rb : Bool)
  | vfieldWarn (mv10 : Nat)
  | vfieldWarnClear (mv10 : Nat)
  | vfieldTrip (mv10 : Nat)
  | vfieldOvervoltage (mv10 : Nat)
  | vfieldRecover (mv10 : Nat)
  | channelBSupplyLoss
  -- CAN (R473 to R489)
  | canInitWrite (k : Nat) (v : Reg32)
  | canBusJoin (k : Nat)
  | canFrameReceived (k : Nat) (f : CanFrame) (t : Nat)
  | canTxreq (k : Nat) (high : Bool) (v : Reg32)
  | canFrameSent (k b : Nat) (t : Nat)
  | canTxFail (k b : Nat) (cause lec : Nat)
  | canBusOff (k : Nat)
  | canBusOffRecovery (k : Nat)
  | canSleep (k : Nat)
  | canWake (k : Nat) (cause : Nat)
  -- power states, clocks, thermal (R490 to R512)
  | standbyEntry
  | standbyWake (c : WakeCause)
  | slowClockLoss
  | pllSysUnlock
  | backbonePllUnlock
  | pciePllUnlock
  | dieThermalUpdate (windows : List (List Nat)) (fieldTemp : Int)
  | hardwareThermalShutdown (core field : Bool)
  | thermalRestart
  | axisThermalUpdate (axis : Nat) (dtNs : Nat)
  | thermalStateSave
  -- debug and lifecycle (R513 to R523)
  | dbgAuth (answer : Option (List Byte)) (late : Bool)
  | dbgAccess (r : DbgRequest)
  | engineHalt (e : Nat)
  | engineResume (e : Nat)
  | dbgCtlWrite (v : Reg32)
  | tapReset
  -- power-up and reset (R525 to R538)
  | porstNRise (role : Bool) (bootsel : Nat)
  | porstNLow
  | imageCheck
  | sysBootGo
  | sysRestart (v : Reg32)
  | bootComplete
  | supervisorRestart
  | supplyLowWarning
  | brownOut
  | brownOutEnd (role : Bool) (bootsel : Nat)
  | pfailNAssert
  | pfailNRelease
  -- rows the table lists last
  | canBusError (k : Nat) (e : CanError)
  | tripInputInactive (port : Nat)
  | comparePulseEnd (port j : Nat)
  | syncOutPulseEnd
  | pwmPeriodStart (port : Nat)
  | channelBSupplyReturn
  | slowClockRestored
  | backbonePllRelock
  | pciePllRelock
  | perstNRelease
  | stageCheckComplete
  | safetyImageWritten
  | imageSlotWritten (readBackOk : Bool)
  | lifecycleFusesWritten (verified : Bool)
  | supplyLowWarningEnd
  | foghornSend (lane : Nat)
  deriving DecidableEq, Repr

end Sys2Proof
end

