-- ==== Sys2Proof/Decode.lean ====
section
/-!
DEFINITION. The block's command table gives no row any bits, so no word spells a command: commands reach the block as
entries of its queue. What bytes of host memory spell a command image is read in Machine/Operands.lean.
-/

namespace Sys2Proof

/-- The command that a word spells by the table's bits: none, since no row of the table has any. -/
def decodeTableWord (_nbits _w : Nat) : Option Instr := none

end Sys2Proof
end

