-- ==== Sys2Proof/Machine/State.lean ====
section
/-!
DEFINITION. The state of the block as plain data: every register, parameter number, queue, buffer, counter, mode
and pin the spec gives the VLN, and the queue of waiting commands. Each field names its rule; its default is its
value at reset (`State.reset`), marked in INVENTORY.md and the assumption log where the spec gives none.
-/

namespace Sys2Proof.Machine

open Sys2Proof

/-- Why the block can stop with a fault. No command of the table stops it, because the spec gives each an effect. -/
inductive Fault where
  /-- Raised by no meaning: kept so that the type is inhabited. Safe. -/
  | none
  deriving DecidableEq, Repr

/-- Why the model gives a command no meaning. -/
inductive Refusal where
  /-- Raised only by an arm of `exec` whose command has no meaning yet. Safe. -/
  | notModelled (mnemonic : String)
  deriving DecidableEq, Repr

/-! ## Motion -/

/-- One constant-jerk segment (R141): jerk in line/s³ and duration in s. -/
structure Seg where
  jerk : Rat
  dur : Rat
  deriving DecidableEq, Repr

/-- A planned profile (R141 to R144): start instant (T72), start state and segments; `target` where it has one. -/
structure Plan where
  t0 : Nat := 0
  x0 : Rat := 0
  v0 : Rat := 0
  a0 : Rat := 0
  segs : List Seg := []
  target : Option Int := none
  /-- The limits it was planned with: line/s, line/s², line/s³ (R140, R150). -/
  lv : Rat := 0
  la : Rat := 0
  lj : Rat := 0
  /-- New limits were deferred: the move keeps these to its end (R153). -/
  deferred : Bool := false
  deriving DecidableEq, Repr

/-- A command that is still owed a FINAL: its handle with what its records repeat (R348, R349, R350). -/
structure Open where
  ring : Nat := 0
  seq : Nat := 0
  tag : Nat := 0
  opcode : Nat := 0
  irq : Bool := false
  accepted : Nat := 0
  subj : Nat := 0xFFFF
  deriving DecidableEq, Repr

/-- A move as accepted (R146 to R149): resolved target, DIR, its own limits in LSB, its owner. -/
structure Move where
  target : Int := 0
  dir : Nat := 0
  v : Int := 0
  a : Int := 0
  j : Int := 0
  /-- Signed distance still to travel from p* on a rotary axis, once it is fixed: of a relative move from its acceptance on, of
  another from its start on (R148). -/
  dist : Option Int := none
  own : Open := {}
  /-- Place in the order of acceptance (R139), and the cycle in which the move left the queue (R162). -/
  no : Nat := 0
  since : Option Nat := none
  deriving DecidableEq, Repr

/-- PROF_STATE of R160. -/
inductive ProfState where
  | idle
  | moving
  | stopping
  | suspended
  | velocity
  | current
  | streaming
  | disabled
  deriving DecidableEq, Repr

/-- A work item waiting for a plan slot (R139, R145): what to plan. `toSpeed v` is a velocity transition at PROF_A
and PROF_J, `goto x` a move to `x` and `shift d` one over `d` from rest under the PNs. -/
inductive PlanReq where
  | move (m : Move)
  | stop
  | resume
  | limits (own : Open)
  -- a PN that caps the move has changed (R140)
  | recap
  | toSpeed (v : Int)
  | qstop
  | ss1
  | goto (x : Int) (v : Int)
  -- a move over a signed distance (R183)
  | shift (d : Int) (v : Int)
  -- couplings (R172, R177, R178)
  | gear (mkind master : Nat) (num den b : Int) (own : Open)
  | camOn (mkind master table : Nat) (mOrg offset scale b : Int) (own : Open)
  | ungear (b : Int) (own : Open)
  | uncouple
  deriving DecidableEq, Repr

/-- A request with its acceptance cycle and its place in the order of acceptance. -/
structure Req where
  cycle : Nat
  no : Nat
  what : PlanReq
  deriving DecidableEq, Repr

/-- The kind of a coupling (R172, R177). -/
inductive CoupleKind where
  | gear
  | cam
  deriving DecidableEq, Repr

/-- A function of master travel that a slave follows (R173, R177): standing, gear line from `(mL, pL)` at
`num/den`, ramp from ratio `r0`, cam, or a blend of two of them. -/
inductive SlaveFn where
  | standing (p : Rat)
  | line (mL pL : Rat) (num den : Int)
  | ramp (mB pB : Rat) (r0 r1 : Rat) (b : Rat)
  | cam (table : Nat) (mOrg offset scale : Rat)
  | blend (old new : SlaveFn) (mB b : Rat)
  deriving DecidableEq, Repr

/-- A coupling in force (R169 to R173). -/
structure Coupling where
  kind : CoupleKind := .gear
  mkind : Nat := 0
  master : Nat := 0
  fn : SlaveFn := .standing 0
  num : Int := 0
  den : Int := 1
  /-- Unwrapped master position, and the master's reduced position last seen (R169). -/
  m : Rat := 0
  mLast : Rat := 0
  started : Bool := false
  locked : Bool := false
  /-- DECOUPLE with MODE 0 in progress: its owner. -/
  ending : Option Open := none
  own : Option Open := none
  /-- Consecutive cycles a signal master was invalid (R179). -/
  invalid : Nat := 0
  /-- Velocity of the master in the cycle before (MKIND 2). -/
  vLast : Rat := 0
  deriving DecidableEq, Repr

/-- Phase of a homing run (R183). -/
inductive HomePhase where
  | search
  | stopAfterSearch
  | backOff
  | toIndex
  | stallSearch
  | stallBackOff
  | reversing
  | settle
  | goto
  deriving DecidableEq, Repr

/-- A homing run in progress (R182 to R185). -/
structure Homing where
  method : Nat := 0
  phase : HomePhase := .search
  /-- Direction of the present search, +1 or -1, and d, the direction that HOME_DIR gave at the start (R182). -/
  dir : Int := 1
  sense : Int := 1
  /-- Travel of the present search in lines before its present plan began (R184). -/
  gone : Rat := 0
  reversed : Bool := false
  /-- The limit met at the reversal is disregarded until confirmed inactive (R184). -/
  ignoreLimit : Bool := false
  pRef : Option Int := none
  failCode : Option Nat := none
  own : Open := {}
  deriving DecidableEq, Repr

/-- A reaction (R121); `none` reads 15. The order of the constructors is the rank. -/
inductive Reaction where
  | none
  | warn
  | qstop
  | tstop
  | pinh
  | asc
  | sto
  deriving DecidableEq, Repr

/-- A biquad's states (R97), LSB 2^-48 × I_FS. -/
structure Biquad where
  x1 : Int := 0
  x2 : Int := 0
  y1 : Int := 0
  y2 : Int := 0
  deriving DecidableEq, Repr

/-- The observer of R231 and the open-loop drive of R232. Angles in 2^-48 rad, speed in 2^-48 rad/s. -/
structure Observer where
  th : Int := 0
  thUnwrapped : Int := 0
  w : Int := 0
  iaPrev : Int := 0
  ibPrev : Int := 0
  /-- Voltages that acted from the φ0 before to the last one, that act from there on, and those of the duties computed last. -/
  va : Int := 0
  vb : Int := 0
  va1 : Int := 0
  vb1 : Int := 0
  va2 : Int := 0
  vb2 : Int := 0
  openLoop : Bool := true
  deriving DecidableEq, Repr

/-- Quantities of one axis's loops (R81, R110), each in the LSB of its format: H36 in FS/2^35, P72 and V72 in
2^-32, angles in π/2^35. -/
structure Loop where
  iu : Int := 0
  iv : Int := 0
  iw : Int := 0
  udc : Int := 0
  thE : Int := 0
  thO : Int := 0
  ia : Int := 0
  ib : Int := 0
  id : Int := 0
  iq : Int := 0
  idSet : Int := 0
  iqSet : Int := 0
  ed : Int := 0
  eq : Int := 0
  xd : Int := 0
  xq : Int := 0
  vd : Int := 0
  vq : Int := 0
  du : Int := 0
  dv : Int := 0
  dw : Int := 0
  p : Int := 0
  pPrev : Int := 0
  vRaw : Int := 0
  vEst : Int := 0
  vUsed : Int := 0
  ev : Int := 0
  xv : Int := 0
  uv : Int := 0
  f : Int := 0
  ep : Int := 0
  wE : Int := 0
  /-- Samples seen since the enable or the feedback restart (R85): VEST_VALID is set at the third. -/
  vestCount : Nat := 0
  vestValid : Bool := false
  /-- Consecutive cycles with an invalid sample (R84). -/
  badSamples : Nat := 0
  /-- Consecutive stale cycles for want of engine time (R53). -/
  staleRun : Nat := 0
  /-- The outer-loop updates and their hand-over (R99, R100): new, old, period index j, whether this update is held, and
  whether the next is the first after an event of R100. -/
  iqNew : Int := 0
  iqOld : Int := 0
  iqJ : Nat := 0
  iqHold : Bool := true
  iqFirst : Bool := true
  vNew : Int := 0
  vOld : Int := 0
  vJ : Nat := 0
  vHold : Bool := true
  vFirst : Bool := true
  n1 : Biquad := {}
  n2 : Biquad := {}
  lp : Biquad := {}
  obs : Observer := {}
  /-- C1 has run in the present cycle; C2 to C9 have; B2 to B4 have; B1 has (R110, R429). -/
  done : Bool := false
  ranC : Bool := false
  ranV : Bool := false
  ranP : Bool := false
  /-- The background part of the present cycle has run. -/
  bg : Bool := false
  /-- The axis was enabled and has had no valid sample since: p* is set to p at the first (R104). -/
  atEnable : Bool := false
  deriving DecidableEq, Repr

/-- Plausibility model and exceedance counts (R113, R115, R116). -/
structure Supervision where
  kFe : Nat := 0
  kModel : Nat := 0
  ready : Bool := false
  xm : Int := 0
  vm : Int := 0
  xl : Int := 0
  vl : Int := 0
  /-- iq* produced in cycle n - 1 and n - 2. -/
  u1 : Int := 0
  u2 : Int := 0
  deriving DecidableEq, Repr

/-- A flying start in progress (R233). -/
structure Flying where
  on : Bool := false
  observer : Bool := false
  /-- Cycle in which the enable took effect. -/
  since : Nat := 0
  /-- Inside the zero-vector window; the window has been and its fit has passed. -/
  window : Bool := false
  fitted : Bool := false
  /-- Cycle in which the window ended. -/
  endAt : Nat := 0
  v0 : Int := 0
  badCycles : Nat := 0
  deriving DecidableEq, Repr

/-- The analogue curve (R236 to R238). -/
structure Curve where
  xf : Int := 0
  run : Bool := false
  badCount : Nat := 0
  invalid : Bool := false
  v : Int := 0
  deriving DecidableEq, Repr

/-- A test-signal injection (R436 to R439). -/
structure Injection where
  point : Nat := 0
  wave : Nat := 0
  order : Nat := 7
  hold : Nat := 1
  duration : Nat := 1
  amp : Int := 0
  f0 : Int := 0
  f1 : Int := 0
  j : Nat := 0
  startCycle : Nat := 0
  lfsr : Nat := 0
  u : Int := 0
  stopping : Bool := false
  tNs : Rat := 0
  lastCycle : Nat := 0
  own : Open := {}
  deriving DecidableEq, Repr

/-- Node trace buffer of an axis (R440, R441): rows of node values, oldest first, with their cycle and T72. -/
structure Trace where
  rows : List (Nat × Nat × List Int) := []
  /-- TRACE_STATE: 0 off, 1 recording, 2 post-trigger, 3 frozen. -/
  state : Nat := 0
  post : Nat := 0
  trigCycle : Nat := 0
  memErr : Bool := false
  deriving DecidableEq, Repr

/-- LOAD_IDENT in progress (R239): steps left (0 alignment, 1 R_S, 2 L, 3 PSI), results so far. -/
structure Ident where
  stepsLeft : List Nat := []
  iTest : Int := 0
  vTest : Int := 0
  /-- Cycle in which the present step began. -/
  since : Nat := 0
  /-- v_d and i_d at the end of the two spans of the R_S step, and its result. -/
  half : Int × Int := (0, 0)
  full : Int × Int := (0, 0)
  rMeas : Option Int := none
  /-- Motion above STILL_V was seen in the R_S or L step. -/
  moved : Bool := false
  /-- Cycle in which V_TEST was reached, and the sum and number of the terms averaged for PSI_PM. -/
  reached : Option Nat := none
  psiSum : Rat := 0
  psiN : Nat := 0
  results : List Int := [0, 0, 0, 0]
  own : Open := {}
  deriving DecidableEq, Repr

/-- Axis thermal model (R507): temperatures in 2^-48 °C, sums of the interval, the ring of temperatures
100 ms back for the rates (R502), and status. -/
structure AxisThermal where
  tw : Int := 0
  tb : Int := 0
  ts : Int := 0
  sumIdq2 : Rat := 0
  sumIph2 : Rat := 0
  sumAbsI : Rat := 0
  sumUdc : Rat := 0
  samples : Nat := 0
  /-- (age in ns, temperature), newest first: of tw and of ts. -/
  pastW : List (Nat × Int) := []
  pastS : List (Nat × Int) := []
  near : Bool := false
  deriving DecidableEq, Repr

/-- One servo axis. -/
structure Axis where
  /-- Parameter numbers of classes S, S* and L as raw codes, sparse over `pnDefault` (R105, R106, R133, R159,
  R187, R192, R241, R262, R440, R509). -/
  pn : SMap Int := []
  enabled : Bool := false
  /-- Cycles of effect of pending enables, whose FINALs are already posted (R564). -/
  enableAt : List Nat := []
  /-- FAULT_ACTIVE, bit s for source s (R130). -/
  faultActive : BitVec 20 := 0
  faultFirst : Nat := 0
  faultT72 : Nat := 0
  faultValue : Int := 0
  /-- Cycle in which FAULT_FIRST was recorded (R134), and the latched bits whose reaction is WARN (R130). -/
  faultCycle : Nat := 0
  faultWarn : BitVec 20 := 0
  reaction : Reaction := .none
  /-- SS1 demanded by safety: REACTION reads 1 without a latched source (R410). -/
  ss1 : Bool := false
  /-- QSTOP or TSTOP has reached standstill (R123). -/
  still : Bool := false
  /-- TSTOP has been in force since before the last φ0, so B3 follows it; B3 has run under it (R122). -/
  tsActs : Bool := false
  tsRan : Bool := false
  /-- The speed command of an analogue-curve axis is the ramp of a reaction, in the present cycle and in the next (R122, R124). -/
  rampSet : Bool := false
  rampNext : Bool := false
  /-- The short circuit of ASC is applied now (R126). -/
  ascShort : Bool := false
  /-- Latched by a reaction or disable: the axis is out until disabled and enabled after a debug halt (R259). -/
  haltSafe : Bool := false
  /-- REMAIN (R128). -/
  remain : Int := 0
  /-- Causes present now, bit s for source s (R129). -/
  causes : BitVec 20 := 0
  loopStatus : BitVec 16 := 0
  /-- The flags of the running cycle, which LOOP_STATUS shows from the next φ0 on (R109). -/
  loopNow : BitVec 8 := 0
  /-- The gather entry of a remote axis in the present cycle (R305), and a memory error in its samples (R38). -/
  entry : Option GEntry := none
  /-- The entry of the cycle before, on which a split axis is worked (R102). -/
  entryPrev : Option GEntry := none
  sampleBad : Bool := false
  loop : Loop := {}
  supv : Supervision := {}
  /-- Set-points p*, v*_prof, a* for the present cycle and the next (R135). -/
  pSet : Int := 0
  vSet : Int := 0
  aSet : Int := 0
  pNext : Int := 0
  vNext : Int := 0
  aNext : Int := 0
  nextReady : Bool := false
  /-- The set-points of the present cycle were not written (R137). -/
  missing : Bool := false
  misses : Nat := 0
  /-- iq* target of current mode and its slewed value, H36 (R155). -/
  iqTarget : Int := 0
  iqSlew : Int := 0
  /-- Accepted targets not yet in effect, with their acceptance cycles (R155). -/
  iqNext : List (Nat × Int) := []
  prof : ProfState := .disabled
  plan : Option Plan := none
  /-- The executing, stopping or suspended move (R150). -/
  cur : Option Move := none
  /-- The FINAL of the present move is still owed. -/
  curOpen : Bool := false
  /-- Up to four queued moves (R149). -/
  queue : List Move := []
  /-- The queue held moves when the present stop began (R150). -/
  heldQueue : Bool := false
  /-- Target or queue were kept over a restart (R386, R387). -/
  kept : Bool := false
  reqs : List Req := []
  profStatus : BitVec 16 := 0
  /-- The flags of the running cycle of PROF_STATUS, COORD_STATUS and PS_STATUS, which these show from the next φ0 on (R160, R188,
  R242). -/
  profNow : BitVec 8 := 0
  coordNow : BitVec 8 := 0
  psNow : BitVec 8 := 0
  streamAge : Nat := 0
  streamSeq : BitVec 72 := 0
  streamLost : Bool := false
  coupling : Option Coupling := none
  /-- The coupling that a reaction has ended, which still gives the set-points up to the first of the ramp (R122, R178). -/
  coasting : Option Coupling := none
  /-- DECOUPLE MODE 1 or a lost master stops the slave: the owner, if any (R178, R179). -/
  uncoupling : Option (Option Open) := none
  homing : Option Homing := none
  homed : Bool := false
  homeOffset : Int := 0
  /-- Sum of the offsets homing has added to p since the feedback source started (R185). -/
  pOff : Int := 0
  coordStatus : BitVec 16 := 0
  /-- Confirmed state of the positive limit, negative limit and home switch (R180). -/
  sw : List Bool := [false, false, false]
  /-- For each of them the cycles for which its source has shown another state, and p in the first of these (R180). -/
  swSeen : List (Nat × Int) := [(0, 0), (0, 0), (0, 0)]
  psStatus : BitVec 16 := 0
  /-- Energy of the chopper model in 2^-48 J (R227). -/
  chopE : Int := 0
  flyResult : Int := 0
  fly : Flying := {}
  curve : Curve := {}
  inj : Option Injection := none
  trace : Trace := {}
  ident : Option Ident := none
  therm : AxisThermal := {}
  thmStatus : BitVec 16 := 0
  deriving DecidableEq, Repr

/-- An interpolation group (R164 to R168); moves as one axis. `targets` are in member order. -/
structure GroupMove where
  targets : List (Nat × Int) := []
  v : Int := 0
  a : Int := 0
  j : Int := 0
  own : Open := {}
  /-- Place in the order of acceptance (R139), and the cycle in which the move left the queue (R162). -/
  no : Nat := 0
  since : Option Nat := none
  deriving DecidableEq, Repr

/-- A work item of a group waiting for a plan slot (R163, R168). -/
inductive GroupReqKind where
  | start
  | stop
  | qstop
  deriving DecidableEq, Repr

structure GroupReq where
  cycle : Nat
  no : Nat
  what : GroupReqKind
  deriving DecidableEq, Repr

structure Group where
  prof : ProfState := .idle
  cur : Option GroupMove := none
  curOpen : Bool := false
  /-- Start points of the members of the move in execution, and its lead (R166). -/
  starts : List (Nat × Int) := []
  /-- Distances of the members, in the same order. -/
  dists : List (Nat × Int) := []
  lead : Nat := 0
  plan : Option Plan := none
  queue : List GroupMove := []
  heldQueue : Bool := false
  reqs : List GroupReq := []
  deriving DecidableEq, Repr

/-! ## Host interface -/

/-- The stage of a command's completion (R349). -/
inductive RecKind where
  | accept
  | final
  | answer
  | refused
  deriving DecidableEq, Repr

/-- A completion record before its PHASE and slot are known (R349), and the journal writes it waits for (R379). -/
structure OutRec where
  ring : Nat
  handle : Nat
  tag : Nat
  status : Nat
  kind : RecKind
  ext : Option (List Byte)
  opcode : Nat
  cycle : Nat
  detail : Nat
  irq : Bool
  subj : Nat
  seq : Nat
  /-- 0 needs no journal record, 1 a single record, 2 a mirrored record; `extra` extension records. -/
  journal : Nat
  extra : Nat
  body : List Byte
  deriving DecidableEq, Repr

/-- One command ring with its completion ring (R342, R348, R352, R353). -/
structure Ring where
  cqPi : Nat := 0
  cqCi : Nat := 0
  crPi : Nat := 0
  crCi : Nat := 0
  phase : Bool := true
  seq : Nat := 0
  /-- Long commands accepted without a FINAL, in order. -/
  opens : List Open := []
  /-- Producer indices recorded by a FENCE that waits (R355). -/
  fence : Option (List (Nat × Nat)) := none
  /-- (index after the command, sequence) of long commands, for MODE 1 of FENCE. -/
  longIdx : List (Nat × Nat) := []
  /-- (index of its first descriptor, sequence) of accepted commands whose record may not be in the journal yet (R343, R381). -/
  unrec : List (Nat × Nat) := []
  deriving DecidableEq, Repr

/-- A raised event before its record is written (R358, R359). -/
structure Event where
  t72 : Nat
  cycle : Nat
  source : Nat
  subject : Nat
  code : Nat
  value : Nat
  deriving DecidableEq, Repr

/-- A FINAL kept in the result cache (R351) with its extended result while the pool holds it. -/
structure FinalRec where
  tag : Nat
  status : Nat
  opcode : Nat
  ext : Bool
  cycle : Nat
  detail : Nat
  lost : Bool
  /-- PHASE as the record was written, so that it is rebuilt byte for byte. -/
  phase : Bool := true
  deriving DecidableEq, Repr

structure HostIf where
  /-- Host memory as the VLN reads and writes it (R340); the host's own writes to it are no command. -/
  mem : SMap Byte := []
  /-- Address ranges (start, length) whose reads complete with an error (R340). -/
  memBad : List (Nat × Nat) := []
  rings : SMap Ring := []
  /-- Records waiting to leave, oldest first; a record leaves after those of its ring before it (R381). -/
  outbox : List OutRec := []
  /-- Ring served last in each class (R352). -/
  lastServed : List Nat := [15, 15]
  /-- HOST_HB as last read, and whether its check is armed (R345). -/
  hb : Nat := 0
  hbLost : Bool := false
  raised : List Event := []
  /-- Event records that wait for ring space, oldest first, at most 64 (R359). -/
  held : List Event := []
  evDone : List (Nat × Nat × Nat) := []
  evLost : Nat := 0
  erPi : Nat := 0
  erCi : Nat := 0
  erPhase : Bool := true
  snapGen : Nat := 0
  /-- MSI-X vectors signalled in the present cycle (R339). -/
  signalled : List Nat := []
  results : SMap (Option FinalRec) := []
  /-- Pool of extended results (R351): (ring, sequence, 64 bytes), newest first, at most 2,048. -/
  extPool : List (Nat × Nat × List Byte) := []
  /-- Data answered by the last BAR read. -/
  busRead : BitVec 64 := 0
  perst : Bool := false
  /-- The request of HIF_WAKE kept during an entry to Standby (R492). -/
  wakeKept : Option WakeCause := none
  pollSoon : Bool := false
  deriving DecidableEq, Repr

/-! ## Staged changes and journal -/

/-- One staged item (R366). -/
structure StageItem where
  kind : Nat
  a : Nat
  b : Nat
  value : BitVec 72
  deriving DecidableEq, Repr

/-- State of a stage set (R365). -/
inductive SetState where
  | closed
  | opened
  | checking
  | committing
  deriving DecidableEq, Repr

structure StageSet where
  state : SetState := .closed
  items : List StageItem := []
  deriving DecidableEq, Repr

/-- Cam table (R174): Y_k and SPAN in P72 LSB. -/
structure CamTable where
  cyclic : Bool
  span : Int
  ys : List Int
  deriving DecidableEq, Repr

/-- Descriptor of a block (R331). -/
structure BlockDesc where
  kind : Nat
  count : Nat
  cls : Nat
  phase : Nat
  producer : Nat
  deriving DecidableEq, Repr

/-- The configuration a commit replaces as a whole (R366, R375, R377): staged registers and settings without a
register. Parameter numbers stand with their axis. -/
structure Settings where
  rung : Nat := 1
  budgets : List Nat := [128, 128, 128, 128, 96, 96, 80, 80, 16, 32, 48, 96, 128, 160, 160, 160, 160, 32]
  /-- Axis to (loop engine, profile engine), sparse over the default of R32. -/
  assign : SMap (Nat × Nat) := []
  /-- Gather departure per lane, 2 ns units (R60). -/
  gather : List Nat := [1250, 1250, 1250, 1250]
  blocks : SMap (Option BlockDesc) := []
  /-- (node, block) pairs consumed. -/
  consumed : List (Nat × Nat) := []
  /-- Node number to (lane, UID) of its slot. -/
  nodes : SMap (Option (Nat × Nat)) := []
  /-- Remote registers: key node, axis or channel, ADDR, BLOCK packed; value. -/
  remote : SMap (Option Reg32) := []
  cams : SMap (Option CamTable) := []
  deriving DecidableEq, Repr

/-- A copy of the parameter store (R377): settings, staged registers and parameter numbers, with its generation. -/
structure StoreCopy where
  gen : Nat := 0
  settings : Settings := {}
  regs : SMap Reg32 := []
  pns : SMap (SMap Int) := []
  deriving DecidableEq, Repr

/-- How far a commit has come (R372 to R377). -/
inductive CommitPhase where
  | awaiting      -- generation answers outstanding
  | scheduled     -- cycle c named
  | applied       -- applied at φ0 of c, parameter store being written
  deriving DecidableEq, Repr

structure Commit where
  set : Nat
  own : Open
  named : Option Nat
  cycle : Nat
  phase : CommitPhase
  gen : Nat
  answered : List Nat
  needs : List Nat
  /-- Cycle in which its check completed. -/
  checked : Nat := 0
  /-- Cam tables as the check read them (R368). -/
  cams : List (Nat × Option CamTable) := []
  deriving DecidableEq, Repr

/-- A journal record (R380), field by field. -/
structure JRec where
  rtype : Nat
  ring : Nat
  opcode : Nat
  wseq : Nat
  seq : Nat
  tag : Nat
  crIdx : Nat
  status : Nat
  subj : Nat
  cycle : Nat
  detail : Nat
  ext : Bool
  irq : Bool
  body : List Byte
  crcOk : Bool
  /-- Index behind the command's descriptors, in the record of its acceptance: the consumer index that replay restores (R385). -/
  cqIdx : Nat := 0
  deriving DecidableEq, Repr

structure Journal where
  /-- The two banks: slot number to record (R378). -/
  bank0 : SMap (Option JRec) := []
  bank1 : SMap (Option JRec) := []
  next0 : Nat := 0
  next1 : Nat := 0
  /-- Bank of the next single record. -/
  nextBank : Bool := false
  wseq : Nat := 0
  writes0 : Nat := 0
  writes1 : Nat := 0
  /-- Slot writes since the restart, and seconds since it (R391). -/
  sinceRestart : Nat := 0
  seconds : Nat := 0
  /-- Writes of each of the last 86,400 s, newest first, and the count within the present second. -/
  perSecond : List Nat := []
  thisSecond : Nat := 0
  fullRun : Bool := false
  /-- Ring set-up records that wait for the write window (R390): ring and its EN. -/
  setupWaiting : List (Nat × Bool) := []
  /-- FINALs of moves held at replay until p is valid (R386), per ring in order. -/
  replayHeld : List OutRec := []
  restartCause : Nat := 0
  /-- A retired bank whose live mirrored records wait for MRAM writes to be permitted (R41, R388). -/
  copyDue : Option Nat := none
  /-- Highest sequence number that a record of each ring has carried (R348; log entry 206). -/
  lastSeq : SMap Nat := []
  deriving DecidableEq, Repr

structure Staging where
  sets : List StageSet := [{}, {}, {}, {}]
  /-- Open STAGE_CHECK per set. -/
  checks : List (Nat × Open) := []
  /-- Commits that wait for the pending one (R372): set, owner, named cycle. -/
  waiting : List (Nat × Open × Nat) := []
  commit : Option Commit := none
  /-- Accepted direct writes not yet in effect, in acceptance order: cycle, axis, PN, raw (R105). -/
  direct : List (Nat × Nat × Nat × Int) := []
  inForce : Settings := {}
  storeA : StoreCopy := {}
  storeB : StoreCopy := {}
  copyB : Bool := false
  /-- The copy that the newest written FINAL record of a commit names (R377). -/
  namedB : Bool := false
  /-- Schedule generation in force and pending (R300, R316). -/
  gen : Nat := 0
  deriving DecidableEq, Repr

/-! ## Signals -/

/-- Status of a block in the signal store (R327). -/
structure BlockStat where
  valid : Bool := false
  bseq : Nat := 0
  age : Nat := 0
  /-- A memory error has made the block invalid for the present cycle (R38). -/
  memErr : Bool := false
  deriving DecidableEq, Repr

structure Signals where
  words : SMap (BitVec 72) := []
  stats : SMap BlockStat := []
  /-- The store as the profile engines have read it in this cycle, in the one before and in the one before that (R169). -/
  seen : SMap (BitVec 72) := []
  seen1 : SMap (BitVec 72) := []
  seen2 : SMap (BitVec 72) := []
  /-- BAR2 latch: word number and value (R363). -/
  latch : SMap (BitVec 72) := []
  /-- Held low halves of W72 writes. -/
  hold : SMap (BitVec 72) := []
  deriving DecidableEq, Repr

/-! ## Ports, power stage and PWM -/

/-- Levels of the lines of a feedback port. -/
structure FbLevels where
  a : Bool := false
  b : Bool := false
  z : Bool := false
  deriving DecidableEq, Repr

/-- Sample of a port at the φ0 whose T72 is `t`. -/
structure FbSample where
  t : Nat
  pos : Int
  valid : Bool
  deriving DecidableEq, Repr

/-- A latch trigger at T72 `t`, seen in `cycle`, whose result waits for the samples it is interpolated between (R207). -/
structure LatchWait where
  t : Nat
  field : Bool
  cycle : Nat
  deriving DecidableEq, Repr

/-- What a latch held before its first trigger of `cycle` (R215): LATj_CTL, its bits of LAT_STAT, POS and T72. -/
structure LatchUndo where
  cycle : Nat
  ctl : Reg32
  done : Bool
  ovr : Bool
  pos : Int
  t : Int
  deriving DecidableEq, Repr

/-- A local feedback port (R194 to R215), beside its registers. -/
structure FbPort where
  /-- Lines as they stand and behind the glitch filter, and the ticks each line has held, at most 8 (R196). -/
  raw : FbLevels := {}
  lev : FbLevels := {}
  heldA : Nat := 8
  heldB : Nat := 8
  heldZ : Nat := 8
  count : Int := 0
  /-- The last counted step, 0 before the first (R198). -/
  lastStep : Int := 0
  /-- Position at the last φ0 and the one before, P72. -/
  pos : Int := 0
  posPrev : Int := 0
  valid : Bool := false
  validPrev : Bool := false
  /-- Samples of the last φ0, newest first (R207). -/
  hist : List FbSample := []
  /-- Triggers of the two latches that wait to be interpolated. -/
  latWait : List (Option LatchWait) := [none, none]
  /-- What the latches held before a trigger of the present cycle, which a restart of the port in it discards (R215). -/
  latUndo : List (Option LatchUndo) := [none, none]
  /-- Count at the last index. -/
  idxCount : Int := 0
  ampRun : Nat := 0
  /-- Consecutive invalid SSI frames, the last accepted field, and whether the frame of this cycle has come. -/
  ssiRun : Nat := 0
  ssiLast : Option Nat := none
  ssiDone : Bool := false
  illCycles : Nat := 0
  illSeen : Bool := false
  loopMeasured : Bool := false
  /-- Cycle of the last start or restart. -/
  startCycle : Option Nat := none
  /-- Pulses of the two compare channels, the toggled levels of FBk_EZ, FBk_EA and FBk_EB, and whether a channel has
  raised EV40 in this cycle. -/
  cmpPulse : List Bool := [false, false]
  cmpTog : List Bool := [false, false, false]
  cmpSeen : List Bool := [false, false]
  /-- Ticks until a channel is armed again (R209), and the compare position last evaluated for an SSI port (R208). -/
  cmpArm : List Nat := [0, 0]
  /-- STEP still in force while a newly written one waits for the next hit (R210). -/
  stepHeld : List (Option Int) := [none, none]
  ssiAt : Int := 0
  /-- The emulation's accumulator, its output counts waiting, with their direction (R214), and the counts emitted. -/
  emuAcc : Int := 0
  emuWait : Int := 0
  emuOut : Int := 0
  /-- Level of FBk_EZ, and whether an index waits for its pulse (R212). -/
  emuZ : Bool := false
  emuZDue : Bool := false
  /-- Change of a sampled source that this cycle spreads, counts of it already given, and the units it was reckoned to. -/
  emuSpread : Int := 0
  emuFed : Nat := 0
  emuBase : Option Int := none
  /-- Ticks until the next output edge, ticks for which STEP stays high, and DIR (R213). -/
  emuGap : Nat := 0
  emuHigh : Nat := 0
  emuDir : Bool := true
  deriving DecidableEq, Repr

/-- A modulator channel beside its registers. -/
structure SdmCh where
  /-- Filter output at the last φ0, H36 of modulator full scale. -/
  x : Int := 0
  /-- Outputs still carrying SETTLE. -/
  settle : Nat := 0
  stuckNow : Bool := false
  /-- Newest output of the fast filter (R224), in 2^-35 of full scale, and whether it lies beyond a threshold. -/
  fast : Int := 0
  above : Bool := false
  below : Bool := false
  deriving DecidableEq, Repr

/-- What drives a port's pairs (R260). -/
inductive Drive where
  | hiZ
  | clockSafe
  | trip
  | haltSafe
  | off
  | shorted
  | active
  deriving DecidableEq, Repr

/-- A PWM port beside its registers (R248 to R260). Duties in 2^-35 of a period; an empty list is no triple yet. -/
structure PwmPort where
  shadow : List Int := []
  active : List Int := []
  /-- A triple that arrived in the last 4 ticks (R254). -/
  late : Option (List Int × List Int) := none
  /-- Currents that belong to the shadow and the active triple (R250), H36. -/
  shadowI : List Int := [0, 0, 0]
  activeI : List Int := [0, 0, 0]
  m : Nat := 0
  /-- Index of the present period within the cycle, and its length in ticks. -/
  period : Nat := 0
  ticks : Nat := 0
  tripped : Bool := false
  /-- A clear was made; the trip state holds until the next reload (R258). -/
  clearPending : Bool := false
  halt : Bool := false
  hGate : List Nat := [0, 0, 0]
  lGate : List Nat := [0, 0, 0]
  /-- Per phase the ticks from the start of the period before which L may not turn on: the dead time that the period before
  leaves (R252). -/
  lWait : List Nat := [0, 0, 0]
  /-- Per phase, the present period has the extra tick of dithering (R251). -/
  extra : List Bool := [false, false, false]
  /-- Per phase the T72 before which L may not turn on after the active triple stopped driving the port (R257, R259). -/
  lowFrom : List (Option Nat) := [none, none, none]
  /-- TRIPk is at its active level, as its pull-down makes it at the reset polarity (R551); a trip comparator of the port is
  active (R224, R257). -/
  pinActive : Bool := true
  cmpTrip : Bool := false
  deriving DecidableEq, Repr

/-- A chopper output beside its registers (R226 to R228, R256). -/
structure Chopper where
  req : Bool := false
  on : Bool := false
  open_ : Bool := false
  ovl : Bool := false
  offUntil : Bool := false
  deriving DecidableEq, Repr

/-! ## Backbone -/

/-- State of the conductor's record of a node (R284). -/
inductive RecState where
  | absent
  | announced
  | member
  | lost
  | quarantined
  | refused
  deriving DecidableEq, Repr

/-- The conductor's record of one node (R285 to R292). -/
structure NodeRec where
  state : RecState := .absent
  reason : Nat := 0
  lane : Nat := 0
  position : Nat := 0
  locked : Bool := false
  skegil : Bool := false
  record : Option CapRecord := none
  /-- UIDs that claim the number besides the stored record's. -/
  rivals : List Nat := []
  misses : Nat := 0
  slot : Bool := false
  readmitAt : Option Nat := none
  /-- A member announced again before it was marked LOST (R293). -/
  again : Bool := false
  /-- A quarantined node that was a member: its axes still have to meet source 17 (R289). -/
  dropped : Bool := false
  dly : Nat := 0
  /-- Number of a member conductor (R280); 0 for a node. -/
  condNo : Nat := 0
  deriving DecidableEq, Repr

/-- An acknowledgement for the control area of a lane (R287, R307): UID, node number and code, the cycle in which the record came,
and whether a scatter has carried it. -/
structure AckOut where
  uid : Nat
  node : Nat
  code : Nat
  cycle : Nat
  sent : Bool
  deriving DecidableEq, Repr

/-- A quarantine or release for the control area of a lane (R307). -/
structure QuarOut where
  kind : Nat
  node : Nat
  uid : Nat
  deriving DecidableEq, Repr

structure Lane where
  /-- Twice the delays of the last exchanges, newest first, at most 8, LSB 2^-16 ns; four times their median, the
  delay in force (R274). -/
  delays : List Int := []
  median : Option Int := none
  /-- The last link frame sent to the neighbour, and the NODE and UID that it last sent (R321). -/
  linkOut : Option LinkFrame := none
  peer : Option (Nat × Nat) := none
  reqSeq : Nat := 0
  reqTx : Nat := 0
  sent : Nat := 0
  /-- Foreign Lantern seen: the port is a line end (R279). -/
  lineEnd : Bool := false
  ringCloseAt : Option Nat := none
  /-- Latched Foghorns still to be sent on this lane, oldest first, and the last one sent (R317, R318). -/
  fogPending : List FogFrame := []
  fogOut : Option FogFrame := none
  /-- The last COLDSTART sent (R277, R320). -/
  coldOut : Option ColdFrame := none
  gather : Option GatherFrame := none
  scatter : Option ScatterFrame := none
  ctl : ControlArea := ⟨0, 0, 0, 0, 0, 0, 0xFFFFFFFF, 0, 0xFFFFFFFF, 0⟩
  /-- The last slow frame sent. -/
  slow : Option SlowFrame := none
  /-- Acknowledgements, quarantines and releases for the control area, oldest first (R287, R289, R290, R307). -/
  acks : List AckOut := []
  quars : List QuarOut := []
  /-- Safety containers prepared for the scatter of cycle `outCycle` (R310, R413). -/
  outConts : List Container := []
  outCycle : Nat := 0
  /-- Schedule generation of the lane in force (R300, R316). -/
  gen : Nat := 0
  deriving DecidableEq, Repr

/-- State of a conductor's cold start (R277), in the code of BBN_GSTAT.STATE. -/
inductive ColdState where
  | listen
  | coldstart
  | lead
  | integrate
  | announce
  | conductor
  deriving DecidableEq, Repr

/-- A node's view of its membership (R284). -/
inductive NodeState where
  | link
  | listen
  | sync
  | announce
  | wait
  | member
  | quarantined
  | refused
  deriving DecidableEq, Repr

/-- A generation a node holds (R313 to R316). -/
structure Generation where
  gen : Nat := 0
  parts : List Nat := []
  total : Nat := 0
  /-- CONFIG parts that have come, with their items. -/
  cfgParts : SMap (Option (List ConfigItem)) := []
  cfgTotal : Nat := 0
  sched : Option ScheduleRec := none
  blks : List BlkAssign := []
  items : List ConfigItem := []
  refusedItem : Option Nat := none
  deriving DecidableEq, Repr

/-- Scatter state of one axis of a Node-role VLN (R308, R336). -/
structure NodeAxis where
  enabled : Bool := false
  split : Bool := false
  react : Nat := 0
  fly : Bool := false
  misses : Nat := 0
  stale : Bool := false
  held : Bool := false
  got : Bool := false
  /-- Set-points in use, and those received for the next reload (R102). -/
  idSet : Int := 0
  iqSet : Int := 0
  idNext : Int := 0
  iqNext : Int := 0
  deriving DecidableEq, Repr

structure NodeRole where
  state : NodeState := .link
  nodeNo : Option Nat := none
  missed : Nat := 0
  inForce : Generation := {}
  pending : Option Generation := none
  commitCycle : Nat := 0xFFFFFFFF
  commitGen : Nat := 0
  genMismatch : Bool := false
  adoptNext : Bool := false
  /-- A valid scatter of this cycle, and a valid slow frame of it, has been taken (R323). -/
  scatterSeen : Bool := false
  slowSeen : Bool := false
  /-- Cycle from whose φ0 a readmitted node is a member again (R288). -/
  memberAt : Option Nat := none
  /-- FOG_SEQ of every Foghorn latched and not cleared (R319, R337), and the node's own request (R318). -/
  fogLatched : List Nat := []
  fogRequest : Bool := false
  /-- The latched Foghorn shows in the node's entries, from the φ0 after it was latched (R319). -/
  fogShown : Bool := false
  axes : List NodeAxis := [{}, {}, {}, {}]
  ack : Option AckRec := none
  /-- The last frame sent on (R298), and whether a port loops. -/
  forwarded : Option FwdFrame := none
  loopAt : Option Nat := none
  ringCloseAt : Option Nat := none
  /-- Containers with report PDUs for the next gather (R310, R413). -/
  reports : List Container := []
  deriving DecidableEq, Repr

/-- Time servo (R67, R68). `s` in T72 LSB. -/
structure Servo where
  s : Int := 0
  good : Nat := 0
  badRun : Nat := 0
  missed : Nat := 0
  deriving DecidableEq, Repr

structure Backbone where
  lanes : List Lane := [{}, {}, {}, {}]
  nodes : SMap NodeRec := []
  cold : ColdState := .listen
  /-- The contention window has just ended: the φ0 there is that of the first cycle itself (R277). -/
  firstPhi0 : Bool := false
  /-- Extra listening after equal rank and UID, in µs (R278). -/
  extraListen : Nat := 0
  /-- A COLDSTART without precedence, and one with it, was heard. -/
  heardLower : Bool := false
  number : Nat := 0
  lantern : Bool := false
  lanternUid : Nat := 0
  handovers : Nat := 0
  uplink : Option Nat := none
  flashSeen : Bool := false
  relay : Option FlashIn := none
  fogSeq : Nat := 0
  /-- Foghorns already acted on: (origin UID, sequence) (R318). -/
  fogSeen : List (Nat × Nat) := []
  fogLatched : Bool := false
  fogReason : Nat := 0
  fogCause : Nat := 0xFFFF
  fogLast : Nat := 0
  fogClrSeq : Nat := 0
  /-- Source 18 is raised in C1 of the next cycle. -/
  fogDue : Bool := false
  nextRung : Option (Nat × Nat) := none
  stops : Bool := false
  /-- Cycles from `n_E` to the cycle `anchor`, counted beyond the wrap of the 32-bit counter (R65). -/
  elapsed : Int := 0
  anchor : Nat := 0
  deriving DecidableEq, Repr

/-! ## Die-to-die link and field die -/

/-- One end of the link as its receiver and its sender hold it (R24 to R27); `fio` is what its last good frame carried. -/
structure DieEnd where
  up : Bool := false
  lost : Bool := false
  rxSeq : Nat := 15
  resync : Bool := true
  discards : Nat := 0
  /-- Frame periods in a row without a good frame. -/
  missing : Nat := 0
  txSeq : Nat := 0
  fio : BitVec 32 := 0
  /-- The frame sent last. -/
  sent : Option DieFrame := none
  deriving DecidableEq, Repr

/-- The link: the core die's end field by field, and the field die's end. -/
structure DieLink where
  up : Bool := false
  fast : Bool := true
  rxSeq : Nat := 15
  resync : Bool := true
  txSeq : Nat := 0
  discards : Nat := 0
  missing : Nat := 0
  /-- Last good field-to-core slots: FIO, STAT, CFG and SAFE. -/
  fio : BitVec 32 := 0
  stat : BitVec 16 := 0
  cfg : BitVec 24 := 0
  safe : BitVec 32 := 0
  lost : Bool := false
  /-- The frame that the core die sent last. -/
  sent : Option DieFrame := none
  fieldEnd : DieEnd := {}
  deriving DecidableEq, Repr

structure FieldDie where
  /-- Raw and debounced level per channel. -/
  inputs : BitVec 16 := 0
  readback : BitVec 16 := 0
  /-- The field supply by the field die's own comparators (R469): held above 18.0 V since the last trip, below the trip level,
  and warned of; and the reports, code and VFIELD in 10 mV, that the core die has not seen for want of a link. -/
  supplyOk : Bool := false
  low : Bool := false
  warn : Bool := false
  unseen : List (Nat × Nat) := []
  /-- Enables at the last trip, for AUTO_RESTORE (R470). -/
  tripEn : BitVec 16 := 0
  /-- Outputs switched off by anything auto-restore must not undo. -/
  noRestore : BitVec 16 := 0
  /-- Outputs enabled at least once since the field die's start (R468). -/
  started : BitVec 16 := 0
  /-- Pending read-back check per channel: code and expected level. -/
  checks : SMap (Option (Nat × Bool)) := []
  testMask : BitVec 16 := 0
  /-- Outputs that the running test holds off for its 400 µs (R468). -/
  testOff : BitVec 16 := 0
  /-- T72 of the last debounced edge per channel. -/
  edgeAt : SMap Nat := []
  /-- Edge reports that wait for the link: channel and t_e, oldest first (R463). -/
  stampQueue : List (Nat × Nat) := []
  fogBlocked : Bool := false
  /-- Writes of DIO_OUT and DIO_OUT_EN that wait while IOE is halted (R522). -/
  heldOut : Option Reg32 := none
  heldEn : Option Reg32 := none
  deriving DecidableEq, Repr

/-! ## Safety -/

/-- State of a safety axis in one channel's view (R425, R426). -/
inductive SafState where
  | unused
  | sto
  | ss1
  | run
  | limited
  deriving DecidableEq, Repr

/-- Record of a safety axis (R398). -/
structure SafAxisRec where
  axis : Nat := 0xFFFF
  remote : Bool := false
  react : Nat := 0
  gmask : BitVec 8 := 0
  gmode : Nat := 0
  func : BitVec 4 := 0
  bSrc : Nat := 0xFF
  scaleB : Nat := 0x10000
  slsV : Nat := 0
  slsT : Nat := 0
  ss1T : Nat := 1
  ss1Dec : Nat := 0
  slpMin : Int := 0
  slpMax : Int := 0
  sdiDir : Nat := 1
  wd : Nat := 0
  node : Nat := 0
  sdiTol : Nat := 0
  disc : Nat := 1
  connBase : Nat := 0
  stillS : Nat := 0
  spdWin : Nat := 1
  zeroOk : Bool := true
  deriving DecidableEq, Repr

/-- Guard pair record (R399). -/
structure PairRec where
  ch1 : Nat := 0
  ch2 : Nat := 0
  type : Nat := 0
  startTest : Bool := false
  discT : Nat := 10
  tp : Bool := false
  tpOut : Nat := 0
  zeroOk : Bool := true
  deriving DecidableEq, Repr

/-- A safety set (R397). -/
structure SafSet where
  setNo : Nat := 0
  ver : Nat := 1
  rung : Nat := 1
  sp : Nat := 1
  ackSrc : Nat := 0
  rstIn : Nat := 0xFF
  axes : List SafAxisRec := []
  pairs : List PairRec := []
  check : BitVec 32 := 0
  /-- CHECK matches the bytes as both channels compute it, and every reserved byte is zero (R400). -/
  checkOk : Bool := true
  deriving DecidableEq, Repr

/-- One channel's view of one safety axis (R408 to R416). -/
structure SafAxisView where
  state : SafState := .unused
  p : Int := 0
  valid : Bool := false
  /-- Positions of the speed window, newest first. -/
  past : List Int := []
  v : Rat := 0
  /-- Start of limited mode and of SS1 (T72), v0, furthest point of SDI. -/
  limitedSince : Nat := 0
  limitedOn : Bool := false
  sdiBest : Int := 0
  ss1Since : Nat := 0
  ss1V0 : Rat := 0
  stillSince : Option Nat := none
  /-- SEQ of the next PDU to send, last accepted SEQ, synchronised, exchanges without a PDU. -/
  txSeq : Nat := 1
  rxSeq : Option Nat := none
  synced : Bool := false
  silent : Nat := 0
  pathOpen : Bool := true
  deriving DecidableEq, Repr

/-- One safety channel (R392 to R394). -/
structure SafChan where
  running : Bool := false
  sw : Nat := 0
  /-- Filtered state of each guard pair (R404). -/
  closed : BitVec 8 := 0
  axes : List SafAxisView := List.replicate 32 {}
  /-- Level commanded on the STO pin. -/
  sto : Bool := false
  xtSeq : Nat := 0
  xtMissed : Nat := 0
  /-- Consecutive cycles in which each guard-pair state (0 to 7) and each axis state (8 to 39) differs. -/
  xtDiff : List Nat := []
  /-- The message the channel sent last to the other (R394), and the sequence number of the next. -/
  xtSent : Option CrossTalk := none
  xtTx : Nat := 1
  /-- The channel has found the die-to-die link lost, and no acknowledgement has released it (R27, R28, R407). -/
  linkLoss : Bool := false
  /-- Containers that the last frames handed to this channel's receiver (R310). -/
  inbox : List Container := []
  deriving DecidableEq, Repr

structure Safety where
  chA : SafChan := {}
  chB : SafChan := {}
  /-- Sets 0 to 15 of the image; `none` is empty. -/
  sets : SMap (Option SafSet) := []
  /-- Confirmation records: set number and check value. -/
  confirmed : SMap (Option (BitVec 32)) := []
  /-- Latched causes per axis in the bit order of SAF_AXs_STAT [16:8]. -/
  causes : SMap (BitVec 9) := []
  /-- Safety axes that are acknowledged and wait for the rest of what holds them in STO (R407, R416). -/
  acked : List Nat := []
  pairFault : BitVec 8 := 0
  /-- PAIR_FAULT clears after both contacts read open, then closed. -/
  pairOpenSeen : BitVec 8 := 0
  testPending : BitVec 8 := 0xFF
  testOpenA : BitVec 8 := 0
  testOpenB : BitVec 8 := 0
  faults : BitVec 9 := 0
  /-- VFIELD is below the trip level of channel B's supply monitor (R22, R421). -/
  bDown : Bool := false
  /-- SAF_LOADs whose image is being written, oldest first. -/
  loadOwn : List Open := []
  deriving DecidableEq, Repr

/-! ## Acquisition -/

/-- One pea in recording (R431 to R433). -/
structure Pea where
  index : Nat := 0
  /-- Samples, oldest first: cycle, T72, words. -/
  samples : List (Nat × Nat × List (BitVec 72)) := []
  /-- Index of the trigger point among the samples kept, as written in TRIG_IDX. -/
  trig : Option Int := none
  timed : Bool := false
  /-- Samples still to be taken after the trigger. -/
  left : Nat := 0
  /-- Sample period, 2^-16 ns (R430). -/
  period : Nat := 0
  /-- Fraction of the trigger point, 2^-16 sample (R431). -/
  frac : Nat := 0
  part : Bool := false
  memErr : Bool := false
  /-- T72 from which a timed trigger is taken: 0.8 µs after the pea before it (R434). -/
  startAt : Nat := 0
  deriving DecidableEq, Repr

structure Pod where
  own : Open := {}
  npea : Nat := 0
  s : Nat := 0
  post : Nat := 0
  c : Nat := 0
  cont : Bool := false
  fast : Bool := false
  div : Nat := 0
  tkind : Nat := 0
  tedge : Nat := 0
  tch : Nat := 0
  targ : Nat := 0
  host : Nat := 0
  level : Int := 0
  hyst : Int := 0
  src : List Nat := []
  base : Nat := 0
  size : Nat := 0
  pea : Pea := {}
  /-- Complete peas that wait for their host copy. -/
  waiting : List Pea := []
  count : Nat := 0
  /-- Beyond hysteresis on the starting side, per edge kind. -/
  ready : Bool := false
  readyFall : Bool := false
  /-- Level channel at the last sample of this pea, and at the last of the pea before it. -/
  last : Option Int := none
  lastOld : Option Int := none
  timedAt : Option Nat := none
  ending : Bool := false
  firstCycle : Nat := 0
  deriving DecidableEq, Repr

/-! ## Converters and CAN -/

/-- A SAR converter beside its registers (R444 to R454). -/
structure Adc where
  /-- Position in the regular round. -/
  pos : Nat := 0
  round : Nat := 0
  injCount : Nat := 0
  busy : Bool := false
  requeued : Bool := false
  /-- Conversions of each channel still settling, by slot number 2 to 6. -/
  settle : SMap Nat := []
  /-- Slots latched at the trigger. -/
  slots : List Nat := []
  /-- T72 of the trigger that started the running sequence (R452). -/
  trigAt : Nat := 0
  refBad : Nat := 0
  refGood : Nat := 0
  deriving DecidableEq, Repr

/-- A CAN controller beside its registers (R473 to R487). -/
structure Can where
  tec : Nat := 0
  rec_ : Nat := 0
  joined : Bool := false
  joining : Bool := false
  busOff : Bool := false
  /-- Frames copied at the request, by buffer. -/
  pending : SMap (Option CanFrame) := []
  /-- Instants (T72) of the pending requests, by buffer. -/
  reqAt : SMap Nat := []
  seqs : SMap Nat := []
  stb : Bool := true
  txd : Bool := true
  asleep : Bool := false
  deriving DecidableEq, Repr

/-! ## Power, thermal, lifecycle, boot -/

/-- How far power-up has come (R526, R531). -/
inductive Boot where
  | low            -- PORST_N low or supplies rising
  | brownOut       -- held by R536
  | clockLost      -- held by R497
  | hotStop        -- stopped by R504 until R505
  | image          -- image check
  | waitDownload   -- R529
  | failed         -- no slot passes and no download
  | replay         -- engines started, journal to be replayed
  | replayed
  | up             -- Idle or beyond
  deriving DecidableEq, Repr

structure PowerReq where
  target : Nat
  own : Open
  at_ : Nat
  deriving DecidableEq, Repr

structure Power where
  boot : Boot := .low
  req : Option PowerReq := none
  /-- The FINAL to Standby is posted; the entry runs (R492). -/
  entering : Bool := false
  pfail : Bool := false
  lowRail : Bool := false
  /-- The restart cause the always-on domain holds (R534). -/
  heldCause : Option Nat := none
  alertN : Bool := true
  rstoutN : Bool := false
  /-- Shutdown comparators latched: core, field. -/
  shutCore : Bool := false
  shutField : Bool := false
  sramKept : Bool := false
  aonSeconds : Nat := 0
  wakeN : Bool := true
  /-- End of the 1 ms for which WAKE_N is asserted (R495). -/
  wakeEnd : Option Nat := none
  deriving DecidableEq, Repr

/-- Die thermal model (R499 to R503): temperatures in 2^-48 °C. -/
structure DieThermal where
  t0 : Int := 0
  t1 : Int := 0
  t2 : Int := 0
  started : Bool := false
  /-- The next start follows a wake: every node starts at T_die (R503). -/
  woken : Bool := false
  /-- Rail currents of the last 16 windows in mA, newest first (R498, R512). -/
  rails : List (List Nat) := []
  tdie : Int := 0
  /-- (age in ns, T_die), newest first. -/
  past : List (Nat × Int) := []
  /-- Last reading, and nanoseconds of plausible readings since it broke, per diode and for the field die. -/
  lastD : List (Option Int) := [none, none, none, none, none]
  badFor : List (Option Nat) := [none, none, none, none, none]
  mismatch : List Nat := [0, 0, 0, 0]
  rateHit : Bool := false
  deriving DecidableEq, Repr

/-- Lifecycle, image and debug (R513 to R522). -/
structure Security where
  lcs : Nat := 0
  debugKey : Option (List Byte) := none
  secCnt : Nat := 0
  setOwn : Option (Open × Nat × List Byte) := none
  session : Bool := false
  auth : Bool := false
  fails : Nat := 0
  lockout : Bool := false
  lock : Bool := false
  challenge : Option Nat := none
  halted : BitVec 12 := 0
  /-- Engines halted by the session. -/
  byDebug : BitVec 12 := 0
  challenges : Nat := 0
  tdo : Bool := false
  dataOut : BitVec 72 := 0
  deriving DecidableEq, Repr

/-- Boot flash (R528): the bytes of the boot record copies and of the node configuration block, and the image slots. A region with
no byte is erased. -/
structure Flash where
  rec0 : List Byte := []
  rec1 : List Byte := []
  slot0 : Option Image := none
  slot1 : Option Image := none
  nodeBlock : List Byte := []
  /-- The download buffer of R529. -/
  download : SMap Byte := []
  running : Option Image := none
  /-- Images that FW_UPDATEs are writing, oldest first. -/
  updating : List (Open × Image) := []
  deriving DecidableEq, Repr

/-- A beat request that waits for its bank group (R43): its class, and the clock in which it was made. -/
structure Beat where
  requester : Nat
  word : Nat
  made : Nat
  guaranteed : Bool
  deriving DecidableEq, Repr

/-- Engines (R30, R36, R50, R51, R522) and the interconnect (R42 to R49). -/
structure Fabric where
  counters : List Nat := List.replicate 18 0
  window : Nat := 0
  /-- The requester at which the round-robin of the shared requests begins (R45). -/
  pointer : Nat := 0
  /-- Clocks of 2 ns since the first window, and the requests not yet served, in the order made. -/
  clock : Nat := 0
  waiting : List Beat := []
  /-- Beats each requester has been served in the present window. -/
  served : List Nat := List.replicate 18 0
  started : BitVec 12 := 0
  stopped : BitVec 12 := 0
  /-- Engines with a burst in the present cycle (R50). -/
  awake : BitVec 12 := 0
  /-- The last 1,024 cycles, newest first (R51): number, clock periods, engines that had a burst. -/
  cycles : List (Nat × Nat × BitVec 12) := []
  cycleNo : Nat := 0
  /-- Words of engine memories that a debugger has written, key 32,768 × engine + word, over those of the image (R36, R518). -/
  mem : SMap (Option (BitVec 72)) := []
  scrubs : Nat := 0
  ne1Takes : Bool := false
  /-- The profile engines that have evaluated in the present cycle (R135). -/
  peDone : BitVec 2 := 0
  deriving DecidableEq, Repr

/-- Buoy and synchronisation pins (R71 to R76). -/
structure Pins where
  buoyActive : List (List Nat) := [[], [], [], []]
  buoyLevel : BitVec 4 := 0
  /-- T72 at which the last pulse of each buoy ends (R75). -/
  buoyEnd : SMap Nat := []
  fired : BitVec 8 := 0
  syncOut : Bool := false
  /-- Ticks of 2 ns since φ0 that the history of the feedback pins has reached (R208). -/
  tick : Nat := 0
  deriving DecidableEq, Repr

/-- The state of the block. -/
structure State where
  /-- Waiting commands, first in, first out. -/
  pending : List Instr := []
  /-- Grade, 0 VLN-032, 1 VLN-064, 2 VLN-128 (R2, R542). -/
  grade : Nat := 2
  /-- Role sampled at PORST_N: true Conductor (R5). -/
  conductor : Bool := true
  bootsel : Nat := 0
  uid : Nat := 1
  /-- BAR0 registers that hold their own value, sparse over `regReset` (R539). -/
  regs : SMap Reg32 := []
  /-- Copies latched by reads of _LO registers, by the offset of _LO: (MID, HI) (R14). -/
  latches : SMap (Reg32 × Reg32) := []
  /-- Held halves of writes to _LO and _MID, by the offset of _LO (R15). -/
  holds : SMap (Reg32 × Reg32) := []
  /-- T72 with 16 further fraction bits, LSB 2^-32 ns (R64). -/
  time : Nat := 0
  cycle : Nat := 0
  epoch : Nat := 0
  nE : Nat := 0
  servo : Servo := {}
  axes : SMap Axis := []
  groups : SMap Group := []
  host : HostIf := {}
  stage : Staging := {}
  jnl : Journal := {}
  sig : Signals := {}
  fb : SMap FbPort := []
  sdm : SMap SdmCh := []
  pwm : SMap PwmPort := []
  chop : SMap Chopper := []
  bb : Backbone := {}
  node : NodeRole := {}
  die : DieLink := {}
  field : FieldDie := {}
  saf : Safety := {}
  pods : SMap (Option Pod) := []
  adc : SMap Adc := []
  can : SMap Can := []
  pw : Power := {}
  therm : DieThermal := {}
  /-- Retained thermal state in MRAM (R510): the save's always-on second and (tw, tb, ts) per axis. -/
  thermMram : Option (Nat × SMap (Int × Int × Int)) := none
  sec : Security := {}
  flash : Flash := {}
  fab : Fabric := {}
  pins : Pins := {}
  /-- Event log of R40, newest first. -/
  eventLog : List Event := []
  /-- The model's own counter of uses of per-use free values. -/
  free : Nat := 0
  /-- The model's own counter that keeps plan requests in acceptance order (R139). -/
  planNo : Nat := 0
  deriving DecidableEq, Repr

/-- The machine right after a power-on reset, PORST_N still low. -/
def State.reset : State := {}

end Sys2Proof.Machine
end

