-- ==== Sys2Proof/Machine/Regs.lean ====
section
/-!
DEFINITION. The BAR0 register map (R539 to R547 and the register table of each block): where every register lies,
its reset value, which bits a plain write changes, which clear on a written 1 (W1C) or on a read (RC), and which
registers are staged settings. Offsets are BAR0 offsets. A row covers a replicated register by two strides.
-/

namespace Sys2Proof.Machine

open Sys2Proof

/-- What part of a wide value a register holds (R13): `lo w` and `hi w` of a value of `w` bits. -/
inductive RegPart where
  | plain
  | lo (w : Nat)
  | mid
  | hi (w : Nat)
  deriving DecidableEq, Repr

/-- One row of the map. `rw`, `w1c` and `rc` are bit masks (R17); every other bit is RO, WO or reserved. -/
structure RegDesc where
  base : Nat
  stride : Nat := 0x10000
  count : Nat := 1
  stride2 : Nat := 0x10000
  count2 : Nat := 1
  reset : Nat := 0
  rw : Nat := 0
  w1c : Nat := 0
  rc : Nat := 0
  staged : Bool := false
  part : RegPart := .plain
  deriving DecidableEq, Repr

/-- Whether offset `off` is one of the row's registers. -/
def RegDesc.covers (d : RegDesc) (off : Nat) : Bool :=
  decide (d.base ≤ off) && decide ((off - d.base) / d.stride < d.count) &&
    decide ((off - d.base) % d.stride / d.stride2 < d.count2) &&
    decide ((off - d.base) % d.stride % d.stride2 = 0)

/-- SYS (R542). -/
def regsSys : List RegDesc := [
  { base := 0x000, reset := 0x0A550001 },
  { base := 0x004 },
  { base := 0x008 },
  { base := 0x00C },
  { base := 0x010 },
  { base := 0x014, rw := 0x7FFFFF },
  { base := 0x018 },
  { base := 0x01C },
  { base := 0x020, stride := 4, count := 12 },
  { base := 0x050, rw := 0xFFFFFFFF } ]

/-- HIF (R544). -/
def regsHif : List RegDesc := [
  { base := 0x400 },
  { base := 0x404, rw := 0xFFFFFF00 },
  { base := 0x408, rw := 0xFFFFFFFF },
  { base := 0x40C, rw := 0xFFFFF000 },
  { base := 0x410, rw := 0xFFFFFFFF },
  { base := 0x414, reset := 0x60, rw := 0xFF1 },
  { base := 0x418, rw := 0xFFFFF000 },
  { base := 0x41C, rw := 0xFFFFFFFF },
  { base := 0x420, reset := 0x8000, rw := 0x7FF01 },
  { base := 0x424, rw := 0x1FFFF },
  { base := 0x428, stride := 4, count := 2, w1c := 0xFFFFFFFF },
  { base := 0x430, stride := 4, count := 4, rw := 0xFFFFFFFF },
  { base := 0x440, stride := 8, count := 16, rw := 0xFFFFF000 },
  { base := 0x444, stride := 8, count := 16, rw := 0xFFFFFFFF },
  { base := 0x4C0, stride := 4, count := 16, reset := 0x860, rw := 0xFFF3 },
  { base := 0x500, stride := 4, count := 16, w1c := 0x100 },
  { base := 0x540, stride := 8, count := 16, rw := 0xFFFFF000 },
  { base := 0x544, stride := 8, count := 16, rw := 0xFFFFFFFF },
  { base := 0x5C0, stride := 4, count := 16, reset := 6, rw := 0xFF },
  { base := 0x600, stride := 16, count := 16, rw := 0xFFFFFFFC },
  { base := 0x604, stride := 16, count := 16, rw := 0xFFFFFFFF },
  { base := 0x608, stride := 16, count := 16, rw := 0xFFFFFFFF },
  { base := 0x60C, stride := 16, count := 16, reset := 1, rw := 1 },
  { base := 0x700, stride := 4, count := 2 } ]

/-- TIM (R77). -/
def regsTim : List RegDesc := [
  { base := 0x800, part := .lo 72 }, { base := 0x804, part := .mid }, { base := 0x808, part := .hi 72 },
  { base := 0x80C },
  { base := 0x810, reset := 1 },
  { base := 0x814, part := .lo 72 }, { base := 0x818, part := .mid }, { base := 0x81C, part := .hi 72 },
  { base := 0x820 },
  { base := 0x824 },
  { base := 0x828, reset := 2 },
  { base := 0x82C, w1c := 0x700 },
  { base := 0x830 },
  { base := 0x834, reset := 0x320000, rw := 0xFFFF07FF },
  { base := 0x838, part := .lo 72 }, { base := 0x83C, part := .mid }, { base := 0x840, part := .hi 72 },
  { base := 0x844, reset := 0xA00, rw := 0xFF01 },
  { base := 0x848, part := .lo 72 }, { base := 0x84C, part := .mid }, { base := 0x850, part := .hi 72 },
  { base := 0x854, stride := 4, count := 2 },
  { base := 0x860, stride := 4, count := 8, staged := true },
  { base := 0x880, stride := 4, count := 8, staged := true },
  { base := 0x8A0, staged := true } ]

/-- PWR and THM (R512). -/
def regsPwr : List RegDesc := [
  { base := 0xC00, reset := 1 },
  { base := 0xC04, w1c := 0x300 },
  { base := 0xC08 },
  { base := 0xC10, stride := 4, count := 6, rc := 0xFFFF0000 },
  { base := 0xD00, w1c := 0x700 },
  { base := 0xD04, reset := 0x647369, rw := 0x3FFFFFF },
  { base := 0xD08 },
  { base := 0xD0C, stride := 4, count := 3 },
  { base := 0xD18 },
  { base := 0xD1C, reset := 0xFFFF },
  { base := 0xD20 } ]

/-- SEC and DBG (R524). -/
def regsSec : List RegDesc := [
  { base := 0x1000 },
  { base := 0x1004 },
  { base := 0x1010, stride := 4, count := 8 },
  { base := 0x1100 },
  { base := 0x1104, rw := 2 },
  { base := 0x1108 } ]

/-- JNL (R391). -/
def regsJnl : List RegDesc := [
  { base := 0x1400, reset := 3, w1c := 0x700 },
  { base := 0x1404, reset := 0x40004000 },
  { base := 0x1408 },
  { base := 0x140C },
  { base := 0x1410, stride := 4, count := 4 },
  { base := 0x1420 },
  { base := 0x1424, reset := 0xFFFFFFFF },
  { base := 0x1428 },
  { base := 0x142C },
  { base := 0x1430, reset := 0x10000000 },
  { base := 0x1434, reset := 0xFFFFFFFF },
  { base := 0x1438 } ]

/-- BBN (R295). -/
def regsBbn : List RegDesc := [
  { base := 0x2000, stride := 0x100, count := 4, reset := 0x1F40000, staged := true },
  { base := 0x2004, stride := 0x100, count := 4, reset := 0x80854, staged := true },
  { base := 0x2008, stride := 0x100, count := 4, w1c := 0xF00 },
  { base := 0x200C, stride := 0x100, count := 4, rc := 0xFFFFFFFF },
  { base := 0x2010, stride := 0x100, count := 4 },
  { base := 0x2014, stride := 0x100, count := 4 },
  { base := 0x2018, stride := 0x100, count := 4 },
  { base := 0x201C, stride := 0x100, count := 4, rc := 0xFF000000 },
  { base := 0x2400, reset := 1, staged := true },
  { base := 0x2404, reset := 1 },
  { base := 0x2408, stride := 4, count := 2 },
  { base := 0x2410, rw := 0xFF },
  { base := 0x2414 },
  { base := 0x2418 },
  { base := 0x241C } ]

/-- PWM (R264). -/
def regsPwm : List RegDesc := [
  { base := 0x3000, stride := 0x40, count := 4, reset := 0x10, staged := true },
  { base := 0x3004, stride := 0x40, count := 4, reset := 0x320032, staged := true },
  { base := 0x3008, stride := 0x40, count := 4, reset := 0x64, staged := true },
  { base := 0x300C, stride := 0x40, count := 4 },
  { base := 0x3010, stride := 0x40, count := 4 },
  { base := 0x3014, stride := 0x40, count := 4, stride2 := 4, count2 := 3, rw := 0x1FFFF },
  { base := 0x3020, stride := 0x40, count := 4, stride2 := 4, count2 := 3 },
  { base := 0x302C, stride := 0x40, count := 4, w1c := 0x300 },
  { base := 0x3030, stride := 0x40, count := 4 },
  { base := 0x3034, stride := 0x40, count := 4, rc := 0xFFFFFFFF },
  { base := 0x3200, stride := 0x20, count := 4, staged := true },
  { base := 0x3204, stride := 0x20, count := 4, reset := 0xFA0, staged := true },
  { base := 0x3208, stride := 0x20, count := 4, reset := 0xFA0, staged := true },
  { base := 0x320C, stride := 0x20, count := 4, staged := true },
  { base := 0x3210, stride := 0x20, count := 4, rw := 1 },
  { base := 0x3214, stride := 0x20, count := 4, w1c := 2 },
  { base := 0x3300, staged := true },
  { base := 0x3304 } ]

/-- FBK (R216). -/
def regsFbk : List RegDesc := [
  { base := 0x3800, stride := 0x100, count := 4, reset := 0x100020, staged := true },
  { base := 0x3804, stride := 0x100, count := 4, staged := true },
  { base := 0x3808, stride := 0x100, count := 4, reset := 0x6001919, staged := true },
  { base := 0x380C, stride := 0x100, count := 4, reset := 0x19000000, staged := true },
  { base := 0x3810, stride := 0x100, count := 4, reset := 0x26410, staged := true },
  { base := 0x3814, stride := 0x100, count := 4, staged := true },
  { base := 0x3818, stride := 0x100, count := 4, reset := 0x4000, staged := true },
  { base := 0x381C, stride := 0x100, count := 4, reset := 0x4000000, staged := true },
  { base := 0x3820, stride := 0x100, count := 4, part := .lo 72 },
  { base := 0x3824, stride := 0x100, count := 4, part := .mid },
  { base := 0x3828, stride := 0x100, count := 4, part := .hi 72 },
  { base := 0x382C, stride := 0x100, count := 4, w1c := 0x7F00 },
  { base := 0x3830, stride := 0x100, count := 4, rc := 0xFFFF },
  { base := 0x3834, stride := 0x100, count := 4 },
  { base := 0x3838, stride := 0x100, count := 4 },
  { base := 0x383C, stride := 0x100, count := 4 },
  { base := 0x3840, stride := 0x100, count := 4, stride2 := 4, count2 := 2, reset := 4, rw := 0xF3F },
  { base := 0x3848, stride := 0x100, count := 4, w1c := 0xF },
  { base := 0x384C, stride := 0x100, count := 4 },
  { base := 0x3850, stride := 0x100, count := 4, stride2 := 12, count2 := 4, part := .lo 72 },
  { base := 0x3854, stride := 0x100, count := 4, stride2 := 12, count2 := 4, part := .mid },
  { base := 0x3858, stride := 0x100, count := 4, stride2 := 12, count2 := 4, part := .hi 72 },
  { base := 0x3880, stride := 0x100, count := 4, stride2 := 0x40, count2 := 2, reset := 0x640000, rw := 0xFFFF007F },
  { base := 0x3884, stride := 0x100, count := 4, stride2 := 0x40, count2 := 2, rw := 0xFFFFFFFF, part := .lo 72 },
  { base := 0x3888, stride := 0x100, count := 4, stride2 := 0x40, count2 := 2, rw := 0xFFFFFFFF, part := .mid },
  { base := 0x388C, stride := 0x100, count := 4, stride2 := 0x40, count2 := 2, rw := 0xFFFFFFFF, part := .hi 72 },
  { base := 0x3890, stride := 0x100, count := 4, stride2 := 0x40, count2 := 2, rw := 0xFFFFFFFF, part := .lo 72 },
  { base := 0x3894, stride := 0x100, count := 4, stride2 := 0x40, count2 := 2, rw := 0xFFFFFFFF, part := .mid },
  { base := 0x3898, stride := 0x100, count := 4, stride2 := 0x40, count2 := 2, rw := 0xFFFFFFFF, part := .hi 72 },
  { base := 0x389C, stride := 0x100, count := 4, stride2 := 0x40, count2 := 2, rc := 0xFFFFFFFF },
  { base := 0x38A0, stride := 0x100, count := 4, stride2 := 0x40, count2 := 2 },
  { base := 0x38A4, stride := 0x100, count := 4, stride2 := 0x40, count2 := 2, w1c := 3 },
  { base := 0x38E8, stride := 0x100, count := 4, reset := 0xC000001, staged := true },
  { base := 0x38EC, stride := 0x100, count := 4, reset := 1, staged := true },
  { base := 0x38F0, stride := 0x100, count := 4, reset := 0x6400FA, staged := true },
  { base := 0x38F4, stride := 0x100, count := 4, w1c := 0x100 } ]

/-- ADC (R459). -/
def regsAdc : List RegDesc := [
  { base := 0x4000 },
  { base := 0x4004, w1c := 0x1FF },
  { base := 0x4008, w1c := 0xFFFF },
  { base := 0x4100, stride := 0x40, count := 4, rw := 0x1FF },
  { base := 0x4104, stride := 0x40, count := 4, rw := 0xFFF },
  { base := 0x4108, stride := 0x40, count := 4, w1c := 0x300 },
  { base := 0x410C, stride := 0x40, count := 4, rc := 0xFFFF },
  { base := 0x4110, stride := 0x40, count := 4, stride2 := 4, count2 := 6 },
  { base := 0x4200, stride := 0x10, count := 8, rw := 7 },
  { base := 0x4204, stride := 0x10, count := 8, reset := 0x7FFF8000, rw := 0xFFFFFFFF },
  { base := 0x4208, stride := 0x10, count := 8 },
  { base := 0x4300, stride := 4, count := 9 } ]

/-- SDM (R246). -/
def regsSdm : List RegDesc := [
  { base := 0x4800, staged := true },
  { base := 0x4804 },
  { base := 0x4808 },
  { base := 0x4840, stride := 0x20, count := 16, staged := true },
  { base := 0x4844, stride := 0x20, count := 16, staged := true },
  { base := 0x4848, stride := 0x20, count := 16, part := .lo 36 },
  { base := 0x484C, stride := 0x20, count := 16, part := .hi 36 },
  { base := 0x4850, stride := 0x20, count := 16, staged := true },
  { base := 0x4854, stride := 0x20, count := 16, staged := true },
  { base := 0x4858, stride := 0x20, count := 16, w1c := 0x700 } ]

/-- DIO (R472). -/
def regsDio : List RegDesc := [
  { base := 0x5000, w1c := 0x300 },
  { base := 0x5004, staged := true },
  { base := 0x5008 },
  { base := 0x500C, rw := 0xFFFF },
  { base := 0x5010, rw := 0xFFFF },
  { base := 0x5014, w1c := 0xFFFF },
  { base := 0x5018, w1c := 0xFFFF0000 },
  { base := 0x501C },
  { base := 0x5020, rc := 0xFFFFFFFF },
  { base := 0x5100, stride := 4, count := 16, reset := 0x3E80002, staged := true } ]

/-- CAN0 and CAN1 (R488). -/
def regsCan : List RegDesc := [
  { base := 0x5800, stride := 0x400, count := 2, reset := 1, rw := 0x1F },
  { base := 0x5804, stride := 0x400, count := 2, reset := 0x70E3C09, rw := 0x7FFFFFFF },
  { base := 0x5808, stride := 0x400, count := 2, reset := 0x4041201, rw := 0xF0F1F1F },
  { base := 0x580C, stride := 0x400, count := 2, rw := 0x7F01 },
  { base := 0x5810, stride := 0x400, count := 2, reset := 3, w1c := 0x300 },
  { base := 0x5814, stride := 0x400, count := 2 },
  { base := 0x5818, stride := 0x400, count := 2, rc := 0xFFFFFFFF },
  { base := 0x581C, stride := 0x400, count := 2, stride2 := 4, count2 := 2, w1c := 0xFFFFFFFF },
  { base := 0x5824, stride := 0x400, count := 2, stride2 := 4, count2 := 2 },
  { base := 0x582C, stride := 0x400, count := 2, stride2 := 4, count2 := 4, w1c := 0xFFFFFFFF },
  { base := 0x583C, stride := 0x400, count := 2, reset := 0x208, rw := 0x3FF },
  { base := 0x5840, stride := 0x400, count := 2, stride2 := 4, count2 := 2, rw := 0x1FFFFFFF },
  { base := 0x5848, stride := 0x400, count := 2, stride2 := 4, count2 := 2, rw := 0xFFFFFFFF },
  { base := 0x5900, stride := 0x400, count := 2, stride2 := 4, count2 := 64, rw := 0xFFFFFFF },
  { base := 0x5A00, stride := 0x400, count := 2, stride2 := 0x10, count2 := 32, rw := 0x3FFFFFFF },
  { base := 0x5A04, stride := 0x400, count := 2, stride2 := 0x10, count2 := 32, rw := 0x1FFFFFFF },
  { base := 0x5A08, stride := 0x400, count := 2, stride2 := 0x10, count2 := 32, rw := 0x13F } ]

/-- ACQ (R443). -/
def regsAcq : List RegDesc := [
  { base := 0x6000 },
  { base := 0x6004, reset := 0x800 },
  { base := 0x6008 },
  { base := 0x600C },
  { base := 0x6100, stride := 0x20, count := 8, w1c := 0x300 },
  { base := 0x6104, stride := 0x20, count := 8 },
  { base := 0x6108, stride := 0x20, count := 8, rc := 0xFFFFFFFF },
  { base := 0x610C, stride := 0x20, count := 8, rc := 0xFFFFFFFF },
  { base := 0x6110, stride := 0x20, count := 8 } ]

/-- SAF (R426). -/
def regsSaf : List RegDesc := [
  { base := 0x7000 },
  { base := 0x7004 },
  { base := 0x7008 },
  { base := 0x700C, reset := 0xFF000000 },
  { base := 0x7010 },
  { base := 0x7014 },
  { base := 0x7100, stride := 4, count := 32 },
  { base := 0x7180, stride := 4, count := 32 } ]

/-- The block's rows for an offset, by the blocks of R539. -/
def regBlock (off : Nat) : List RegDesc :=
  if off < 0x400 then regsSys
  else if off < 0x800 then regsHif
  else if off < 0xC00 then regsTim
  else if off < 0x1000 then regsPwr
  else if off < 0x1400 then regsSec
  else if off < 0x2000 then regsJnl
  else if off < 0x3000 then regsBbn
  else if off < 0x3800 then regsPwm
  else if off < 0x4000 then regsFbk
  else if off < 0x4800 then regsAdc
  else if off < 0x5000 then regsSdm
  else if off < 0x5800 then regsDio
  else if off < 0x6000 then regsCan
  else if off < 0x7000 then regsAcq
  else if off < 0x8000 then regsSaf
  else []

/-- The register at an offset; none at a reserved address (R18). -/
def regDesc? (off : Nat) : Option RegDesc := (regBlock off).find? (fun d => d.covers off)

/-- What a register holds at reset; zero at a reserved address. -/
def regReset (off : Nat) : Reg32 :=
  match regDesc? off with
  | some d => BitVec.ofNat 32 d.reset
  | none => 0

/-- The held value of the register at `off`. -/
def State.reg (s : State) (off : Nat) : Reg32 := SMap.get (regReset off) s.regs off

/-- The register at `off` holds `v`. -/
def State.setReg (s : State) (off : Nat) (v : Reg32) : State :=
  { s with regs := s.regs.set (regReset off) off v }

/-- Bits `hi:lo` of a word. -/
def bits (v : Reg32) (lo width : Nat) : Nat := v.toNat / 2 ^ lo % 2 ^ width

/-- The signed value of bits `lo + width - 1 : lo`. -/
def sbits (v : Reg32) (lo width : Nat) : Int :=
  if bits v lo width < 2 ^ (width - 1) then bits v lo width else (bits v lo width : Int) - 2 ^ width

/-- `v` with bits `lo + width - 1 : lo` replaced. -/
def putBits (v : Reg32) (lo width x : Nat) : Reg32 :=
  BitVec.ofNat 32 (v.toNat % 2 ^ lo + x % 2 ^ width * 2 ^ lo + v.toNat / 2 ^ (lo + width) * 2 ^ (lo + width))

/-- Field of the register at `off`. -/
def State.fld (s : State) (off lo width : Nat) : Nat := bits (s.reg off) lo width

/-- One bit of the register at `off`. -/
def State.bit (s : State) (off i : Nat) : Bool := decide (s.fld off i 1 = 1)

/-- Write a field of the register at `off`. -/
def State.setFld (s : State) (off lo width x : Nat) : State := s.setReg off (putBits (s.reg off) lo width x)

/-- Set or clear one bit of the register at `off`. -/
def State.setBit (s : State) (off i : Nat) (b : Bool) : State := s.setFld off i 1 (if b then 1 else 0)

/-- Add to a field that counts up and saturates at its maximum. -/
def State.bumpFld (s : State) (off lo width n : Nat) : State :=
  s.setFld off lo width (min (s.fld off lo width + n) (2 ^ width - 1))

/-! ### Offsets that meanings name -/

namespace R

def sysCtl : Nat := 0x00C
def sysBootStat : Nat := 0x010
def sysBootLen : Nat := 0x014
def sysBootCtl : Nat := 0x018
def hifWake : Nat := 0x400
def dbLo : Nat := 0x404
def dbHi : Nat := 0x408
def erLo : Nat := 0x40C
def erHi : Nat := 0x410
def erCfg : Nat := 0x414
def snapLo : Nat := 0x418
def snapHi : Nat := 0x41C
def snapCfg : Nat := 0x420
def hbCfg : Nat := 0x424
def evPend (src : Nat) : Nat := 0x428 + 4 * (src / 32)
def evEn (src : Nat) : Nat := 0x430 + 4 * (src / 32)
def evIrq (src : Nat) : Nat := 0x438 + 4 * (src / 32)
def cqLo (n : Nat) : Nat := 0x440 + 8 * n
def cqHi (n : Nat) : Nat := 0x444 + 8 * n
def cqCfg (n : Nat) : Nat := 0x4C0 + 4 * n
def cqStat (n : Nat) : Nat := 0x500 + 4 * n
def crLo (n : Nat) : Nat := 0x540 + 8 * n
def crHi (n : Nat) : Nat := 0x544 + 8 * n
def crCfg (n : Nat) : Nat := 0x5C0 + 4 * n
def msixCtl (v : Nat) : Nat := 0x60C + 16 * v
def msixPba : Nat := 0x700
def timNow : Nat := 0x800
def timCycle : Nat := 0x80C
def timCfg : Nat := 0x810
def timEpoch : Nat := 0x814
def timEpochCyc : Nat := 0x820
def timIncrLo : Nat := 0x824
def timIncrHi : Nat := 0x828
def timStat : Nat := 0x82C
def timOffset : Nat := 0x830
def timSyncCfg : Nat := 0x834
def timSyncin : Nat := 0x838
def timPtmCtl : Nat := 0x844
def timPtmT72 : Nat := 0x848
def timPtmHost : Nat := 0x854
def byCfg (b : Nat) : Nat := 0x860 + 4 * b
def byWidth (b : Nat) : Nat := 0x880 + 4 * b
def buoyPol : Nat := 0x8A0
def pwrState : Nat := 0xC00
def clkStat : Nat := 0xC04
def pwrPower : Nat := 0xC08
def pwrI (i : Nat) : Nat := 0xC10 + 4 * i
def thmStat : Nat := 0xD00
def thmCfg : Nat := 0xD04
def thmDie : Nat := 0xD08
def thmN (i : Nat) : Nat := 0xD0C + 4 * i
def thmField : Nat := 0xD18
def thmRetain : Nat := 0xD1C
def thmShut : Nat := 0xD20
def secStat : Nat := 0x1000
def secFwVer : Nat := 0x1004
def dbgStat : Nat := 0x1100
def dbgCtl : Nat := 0x1104
def dbgLast : Nat := 0x1108
def jnlStat : Nat := 0x1400
def jnlRate : Nat := 0x1420
def jnlLife : Nat := 0x1424
def jnlReplay : Nat := 0x1428
def bbCfg (n : Nat) : Nat := 0x2000 + 0x100 * n
def bbSerdes (n : Nat) : Nat := 0x2004 + 0x100 * n
def bbStat (n : Nat) : Nat := 0x2008 + 0x100 * n
def bbErr (n : Nat) : Nat := 0x200C + 0x100 * n
def bbDly (n : Nat) : Nat := 0x2010 + 0x100 * n
def bbLen (n : Nat) : Nat := 0x2014 + 0x100 * n
def bbRing (n : Nat) : Nat := 0x2018 + 0x100 * n
def bbMemb (n : Nat) : Nat := 0x201C + 0x100 * n
def bbGcfg : Nat := 0x2400
def bbNodeSel : Nat := 0x2410
def pwmCfg (k : Nat) : Nat := 0x3000 + 0x40 * k
def pwmDt (k : Nat) : Nat := 0x3004 + 0x40 * k
def pwmMinp (k : Nat) : Nat := 0x3008 + 0x40 * k
def pwmMan (k : Nat) : Nat := 0x3014 + 0x40 * k
def pwmStat (k : Nat) : Nat := 0x302C + 0x40 * k
def pwmTripCtl (k : Nat) : Nat := 0x3030 + 0x40 * k
def pwmSupp (k : Nat) : Nat := 0x3034 + 0x40 * k
def chCfg (c : Nat) : Nat := 0x3200 + 0x20 * c
def chTon (c : Nat) : Nat := 0x3204 + 0x20 * c
def chToff (c : Nat) : Nat := 0x3208 + 0x20 * c
def chDuty (c : Nat) : Nat := 0x320C + 0x20 * c
def chCtl (c : Nat) : Nat := 0x3210 + 0x20 * c
def chStat (c : Nat) : Nat := 0x3214 + 0x20 * c
def tripCfg : Nat := 0x3300
def pwmGstat : Nat := 0x3304
def fbCfg (k : Nat) : Nat := 0x3800 + 0x100 * k
def fbLines (k : Nat) : Nat := 0x3804 + 0x100 * k
def fbSsi (k : Nat) : Nat := 0x3808 + 0x100 * k
def fbSsi2 (k : Nat) : Nat := 0x380C + 0x100 * k
def fbSc (k : Nat) : Nat := 0x3810 + 0x100 * k
def fbScOffs (k : Nat) : Nat := 0x3814 + 0x100 * k
def fbScGain (k : Nat) : Nat := 0x3818 + 0x100 * k
def fbEmuCfg (k : Nat) : Nat := 0x381C + 0x100 * k
def fbPos (k : Nat) : Nat := 0x3820 + 0x100 * k
def fbStat (k : Nat) : Nat := 0x382C + 0x100 * k
def fbIllCnt (k : Nat) : Nat := 0x3830 + 0x100 * k
def fbIdxDiff (k : Nat) : Nat := 0x3834 + 0x100 * k
def fbSsiLoop (k : Nat) : Nat := 0x3838 + 0x100 * k
def fbAmp (k : Nat) : Nat := 0x383C + 0x100 * k
def fbLatCtl (k j : Nat) : Nat := 0x3840 + 0x100 * k + 4 * j
def fbLatStat (k : Nat) : Nat := 0x3848 + 0x100 * k
def fbFault (k : Nat) : Nat := 0x384C + 0x100 * k
def fbLatPos (k j : Nat) : Nat := 0x3850 + 0x100 * k + 24 * j
def fbLatT72 (k j : Nat) : Nat := 0x385C + 0x100 * k + 24 * j
def cmpCtl (k j : Nat) : Nat := 0x3880 + 0x100 * k + 0x40 * j
def cmpVal (k j : Nat) : Nat := 0x3884 + 0x100 * k + 0x40 * j
def cmpStep (k j : Nat) : Nat := 0x3890 + 0x100 * k + 0x40 * j
def cmpSkip (k j : Nat) : Nat := 0x389C + 0x100 * k + 0x40 * j
def cmpHits (k j : Nat) : Nat := 0x38A0 + 0x100 * k + 0x40 * j
def cmpStat (k j : Nat) : Nat := 0x38A4 + 0x100 * k + 0x40 * j
def fbEmuN (k : Nat) : Nat := 0x38E8 + 0x100 * k
def fbEmuM (k : Nat) : Nat := 0x38EC + 0x100 * k
def fbEmuStep (k : Nat) : Nat := 0x38F0 + 0x100 * k
def fbEmuStat (k : Nat) : Nat := 0x38F4 + 0x100 * k
def adcStat : Nat := 0x4000
def adcIntFlags : Nat := 0x4004
def adcLimFlags : Nat := 0x4008
def adcCfg (k : Nat) : Nat := 0x4100 + 0x40 * k
def adcInj (k : Nat) : Nat := 0x4104 + 0x40 * k
def adcCkStat (k : Nat) : Nat := 0x4108 + 0x40 * k
def adcDrop (k : Nat) : Nat := 0x410C + 0x40 * k
def adcSin (k : Nat) : Nat := 0x4110 + 0x40 * k
def adcCos (k : Nat) : Nat := 0x4114 + 0x40 * k
def adcInjRes (k j : Nat) : Nat := 0x4118 + 0x40 * k + 4 * j
def auxCfg (a : Nat) : Nat := 0x4200 + 0x10 * a
def auxLim (a : Nat) : Nat := 0x4204 + 0x10 * a
def auxRes (a : Nat) : Nat := 0x4208 + 0x10 * a
def intRes (i : Nat) : Nat := 0x4300 + 4 * i
def sdmClk : Nat := 0x4800
def sdmCfg (c : Nat) : Nat := 0x4840 + 0x20 * c
def sdmOffs (c : Nat) : Nat := 0x4844 + 0x20 * c
def sdmVal (c : Nat) : Nat := 0x4848 + 0x20 * c
def sdmCmp (c : Nat) : Nat := 0x4850 + 0x20 * c
def sdmCmpCfg (c : Nat) : Nat := 0x4854 + 0x20 * c
def sdmStat (c : Nat) : Nat := 0x4858 + 0x20 * c
def dioStat : Nat := 0x5000
def dioGcfg : Nat := 0x5004
def dioIn : Nat := 0x5008
def dioOut : Nat := 0x500C
def dioOutEn : Nat := 0x5010
def dioCos : Nat := 0x5014
def dioFault : Nat := 0x5018
def dioTest : Nat := 0x501C
def dioCnt : Nat := 0x5020
def dioCh (c : Nat) : Nat := 0x5100 + 4 * c
def canCtl (k : Nat) : Nat := 0x5800 + 0x400 * k
def canNbt (k : Nat) : Nat := 0x5804 + 0x400 * k
def canDbt (k : Nat) : Nat := 0x5808 + 0x400 * k
def canTdc (k : Nat) : Nat := 0x580C + 0x400 * k
def canStat (k : Nat) : Nat := 0x5810 + 0x400 * k
def canErr (k : Nat) : Nat := 0x5814 + 0x400 * k
def canCnt (k : Nat) : Nat := 0x5818 + 0x400 * k
def canNdat (k b : Nat) : Nat := 0x581C + 0x400 * k + 4 * (b / 32)
def canTxreq (k b : Nat) : Nat := 0x5824 + 0x400 * k + 4 * (b / 32)
def canTxdone (k b : Nat) : Nat := 0x582C + 0x400 * k + 4 * (b / 32)
def canTxfail (k b : Nat) : Nat := 0x5834 + 0x400 * k + 4 * (b / 32)
def canWakeCfg (k : Nat) : Nat := 0x583C + 0x400 * k
def canWakeId (k : Nat) : Nat := 0x5840 + 0x400 * k
def canWakeIdMask (k : Nat) : Nat := 0x5844 + 0x400 * k
def canWakeData (k : Nat) : Nat := 0x5848 + 0x400 * k
def canBuf (k b : Nat) : Nat := 0x5900 + 0x400 * k + 4 * b
def canFltId (k f : Nat) : Nat := 0x5A00 + 0x400 * k + 0x10 * f
def canFltMask (k f : Nat) : Nat := 0x5A04 + 0x400 * k + 0x10 * f
def canFltCfg (k f : Nat) : Nat := 0x5A08 + 0x400 * k + 0x10 * f
def acqArmErr : Nat := 0x6008
def podStat (p : Nat) : Nat := 0x6100 + 0x20 * p
def podMissed (p : Nat) : Nat := 0x6108 + 0x20 * p
def podLost (p : Nat) : Nat := 0x610C + 0x20 * p
def safXt : Nat := 0x7014
def safAxPdu (s : Nat) : Nat := 0x7180 + 4 * s

end R

end Sys2Proof.Machine
end

