-- ==== Sys2Proof/Machine/Fixed.lean ====
section
/-!
DEFINITION. The number formats of R6 and the arithmetic rules of R8, R78 and R79: rounding to nearest with ties
away from zero, saturation, modular comparison of T72 and cycles (R9, R65), sine, cosine and square root with the
error the spec allows as a free value, and the 16-byte and 8-byte host forms of R10 and R11.
-/

namespace Sys2Proof.Machine

open Sys2Proof

/-- Round to the nearest integer, ties away from zero (R78). -/
def rnd (x : Rat) : Int :=
  if 0 ≤ x then (2 * x.num + x.den) / (2 * x.den) else -((2 * (-x.num) + x.den) / (2 * x.den))

/-- Round toward minus infinity. -/
def rfloor (x : Rat) : Int := x.num / x.den

/-- Bound `x` to `lo … hi`. -/
def clampI (lo hi x : Int) : Int := max lo (min hi x)

/-- Bound `x` to `lo … hi`. -/
def clampR (lo hi x : Rat) : Rat := if x < lo then lo else if hi < x then hi else x

def absR (x : Rat) : Rat := if x < 0 then -x else x

def signR (x : Rat) : Rat := if x < 0 then -1 else if x = 0 then 0 else 1

/-- Saturate at the ends of a signed format of `w` bits (R8). -/
def satBits (w : Nat) (x : Int) : Int := clampI (-(2 ^ (w - 1))) (2 ^ (w - 1) - 1) x

/-- One line, one line/s and so on in LSB of P72, V72, A72 and J72 (R6). -/
def oneP : Int := 2 ^ 32

/-- 1 in LSB of G72 (R6). -/
def oneG : Int := 2 ^ 48

/-- The number a G72 value holds. -/
def gVal (x : Int) : Rat := (x : Rat) / 2 ^ 48

/-- The number a P72, V72, A72 or J72 value holds. -/
def pVal (x : Int) : Rat := (x : Rat) / 2 ^ 32

/-- The share of full scale an H36 value holds. -/
def hVal (x : Int) : Rat := (x : Rat) / 2 ^ 35

/-- Round and saturate to P72, V72, A72 or J72. -/
def toP (x : Rat) : Int := satBits 72 (rnd (x * 2 ^ 32))

/-- Round and saturate to G72. -/
def toG (x : Rat) : Int := satBits 72 (rnd (x * 2 ^ 48))

/-- Round and saturate a share of full scale to H36. -/
def toH (x : Rat) : Int := satBits 36 (rnd (x * 2 ^ 35))

/-- A physical quantity as H36 of full scale `fs`. A full scale of zero is not in range of any PN. -/
def toHfs (fs x : Rat) : Int := toH (x / fs)

/-- The signed value of the low `w` bits. -/
def sext (w : Nat) (n : Nat) : Int :=
  if n % 2 ^ w < 2 ^ (w - 1) then (n % 2 ^ w : Nat) else ((n % 2 ^ w : Nat) : Int) - 2 ^ w

/-- Two's complement of `x` in `w` bits. -/
def tc (w : Nat) (x : Int) : Nat := (x % 2 ^ w).toNat

/-- T72 counts in 2^-16 ns, modulo 2^72. -/
def t72Mod (x : Int) : Nat := (x % 2 ^ 72).toNat

/-- The signed difference `b - a` of two T72 values (R9). -/
def t72Diff (a b : Nat) : Int := sext 72 (t72Mod ((b : Int) - a))

/-- The signed difference `b - a` of two cycle numbers (R65). -/
def cycDiff (a b : Nat) : Int := sext 32 (((b : Int) - a) % 2 ^ 32).toNat

/-- Cycle `a` advanced by `k`. -/
def cycAdd (a k : Nat) : Nat := (a + k) % 2 ^ 32

/-- Reduction of a rotary difference to [-m/2, m/2) (R85, R93). -/
def reduceHalf (m d : Int) : Int :=
  if m ≤ 0 then d else if 2 * (d % m) < m then d % m else d % m - m

/-- Reduction of a rotary position to [0, m) (R94). -/
def reducePos (m p : Int) : Int := if m ≤ 0 then p else p % m

/-! ### Sine, cosine and square root (R79) -/

/-- π in units of 2^-64. -/
def piQ : Int := 57952155664616982739

/-- π as the model holds it. -/
def piR : Rat := (piQ : Rat) / 2 ^ 64

/-- Taylor tail: the sum of `terms` further terms after `term`, whose factorial index is `n`; 2^-64 units. -/
def sinTail (terms : Nat) (n : Nat) (x2 term : Int) : Int :=
  match terms with
  | 0 => 0
  | k + 1 =>
    let t := -(term * x2 / (2 ^ 64 * ((n + 1) * (n + 2))))
    t + sinTail k (n + 2) x2 t

/-- Reduce an angle in 2^-64 rad to [-π, π). -/
def wrapPi (x : Int) : Int := (x + piQ) % (2 * piQ) - piQ

/-- Sine of an angle in 2^-64 rad, in 2^-64. -/
def sinExact (x : Int) : Int := wrapPi x + sinTail 18 1 (wrapPi x * wrapPi x / 2 ^ 64) (wrapPi x)

/-- Cosine of an angle in 2^-64 rad, in 2^-64. -/
def cosExact (x : Int) : Int := 2 ^ 64 + sinTail 18 0 (wrapPi x * wrapPi x / 2 ^ 64) (2 ^ 64)

/-- A multiple of 2^-48 within 2^-33 of `v`, which is in 2^-64: the one that lies `err` from it, as far as the bound lets it. -/
def within33 (v err : Int) : Rat :=
  ((clampI (-((2 ^ 31 - v) / 2 ^ 16)) ((v + 2 ^ 31) / 2 ^ 16) (v / 2 ^ 16 + err) : Int) : Rat) / 2 ^ 48

/-- The sine the engine forms: any value within 2^-33 (R79). -/
def sinE (x : Int) : Rat := within33 (sinExact x) (Config.sinError (x / 2 ^ 16))

/-- The cosine the engine forms: any value within 2^-33 (R79). -/
def cosE (x : Int) : Rat := within33 (cosExact x) (Config.cosError (x / 2 ^ 16))

/-- An H36 angle (FS = π) in 2^-64 rad. -/
def angQ (th : Int) : Int := th * piQ / 2 ^ 35

/-- An angle in rad as H36 with FS = π, placed in [-π, π). -/
def toAng (x : Rat) : Int := (rnd (x / piR * 2 ^ 35) + 2 ^ 35) % 2 ^ 36 - 2 ^ 35

/-- Bits of an integer square root, most significant first. -/
def isqrtGo (k : Nat) (n r : Nat) : Nat :=
  match k with
  | 0 => r
  | k + 1 => if (r + 2 ^ k) * (r + 2 ^ k) ≤ n then isqrtGo k n (r + 2 ^ k) else isqrtGo k n r

/-- Integer square root, rounded down, of a number below 2^256. -/
def isqrt (n : Nat) : Nat := isqrtGo 128 n 0

/-- A square root the engine forms, in LSB, of a radicand in LSB²: any integer within 1 of the root (R79). -/
def sqrtE (x : Rat) : Int :=
  if x ≤ 0 then 0 else
    let n := (rfloor x).toNat
    let r := isqrt n
    let e := clampI (-1) 1 (Config.sqrtError n)
    if e = -1 ∧ ¬(r * r = n ∧ x.den = 1) then r else r + e

/-- A square root to 2^-80, for quantities whose evaluation R79 does not bound (profiles, R142). Log entry 10. -/
def sqrtR (x : Rat) : Rat := if x ≤ 0 then 0 else (isqrt (rfloor (x * 2 ^ 160)).toNat : Rat) / 2 ^ 80

/-- Bits of an integer cube root, most significant first. -/
def icbrtGo (k : Nat) (n r : Nat) : Nat :=
  match k with
  | 0 => r
  | k + 1 => if (r + 2 ^ k) * (r + 2 ^ k) * (r + 2 ^ k) ≤ n then icbrtGo k n (r + 2 ^ k) else icbrtGo k n r

/-- A cube root to 2^-80 (R142). Log entry 10. -/
def cbrtR (x : Rat) : Rat := if x ≤ 0 then 0 else (icbrtGo 128 (rfloor (x * 2 ^ 240)).toNat 0 : Rat) / 2 ^ 80

/-! ### Byte order -/

/-- `n` bytes of a number, least significant first. -/
def leBytes (n x : Nat) : List Byte :=
  match n with
  | 0 => []
  | k + 1 => BitVec.ofNat 8 x :: leBytes k (x / 256)

/-- The number that bytes spell, least significant first. -/
def leNat : List Byte → Nat
  | [] => 0
  | b :: rest => b.toNat + 256 * leNat rest

/-- The 16-byte form of a signed 72-bit value (R10). -/
def bytes72 (x : Int) : List Byte := leBytes 16 (tc 128 (satBits 72 x))

/-- The 16-byte form of a T72 value (R10). -/
def bytesT72 (t : Nat) : List Byte := leBytes 16 (t % 2 ^ 72)

/-- The 8-byte form of an H36 value (R11). -/
def bytesH36 (x : Int) : List Byte := leBytes 8 (tc 64 x)

/-- `n` bytes at byte offset `o` of an image; bytes beyond it read as zero (R346). -/
def field (bs : List Byte) (o n : Nat) : Nat := leNat ((bs.drop o).take n)

/-- A signed 72-bit value at byte offset `o`; the extension is ignored (R12). -/
def field72 (bs : List Byte) (o : Nat) : Int := sext 72 (field bs o 9)

/-- An H36 value at byte offset `o` (R12). -/
def fieldH36 (bs : List Byte) (o : Nat) : Int := sext 36 (field bs o 8)

/-- Replace bytes from offset `o`. -/
def putBytes (bs : List Byte) (o : Nat) (new : List Byte) : List Byte :=
  bs.take o ++ new ++ bs.drop (o + new.length)

/-- Pad or cut to `n` bytes. -/
def fitBytes (n : Nat) (bs : List Byte) : List Byte := bs.take n ++ List.replicate (n - bs.length) 0

/-! ### Check codes -/

/-- One bit step of a reflected CRC. -/
def crcBit (poly c : Nat) : Nat := if c % 2 = 1 then (c / 2) ^^^ poly else c / 2

def crcByte (poly c : Nat) (b : Byte) : Nat :=
  let c := c ^^^ b.toNat
  crcBit poly (crcBit poly (crcBit poly (crcBit poly (crcBit poly (crcBit poly (crcBit poly (crcBit poly c)))))))

/-- CRC-32C of R297: reflected polynomial 0x82F6_3B78, initial value and final complement all ones. -/
def crc32c (bs : List Byte) : Nat := (bs.foldl (crcByte 0x82F63B78) 0xFFFFFFFF) ^^^ 0xFFFFFFFF

/-- One bit of CRC-16-CCITT, polynomial 0x1021, most significant bit first. -/
def crc16Bit (c : Nat) (b : Bool) : Nat :=
  let top := decide (c / 2 ^ 15 % 2 = 1)
  let c2 := c * 2 % 2 ^ 16
  if top != b then c2 ^^^ 0x1021 else c2

/-- CRC-16-CCITT over bits in the order sent, initial value 0xFFFF (R25). -/
def crc16 (bs : List Bool) : Nat := bs.foldl crc16Bit 0xFFFF

end Sys2Proof.Machine
end

