-- ==== Sys2Proof/Machine/Params.lean ====
section
/-!
DEFINITION. The per-axis parameter numbers (R105, R106, R133, R159, R187, R192, R241, R262, R440, R509): number,
kind of value, range, default and class, the read-only numbers, and how a value is stored and judged (R80, R509).
Values are raw codes in the LSB of their format; enumerations, counts and flags count whole units of G72.
-/

namespace Sys2Proof.Machine

open Sys2Proof

/-- Class of a PN (R105). -/
inductive PnClass where
  | s
  | sStar
  | l
  | ro
  deriving DecidableEq, Repr

/-- How a PN's value is judged and stored: `int` and `flags` drop the fraction (R80); `thermal` is clamped (R509). -/
inductive PnKind where
  | int
  | flags
  | g
  | p
  | wholeP
  | thermal
  deriving DecidableEq, Repr

structure PnDesc where
  pn : Nat
  kind : PnKind
  lo : Int
  hi : Int
  dflt : Int
  cls : PnClass
  deriving DecidableEq, Repr

/-- A G72 constant `n / d`. -/
def gq (n : Int) (d : Int := 1) : Int := rnd ((n : Rat) / (d : Rat) * 2 ^ 48)

/-- A whole number of lines, line/s and so on. -/
def pw (n : Int) : Int := n * 2 ^ 32

/-- Loop PNs (R106). -/
def pnsLoop : List PnDesc := [
  ⟨0x0100, .int, 0, 3, 0, .sStar⟩, ⟨0x0101, .int, 0, 1, 0, .sStar⟩, ⟨0x0102, .int, 1, 4, 1, .s⟩,
  ⟨0x0103, .int, 1, 8, 4, .s⟩, ⟨0x0104, .flags, 0, 3, 0, .s⟩, ⟨0x0110, .int, 1, 64, 1, .sStar⟩,
  ⟨0x0111, .wholeP, pw 1, pw (2 ^ 32), pw 1024, .sStar⟩, ⟨0x0112, .p, 0, 0, 0, .sStar⟩,
  ⟨0x0113, .g, 0, gq 1, 0, .l⟩, ⟨0x0114, .g, 0, gq 1, 0, .l⟩, ⟨0x0115, .g, 0, gq 100, 0, .l⟩,
  ⟨0x0116, .g, gq 1 10, gq 2000, gq 10, .sStar⟩, ⟨0x0117, .g, gq 10, gq 1500, gq 800, .sStar⟩,
  ⟨0x0118, .g, 0, 0, 0, .l⟩, ⟨0x0119, .g, 0, 0, 0, .l⟩, ⟨0x011A, .g, 0, gq 10000, 0, .l⟩,
  ⟨0x011B, .g, 0, gq 10000000, 0, .l⟩, ⟨0x011C, .g, 0, gq 3, gq 3 2, .l⟩, ⟨0x011D, .int, 0, 1, 0, .sStar⟩,
  ⟨0x011E, .g, gq 1 2, gq 11547 10000, gq 95 100, .l⟩, ⟨0x011F, .g, gq 1, 0, gq 24, .l⟩ ]

def pnsVel : List PnDesc := [
  ⟨0x0200, .g, 0, gq 1000, 0, .l⟩, ⟨0x0201, .g, 0, gq 10000000, 0, .l⟩, ⟨0x0202, .g, 0, gq 10, 0, .l⟩,
  ⟨0x0203, .p, 0, pw (2 ^ 38), pw 1000000, .l⟩, ⟨0x0204, .g, 0, gq 1 100, 0, .l⟩,
  ⟨0x0210, .flags, 0, 15, 0, .s⟩,
  ⟨0x0211, .g, gq 10, gq 20000, gq 500, .s⟩, ⟨0x0212, .g, gq 1, 0, gq 100, .s⟩, ⟨0x0213, .g, 0, gq 1, 0, .s⟩,
  ⟨0x0214, .g, gq 10, gq 20000, gq 500, .s⟩, ⟨0x0215, .g, gq 1, 0, gq 100, .s⟩, ⟨0x0216, .g, 0, gq 1, 0, .s⟩,
  ⟨0x0217, .g, gq 10, gq 20000, gq 2000, .s⟩, ⟨0x0218, .g, gq 3 10, gq 2, gq 7071 10000, .s⟩ ]
  ++ (List.range 15).map (fun i => ⟨0x0220 + i, .g, gq (-4), gq 4, 0, .s⟩) ++ [
  ⟨0x0300, .g, 0, gq 10000, 0, .l⟩, ⟨0x0301, .g, 0, gq 3 2, gq 1, .l⟩,
  ⟨0x0302, .wholeP, 0, pw (2 ^ 38), 0, .sStar⟩, ⟨0x03F0, .flags, 0, 0, 0, .ro⟩ ]

/-- Supervision PNs (R133). -/
def pnsSupv : List PnDesc := [
  ⟨0x0400, .int, 0, 2, 0, .s⟩, ⟨0x0401, .p, 1, pw (2 ^ 38), pw 1024, .l⟩,
  ⟨0x0402, .p, 1, pw (2 ^ 38), pw 100000, .l⟩, ⟨0x0403, .g, 0, gq 1, gq 1 100, .l⟩,
  ⟨0x0410, .g, 0, gq 10, 0, .l⟩, ⟨0x0411, .g, 0, gq 10, 0, .l⟩, ⟨0x0412, .g, 0, gq 1000000, 0, .l⟩,
  ⟨0x0413, .g, 0, gq 1000, 0, .l⟩, ⟨0x0414, .g, 0, gq 1000, 0, .l⟩, ⟨0x0415, .g, 0, 0, 0, .l⟩,
  ⟨0x0416, .g, 0, gq 1, gq 1 10, .l⟩, ⟨0x0417, .g, 0, gq 1, gq 1 10, .l⟩,
  ⟨0x0418, .p, 1, pw (2 ^ 38), pw 64, .l⟩, ⟨0x0419, .p, 0, pw (2 ^ 38), 0, .l⟩,
  ⟨0x041A, .g, 0, gq 1 10, gq 1 1000, .l⟩ ]
  ++ ([2, 3, 3, 3, 3, 3, 1, 0, 0, 4, 0, 3, 1, 1, 3, 3, 1, 3, 1, 1].zipIdx.map
      (fun d => (⟨0x0420 + d.2, .int, 0, 5, d.1, .l⟩ : PnDesc))) ++ [
  ⟨0x0440, .p, pw 1, pw (2 ^ 38), pw 10000000, .l⟩, ⟨0x0441, .p, pw 1, pw (2 ^ 38), pw 1000000000, .l⟩,
  ⟨0x0442, .g, gq 1 1000, gq 10, gq 1, .l⟩, ⟨0x0443, .g, gq 1 1000, gq 10, gq 1 2, .l⟩,
  ⟨0x0444, .p, 0, pw (2 ^ 38), pw 100, .l⟩, ⟨0x0445, .g, 0, gq 1 10, gq 5 1000, .l⟩,
  ⟨0x0446, .p, 0, pw (2 ^ 38), 0, .l⟩ ]
  ++ (List.range 6).map (fun i => ⟨0x04F0 + i, .flags, 0, 0, 0, .ro⟩)

/-- Profile PNs (R159). -/
def pnsProf : List PnDesc := [
  ⟨0x0500, .p, pw 1, pw (2 ^ 38), pw 100000, .l⟩, ⟨0x0501, .p, pw 1, pw (2 ^ 38), pw 1000000, .l⟩,
  ⟨0x0502, .p, pw 1, pw (2 ^ 38), pw 100000000, .l⟩, ⟨0x0503, .int, 0, 1, 0, .s⟩,
  ⟨0x0504, .int, 0, 1048575, 0, .s⟩, ⟨0x0505, .int, -1, 1048575, -1, .s⟩, ⟨0x0506, .int, -1, 1048575, -1, .s⟩,
  ⟨0x0507, .int, 0, 4096, 8, .l⟩, ⟨0x0508, .g, 0, gq 10000000, 0, .l⟩ ]
  ++ (List.range 5).map (fun i => ⟨0x05F0 + i, .flags, 0, 0, 0, .ro⟩)

/-- Coordination PNs (R187). -/
def pnsCoord : List PnDesc := [
  ⟨0x0600, .int, -1, 15, -1, .s⟩, ⟨0x0610, .int, 0, 7, 1, .l⟩, ⟨0x0611, .int, 0, 1, 0, .l⟩,
  ⟨0x0612, .p, pw 1, 0, pw 10000, .l⟩, ⟨0x0613, .p, pw 1, 0, pw 1000, .l⟩,
  ⟨0x0614, .p, -(pw (2 ^ 38)), pw (2 ^ 38), 0, .l⟩, ⟨0x0615, .p, pw 1, pw (2 ^ 38), pw (2 ^ 38), .l⟩,
  ⟨0x0616, .g, 0, 0, 0, .l⟩, ⟨0x0617, .g, gq 1 1000, gq 1, gq 5 100, .l⟩,
  ⟨0x0618, .p, 0, pw (2 ^ 38), 0, .l⟩, ⟨0x0619, .int, 0, 1, 0, .l⟩, ⟨0x061A, .int, 1, 1024, 4, .l⟩,
  ⟨0x061B, .int, 0, 1, 0, .l⟩,
  ⟨0x0620, .int, -1, 1048591, -1, .s⟩, ⟨0x0621, .int, -1, 1048591, -1, .s⟩, ⟨0x0622, .int, -1, 1048591, -1, .s⟩,
  ⟨0x0623, .flags, 0, 7, 0, .s⟩,
  ⟨0x06F0, .flags, 0, 0, 0, .ro⟩, ⟨0x06F1, .flags, 0, 0, 0, .ro⟩, ⟨0x06F2, .p, 0, 0, 0, .ro⟩,
  ⟨0x0700, .int, -1, 4, -1, .sStar⟩ ]

/-- Power-stage PNs (R241) and DTC_BAND (R262). -/
def pnsPower : List PnDesc := [
  ⟨0x0800, .int, -1, 4, -1, .sStar⟩, ⟨0x0801, .g, gq 1 10, gq 4000, gq 20, .sStar⟩,
  ⟨0x0802, .g, gq 10, gq 3000, gq 1000, .sStar⟩, ⟨0x0803, .int, -1, 3, -1, .sStar⟩,
  ⟨0x0810, .g, 0, 0, gq 700, .l⟩, ⟨0x0811, .g, 0, 0, gq 760, .l⟩, ⟨0x0812, .g, gq 1, gq 200, gq 20, .l⟩,
  ⟨0x0813, .int, 0, 1, 0, .s⟩, ⟨0x0814, .g, 0, 0, gq 680, .s⟩, ⟨0x0815, .g, 0, 0, gq 660, .s⟩,
  ⟨0x0816, .g, gq 1, gq 1000, gq 100, .s⟩, ⟨0x0817, .g, gq 1, gq 100000, gq 200, .s⟩,
  ⟨0x0818, .g, gq 1, gq 1000000, gq 2000, .s⟩, ⟨0x0819, .g, gq 1 10000, gq 1 100, gq 5 10000, .s⟩,
  ⟨0x0820, .int, 0, 3, 0, .s⟩, ⟨0x0821, .g, gq 1 10, 0, gq 1, .l⟩, ⟨0x0822, .p, 0, pw (2 ^ 38), pw 1000, .l⟩,
  ⟨0x0823, .g, gq 10, gq 5000, gq 500, .s⟩, ⟨0x0824, .p, 0, pw (2 ^ 38), pw 2000, .l⟩,
  ⟨0x0825, .g, 0, gq 100, 0, .l⟩, ⟨0x0826, .g, 0, 0, 0, .l⟩,
  ⟨0x0830, .int, -1, 1048591, -1, .s⟩, ⟨0x0831, .g, 0, gq 1, gq 1 10, .l⟩, ⟨0x0832, .g, 0, gq 1, gq 5 100, .l⟩,
  ⟨0x0833, .g, 0, gq 1, gq 1 100, .l⟩, ⟨0x0834, .int, 1, 4096, 32, .l⟩ ]
  ++ (List.range 32).map (fun i => ⟨0x0840 + i, .p, 0, 0, 0, .l⟩) ++ [
  ⟨0x0860, .g, 0, 0, gq 1 5, .l⟩,
  ⟨0x08F0, .flags, 0, 0, 0, .ro⟩, ⟨0x08F1, .g, 0, 0, 0, .ro⟩, ⟨0x08F2, .p, 0, 0, 0, .ro⟩ ]

/-- Trace PNs (R440) and thermal PNs (R509). -/
def pnsTherm : List PnDesc := [
  ⟨0x0900, .flags, 0, 2 ^ 32 - 1, 0, .l⟩, ⟨0x0901, .int, 0, 2047, 0, .l⟩, ⟨0x0902, .int, 0, 9, 1, .l⟩,
  ⟨0x09F0, .flags, 0, 0, 0, .ro⟩,
  ⟨0x0A00, .flags, 0, 3, 0, .l⟩,
  ⟨0x0A01, .thermal, gq 1 1000, gq 100, gq 1 2, .l⟩, ⟨0x0A02, .thermal, gq 1 10, gq 3600, gq 30, .l⟩,
  ⟨0x0A03, .thermal, gq 1 1000, gq 100, gq 1, .l⟩, ⟨0x0A04, .thermal, gq 1, gq 36000, gq 1800, .l⟩,
  ⟨0x0A05, .thermal, gq (-40), gq 100, gq 40, .l⟩, ⟨0x0A06, .thermal, gq (-40), gq 200, gq 20, .l⟩,
  ⟨0x0A07, .thermal, gq 40, gq 200, gq 130, .l⟩, ⟨0x0A08, .thermal, gq 1 2, gq 50, gq 10, .l⟩,
  ⟨0x0A10, .thermal, 0, gq 1, gq 1 100, .l⟩, ⟨0x0A11, .thermal, 0, gq 1, gq 1 1000, .l⟩,
  ⟨0x0A12, .thermal, gq 1, 0, gq 600, .l⟩, ⟨0x0A13, .thermal, gq 1 10, 0, gq 10, .l⟩,
  ⟨0x0A14, .thermal, gq 1 100, gq 100, gq 1 2, .l⟩, ⟨0x0A15, .thermal, gq 1 100, gq 600, gq 2, .l⟩,
  ⟨0x0A16, .thermal, gq (-40), gq 100, gq 45, .l⟩, ⟨0x0A17, .thermal, gq 40, gq 175, gq 125, .l⟩,
  ⟨0x0A18, .thermal, gq 1 2, gq 50, gq 10, .l⟩,
  ⟨0x0AF0, .g, 0, 0, 0, .ro⟩, ⟨0x0AF1, .g, 0, 0, 0, .ro⟩, ⟨0x0AF2, .g, 0, 0, 0, .ro⟩,
  ⟨0x0AF3, .flags, 0, 0, 0, .ro⟩ ]

/-- The table part a number lies in. -/
def pnBlock (pn : Nat) : List PnDesc :=
  if pn < 0x0200 then pnsLoop
  else if pn < 0x0400 then pnsVel
  else if pn < 0x0500 then pnsSupv
  else if pn < 0x0600 then pnsProf
  else if pn < 0x0800 then pnsCoord
  else if pn < 0x0900 then pnsPower
  else pnsTherm

/-- The description of a PN; none where no PN has the number. -/
def pnDesc? (pn : Nat) : Option PnDesc := (pnBlock pn).find? (fun d => decide (d.pn = pn))

/-- Default of a PN as a raw code: whole units of G72 for enumerations, counts and flags (R80). -/
def pnDefault (pn : Nat) : Int :=
  match pnDesc? pn with
  | some d =>
    match d.kind with
    | .int => d.dflt * 2 ^ 48
    | .flags => d.dflt * 2 ^ 48
    | _ => d.dflt
  | none => 0

/-- Raw code of a PN on an axis. -/
def Axis.raw (x : Axis) (pn : Nat) : Int := SMap.get (pnDefault pn) x.pn pn

/-- Integer value of an enumeration, count or flag set. -/
def Axis.int (x : Axis) (pn : Nat) : Int := x.raw pn / 2 ^ 48

/-- Value of a G72 PN. -/
def Axis.g (x : Axis) (pn : Nat) : Rat := gVal (x.raw pn)

/-- Value of a P72, V72, A72 or J72 PN in lines, line/s and so on. -/
def Axis.ln (x : Axis) (pn : Nat) : Rat := pVal (x.raw pn)

/-- Bit `i` of a flag PN. -/
def Axis.flag (x : Axis) (pn i : Nat) : Bool := decide (x.int pn / 2 ^ i % 2 = 1)

/-- Write a raw code to a PN. -/
def Axis.setPn (x : Axis) (pn : Nat) (v : Int) : Axis := { x with pn := x.pn.set (pnDefault pn) pn v }

/-! ### PN numbers that meanings name -/

namespace Pn

def ctrlMode : Nat := 0x0100
def closure : Nat := 0x0101
def nv : Nat := 0x0102
def np : Nat := 0x0103
def interp : Nat := 0x0104
def polePairs : Nat := 0x0110
def lRev : Nat := 0x0111
def pComm : Nat := 0x0112
def lD : Nat := 0x0113
def lQ : Nat := 0x0114
def psiPm : Nat := 0x0115
def iFs : Nat := 0x0116
def uFs : Nat := 0x0117
def iMax : Nat := 0x0118
def idRef : Nat := 0x0119
def kpI : Nat := 0x011A
def kiI : Nat := 0x011B
def tAdv : Nat := 0x011C
def overmod : Nat := 0x011D
def modLimit : Nat := 0x011E
def udcMin : Nat := 0x011F
def kpV : Nat := 0x0200
def kiV : Nat := 0x0201
def kaff : Nat := 0x0202
def vMax : Nat := 0x0203
def tfVest : Nat := 0x0204
def filtMode : Nat := 0x0210
def n1F : Nat := 0x0211
def n2F : Nat := 0x0214
def lpfF : Nat := 0x0217
def lpfZeta : Nat := 0x0218
def n1B0 : Nat := 0x0220
def n2B0 : Nat := 0x0225
def lpfB0 : Nat := 0x022A
def kpP : Nat := 0x0300
def kvff : Nat := 0x0301
def modulo : Nat := 0x0302
def loopStatus : Nat := 0x03F0
def supvMode : Nat := 0x0400
def feLim : Nat := 0x0401
def fevLim : Nat := 0x0402
def feTime : Nat := 0x0403
def mM : Nat := 0x0410
def mL : Nat := 0x0411
def kS : Nat := 0x0412
def dS : Nat := 0x0413
def bF : Nat := 0x0414
def fC : Nat := 0x0415
def modelLp : Nat := 0x0416
def modelLv : Nat := 0x0417
def modelLim : Nat := 0x0418
def modelVlim : Nat := 0x0419
def modelTime : Nat := 0x041A
def fr : Nat := 0x0420
def qsDec : Nat := 0x0440
def qsJerk : Nat := 0x0441
def qsTmax : Nat := 0x0442
def tsTmax : Nat := 0x0443
def stillV : Nat := 0x0444
def stillTime : Nat := 0x0445
def ascSpeed : Nat := 0x0446
def profV : Nat := 0x0500
def profA : Nat := 0x0501
def profJ : Nat := 0x0502
def profSrc : Nat := 0x0503
def streamSig : Nat := 0x0504
def streamVsig : Nat := 0x0505
def streamSeqSig : Nat := 0x0506
def streamTmo : Nat := 0x0507
def curSlew : Nat := 0x0508
def group : Nat := 0x0600
def homeMethod : Nat := 0x0610
def homeDir : Nat := 0x0611
def homeVFast : Nat := 0x0612
def homeVSlow : Nat := 0x0613
def homePos : Nat := 0x0614
def homeMaxdist : Nat := 0x0615
def homeIlim : Nat := 0x0616
def homeStallTime : Nat := 0x0617
def homeBackoff : Nat := 0x0618
def homeGoto : Nat := 0x0619
def homeConfirm : Nat := 0x061A
def homeReq : Nat := 0x061B
def limPosSrc : Nat := 0x0620
def limNegSrc : Nat := 0x0621
def homeSrc : Nat := 0x0622
def swPol : Nat := 0x0623
def fbSrc : Nat := 0x0700
def powerPort : Nat := 0x0800
def isensFs : Nat := 0x0801
def usensFs : Nat := 0x0802
def udcPort : Nat := 0x0803
def ovWarn : Nat := 0x0810
def ovTrip : Nat := 0x0811
def regenBand : Nat := 0x0812
def chopEn : Nat := 0x0813
def chopOn : Nat := 0x0814
def chopOff : Nat := 0x0815
def chopR : Nat := 0x0816
def chopP : Nat := 0x0817
def chopE : Nat := 0x0818
def chopDet : Nat := 0x0819
def flyMode : Nat := 0x0820
def flyImax : Nat := 0x0821
def flyVmin : Nat := 0x0822
def obsBw : Nat := 0x0823
def obsVmin : Nat := 0x0824
def rS : Nat := 0x0825
def startI : Nat := 0x0826
def curveSrc : Nat := 0x0830
def curveOn : Nat := 0x0831
def curveOff : Nat := 0x0832
def curveTf : Nat := 0x0833
def curveHold : Nat := 0x0834
def curveV0 : Nat := 0x0840
def dtcBand : Nat := 0x0860
def traceMask : Nat := 0x0900
def tracePost : Nat := 0x0901
def traceTrig : Nat := 0x0902
def tmEn : Nat := 0x0A00
def motRth1 : Nat := 0x0A01
def motTau1 : Nat := 0x0A02
def motRth2 : Nat := 0x0A03
def motTau2 : Nat := 0x0A04
def motTAmb : Nat := 0x0A05
def motRTemp : Nat := 0x0A06
def motLim : Nat := 0x0A07
def motRate : Nat := 0x0A08
def stgRon : Nat := 0x0A10
def stgEsw : Nat := 0x0A11
def stgURef : Nat := 0x0A12
def stgIRef : Nat := 0x0A13
def stgRth : Nat := 0x0A14
def stgTau : Nat := 0x0A15
def stgTAmb : Nat := 0x0A16
def stgLim : Nat := 0x0A17
def stgRate : Nat := 0x0A18

end Pn

/-! ### Ranges and storage -/

/-- Upper end of a range that another PN of the axis sets; `get` reads the value the check uses. PROF_V against
V_MAX is rule 1 of R158, so its range here has no upper end of its own. -/
def pnUpper (get : Nat → Int) (d : PnDesc) : Int :=
  if d.pn = Pn.pComm then get Pn.lRev - 1
  else if d.pn = Pn.iMax ∨ d.pn = Pn.fC ∨ d.pn = Pn.flyImax ∨ d.pn = Pn.stgIRef ∨ d.pn = Pn.dtcBand then get Pn.iFs
  else if d.pn = Pn.udcMin ∨ d.pn = Pn.ovWarn ∨ d.pn = Pn.ovTrip ∨ d.pn = Pn.chopOn ∨ d.pn = Pn.chopOff ∨
      d.pn = Pn.stgURef then get Pn.uFs
  else if d.pn = 0x0212 then get Pn.n1F
  else if d.pn = 0x0215 then get Pn.n2F
  else if d.pn = Pn.modLimit then (if get Pn.overmod / 2 ^ 48 = 1 then d.hi else gq 1)
  else if d.pn = Pn.homeVFast then get Pn.profV
  else if d.pn = Pn.homeVSlow then get Pn.homeVFast
  else if d.pn = Pn.homePos then (if get Pn.modulo = 0 then d.hi else get Pn.modulo - 1)
  else if d.pn = Pn.homeIlim ∨ d.pn = Pn.startI then get Pn.iMax
  else if Pn.curveV0 ≤ d.pn ∧ d.pn < Pn.curveV0 + 32 then get Pn.vMax
  else if d.pn = Pn.profV then 2 ^ 71 - 1
  else if d.pn = Pn.tracePost then
    (let k := ((List.range 32).filter (fun i => decide (get Pn.traceMask / 2 ^ 48 / 2 ^ i % 2 = 1))).length
     if k = 0 then 0 else ((2048 / k : Nat) : Int) - 1)
  else d.hi

/-- Lower end of a range that another PN of the axis sets. -/
def pnLower (get : Nat → Int) (d : PnDesc) : Int :=
  if d.pn = Pn.idRef then -(get Pn.iMax)
  else if d.pn = Pn.ovWarn ∨ d.pn = Pn.ovTrip ∨ d.pn = Pn.chopOn ∨ d.pn = Pn.chopOff then get Pn.udcMin
  else if d.pn = Pn.obsVmin then get Pn.flyVmin
  else if d.pn = Pn.homePos then (if get Pn.modulo = 0 then d.lo else 0)
  else if Pn.curveV0 ≤ d.pn ∧ d.pn < Pn.curveV0 + 32 then -(get Pn.vMax)
  else d.lo

/-- A value lies in the range and among the listed values of its PN (R107 rule 1, R370 item 4). Thermal PNs are
clamped, not judged. -/
def pnInRange (get : Nat → Int) (d : PnDesc) (v : Int) : Bool :=
  match d.kind with
  | .thermal => true
  | .int =>
    let i := v / 2 ^ 48
    decide (pnLower get d ≤ i) && decide (i ≤ pnUpper get d) &&
      (if d.pn = Pn.nv then i != 3
       else if d.pn = Pn.np then i == 1 || i == 2 || i == 4 || i == 8
       else if d.pn = Pn.curveSrc then !(decide (12 ≤ i) && decide (i ≤ 15))
       else true)
  | .flags => decide (d.pn = Pn.tmEn) || decide (0 ≤ v / 2 ^ 48) && decide (v / 2 ^ 48 ≤ pnUpper get d)
  | .wholeP => decide (pnLower get d ≤ v) && decide (v ≤ pnUpper get d) && decide (v % 2 ^ 32 = 0)
  | _ => decide (pnLower get d ≤ v) && decide (v ≤ pnUpper get d)

/-- What a write stores: the fraction of an enumeration, count or flag set is dropped (R80), a thermal value is
clamped into its range (R509). -/
def pnStore (get : Nat → Int) (d : PnDesc) (v : Int) : Int :=
  match d.kind with
  | .int => v / 2 ^ 48 * 2 ^ 48
  | .flags => if d.pn = Pn.tmEn then v / 2 ^ 48 % 4 * 2 ^ 48 else v / 2 ^ 48 * 2 ^ 48
  | .thermal => clampI (pnLower get d) (pnUpper get d) v
  | _ => v

/-- The axis with a PN written as R80 and R509 say. -/
def Axis.write (x : Axis) (pn : Nat) (v : Int) : Axis :=
  match pnDesc? pn with
  | some d => x.setPn pn (pnStore x.raw d v)
  | none => x

end Sys2Proof.Machine
end

