-- ==== Sys2Proof/Machine/Profile.lean ====
section
/-!
DEFINITION. Jerk-limited profiles as functions of time (R141 to R144): the rest-to-rest durations of R142, the
transition, cruise and stop of R144, and the value of a profile at an instant. Distances are in lines, times in
seconds, exact but for square and cube roots. Nothing here reads or writes `State`.
-/

namespace Sys2Proof.Machine

open Sys2Proof

/-- Position, velocity and acceleration. -/
structure Kin where
  x : Rat
  v : Rat
  a : Rat
  deriving DecidableEq, Repr

/-- The state at time `t` into a segment of jerk `j` (R141). -/
def Kin.after (k : Kin) (j t : Rat) : Kin :=
  { x := k.x + k.v * t + k.a * t ^ 2 / 2 + j * t ^ 3 / 6, v := k.v + k.a * t + j * t ^ 2 / 2, a := k.a + j * t }

/-- The state at time `t` of a profile that starts at `k`; past its end it stays at its end point. -/
def runSegs (k : Kin) : List Seg → Rat → Kin
  | [], _ => k
  | g :: rest, t => if t < g.dur then k.after g.jerk t else runSegs (k.after g.jerk g.dur) rest (t - g.dur)

/-- Duration of a profile. -/
def segsDur : List Seg → Rat
  | [] => 0
  | g :: rest => g.dur + segsDur rest

/-- The end point of a profile. -/
def endKin (k : Kin) : List Seg → Kin
  | [] => k
  | g :: rest => endKin (k.after g.jerk g.dur) rest

/-- Opposite direction of travel. -/
def flipSegs (gs : List Seg) : List Seg := gs.map (fun g => { g with jerk := -g.jerk })

/-- Jerk time and constant-acceleration time for a change of speed `v` from rest (R142, first two cases). -/
def rampTimes (v a j : Rat) : Rat × Rat := if a * a ≤ v * j then (a / j, v / a - a / j) else (sqrtR (v / j), 0)

/-- Segments 5 to 7 of R141 from cruise speed `v`. -/
def stopSegs (v a j : Rat) : List Seg :=
  let (tj, tc) := rampTimes v a j
  [⟨-j, tj⟩, ⟨0, tc⟩, ⟨j, tj⟩]

/-- The seven segments for given T_j, T_c and T_v (R141). -/
def sevenSegs (j tj tc tv : Rat) : List Seg := [⟨j, tj⟩, ⟨0, tc⟩, ⟨-j, tj⟩, ⟨0, tv⟩, ⟨-j, tj⟩, ⟨0, tc⟩, ⟨j, tj⟩]

/-- A move from rest to rest over `d ≥ 0` in the direction of travel (R142). -/
def restSegs (d v a j : Rat) : List Seg :=
  if d ≤ 0 then []
  else if a * a ≤ v * j ∧ v * (v / a + a / j) ≤ d then
    sevenSegs j (a / j) (v / a - a / j) (d / v - (v / a + a / j))
  else if v * j < a * a ∧ 4 * v ^ 3 ≤ d ^ 2 * j then
    sevenSegs j (sqrtR (v / j)) 0 (max 0 (d / v - 2 * sqrtR (v / j)))
  else if 2 * a ^ 3 ≤ d * j ^ 2 then
    let vp := a / 2 * (sqrtR (a ^ 2 / j ^ 2 + 4 * d / a) - a / j)
    if v < vp then sevenSegs j (sqrtR (v / j)) 0 (max 0 (d / v - 2 * sqrtR (v / j)))
    else sevenSegs j (a / j) (max 0 (vp / a - a / j)) 0
  else
    let vp := cbrtR (d ^ 2 * j / 4)
    if v < vp then sevenSegs j (sqrtR (v / j)) 0 (max 0 (d / v - 2 * sqrtR (v / j)))
    else sevenSegs j (sqrtR (vp / j)) 0 0

/-- Rise to `vc` from `(v0, a0)` where `vc` lies at or above the speed reached by bringing the acceleration to
zero (R144 part 1). -/
def riseSegs (v0 a0 vc a j : Rat) : List Seg :=
  if a < a0 then
    [⟨-j, (a0 - a) / j⟩, ⟨0, max 0 ((vc - v0 - (a0 ^ 2 - a ^ 2) / (2 * j) - a ^ 2 / (2 * j)) / a)⟩, ⟨-j, a / j⟩]
  else
    let peak2 := j * (vc - v0) + a0 ^ 2 / 2
    if a ^ 2 < peak2 then
      [⟨j, (a - a0) / j⟩, ⟨0, (vc - v0 - (a ^ 2 - a0 ^ 2) / (2 * j) - a ^ 2 / (2 * j)) / a⟩, ⟨-j, a / j⟩]
    else
      let p := sqrtR peak2
      [⟨j, max 0 ((p - a0) / j)⟩, ⟨-j, p / j⟩]

/-- The transition from `(v0, a0)` to speed `vc` at zero acceleration (R144 part 1). -/
def transSegs (v0 a0 vc a j : Rat) : List Seg :=
  if v0 + a0 * absR a0 / (2 * j) ≤ vc then riseSegs v0 a0 vc a j else flipSegs (riseSegs (-v0) (-a0) (-vc) a j)

/-- Transition and stop for cruise speed `vc ≥ 0`, without a cruise. -/
def transStop (v0 a0 vc a j : Rat) : List Seg := transSegs v0 a0 vc a j ++ stopSegs vc a j

/-- Distance that a profile from `(v0, a0)` covers. -/
def segsDist (v0 a0 : Rat) (gs : List Seg) : Rat := (endKin ⟨0, v0, a0⟩ gs).x

/-- Highest speed, in LSB of V72 within `lo … hi`, whose transition and stop do not pass distance `d` (R144).
`lo` is known to be good. -/
def bisectGo (fuel : Nat) (v0 a0 a j d : Rat) (lo hi : Int) : Int :=
  match fuel with
  | 0 => lo
  | k + 1 =>
    if hi ≤ lo then lo
    else
      let mid := (lo + hi + 1) / 2
      if segsDist v0 a0 (transStop v0 a0 (pVal mid) a j) ≤ d then bisectGo k v0 a0 a j d mid hi
      else bisectGo k v0 a0 a j d lo (mid - 1)

/-- Even at the jerk `j` the deceleration `a0` takes the speed `v0 ≥ 0` below zero before it ends. -/
def mustReverse (v0 a0 j : Rat) : Bool := decide (a0 < 0) && decide (2 * j * v0 < a0 ^ 2)

/-- A plan to a target at distance `d ≥ 0` in the direction of travel, from a moving state (R144); none where even a
stop passes the target, or every plan would reverse the direction of travel. -/
def targetSegs (v0 a0 d : Rat) (vLim : Int) (a j : Rat) : Option (List Seg) :=
  if mustReverse v0 a0 j then none
  else if segsDist v0 a0 (transStop v0 a0 0 a j) ≤ d then
    let vc := bisectGo 80 v0 a0 a j d 0 vLim
    let gs := transSegs v0 a0 (pVal vc) a j
    let left := d - segsDist v0 a0 (transStop v0 a0 (pVal vc) a j)
    some (gs ++ [⟨0, if vc ≤ 0 then 0 else left / pVal vc⟩] ++ stopSegs (pVal vc) a j)
  else none

/-- Sign of the direction of travel: of the speed, else of the acceleration. -/
def travelSign (v0 a0 : Rat) : Rat := if v0 < 0 ∨ (v0 = 0 ∧ a0 < 0) then -1 else 1

/-- A stop without target from any state (R144, R150). -/
def haltSegs (v0 a0 a j : Rat) : List Seg := transSegs v0 a0 0 a j

/-- Seconds between two T72 instants; negative where `b` lies before `a`. -/
def secs (a b : Nat) : Rat := (t72Diff a b : Rat) / (2 ^ 16 * 1000000000)

/-- State of a plan at T72 instant `t`. -/
def Plan.at (p : Plan) (t : Nat) : Kin := runSegs ⟨p.x0, p.v0, p.a0⟩ p.segs (max 0 (secs p.t0 t))

/-- The plan's end lies at or before `t` (R143). -/
def Plan.ended (p : Plan) (t : Nat) : Bool := decide (segsDur p.segs ≤ secs p.t0 t)

/-- The end point of a plan: its target exactly, else the last point of its segments. -/
def Plan.endPos (p : Plan) : Int :=
  match p.target with
  | some x => x
  | none => toP (endKin ⟨p.x0, p.v0, p.a0⟩ p.segs).x

/-- A rest-to-rest plan from `x0` to `x1` (R142, R143). -/
def planRest (t0 : Nat) (x0 x1 : Int) (v a j : Rat) : Plan :=
  let d := pVal (x1 - x0)
  { t0 := t0, x0 := pVal x0, v0 := 0, a0 := 0,
    segs := if 0 ≤ d then restSegs d v a j else flipSegs (restSegs (-d) v a j),
    target := some x1, lv := v, la := a, lj := j }

/-- A plan to target `x1` from a moving state (R144); none where the target would be passed. -/
def planTarget (t0 : Nat) (k : Kin) (x1 : Int) (v a j : Rat) : Option Plan :=
  if k.v = 0 ∧ k.a = 0 then some (planRest t0 (toP k.x) x1 v a j)
  else
    let s := travelSign k.v k.a
    match targetSegs (s * k.v) (s * k.a) (s * (pVal x1 - k.x)) (toP v) a j with
    | some gs => some { t0 := t0, x0 := k.x, v0 := k.v, a0 := k.a, segs := if s < 0 then flipSegs gs else gs,
                        target := some x1, lv := v, la := a, lj := j }
    | none => none

/-- A transition to speed `vc` without target (R144, R154): the time-optimal path. Where its jerk cannot end the present
deceleration before the speed is zero, the speed passes through zero and returns: R144 gives a plan without target no other path
(DESIGN CHOICE, log entry 163). -/
def planSpeed (t0 : Nat) (k : Kin) (vc a j : Rat) : Plan :=
  { t0 := t0, x0 := k.x, v0 := k.v, a0 := k.a, segs := transSegs k.v k.a vc a j, lv := absR vc, la := a, lj := j }

end Sys2Proof.Machine
end

