-- ==== Sys2Proof/Machine/Ops.lean ====
section
/-!
DEFINITION. The named operations every meaning uses: the parts of `State` by number, time and cycles (R65, R81),
power state (R490), events (R358), host memory (R340), the journal's admission and slots (R378, R382), handles
(R348), and the records of a command from acceptance to its FINAL (R349 to R351).
-/

namespace Sys2Proof.Machine

open Sys2Proof

/-! ### Parts of the state -/

def State.axis (s : State) (a : Nat) : Axis := SMap.get {} s.axes a
def State.setAxis (s : State) (a : Nat) (x : Axis) : State := { s with axes := s.axes.set {} a x }
def State.modAxis (s : State) (a : Nat) (f : Axis → Axis) : State := s.setAxis a (f (s.axis a))

def State.group (s : State) (g : Nat) : Group := SMap.get {} s.groups g
def State.setGroup (s : State) (g : Nat) (x : Group) : State := { s with groups := s.groups.set {} g x }

def State.fbp (s : State) (k : Nat) : FbPort := SMap.get {} s.fb k
def State.setFbp (s : State) (k : Nat) (x : FbPort) : State := { s with fb := s.fb.set {} k x }

def State.pwmp (s : State) (k : Nat) : PwmPort := SMap.get {} s.pwm k
def State.setPwmp (s : State) (k : Nat) (x : PwmPort) : State := { s with pwm := s.pwm.set {} k x }

def State.sdmc (s : State) (c : Nat) : SdmCh := SMap.get {} s.sdm c
def State.setSdmc (s : State) (c : Nat) (x : SdmCh) : State := { s with sdm := s.sdm.set {} c x }

def State.chopper (s : State) (c : Nat) : Chopper := SMap.get {} s.chop c
def State.setChopper (s : State) (c : Nat) (x : Chopper) : State := { s with chop := s.chop.set {} c x }

def State.adcv (s : State) (k : Nat) : Adc := SMap.get {} s.adc k
def State.setAdcv (s : State) (k : Nat) (x : Adc) : State := { s with adc := s.adc.set {} k x }

def State.canc (s : State) (k : Nat) : Can := SMap.get {} s.can k
def State.setCanc (s : State) (k : Nat) (x : Can) : State := { s with can := s.can.set {} k x }

def State.pod (s : State) (p : Nat) : Option Pod := SMap.get none s.pods p
def State.setPod (s : State) (p : Nat) (x : Option Pod) : State := { s with pods := s.pods.set none p x }

def State.ring (s : State) (n : Nat) : Ring := SMap.get {} s.host.rings n
def State.setRing (s : State) (n : Nat) (x : Ring) : State :=
  { s with host := { s.host with rings := s.host.rings.set {} n x } }

def State.noderec (s : State) (n : Nat) : NodeRec := SMap.get {} s.bb.nodes n
def State.setNoderec (s : State) (n : Nat) (x : NodeRec) : State :=
  { s with bb := { s.bb with nodes := s.bb.nodes.set {} n x } }

def State.lane (s : State) (n : Nat) : Lane := s.bb.lanes.getD n {}
def State.setLane (s : State) (n : Nat) (x : Lane) : State := { s with bb := { s.bb with lanes := s.bb.lanes.set n x } }

/-- Licensed axes of the grade (R2). -/
def State.axisCount (s : State) : Nat := 32 * 2 ^ s.grade

/-- An axis number usable in the grade (R3). -/
def State.usable (s : State) (a : Nat) : Bool := decide (a < s.axisCount)

/-- Axis numbers of the grade. -/
def State.axisNos (s : State) : List Nat := List.range s.axisCount

/-- An axis is in use while its POWER_PORT is not -1 (R371). -/
def Axis.inUse (x : Axis) : Bool := decide (x.int Pn.powerPort ≠ -1)

/-- The local power port of an axis, if its POWER_PORT names one. -/
def Axis.localPort (x : Axis) : Option Nat :=
  if 0 ≤ x.int Pn.powerPort ∧ x.int Pn.powerPort ≤ 3 then some (x.int Pn.powerPort).toNat else none

/-- Whether the axis runs on a remote node (POWER_PORT 4, R241). -/
def Axis.remote (x : Axis) : Bool := decide (x.int Pn.powerPort = 4)

/-- Split closure in force (R102). -/
def Axis.split (x : Axis) : Bool := decide (x.int Pn.closure = 1) && x.remote

/-- The axis whose POWER_PORT names local port `k`. -/
def State.portAxis (s : State) (k : Nat) : Option Nat :=
  s.axisNos.find? (fun a => decide ((s.axis a).localPort = some k))

/-- The axis whose FB_SRC names local port `k`: the one in use, which R193 makes the only one, else the lowest. -/
def State.fbAxis (s : State) (k : Nat) : Option Nat :=
  let named := s.axisNos.filter (fun a => decide ((s.axis a).int Pn.fbSrc = (k : Int)))
  match named.find? (fun a => (s.axis a).inUse) with
  | some a => some a
  | none => named.head?

/-- Loop engine of an axis, the default of R32 unless assigned. -/
def State.loopEngine (s : State) (a : Nat) : Nat :=
  (SMap.get (a / 32 % 4, a / 64 % 2) s.stage.inForce.assign a).1

/-- Profile engine of an axis (R32). -/
def State.profEngine (s : State) (a : Nat) : Nat :=
  (SMap.get (a / 32 % 4, a / 64 % 2) s.stage.inForce.assign a).2

/-! ### Time -/

def State.rung (s : State) : Nat := s.stage.inForce.rung

/-- T_cyc of a rung in ns (R55). -/
def tcycNs (rung : Nat) : Nat := 15625 * 2 ^ rung

/-- T_cyc in seconds. -/
def tcycS (rung : Nat) : Rat := (tcycNs rung : Rat) / 1000000000

/-- T_cyc in T72 LSB. -/
def tcycT (rung : Nat) : Nat := tcycNs rung * 2 ^ 16

/-- Present T72 (R64). -/
def State.now (s : State) : Nat := s.time / 2 ^ 16 % 2 ^ 72

/-- Cycles from `n_E` to cycle `n`: those counted to the anchor, and the signed distance from there, which never comes near the
wrap of the counter (R65). -/
def State.sinceE (s : State) (n : Nat) : Int := s.bb.elapsed + cycDiff s.bb.anchor n

/-- T72 of φ0 of cycle `n` (R65). -/
def State.phi0 (s : State) (n : Nat) : Nat := t72Mod ((s.epoch : Int) + s.sinceE n * tcycT s.rung)

/-- The count of cycles since `n_E` is carried on to cycle `n`. -/
def Backbone.anchorAt (b : Backbone) (n : Nat) : Backbone :=
  { b with elapsed := b.elapsed + cycDiff b.anchor n, anchor := n }

/-- The cycle that the next φ0 begins: the cycle after this one, or cycle 0 itself at the end of the contention window (R277). -/
def State.nextCycle (s : State) : Nat := if s.bb.firstPhi0 then s.cycle else cycAdd s.cycle 1

/-- What is done at φ0 of cycle `c` before CYCLE_PHI0 counts: it bears the time and the number of cycle `c`. -/
def State.atPhi0 (s : State) (c : Nat) (f : State → State) : State :=
  { f { s with cycle := c, time := s.phi0 c * 2 ^ 16 } with cycle := s.cycle, time := s.time }

/-- T72 of φ0 of the present cycle. -/
def State.phi0Now (s : State) : Nat := s.phi0 s.cycle

/-- Instants of the phase plan in ns after φ0 (R58): gather back, scatter, last node. -/
def gatherBackNs (rung : Nat) : Nat := [6125, 10000, 20000, 40000, 60000].getD rung 0
def scatterNs (rung : Nat) : Nat := [12875, 23500, 33500, 53500, 73500].getD rung 0
def lastNodeNs (rung : Nat) : Nat := [15000, 28000, 50000, 100000, 200000].getD rung 0

/-! ### Power state -/

inductive Power.Mode where
  | run
  | idle
  | standby
  | notUp
  deriving DecidableEq, Repr

/-- The power state of a VLN that has come up, by PWR_STATE.STATE (R490, R512). -/
def State.mode (s : State) : Power.Mode :=
  if s.pw.boot ≠ .up then .notUp
  else if s.fld R.pwrState 0 2 = 0 then .run
  else if s.fld R.pwrState 0 2 = 1 then .idle
  else .standby

def State.isRun (s : State) : Bool := decide (s.mode = .run)
def State.isIdle (s : State) : Bool := decide (s.mode = .idle)

/-- Run or Idle: engines run. -/
def State.live (s : State) : Bool := s.isRun || s.isIdle

/-- BAR0 takes writes beside those of SYS, HIF_WAKE and DBG_CTL: in Run or Idle, and not in RETIRED (R344, R540). -/
def State.writable (s : State) : Bool := s.live && decide (s.sec.lcs ≠ 3)

/-! ### Engines and the MRAM (R34, R41, R50, R522) -/

/-- Engine `e` runs: neither stopped by a fault nor halted by debug (R38, R522). -/
def State.engineRuns (s : State) (e : Nat) : Bool := !s.fab.stopped.getLsbD e && !s.sec.halted.getLsbD e

/-- The network engine of lane `n` runs, or NE1 does its work (R34, R522). -/
def State.laneServed (s : State) (n : Nat) : Bool := s.engineRuns (6 + n / 2) || (decide (n < 2) && s.fab.ne1Takes && s.engineRuns 7)

/-- SV runs (R522); a stopped SV ends in SUPERVISOR_RESTART. -/
def State.svRuns (s : State) : Bool := s.engineRuns 9

/-- The servo of the VLN runs: NE0 writes TIM_INCR, or NE1 in its place once NE0 has failed (R34). -/
def State.servoServed (s : State) : Bool := s.laneServed 0

/-- MRAM writes are forbidden by a die temperature (R41), as JNL_STAT.HOLD and THM_STAT.HOLD show. -/
def State.mramHold (s : State) : Bool := s.bit R.thmStat 2

/-- MRAM writes are stopped: hold, power fail (R383) or a low rail (R536). -/
def State.mramStop (s : State) : Bool := s.mramHold || s.pw.pfail || s.pw.lowRail

/-- The MRAM takes a write: SV runs, for only SV writes it, and nothing stops writes (R40, R41). -/
def State.mramOpen (s : State) : Bool := s.svRuns && !s.mramStop

/-! ### Events (R358, R359) -/

/-- The event log with `e`, while the MRAM takes a write (R40, R41). Its region holds 32,768 entries of 32 bytes, the oldest
giving way (log entry 149). -/
def State.logWith (s : State) (e : Event) : List Event := if s.mramOpen then (e :: s.eventLog).take 32768 else s.eventLog

/-- A timed trigger of kind `tk` and source `targ` at instant `at_` (R433): a pod that waits for it takes it, or counts
it in ACQ_Pp_MISSED where it falls between two peas (R434). -/
def State.timedTriggerOne (s : State) (tk targ at_ p : Nat) : State :=
  match s.pod p with
  | some q =>
    if q.tkind = tk ∧ q.targ = targ ∧ q.pea.trig = none ∧ q.timedAt = none then
      if t72Diff q.pea.startAt at_ < 0 then s.bumpFld (R.podMissed p) 0 32 1
      else s.setPod p (some { q with timedAt := some at_ })
    else s
  | none => s

def State.timedTrigger (s : State) (tk targ at_ : Nat) : State :=
  (List.range 8).foldl (fun s p => s.timedTriggerOne tk targ at_ p) s

/-- Raise event `src`: it waits for EVENT_RECORD_WRITE, with the time and cycle of detection. -/
def State.ev (s : State) (src subj code value : Nat) : State :=
  let e : Event := ⟨s.now, s.cycle, src, subj % 2 ^ 16, code % 2 ^ 16, value % 2 ^ 32⟩
  { s with host := { s.host with raised := s.host.raised ++ [e] }, eventLog := s.logWith e }.timedTrigger 3 src s.now

/-- Raise event `src` where the spec gives its CODE and no VALUE: VALUE is free (log entry 11). -/
def State.evC (s : State) (src subj code : Nat) : State :=
  { (s.ev src subj code (Config.freeWord s.free).toNat) with free := s.free + 1 }

/-- Raise event `src` where the spec gives its VALUE and no CODE: CODE is free (log entry 11). -/
def State.evK (s : State) (src subj value : Nat) : State :=
  { (s.ev src subj ((Config.freeWord s.free).toNat % 2 ^ 16) value) with free := s.free + 1 }

/-- Raise event `src` where the spec gives neither CODE nor VALUE: both are free (log entry 11). -/
def State.evFree (s : State) (src subj : Nat) : State :=
  { (s.ev src subj ((Config.freeWord s.free).toNat % 2 ^ 16) (Config.freeWord (s.free + 1)).toNat) with
    free := s.free + 2 }

/-- A bad register access (R19): EV62 with code 3. -/
def State.evBadReg (s : State) : State := s.evC 62 0xFFFF 3

/-- Signal MSI-X vector `v` (R339, R544): at most once per cycle, or its pending bit while masked. -/
def State.signalVec (s : State) (v : Nat) : State :=
  if s.bit (R.msixCtl v) 0 then s.setBit R.msixPba v true
  else if v ∈ s.host.signalled then s
  else { s with host := { s.host with signalled := v :: s.host.signalled } }

/-! ### Host memory (R340) -/

def State.memByte (s : State) (a : Nat) : Byte := SMap.get 0 s.host.mem a

/-- A read of any byte of the range completes with an error. -/
def State.memFails (s : State) (a n : Nat) : Bool :=
  s.host.memBad.any (fun r => decide (r.1 < a + n) && decide (a < r.1 + r.2))

/-- `n` bytes from host address `a`; none where the read completes with an error. -/
def State.memRd (s : State) (a n : Nat) : Option (List Byte) :=
  if s.memFails a n then none else some ((List.range n).map (fun i => s.memByte (a + i)))

/-- Bytes written from host address `a`. -/
def writeMem (m : SMap Byte) (a : Nat) : List Byte → SMap Byte
  | [] => m
  | b :: rest => writeMem (m.set 0 a b) (a + 1) rest

def State.memWr (s : State) (a : Nat) (bs : List Byte) : State :=
  { s with host := { s.host with mem := writeMem s.host.mem a bs } }

/-- A host address an opcode may use: 8-byte aligned and 64 bits wide (R340). -/
def alignedAddr (a : Nat) : Bool := decide (a % 8 = 0) && decide (a < 2 ^ 64)

/-! ### Handles (R348) -/

/-- Handle of sequence `seq` on `ring`, check field included. -/
def State.handle (s : State) (ring seq : Nat) : Nat :=
  let hi := ring % 16 * 2 ^ 44 + seq % 2 ^ 44
  hi * 2 ^ 16 + crc32c (leBytes 6 hi ++ leBytes 8 s.uid) % 2 ^ 16

/-- Key of a handle in the result cache. -/
def resKey (ring seq : Nat) : Nat := ring * 2 ^ 44 + seq

/-! ### Journal slots (R378, R382) -/

/-- The banks in use (R388). -/
def State.bankOk (s : State) (b : Nat) : Bool := s.bit R.jnlStat b

def State.bank (s : State) (b : Nat) : SMap (Option JRec) := if b = 0 then s.jnl.bank0 else s.jnl.bank1

/-- The record of a bank that holds the FINAL of a command, if one is there: of a long command its FINAL record, of an immediate one
its only record (R379). -/
def findFinal (bank : SMap (Option JRec)) (ring seq : Nat) : Option JRec :=
  (bank.findSome? (fun e => e.2.bind (fun r =>
    if (r.rtype = 3 ∨ r.rtype = 1) ∧ r.ring = ring ∧ r.seq = seq then some r else none)))

/-- A set-up record that enabled the ring of `r` after `r`: its indices started anew, so `r` belongs to no slot of it (R341). -/
def JRec.restarts (q r : JRec) : Bool :=
  decide (q.rtype = 5) && decide (q.ring = r.ring) && decide (q.body.getD 19 0 = 1) && decide (0 < cycDiff r.wseq q.wseq)

/-- A record whose completion record the host has not yet consumed (R378). -/
def State.unconsumed (s : State) (r : JRec) : Bool :=
  decide (0 ≤ cycDiff (s.ring r.ring).crCi r.crIdx) &&
    !(s.jnl.bank0 ++ s.jnl.bank1).any (fun e => match e.2 with | some q => q.restarts r | none => false)

/-- Whether a record of bank `b` is live (R378). -/
def State.recLive (s : State) (b : Nat) (r : JRec) : Bool :=
  if r.rtype = 1 ∨ r.rtype = 3 then s.unconsumed r
  else if r.rtype = 2 ∨ r.rtype = 4 then
    match findFinal (s.bank b) r.ring r.seq with
    | some f => s.unconsumed f
    | none => true
  else
    -- a ring set-up or restart record lives until a newer one of its kind and ring
    !(s.bank b).any (fun e => match e.2 with
      | some q => decide (q.rtype = r.rtype) && decide (q.ring = r.ring) && decide (0 < cycDiff r.wseq q.wseq)
      | none => false)

/-- Live records of bank `b`. -/
def State.liveCount (s : State) (b : Nat) : Nat :=
  ((s.bank b).filter (fun e => match e.2 with | some r => s.recLive b r | none => false)).length

/-- Long commands of every ring without a FINAL record (R382). -/
def State.openCount (s : State) : Nat := (s.host.rings.map (fun e => e.2.opens.length)).sum

/-- Slots of each bank that records still to be written will take, singles alternating from `nextBank`. -/
def slotUse (next : Bool) : List (Nat × Nat) → Nat × Nat
  | [] => (0, 0)
  | (j, x) :: rest =>
    if j = 1 then
      let (a, b) := slotUse (!next) rest
      if next then (a, b + 1) else (a + 1, b)
    else if j = 2 then
      let (a, b) := slotUse next rest
      (a + 1 + x, b + 1 + x)
    else slotUse next rest

/-- Free slots of bank `b` once everything in the outbox and `more` is written. -/
def State.freeAfter (s : State) (b : Nat) (more : List (Nat × Nat)) : Int :=
  let u := slotUse s.jnl.nextBank (s.host.outbox.map (fun r => (r.journal, r.extra)) ++ more)
  (16384 : Int) - s.liveCount b - (if b = 0 then u.1 else u.2)

/-- Taking a command with these records would leave a bank short of slots (R382). -/
def State.journalFull (s : State) (journal extra : Nat) : Bool :=
  let need : Int := 64 + s.openCount + (if journal = 2 then 1 else 0)
  let short (b : Nat) : Bool := s.bankOk b && decide (s.freeAfter b [(journal, extra)] < need)
  (!s.bankOk 0 && !s.bankOk 1) || short 0 || short 1

/-! ### Completion records (R349 to R351) -/

/-! Status codes (R357). -/

namespace St

def ok : Nat := 0x0000
def accepted : Nat := 0x0001
def pending : Nat := 0x0002
def opcodeUnknown : Nat := 0x0101
def lengthInvalid : Nat := 0x0102
def reservedNonzero : Nat := 0x0103
def axisRange : Nat := 0x0104
def argument : Nat := 0x0105
def hostAddress : Nat := 0x0106
def pnUnknown : Nat := 0x0107
def pnReadOnly : Nat := 0x0108
def handleUnknown : Nat := 0x0109
def notInGrade : Nat := 0x010A
def checkFailed : Nat := 0x0201
def setUnknown : Nat := 0x0202
def setFull : Nat := 0x0203
def tooLate : Nat := 0x0204
def noAck : Nat := 0x0205
def setBusy : Nat := 0x0206
def safetyParam : Nat := 0x0207
def busyMoving : Nat := 0x0301
def queueFull : Nat := 0x0302
def moveStopped : Nat := 0x0303
def queueHeld : Nat := 0x0304
def wrongMode : Nat := 0x0305
def targetRange : Nat := 0x0306
def limitRange : Nat := 0x0307
def nothingToResume : Nat := 0x0308
def axisDisabled : Nat := 0x0309
def moveFlushed : Nat := 0x030A
def limitDeferred : Nat := 0x030B
def streamActive : Nat := 0x030C
def coupled : Nat := 0x030D
def groupInvalid : Nat := 0x030E
def masterInvalid : Nat := 0x030F
def camInvalid : Nat := 0x0310
def homingFailed : Nat := 0x0311
def homingAborted : Nat := 0x0312
def notHomed : Nat := 0x0313
def notIdle : Nat := 0x0314
def atLimit : Nat := 0x0315
def peCapacity : Nat := 0x0316
def identFailed : Nat := 0x0317
def faultCause : Nat := 0x0330
def inReaction : Nat := 0x0331
def notStandstill : Nat := 0x0332
def nodeUnknown : Nat := 0x0401
def duplicatePresent : Nat := 0x0402
def notQuarantined : Nat := 0x0403
def safNotConfirmed : Nat := 0x0501
def checkMismatch : Nat := 0x0502
def sealedInUse : Nat := 0x0503
def guardTestPending : Nat := 0x0504
def safetyDenied : Nat := 0x0505
def writeHold : Nat := 0x0601
def wrongPower : Nat := 0x0602
def journalFull : Nat := 0x0701
def abortedReset : Nat := 0x0702
def resultExpired : Nat := 0x0703
def resultLost : Nat := 0x0704
def signature : Nat := 0x0801
def lifecycle : Nat := 0x0802
def version : Nat := 0x0803
def auth : Nat := 0x0804

end St

/-- Base address of a structure from its register pair (R544). -/
def State.base (s : State) (lo hi : Nat) : Nat := (s.reg lo).toNat + 2 ^ 32 * (s.reg hi).toNat

def State.crSize (s : State) (n : Nat) : Nat := 2 ^ s.fld (R.crCfg n) 0 4
def State.cqSize (s : State) (n : Nat) : Nat := 2 ^ s.fld (R.cqCfg n) 4 4

/-- Code of KIND in a completion record. -/
def RecKind.code : RecKind → Nat
  | .accept => 1
  | .final => 2
  | .answer => 3
  | .refused => 4

/-- The 32 bytes of a completion record with its PHASE (R349). -/
def OutRec.bytes (r : OutRec) (phase : Bool) : List Byte :=
  leBytes 8 r.handle ++ leBytes 8 r.tag ++ leBytes 2 r.status ++ leBytes 1 r.kind.code ++
    leBytes 1 ((if phase then 1 else 0) + (if r.ext.isSome then 2 else 0)) ++
    leBytes 2 r.opcode ++ leBytes 2 0 ++ leBytes 4 r.cycle ++ leBytes 4 r.detail

/-- PHASE of the record at producer index `i` of completion ring `n` (R349). -/
def State.crPhase (s : State) (n i : Nat) : Bool := decide (i / s.crSize n % 2 = 0)

/-- Keep a FINAL in the result cache, the last 4,096 of its ring, and its extended result in the pool, the last
2,048 of all (R351). -/
def State.cacheFinal (s : State) (r : OutRec) (phase : Bool) : State :=
  let f : FinalRec := ⟨r.tag, r.status, r.opcode, r.ext.isSome, r.cycle, r.detail, false, phase⟩
  let results := (s.host.results.set none (resKey r.ring r.seq) (some f))
  let results := if 4096 ≤ r.seq then results.set none (resKey r.ring (r.seq - 4096)) none else results
  let pool := match r.ext with
    | some [] => s.host.extPool
    | some bs => ((r.ring, r.seq, bs) :: s.host.extPool).take 2048
    | none => s.host.extPool
  { s with host := { s.host with results := results, extPool := pool } }

/-- The host link carries reads and writes (R364, R497, R531): PERST_N is high and the PCIe PLL is locked, or the shell of a
booting or sleeping VLN answers. -/
def State.hostUp (s : State) : Bool :=
  !s.host.perst && (match s.pw.boot with
    | .up => s.bit R.clkStat 3 || decide (s.mode = .standby)
    | .low => false
    | .brownOut => false
    | .clockLost => false
    | .hotStop => false
    | _ => true)

/-- Write a record into its completion ring (R349), cache a FINAL and close its long command (R351, R353), and
signal the ring's vector where the command asked for it (R346). -/
def State.writeCr (s : State) (r : OutRec) : State :=
  let g := s.ring r.ring
  let size := s.crSize r.ring
  let slot := g.crPi % size
  let s := s.memWr (s.base (R.crLo r.ring) (R.crHi r.ring) + 32 * slot) (r.bytes g.phase)
  let opens := if r.kind = .final then g.opens.filter (fun o => o.seq != r.seq) else g.opens
  let s := s.setRing r.ring { g with crPi := (g.crPi + 1) % 2 ^ 32,
                                     phase := if slot + 1 = size then !g.phase else g.phase,
                                     opens := opens }
  let s := if r.kind = .final then s.cacheFinal r g.phase else s
  if r.irq ∧ (r.kind = .final ∨ r.kind = .answer) then s.signalVec (s.fld (R.crCfg r.ring) 4 4) else s

/-- Let every record leave that needs no journal record and has none of its ring before it (R364, R381). -/
def State.drainGo (s : State) (blocked : List Nat) (kept : List OutRec) : List OutRec → State
  | [] => { s with host := { s.host with outbox := kept.reverse } }
  | r :: rest =>
    if r.journal = 0 ∧ s.hostUp = true ∧ r.ring ∉ blocked then State.drainGo (s.writeCr r) blocked kept rest
    else State.drainGo s (r.ring :: blocked) (r :: kept) rest

def State.drain (s : State) : State := s.drainGo [] [] s.host.outbox

/-- A record starts on its way to the host. -/
def State.post (s : State) (r : OutRec) : State :=
  State.drain { s with host := { s.host with outbox := s.host.outbox ++ [r] } }

/-- The REFUSED record of a command (R347). A host address that is unaligned or unreadable is also reported on
EV62 (R340). -/
def State.refuse (s : State) (h : Hdr) (op status detail : Nat) : State :=
  let s := if status = St.hostAddress then s.evC 62 h.ring 2 else s
  s.post { ring := h.ring, handle := 0, tag := h.tag, status := status, kind := .refused, ext := none, opcode := op,
           cycle := s.cycle, detail := detail, irq := decide (h.dflags % 2 = 1), subj := h.subj, seq := 0, journal := 0,
           extra := 0, body := [] }

/-- The ANSWER of a read command (R350). -/
def State.answer (s : State) (h : Hdr) (op status : Nat) (handle cycle detail : Nat) (ext : Option (List Byte)) : State :=
  s.post { ring := h.ring, handle := handle, tag := h.tag, status := status, kind := .answer, ext := ext, opcode := op,
           cycle := cycle, detail := detail, irq := decide (h.dflags % 2 = 1), subj := h.subj, seq := 0, journal := 0,
           extra := 0, body := [] }

/-- The ANSWER of a read command that carries nothing of its own. -/
def State.answerOk (s : State) (h : Hdr) (op : Nat) : State := s.answer h op St.ok 0 s.cycle 0 none

/-- Acceptance: the next sequence number of the ring (R348). -/
def State.nextSeq (s : State) (ring : Nat) : Nat := (s.ring ring).seq + 1

def State.takeSeq (s : State) (ring : Nat) : State := s.setRing ring { s.ring ring with seq := s.nextSeq ring }

/-- Acceptance and FINAL of an immediate command (R350, R379). -/
def State.acceptImm (s : State) (h : Hdr) (op cycle detail : Nat) (ext : Option (List Byte)) : State :=
  let seq := s.nextSeq h.ring
  (s.takeSeq h.ring).post
    { ring := h.ring, handle := s.handle h.ring seq, tag := h.tag, status := St.ok, kind := .final, ext := ext,
      opcode := op, cycle := cycle, detail := detail, irq := decide (h.dflags % 2 = 1), subj := h.subj, seq := seq,
      journal := 1, extra := 0, body := [] }

/-- What a long command keeps of its descriptor once it is accepted. -/
def State.openFor (s : State) (h : Hdr) (op : Nat) : Open :=
  { ring := h.ring, seq := s.nextSeq h.ring, tag := h.tag, opcode := op, irq := decide (h.dflags % 2 = 1),
    accepted := s.cycle, subj := h.subj }

/-- Acceptance of a long command: its ACCEPT follows its mirrored record (R350, R379). -/
def State.acceptLong (s : State) (h : Hdr) (op extra : Nat) (body : List Byte) : State :=
  let o := s.openFor h op
  let s1 := s.takeSeq h.ring
  (s1.setRing h.ring { s1.ring h.ring with opens := (s1.ring h.ring).opens ++ [o] }).post
    { ring := h.ring, handle := s.handle h.ring o.seq, tag := h.tag, status := St.accepted, kind := .accept,
      ext := none, opcode := op, cycle := s.cycle, detail := 0, irq := o.irq, subj := h.subj, seq := o.seq,
      journal := 2, extra := extra, body := body }

/-- FINAL of a long command (R350). `body` is the replay data of R380. -/
def State.final (s : State) (o : Open) (status cycle detail : Nat) (ext : Option (List Byte)) (body : List Byte) :
    State :=
  s.post { ring := o.ring, handle := s.handle o.ring o.seq, tag := o.tag, status := status, kind := .final, ext := ext,
           opcode := o.opcode, cycle := cycle, detail := detail, irq := o.irq, subj := o.subj, seq := o.seq,
           journal := 2, extra := 0, body := body }

/-- FINAL of a long command that carries nothing of its own. -/
def State.finalPlain (s : State) (o : Open) (status : Nat) : State := s.final o status s.cycle 0 none []

/-- REMAIN in whole lines, signed and saturating, as DETAIL carries it (R349). -/
def remainDetail (r : Int) : Nat := tc 32 (satBits 32 (r / 2 ^ 32))

/-- FINAL of a move: REMAIN in DETAIL and in the extended result (R349, R351). -/
def State.finalMove (s : State) (o : Open) (status cycle : Nat) (remain : Int) : State :=
  s.final o status cycle (remainDetail remain) (some (fitBytes 64 (bytes72 remain))) (leBytes 9 (tc 72 remain))

/-! ### The checks of R347 -/

/-- Refusals of the header alone: NSLOT, reserved fields (R346). -/
def hdrCheck (h : Hdr) : Option Nat :=
  if h.nslot < 1 ∨ 4 < h.nslot then some St.lengthInvalid
  else if 1 < h.dflags ∨ h.zero ≠ 0 then some St.reservedNonzero
  else none

/-- What SUBJ must name. -/
inductive SubjKind where
  | none
  | axis
  | group
  | pod
  | node
  | safAxis
  deriving DecidableEq, Repr

/-- SUBJ within what the opcode states (R346, R3). -/
def State.subjOk (s : State) (k : SubjKind) (h : Hdr) : Bool :=
  match k with
  | .none => decide (h.subj = 0xFFFF)
  | .axis => s.usable h.subj
  | .group => decide (h.subj < 16)
  | .pod => decide (h.subj < 8)
  | .node => decide (h.subj < 256)
  | .safAxis => decide (h.subj < 32) || decide (h.subj = 0xFFFF)

/-- How a command is journalled: a read takes no record. -/
inductive CmdKind where
  | read
  | imm
  | long
  deriving DecidableEq, Repr

def CmdKind.journal : CmdKind → Nat
  | .read => 0
  | .imm => 1
  | .long => 2

/-- Journal admission (R382) with its effects when it refuses: the sticky bits, and EV59 code 3 at the first
refusal of a run. -/
def State.admitCmd (s : State) (k : CmdKind) (extra : Nat) : Option Nat × State :=
  if k = .read then (none, s)
  else if s.mramHold then (some St.writeHold, s.setBit R.jnlStat 10 true)
  else if s.journalFull k.journal extra then
    let s1 := s.setBit R.jnlStat 9 true
    let s2 := if s.jnl.fullRun then s1 else s1.ev 59 0xFFFF 3 0
    (some St.journalFull, { s2 with jnl := { s2.jnl with fullRun := true } })
  else (none, { s with jnl := { s.jnl with fullRun := false } })

/-- The checks of R347 before the chapter's own, in their order: header, SUBJ, arguments, lifecycle (R514), power
fail and a low rail (R383, R536), power state. -/
def State.preRefusal (s : State) (h : Hdr) (op : Nat) (k : CmdKind) (subj : SubjKind) (fmt : Option Nat)
    (power : Option (Nat × Nat)) : Option (Nat × Nat) :=
  match hdrCheck h with
  | some st => some (st, 0)
  | none =>
    if s.subjOk subj h = false then some (St.axisRange, 0)
    else
      match fmt with
      | some st => some (st, 0)
      | none =>
        if s.sec.lcs = 3 ∧ k ≠ .read ∧ op ≠ 0x0001 then some (St.lifecycle, 0)
        else if (s.pw.pfail ∨ s.pw.lowRail) ∧ k ≠ .read then some (St.wrongPower, 0)
        else power

/-- A command reaches the VLN only in Run or Idle and in the Conductor role (R343), while SV runs (R522). -/
def State.takesCommands (s : State) : Bool := s.live && s.conductor && s.svRuns

/-- A command at a poll: the checks of R347 in their order, each with the status and DETAIL it refuses with, and then
the command's own effect. -/
def State.hostCmd (s : State) (h : Hdr) (op : Nat) (k : CmdKind) (extra : Nat) (subj : SubjKind)
    (fmt : Option Nat) (power : Option (Nat × Nat)) (chapter : Option (Nat × Nat)) (effect : State → State) : State :=
  if s.takesCommands = false then s
  else
    match s.preRefusal h op k subj fmt power with
    | some (st, d) => s.refuse h op st d
    | none =>
      match chapter with
      | some (st, d) => s.refuse h op st d
      | none =>
        match s.admitCmd k extra with
        | (some st, s1) => s1.refuse h op st 0
        | (none, s1) => effect s1

/-- First refusal of a list of conditions, in order. -/
def firstRefusal : List (Bool × Nat × Nat) → Option (Nat × Nat)
  | [] => none
  | (c, st, d) :: rest => if c then some (st, d) else firstRefusal rest

/-! ### Signal store (R327) -/

/-- Word `w` of the signal store. -/
def State.sigWord (s : State) (w : Nat) : BitVec 72 := SMap.get 0 s.sig.words w

def State.setSigWord (s : State) (w : Nat) (v : BitVec 72) : State :=
  { s with sig := { s.sig with words := s.sig.words.set 0 w v } }

def State.blockStat (s : State) (b : Nat) : BlockStat := SMap.get {} s.sig.stats b

def State.setBlockStat (s : State) (b : Nat) (x : BlockStat) : State :=
  { s with sig := { s.sig with stats := s.sig.stats.set {} b x } }

def State.blockDesc (s : State) (b : Nat) : Option BlockDesc := SMap.get none s.stage.inForce.blocks b

/-- A fresh bus word whose value the spec leaves open (log entry 7). -/
def State.freeW (s : State) : BitVec 72 × State := (Config.freeWord s.free, { s with free := s.free + 1 })

/-- A wide value held in three registers from `lo` (R13). -/
def State.setReg72 (s : State) (lo : Nat) (v : Int) : State :=
  let n := tc 128 v
  ((s.setReg lo (BitVec.ofNat 32 n)).setReg (lo + 4) (BitVec.ofNat 32 (n / 2 ^ 32))).setReg (lo + 8)
    (BitVec.ofNat 32 (n / 2 ^ 64))

/-- The T72 form: zero extension. -/
def State.setRegT72 (s : State) (lo : Nat) (t : Nat) : State := s.setReg72 lo ((t % 2 ^ 72 : Nat) : Int)

/-- The signed 72-bit value of three registers from `lo`. -/
def State.reg72 (s : State) (lo : Nat) : Int :=
  sext 72 ((s.reg lo).toNat + 2 ^ 32 * (s.reg (lo + 4)).toNat + 2 ^ 64 * ((s.reg (lo + 8)).toNat % 256))

end Sys2Proof.Machine
end

