-- ==== Sys2Proof/Machine/Flags.lean ====
section
/-!
DEFINITION. The status words whose bits 7:0 show the last cycle and whose bits 15:8 are sticky copies (R109, R160,
R188, R242, R509), the fault bits of R130, and the small bit vectors of pins and engines.
-/

namespace Sys2Proof.Machine

open Sys2Proof

/-- Bit `i` of a vector. -/
def bvGet {w : Nat} (v : BitVec w) (i : Nat) : Bool := v.getLsbD i

/-- Bit `i` set to `b`. -/
def bvPut {w : Nat} (v : BitVec w) (i : Nat) (b : Bool) : BitVec w :=
  if b then v ||| BitVec.ofNat w (2 ^ i) else v &&& ~~~(BitVec.ofNat w (2 ^ i))

/-- Show flag `i`; a set flag also sets its sticky copy (R509). -/
def setFlag (w : BitVec 16) (i : Nat) (b : Bool) : BitVec 16 :=
  if b then bvPut (bvPut w i true) (i + 8) true else bvPut w i false

/-- The flags `now` of a cycle that is complete are shown, and set their sticky copies (R109). -/
def showFlags (w : BitVec 16) (now : BitVec 8) : BitVec 16 :=
  (w &&& 0xFF00) ||| (now.setWidth 16 <<< 8) ||| now.setWidth 16

/-- The sticky copies clear when the word is read by command (R109). -/
def clearSticky (w : BitVec 16) : BitVec 16 := w &&& 0x00FF

/-! LOOP_STATUS (R109) -/
def fVlim : Nat := 0
def fOvm : Nat := 1
def fIlim : Nat := 2
def fSpdlim : Nat := 3
def fVestValid : Nat := 4
def fStale : Nat := 5
def fUdcLow : Nat := 6

/-! PROF_STATUS (R160) -/
def fLimitDeferred : Nat := 0
def fStreamClamp : Nat := 1
def fStreamLost : Nat := 2
def fPlanLate : Nat := 3
def fSpStale : Nat := 4

/-! COORD_STATUS (R188) -/
def fHomed : Nat := 0
def fCoupleOver : Nat := 1
def fMasterLost : Nat := 2
def fLimitReversed : Nat := 3
def fChatter : Nat := 4
def fGroupSlowed : Nat := 5

/-! PS_STATUS (R242) -/
def fRegenLim : Nat := 0
def fChopActive : Nat := 1
def fChopOpen : Nat := 2
def fChopOvl : Nat := 3
def fCurveRun : Nat := 4
def fCurveInvalid : Nat := 5
def fObsValid : Nat := 6
def fObsIdle : Nat := 7

/-- A flag of the running cycle. -/
def Axis.loopFlag (x : Axis) (i : Nat) (b : Bool) : Axis := { x with loopNow := bvPut x.loopNow i b }
def Axis.profFlag (x : Axis) (i : Nat) (b : Bool) : Axis := { x with profNow := bvPut x.profNow i b }
def Axis.coordFlag (x : Axis) (i : Nat) (b : Bool) : Axis := { x with coordNow := bvPut x.coordNow i b }
def Axis.psFlag (x : Axis) (i : Nat) (b : Bool) : Axis := { x with psNow := bvPut x.psNow i b }

/-- The cycle is complete: the status words show its flags (R109, R160, R188, R242). What a step or an event of a cycle sets begins
anew; what lasts stands: VEST_VALID to UDC_LOW until the next sample, STREAM_LOST, HOMED, and PS_STATUS but for REGEN_LIM. -/
def Axis.showFlagsOf (x : Axis) : Axis :=
  { x with
    loopStatus := showFlags x.loopStatus x.loopNow, loopNow := x.loopNow &&& 0xF0,
    profStatus := showFlags x.profStatus x.profNow, profNow := bvPut 0 fStreamLost x.streamLost,
    coordStatus := showFlags x.coordStatus x.coordNow, coordNow := bvPut 0 fHomed x.homed,
    psStatus := showFlags x.psStatus x.psNow, psNow := bvPut x.psNow fRegenLim false }

/-- OBS_IDLE and OBS_VALID as they stand now (R231, R232). -/
def Axis.obsIdle (x : Axis) : Bool := bvGet x.psNow fObsIdle
def Axis.obsValid (x : Axis) : Bool := bvGet x.psNow fObsValid

/-- HOMED and HOME_OFFSET clear (R186). -/
def Axis.clearHomed (x : Axis) : Axis := { (x.coordFlag fHomed false) with homed := false, homeOffset := 0 }

/-- Rank of a reaction (R121). -/
def Reaction.rank : Reaction → Nat
  | .none => 0
  | .warn => 1
  | .qstop => 2
  | .tstop => 3
  | .pinh => 4
  | .asc => 5
  | .sto => 6

/-- Code of a reaction (R133): 0 to 5, or 15 none. -/
def Reaction.code : Reaction → Nat
  | .none => 15
  | .warn => 0
  | .qstop => 1
  | .tstop => 2
  | .pinh => 3
  | .asc => 4
  | .sto => 5

/-- The reaction a PN value names. -/
def reactionOf (v : Int) : Reaction :=
  if v = 0 then .warn else if v = 1 then .qstop else if v = 2 then .tstop else if v = 3 then .pinh
  else if v = 4 then .asc else if v = 5 then .sto else .none

/-- REACTION as it reads: 1 during an SS1 without a stronger reaction (R410). -/
def Axis.reactionCode (x : Axis) : Nat :=
  if x.ss1 ∧ x.reaction.rank ≤ 2 then 1 else x.reaction.code

/-- A reaction of QSTOP or stronger is in force (R132). -/
def Axis.inReaction (x : Axis) : Bool := x.ss1 || decide (2 ≤ x.reaction.rank)

/-- Code of PROF_STATE (R160). -/
def ProfState.code : ProfState → Nat
  | .idle => 0
  | .moving => 1
  | .stopping => 2
  | .suspended => 3
  | .velocity => 4
  | .current => 5
  | .streaming => 6
  | .disabled => 7

/-- The control mode (R106); an identification runs its axis in velocity mode (R239). -/
def Axis.ctrlMode (x : Axis) : Int := if x.ident.isSome then 1 else x.int Pn.ctrlMode

/-- Streamed set-points (R136). -/
def Axis.streamed (x : Axis) : Bool := decide (x.int Pn.profSrc = 1)

/-- The state an idle, enabled axis shows for its mode (R136, R160). -/
def Axis.restState (x : Axis) : ProfState :=
  if x.streamed then .streaming
  else if x.ctrlMode = 1 then .velocity
  else if x.ctrlMode = 2 then .current
  else .idle

/-- A remainder or a queue is kept (R151). -/
def Axis.holdsWork (x : Axis) : Bool := x.cur.isSome || !x.queue.isEmpty

/-- COORD_STATE (R187): homing, then coupling, then membership of a group. -/
def coordState (grouped : Bool) (x : Axis) : Nat :=
  if x.homing.isSome then 7
  else if x.uncoupling.isSome then 6
  else match x.coupling with
    | some c =>
      if c.ending.isSome then 6
      else match c.kind with
        | .gear => if c.locked then 3 else 2
        | .cam => if c.locked then 5 else 4
    | none => if grouped then 1 else 0

/-- PROF_STATE as it reads: a coupled, homing or group-moving axis shows MOVING or STOPPING (R187). -/
def profStateCode (grouped groupStopping : Bool) (x : Axis) : Nat :=
  if x.prof = .stopping then 2
  else if x.uncoupling.isSome then 2
  else if x.coupling.isSome ∨ x.homing.isSome then 1
  else if grouped then (if groupStopping then 2 else 1)
  else x.prof.code

end Sys2Proof.Machine
end

