-- ==== Sys2Proof/Machine/Faults.lean ====
section
/-!
DEFINITION. Stops and disables of an axis (R150, R151, R178, R186, R239, R439), and the STO of a safety axis that its reactions can
demand (R127, R400, R409).
-/

namespace Sys2Proof.Machine

open Sys2Proof

/-! ### Ending work -/

/-- A wake cause starts a burst of engine `e`; one already in a burst takes no action (R50, R76). A stopped or halted engine
has none. -/
def State.wake (s : State) (e : Nat) : State :=
  if s.engineRuns e then { s with fab := { s.fab with awake := bvPut s.fab.awake e true } } else s

/-- A plan request of axis `a`, in acceptance order (R139, R145), posted to its profile engine (R50). -/
def State.request (s : State) (a : Nat) (w : PlanReq) : State :=
  let x := s.axis a
  let t : State := { (s.setAxis a { x with reqs := x.reqs ++ [⟨s.cycle, s.planNo, w⟩] }) with planNo := s.planNo + 1 }
  t.wake (4 + s.profEngine a)

/-- Members of a group, ascending (R164). -/
def State.members (s : State) (g : Nat) : List Nat := s.axisNos.filter (fun a => decide ((s.axis a).int Pn.group = (g : Int)))

/-- The profile engine of group `g`: that of its members (R165). -/
def State.groupEngine (s : State) (g : Nat) : Nat := s.profEngine ((s.members g).headD 0)

/-- A plan request of group `g`, posted to its profile engine. -/
def State.requestGroup (s : State) (g : Nat) (w : GroupReqKind) : State :=
  let x := s.group g
  let t : State := { (s.setGroup g { x with reqs := x.reqs ++ [⟨s.cycle, s.planNo, w⟩] }) with planNo := s.planNo + 1 }
  t.wake (4 + s.groupEngine g)

/-- Length of travel from `x0` to `x1` on an axis, by DIR where it is rotary (R146, R148). -/
def Axis.travel (x : Axis) (x0 x1 : Int) (dir : Nat) : Int :=
  let m := x.raw Pn.modulo
  if m = 0 then x1 - x0
  else if dir = 1 then (x1 - x0) % m
  else if dir = 2 then -((x0 - x1) % m)
  else reduceHalf m (x1 - x0)

/-- Signed distance from position `p` to the target of move `m` (R148). Where it is fixed on a rotary axis, the turns of the fixed
distance count, and the remainder is the one that ends at the target from `p`. -/
def Axis.leftFrom (x : Axis) (m : Move) (p : Int) : Int :=
  let k := x.raw Pn.modulo
  if k = 0 then m.target - p
  else
    match m.dist with
    | some d => d + reduceHalf k (m.target - p - d)
    | none => x.travel p m.target m.dir

/-- Target minus present position of the kept move (R128); on a rotary axis the distance still to travel (R162). -/
def Axis.remainNow (x : Axis) : Int :=
  match x.cur with
  | some m => satBits 72 (x.leftFrom m x.loop.p)
  | none => 0

/-- REMAIN of a member of a group move: its target less its p (R168). -/
def State.groupRemain (s : State) (m : GroupMove) (a : Nat) : Int :=
  match m.targets.find? (fun t => decide (t.1 = a)) with
  | some t => satBits 72 (t.2 - (s.axis a).loop.p)
  | none => 0

/-- The move that a reaction meets on axis `a`: its own, or its group's; target less p (R128, R168). -/
def State.remainOf (s : State) (a : Nat) : Option Int :=
  let x := s.axis a
  if x.cur.isSome then some x.remainNow
  else if x.int Pn.group < 0 then none
  else
    match (s.group (x.int Pn.group).toNat).cur with
    | some m => if m.targets.any (fun t => decide (t.1 = a)) then some (s.groupRemain m a) else none
    | none => none

/-- REMAIN is taken now, where the axis has a move (R128). -/
def State.takeRemain (s : State) (a : Nat) : State :=
  match s.remainOf a with
  | some r => s.modAxis a (fun x => { x with remain := r })
  | none => s

/-- Suspend the move in progress: its FINAL, its REMAIN, its queue kept (R150, R151). -/
def State.suspendMove (s : State) (a : Nat) (remain : Int) : State :=
  let x := s.axis a
  match x.cur with
  | some m =>
    let s := if x.curOpen then s.finalMove m.own St.moveStopped s.cycle remain else s
    s.setAxis a { x with curOpen := false, remain := remain, plan := none,
                         prof := if x.prof = .disabled then .disabled else .suspended }
  | none => s

/-- The end cycle of a move that reached its target (R143). -/
def State.endMove (s : State) (a : Nat) (m : Move) : State :=
  let x := s.axis a
  let s := if x.curOpen then s.finalMove m.own St.ok s.cycle 0 else s
  s.setAxis a { x with cur := none, curOpen := false, plan := none, remain := 0 }

/-- A reaction or a disable in the end cycle of a move finds the move ended with OK and the next one not yet started
(R143, R162). -/
def State.endReached (s : State) (a : Nat) : State :=
  let x := s.axis a
  match x.cur, x.plan with
  | some m, some pl =>
    if x.homing.isNone ∧ (x.prof = .moving ∨ x.prof = .stopping) ∧ pl.target.isSome ∧ pl.ended s.phi0Now = true then s.endMove a m
    else s
  | _, _ => s

/-- A reaction or a disable in the cycle in which a move left the queue finds it not yet started: it stays at the head of the queue, and
the set-points stay at the end of the move before it (R162). -/
def Axis.unstart (x : Axis) (cycle : Nat) : Axis :=
  match x.cur with
  | some m =>
    if x.prof = .moving ∧ m.since = some cycle then
      { x with cur := none, curOpen := false, plan := none, prof := .suspended, queue := { m with since := none } :: x.queue,
               reqs := x.reqs.filter (fun r => match r.what with | .move _ => false | _ => true),
               pNext := x.pSet, vNext := 0, aNext := 0 }
    else x
  | none => x

/-- The same for the group of axis `a`, whose members all stay (R162, R168). -/
def State.unstartGroup (s : State) (a : Nat) : State :=
  let g := (s.axis a).int Pn.group
  if g < 0 then s
  else
    let x := s.group g.toNat
    match x.cur with
    | some m =>
      if x.prof = .moving ∧ m.since = some s.cycle then
        (s.members g.toNat).foldl (fun s b => s.modAxis b (fun y => { y with pNext := y.pSet, vNext := 0, aNext := 0 }))
          (s.setGroup g.toNat { x with cur := none, curOpen := false, plan := none, prof := .suspended, reqs := [],
                                       queue := { m with since := none } :: x.queue })
      else s
    | none => s

/-- What a reaction or a disable of axis `a` leaves in its queue. -/
def State.unstart (s : State) (a : Nat) : State := (s.modAxis a (fun x => x.unstart s.cycle)).unstartGroup a

/-- End a homing run with a status and a failure code (R184, R186). -/
def State.endHoming (s : State) (a : Nat) (status code : Nat) : State :=
  let x := s.axis a
  match x.homing with
  | some h => (s.setAxis a { x with homing := none }).final h.own status s.cycle code
      (some (fitBytes 64 (bytes72 x.homeOffset))) (leBytes 9 (tc 72 x.homeOffset))
  | none => s

/-- A FINAL that is still owed, if any. -/
def State.finalOpt (s : State) (o : Option Open) (status : Nat) : State :=
  match o with
  | some own => s.finalPlain own status
  | none => s

/-- End a coupling without its completion (R178, R179): the engage or decouple still owed a FINAL is stopped. -/
def State.dropCoupling (s : State) (a : Nat) : State :=
  let x := s.axis a
  let s1 := s.setAxis a { x with coupling := none, uncoupling := none }
  let s2 := match x.coupling with
    | some c => (s1.finalOpt c.own St.moveStopped).finalOpt c.ending St.moveStopped
    | none => s1
  match x.uncoupling with
  | some o => s2.finalOpt o St.moveStopped
  | none => s2

/-- The owner of a request that is still owed a FINAL, and the status it ends with when the request is dropped. -/
def PlanReq.owner? : PlanReq → Option (Open × Nat)
  | .gear _ _ _ _ _ own => some (own, St.moveStopped)
  | .camOn _ _ _ _ _ _ _ own => some (own, St.moveStopped)
  | .ungear _ own => some (own, St.moveStopped)
  | .limits own => some (own, St.ok)
  | _ => none

/-- Requests that have not been planned are dropped, with the FINALs still owed. -/
def State.dropReqs (s : State) (a : Nat) : State :=
  ((s.axis a).reqs.filterMap (fun r => r.what.owner?)).foldl (fun s o => s.finalPlain o.1 o.2)
    (s.modAxis a (fun x => { x with reqs := [] }))

/-- End an injection (R438, R439). -/
def State.endInjection (s : State) (a : Nat) (status cycle : Nat) : State :=
  let x := s.axis a
  match x.inj with
  | some i => (s.setAxis a { x with inj := none }).final i.own status cycle 0 none []
  | none => s

/-- End a load identification that failed (R240). -/
def State.failIdent (s : State) (a : Nat) (code : Nat) : State :=
  let x := s.axis a
  match x.ident with
  | some i => (s.setAxis a { x with ident := none }).final i.own St.identFailed s.cycle code none []
  | none => s

/-- A group move of which a member stops: the others stop on the line, and a stop in progress is replaced (R162, R168). -/
def State.suspendGroupOf (s : State) (a : Nat) : State :=
  let g := (s.axis a).int Pn.group
  if g < 0 then s
  else
    let x := s.group g.toNat
    if x.prof = .moving ∨ x.prof = .stopping then
      (s.setGroup g.toNat { x with prof := .stopping, heldQueue := !x.queue.isEmpty }).requestGroup g.toNat .qstop
    else s

/-- What every reaction of QSTOP or stronger and every disable ends at once (R178, R186, R240, R439). -/
def State.endWork (s : State) (a : Nat) : State :=
  (((((s.endInjection a St.inReaction s.cycle).failIdent a 5).endHoming a St.homingAborted 0).dropCoupling a
    ).dropReqs a).suspendGroupOf a

/-- Disable an axis: its work ends, its move is suspended, and target and queue stay (R151). A pending enable that
was accepted before is gone with it (R354). -/
def State.disableAxis (s : State) (a : Nat) : State :=
  let s := ((s.unstart a).endWork a).endReached a
  let s := (s.takeRemain a).suspendMove a (s.axis a).remainNow
  s.modAxis a (fun x => { x.profFlag fStreamLost false with
    enabled := false, plan := none, reqs := [], nextReady := false, fly := {}, streamLost := false, coasting := none,
    rampSet := false, rampNext := false,
    vSet := 0, aSet := 0, vNext := 0, aNext := 0, iqTarget := 0, iqSlew := 0, iqNext := [],
    prof := if x.holdsWork then .suspended else .disabled })

/-! ### Safety set and STO (R400, R409) -/

def State.chan (s : State) (c : Chan) : SafChan :=
  match c with
  | .a => s.saf.chA
  | .b => s.saf.chB

/-- Channel `c` runs; channel A does so on SCA (R393, R522). -/
def State.chanRuns (s : State) (c : Chan) : Bool := (s.chan c).running && (decide (c = .b) || s.engineRuns 8)

def State.setChan (s : State) (c : Chan) (x : SafChan) : State :=
  match c with
  | .a => { s with saf := { s.saf with chA := x } }
  | .b => { s with saf := { s.saf with chB := x } }

def SafChan.view (x : SafChan) (sx : Nat) : SafAxisView := x.axes.getD sx {}
def SafChan.setView (x : SafChan) (sx : Nat) (v : SafAxisView) : SafChan := { x with axes := x.axes.set sx v }

/-- The set the switches select (R396). -/
def State.selectedSet (s : State) : Option SafSet := SMap.get none s.saf.sets s.saf.chA.sw

/-- Field channels a set uses, one entry per purpose (R400). -/
def SafSet.channels (st : SafSet) : List Nat :=
  (st.pairs.filter (fun p => p.type ≠ 0)).flatMap (fun p => [p.ch1, p.ch2])
    ++ (((st.pairs.filter (fun p => p.type ≠ 0 ∧ p.tp)).map (fun p => p.tpOut)).dedup)
    ++ ((st.axes.filter (fun r => r.axis ≠ 0xFFFF ∧ r.remote = false)).flatMap (fun r => [2 * r.bSrc, 2 * r.bSrc + 1]))
    ++ (if st.rstIn = 0xFF then [] else [st.rstIn])

/-- Slot bytes per cycle and the share of the remote PDUs (R395, R400). -/
def slotBytes (rung : Nat) : Nat := 4 * (tcycNs rung / 250)

def SafSet.remotes (st : SafSet) : Nat := (st.axes.filter (fun r => r.axis ≠ 0xFFFF ∧ r.remote)).length

/-- Every field of an axis record in its range (R398). -/
def SafAxisRec.valid (r : SafAxisRec) : Bool :=
  if r.axis = 0xFFFF then true
  else
    decide (r.axis < 128) && decide (r.react ≤ 1) && decide (r.gmode ≤ 2) && r.zeroOk &&
    (if r.remote then decide (r.bSrc = 0xFF) && decide (r.scaleB = 0x10000) && decide (2 ≤ r.wd ∧ r.wd ≤ 64)
     else decide (r.bSrc ≤ 7) && decide (r.wd = 0)) &&
    decide (1 ≤ r.ss1T ∧ r.ss1T ≤ 10000) && decide (r.sdiDir = 1 ∨ r.sdiDir = 2) && decide (1 ≤ r.disc) &&
    decide (1 ≤ r.spdWin ∧ r.spdWin ≤ 64)

/-- Every field of a pair record in its range (R399). -/
def PairRec.valid (p : PairRec) : Bool :=
  if p.type = 0 then true
  else
    decide (p.ch1 < 16) && decide (p.ch2 < 16) && decide (p.type ≤ 2) && decide (10 ≤ p.discT ∧ p.discT ≤ 5000) &&
    (!p.tp || decide (p.tpOut < 16)) && p.zeroOk

/-- A set is valid (R400). -/
def SafSet.valid (st : SafSet) (place : Nat) : Bool :=
  st.checkOk && decide (st.setNo = place) && decide (st.ver = 1) && decide (st.rung ≤ 4) &&
  [1, 2, 4, 8, 16, 32].contains st.sp && decide (st.ackSrc ≤ 1) &&
  (decide (st.rstIn = 0xFF) || decide (st.rstIn < 16)) &&
  st.axes.all SafAxisRec.valid && st.pairs.all PairRec.valid && decide (st.channels.Nodup) &&
  decide (((st.axes.filter (fun r => r.axis ≠ 0xFFFF)).map (fun r => r.axis)).Nodup) &&
  decide (40 * ((st.remotes + st.sp - 1) / st.sp) + 192 ≤ slotBytes st.rung)

/-- The set is valid and confirmed by its check value (R403). -/
def State.setGood (s : State) (place : Nat) (st : SafSet) : Bool :=
  st.valid place && decide (SMap.get none s.saf.confirmed place = some st.check)

/-- The set in force: valid, confirmed, and made for the rung in force (R400). -/
def State.setInForce (s : State) : Option SafSet :=
  match s.selectedSet with
  | some st => if s.setGood s.saf.chA.sw st ∧ st.rung = s.rung then some st else none
  | none => none

/-- Record `sx` of a set where it names a servo axis. -/
def SafSet.rec? (st : SafSet) (sx : Nat) : Option SafAxisRec :=
  match st.axes[sx]? with
  | some r => if r.axis = 0xFFFF then none else some r
  | none => none

/-- The safety axis of the set in force that holds servo axis `a` (R400). -/
def State.safAxisOf (s : State) (a : Nat) : Option Nat :=
  match s.setInForce with
  | some st => (List.range 32).find? (fun sx => match st.rec? sx with | some r => decide (r.axis = a) | none => false)
  | none => none

/-- Safety axis `sx` is no longer acknowledged. -/
def State.unack (s : State) (sx : Nat) : State :=
  { s with saf := { s.saf with acked := s.saf.acked.filter (fun i => decide (i ≠ sx)) } }

/-- Latch a cause of SAF_AXs_STAT [16:8] (R426): 0 SLS … 8 REACTION. -/
def State.latchCause (s : State) (sx i : Nat) : State :=
  let s := s.unack sx
  { s with saf := { s.saf with causes := s.saf.causes.set 0 sx (bvPut (SMap.get 0 s.saf.causes sx) i true) } }

/-- Safety axis `sx` enters STO in channel `c`: its servo axis is disabled and EV60 code 1 is raised once (R409). -/
def State.stoOne (s : State) (st : SafSet) (c : Chan) (sx : Nat) : State :=
  match st.rec? sx with
  | none => s
  | some r =>
    let other := (s.chan (match c with | .a => .b | .b => .a)).view sx
    let v := (s.chan c).view sx
    if v.state = .sto then s
    else
      let s := (s.setChan c ((s.chan c).setView sx { v with state := .sto })).unack sx
      let s := (s.disableAxis r.axis).modAxis r.axis (fun x => { x with ss1 := false })
      if other.state = .sto then s else s.ev 60 sx 1 0

/-- Local safety axes of a set. -/
def SafSet.locals (st : SafSet) : List Nat :=
  (List.range 32).filter (fun sx => match st.rec? sx with | some r => !r.remote | none => false)

/-- Channel `c` gives STO to safety axis `sx`; a local axis takes every local safety axis and every local servo axis
with it, because the ports share the pins (R409). -/
def State.stoEnter (s : State) (st : SafSet) (c : Chan) (sx : Nat) : State :=
  match st.rec? sx with
  | none => s
  | some r =>
    if r.remote then s.stoOne st c sx
    else
      let s := st.locals.foldl (fun s sx' => s.stoOne st c sx') s
      let s := s.setChan c { s.chan c with sto := false }
      (s.axisNos.filter (fun a => (s.axis a).enabled && (s.axis a).localPort.isSome)).foldl
        (fun s a => s.disableAxis a) s

/-- STO on every safety axis of the selected set, in channel `c` (R394, R396, R400). -/
def State.stoAll (s : State) (c : Chan) : State :=
  match s.selectedSet with
  | some st => (List.range 32).foldl (fun s sx => s.stoEnter st c sx) (s.setChan c { s.chan c with sto := false })
  | none =>
    let s := s.setChan c { s.chan c with sto := false }
    (s.axisNos.filter (fun a => (s.axis a).enabled && (s.axis a).localPort.isSome)).foldl (fun s a => s.disableAxis a) s

def chanIdx : Chan → Nat
  | .a => 0
  | .b => 1

/-- The watchdog of channel `c` trips at the conductor: WD_A or WD_B is latched, EV27 raised, and the axis goes to STO (R415). -/
def State.tripWatchdog (s : State) (st : SafSet) (c : Chan) (sx : Nat) (r : SafAxisRec) : State :=
  let s := s.setChan c ((s.chan c).setView sx { (s.chan c).view sx with rxSeq := none, synced := false })
  (((s.latchCause sx (5 + chanIdx c)).ev 27 sx (1 + chanIdx c) r.node)).stoEnter st c sx

/-- The node of remote safety axes is quarantined or lost: both watchdogs of each trip (R421). -/
def State.tripNode (s : State) (n : Nat) : State :=
  match s.selectedSet with
  | none => s
  | some st =>
    if s.conductor = false then s
    else
      (List.range 32).foldl (fun s sx => match st.rec? sx with
        | some r =>
          if r.remote ∧ r.node = n then
            [Chan.a, Chan.b].foldl (fun s c => if s.chanRuns c then s.tripWatchdog st c sx r else s) s
          else s
        | none => s) s

/-- The set in force claims field channel `c` (R461). -/
def State.claimed (s : State) (c : Nat) : Bool :=
  match s.setInForce with
  | some st => st.channels.contains c
  | none => false

/-- The receivers of both channels hold no last accepted SEQ for the remote axes of node `n` (R416). -/
def State.safUnsync (s : State) (n : Nat) : State :=
  match s.selectedSet with
  | none => s
  | some st =>
    let mine (sx : Nat) : Bool := match st.rec? sx with | some r => r.remote && decide (r.node = n) | none => false
    let reset (x : SafChan) : SafChan := { x with
      axes := x.axes.zipIdx.map (fun e => if mine e.2 then { e.1 with rxSeq := none, synced := false } else e.1) }
    (s.setChan .a (reset s.saf.chA)).setChan .b (reset s.saf.chB)

/-- A Node-role VLN holds a STO path of its local axis `i` open (R415, R417), for the records of its own set that name it (log
entry 18). -/
def State.nodeSto (s : State) (i : Nat) : Bool :=
  match s.selectedSet with
  | none => false
  | some st => (List.range 32).any (fun sx => match st.rec? sx with
      | some r => r.remote && decide (s.node.nodeNo = some r.node) && decide ((Config.remoteHome r.axis).2 = i) &&
          ((s.saf.chA.view sx).pathOpen || (s.saf.chB.view sx).pathOpen)
      | none => false)

end Sys2Proof.Machine
end

