-- ==== Sys2Proof/Machine/Gates.lean ====
section
/-!
DEFINITION. The gates of a PWM port (R248, R249, R252, R253, R257, R259, R260): its periods, the source that drives it, and where its
switches are on.
-/

namespace Sys2Proof.Machine

open Sys2Proof

/-! ### Periods (R248, R255) -/

/-- k of a KMUL code (R264). -/
def kmul (code : Nat) : Nat := if code = 1 then 2 else if code = 2 then 4 else 1

/-- Ticks from the reload of cycle `n` to the next (R248): 7,812 and 7,813 alternate at rung 0 (log entry 15). -/
def pcyc (rung n : Nat) : Nat :=
  if rung = 0 then (if decide (n % 2 = 0) = Config.longEven then 7813 else 7812) else tcycNs rung / 2

/-- P_i of period `i` of `k` (R248). -/
def pticks (cyc k i : Nat) : Nat := (i + 1) * cyc / k - i * cyc / k

/-- PWM periods per cycle of port `k`. -/
def State.portK (s : State) (k : Nat) : Nat := kmul (s.fld (R.pwmCfg k) 2 2)

/-- P_i of period `i` of port `k` in the present cycle. -/
def State.periodTicks (s : State) (k i : Nat) : Nat := pticks (pcyc s.rung s.cycle) (s.portK k) i

/-! ### What drives the pairs (R255, R260) -/

/-- The override of level 5 in R260, where one is in force: the short circuit of ASC, pulse inhibit, the zero-vector window of a flying
start, or a disabled axis. A port with SRC = 1 does not wait for its axis to be enabled (R261). Outside membership a node's axis goes
on under R336 (R284). -/
def State.override (s : State) (k : Nat) : Option Drive :=
  let manual := s.bit (R.pwmCfg k) 6
  if s.conductor then
    match s.portAxis k with
    | some a =>
      let x := s.axis a
      if x.ascShort then some .shorted
      else if 4 ≤ x.reaction.rank then some .off
      else if x.fly.window then some .shorted
      else if manual then none
      else if x.enabled = false ∨ x.fly.on ∨ x.obsIdle then some .off
      else none
    | none => if manual then none else some .off
  else
    let x := s.node.axes.getD k {}
    if s.nodeSto k ∨ s.node.state = .quarantined then some .off
    else if x.react = 2 then some .shorted
    else if x.react = 1 then some .off
    else if x.fly ∧ x.enabled ∧ x.held = false then some .shorted
    else if manual then none
    else if x.enabled = false ∨ x.held then some .off
    else none

/-- The clock-loss safe state is in force (R259). -/
def State.clkFail (s : State) : Bool := s.bit R.pwmGstat 0

/-- The first active source of R260 for port `k`. -/
def State.drive (s : State) (k : Nat) : Drive :=
  let p := s.pwmp k
  if s.bit (R.pwmCfg k) 0 = false then .hiZ
  else if s.clkFail then .clockSafe
  else if p.tripped ∨ p.clearPending then .trip
  else if p.halt then .haltSafe
  else
    match s.override k with
    | some d => d
    | none => if p.active.isEmpty then .off else .active

/-! ### Edges and dead times (R249, R252, R253) -/

/-- Dead times and minimum pulse in ticks. -/
def State.dtR (s : State) (k : Nat) : Nat := s.fld (R.pwmDt k) 0 11
def State.dtF (s : State) (k : Nat) : Nat := s.fld (R.pwmDt k) 16 11
def State.minp (s : State) (k : Nat) : Nat := s.fld (R.pwmMinp k) 0 11

/-- Ticks of a period at which the reference r of width `w` rises and falls (R249). `more` tells that dithering gave `w` its last tick:
in the centre-aligned carrier that tick goes to the falling edge (R251). -/
def refEdges (edgeAligned more : Bool) (ticks w : Nat) : Nat × Nat :=
  let b := if more then w - 1 else w
  if edgeAligned then (0, w)
  else ((ticks + 1) / 2 - (b + 1) / 2, (ticks + 1) / 2 + b / 2 + (if more then 1 else 0))

/-- Ticks into the next period before which L may not turn on, after a period with gate widths `h` and `l`: DT_F after the fall of r
(R252). A continuous H falls with the end of its period. -/
def lowWait (edgeAligned more : Bool) (ticks dtR dtF h l : Nat) : Nat :=
  if l = 0 then dtF else if h = 0 then 0 else (refEdges edgeAligned more ticks (h + dtR)).2 + dtF - ticks

/-- The gates H and L at tick `t` of a period with gate widths `h` and `l`, of which 0 is one suppressed: then the other stays on
without a gap through the period, and both dead times of the period are omitted (R252, R253). -/
def gatesAt (edgeAligned more : Bool) (ticks dtR dtF h l wait t : Nat) : Bool × Bool :=
  if l = 0 then (true, false)
  else if h = 0 then (false, true)
  else
    let e := refEdges edgeAligned more ticks (h + dtR)
    (decide (e.1 + dtR ≤ t) && decide (t < e.2), (decide (wait ≤ t) && decide (t < e.1)) || decide (e.2 + dtF ≤ t))

/-- Ticks that are still to pass at tick `t` until H has been off for DT_F (R257). -/
def lowRest (edgeAligned more : Bool) (ticks dtR dtF h l wait t : Nat) : Nat :=
  let e := refEdges edgeAligned more ticks (h + dtR)
  if (gatesAt edgeAligned more ticks dtR dtF h l wait t).1 then dtF
  else if 0 < h ∧ 0 < l ∧ e.2 ≤ t then e.2 + dtF - t
  else wait - t

/-- Tick of the present period of port `k` (R248). -/
def State.periodTick (s : State) (k : Nat) : Nat :=
  let p := s.pwmp k
  min ((t72Diff s.phi0Now s.now).toNat / 2 ^ 17 - p.period * pcyc s.rung s.cycle / s.portK k) (s.periodTicks k p.period - 1)

/-- The gates of phase `f` of port `k` under its active triple. -/
def State.activeGates (s : State) (k f : Nat) : Bool × Bool :=
  let p := s.pwmp k
  gatesAt (s.bit (R.pwmCfg k) 1) (p.extra.getD f false) p.ticks (s.dtR k) (s.dtF k) (p.hGate.getD f 0) (p.lGate.getD f 0)
    (p.lWait.getD f 0) (s.periodTick k)

/-- The active triple of port `k` stops driving it now: each low side may turn on once its high side has been off for DT_F (R125, R257,
R259). When the counter clock is lost the dead time counts in periods of the slow clock, 20 ticks, rounded up. -/
def State.highsOff (s : State) (k : Nat) (slowClock : Bool) : State :=
  if s.drive k ≠ .active then s
  else
    let p := s.pwmp k
    let rest (f : Nat) : Nat :=
      lowRest (s.bit (R.pwmCfg k) 1) (p.extra.getD f false) p.ticks (s.dtR k) (s.dtF k) (p.hGate.getD f 0) (p.lGate.getD f 0)
        (p.lWait.getD f 0) (s.periodTick k)
    let ticks (f : Nat) : Nat := if slowClock then (rest f + 19) / 20 * 20 else rest f
    s.setPwmp k { p with lowFrom := [0, 1, 2].map (fun f =>
      if ticks f = 0 then none else some ((s.now + ticks f * 2 ^ 17) % 2 ^ 72)) }

/-- A low side of port `k` may be on now, its high side having been off for the dead time. -/
def State.lowFree (s : State) (k f : Nat) : Bool :=
  match (s.pwmp k).lowFrom.getD f none with
  | some t => decide (0 ≤ t72Diff t s.now)
  | none => true

/-- The gates H and L of phase `f` of port `k` now, none where the pins are high-impedance (R260): the low sides are on in the
short circuit of ASC, in the zero-vector window and in a trip or safe state 1, each after its dead time. -/
def State.gatesNow (s : State) (k f : Nat) : Option (Bool × Bool) :=
  match s.drive k with
  | .hiZ => none
  | .off => some (false, false)
  | .shorted => some (false, s.lowFree k f)
  | .trip => some (false, s.bit (R.pwmCfg k) 9 && s.lowFree k f)
  | .clockSafe => some (false, s.bit (R.pwmCfg k) 10 && s.lowFree k f)
  | .haltSafe => some (false, s.bit (R.pwmCfg k) 10 && s.lowFree k f)
  | .active => some (s.activeGates k f)

end Sys2Proof.Machine
end

