-- ==== Sys2Proof/Machine/Reactions.lean ====
section
/-!
DEFINITION. Fault sources and reactions of an axis (R121 to R134, R441): what a demanded reaction does, and how a source latches.
-/

namespace Sys2Proof.Machine

open Sys2Proof

/-! ### Trace trigger (R441) -/

/-- A trigger of the trace of axis `a`: recording goes on for TRACE_POST cycles. -/
def Axis.traceTrigger (x : Axis) (cycle : Nat) : Axis :=
  if x.trace.state = 1 then
    { x with trace := { x.trace with state := if x.int Pn.tracePost = 0 then 3 else 2,
                                     post := (x.int Pn.tracePost).toNat, trigCycle := cycle } }
  else x

/-! ### Reactions (R121 to R128) -/

/-- Whether the short circuit of ASC applies when it begins (R126). -/
def Axis.ascStart (x : Axis) : Bool :=
  !x.loop.vestValid || decide (x.raw Pn.ascSpeed ≤ |x.loop.vEst|)

/-- A reaction that arrives in the zero-vector window of a flying start ends the window, and with it the flying start (R245; log
entry 165). -/
def Axis.leaveWindow (x : Axis) : Axis := if x.fly.window then { x with fly := {} } else x

/-- QSTOP begins: the profile engine ramps to rest from its next plan on, and until then the set-points go on as they were
(R122). An identification that it interrupts leaves its axis disabled (R239, R240). -/
def State.beginQstop (s : State) (a : Nat) : State :=
  let ident := (s.axis a).ident.isSome
  let s := ((s.unstart a).modAxis a (fun x => { x.leaveWindow with coasting := x.coupling })).endWork a
  let s := s.modAxis a (fun x => { x with
    reqs := [], heldQueue := !x.queue.isEmpty,
    prof := if x.cur.isSome ∧ x.prof ≠ .suspended then .stopping else x.prof })
  if ident then s.disableAxis a else s.request a .qstop

/-- TSTOP begins: the loops brake with v* = 0 (R122). An identification that it interrupts leaves its axis disabled. -/
def State.beginTstop (s : State) (a : Nat) : State :=
  let ident := (s.axis a).ident.isSome
  let s := ((s.unstart a).endWork a).endReached a
  let s := s.modAxis a (fun x => { x.leaveWindow with
    reqs := [], plan := none, coasting := none, heldQueue := !x.queue.isEmpty,
    prof := if x.cur.isSome ∧ x.prof ≠ .suspended then .stopping else x.prof })
  if ident then s.disableAxis a else s

/-- The active triple of the axis's port stops driving it (R125). -/
def State.axisHighsOff (s : State) (a : Nat) : State :=
  match (s.axis a).localPort with
  | some k => s.highsOff k false
  | none => s

/-- Torque is removed: PINH, ASC or STO (R122, R125 to R128). -/
def State.torqueOff (s : State) (a : Nat) : State := s.disableAxis a

/-- On an axis in current mode QSTOP and TSTOP act as PINH (R124). -/
def Axis.effective (x : Axis) (r : Reaction) : Reaction :=
  if x.ctrlMode = 2 ∧ (r = .qstop ∨ r = .tstop) then .pinh else r

/-- Apply a demanded reaction unless a stronger one is in force (R121, R122). -/
def State.applyReaction (s : State) (a : Nat) (r0 : Reaction) : State :=
  let x := s.axis a
  let r := x.effective r0
  if r.rank ≤ x.reaction.rank then s
  else
    let s := if 4 ≤ r.rank then s.axisHighsOff a else s
    let s := s.setAxis a { x with reaction := r, still := !x.enabled, tsActs := false,
                                  ss1 := if 3 ≤ r.rank then false else x.ss1,
                                  ascShort := if r = .asc then x.ascStart else if r = .sto then false else x.ascShort }
    match r with
    | .none => s
    | .warn => s
    | .qstop => if x.enabled then s.beginQstop a else s
    | .tstop => if x.enabled then s.beginTstop a else s
    | .pinh => s.torqueOff a
    | .asc => s.torqueOff a
    | .sto =>
      let s := s.torqueOff a
      match s.setInForce, s.safAxisOf a with
      | some st, some sx => (s.latchCause sx 8).stoEnter st .a sx
      | _, _ => s

/-- Event of a source (R129); none where the unit that found the cause has raised it. -/
def sourceEvent (src : Nat) : Option Nat :=
  [some 29, some 30, some 28, some 28, some 28, some 28, some 28, some 32, some 32, some 32, some 33, some 34, some 31,
   some 31, some 28, some 35, some 28, none, some 28, none].getD src none

/-- The reaction assigned to a source; STO on an axis that is no safety axis acts as PINH (R129, R134). -/
def State.assigned (s : State) (a src : Nat) : Reaction :=
  let r := reactionOf ((s.axis a).int (Pn.fr + src))
  if r = .sto ∧ (s.safAxisOf a).isNone then .pinh else r

/-- Detection of fault source `src` on axis `a`, with the value FAULT_VALUE takes (R130). `own` tells whether the
source's own event is still to be raised. A latched source has no further effect. VALUE of its events is the code of the reaction
assigned, also where QSTOP or TSTOP acts as PINH in current mode and REACTION becomes PINH (R124; DESIGN CHOICE, log entry 162). -/
def State.raiseSource (s : State) (a src : Nat) (value : Int) (own : Bool) : State :=
  let x := s.axis a
  if bvGet x.faultActive src then s
  else
    let r := s.assigned a src
    let first := decide (x.faultActive = 0)
    let lower := !first && decide (x.faultCycle = s.cycle) && decide (src < x.faultFirst)
    let x := { x with
      faultActive := bvPut x.faultActive src true,
      faultWarn := if r = .warn then bvPut x.faultWarn src true else x.faultWarn,
      faultFirst := if first || lower then src else x.faultFirst,
      faultValue := if first || lower then value else x.faultValue,
      faultT72 := if first then s.now else x.faultT72,
      faultCycle := if first then s.cycle else x.faultCycle }
    let x := if x.int Pn.traceTrig = 1 then x.traceTrigger s.cycle else x
    let s := s.setAxis a x
    let s := match (if own then sourceEvent src else none) with
      | some e => s.ev e a src r.code
      | none => s
    let s := if r ≠ .warn ∧ ¬(own = true ∧ sourceEvent src = some 28) then s.ev 28 a src r.code else s
    s.applyReaction a r

/-- A WARN reaction ends with the last latched bit (R121, R130). -/
def Axis.endWarn (x : Axis) : Axis := if x.faultActive = 0 ∧ x.reaction = .warn then { x with reaction := .none } else x

/-- Whether a source's cause is present now (R129); a WARN bit clears when its cause ends, and with the last bit the reaction
(R121, R130). -/
def Axis.setCause (x : Axis) (src : Nat) (present : Bool) : Axis :=
  let x := { x with causes := bvPut x.causes src present }
  if !present && bvGet x.faultWarn src then
    Axis.endWarn { x with faultActive := bvPut x.faultActive src false, faultWarn := bvPut x.faultWarn src false }
  else x

/-- WARN bits of sources whose cause is not present clear (R130); with no other bit latched the reaction ends. -/
def Axis.dropWarns (x : Axis) : Axis :=
  let ended := x.faultWarn &&& ~~~x.causes
  Axis.endWarn { x with faultActive := x.faultActive &&& ~~~ended, faultWarn := x.faultWarn &&& ~~~ended }

/-- STOP, disable and fault clear apart, motion commands are refused in a reaction (R132). -/
def Axis.reactionRefusal (x : Axis) : Bool × Nat × Nat := (x.inReaction, St.inReaction, 0)

end Sys2Proof.Machine
end

