-- ==== Sys2Proof/Machine/Operands.lean ====
section
/-!
DEFINITION. Operand forms: the loop nodes (R110), the sources a capture channel names (R429), and the words of a signal
by the kind of its block (R309, R327).
-/

namespace Sys2Proof.Machine

open Sys2Proof

/-- Group delay of a modulator channel in ns (R220, R221). -/
def State.sincNs (s : State) (c : Nat) : Nat := 25 * (3 + s.fld (R.sdmCfg c) 1 1) * (32 * 2 ^ s.fld (R.sdmCfg c) 2 2)

/-! ### Loop nodes (R110) -/

/-- Value of loop node `n` of an axis, in the LSB of its format. -/
def Axis.nodeValue (x : Axis) (n : Nat) : Int :=
  let l := x.loop
  [l.iu, l.iv, l.iw, l.udc, l.thE, l.thO, l.ia, l.ib, l.id, l.iq, l.idSet, l.iqSet, l.ed, l.eq, l.xd, l.xq, l.vd, l.vq,
   l.du, l.dv, l.dw, l.p, l.vRaw, l.vEst, l.vUsed, l.ev, l.xv, l.uv, l.f, x.pSet, l.ep,
   (((showFlags x.loopStatus x.loopNow).toNat : Nat) : Int) * 2 ^ 48].getD n 0

/-- Whether the step that produces node `n` has run in the present cycle. -/
def Axis.nodeRan (x : Axis) (n : Nat) : Bool :=
  if n ≤ 3 ∨ n = 21 then x.loop.done
  else if n ≤ 20 ∨ n = 22 ∨ n = 23 then x.loop.ranC
  else if n ≤ 28 then x.loop.ranV
  else if n = 30 then x.loop.ranP
  else true

/-- The word a trace or capture records for a node: zero where its step did not run (R429, R440). -/
def Axis.nodeWord (x : Axis) (n : Nat) : BitVec 72 :=
  if x.nodeRan n then BitVec.ofNat 72 (tc 72 (x.nodeValue n)) else 0

/-! ### Capture sources (R429) -/

def srcKind (src : Nat) : Nat := src / 2 ^ 28 % 16
def srcSel (src : Nat) : Nat := src % 2 ^ 28
def srcAxis (src : Nat) : Nat := src / 2 ^ 16 % 256

/-- Whether the selector names something (R435 cause 4). -/
def State.srcOk (s : State) (src : Nat) : Bool :=
  match srcKind src with
  | 1 => s.usable (srcAxis src) && decide (srcSel src / 2 ^ 24 = 0) && decide (srcSel src / 2 ^ 5 % 2 ^ 11 = 0)
  | 2 => decide (srcSel src < 2 ^ 20) &&
      (match s.blockDesc (srcSel src / 64) with
       | some d => decide (srcSel src % 64 < if d.kind = 4 then 2 * d.count else d.count)
       | none => false)
  | 3 => decide (srcSel src < 16)
  | 4 => decide (srcSel src < 8)
  | 5 => decide (srcSel src < 4)
  | 6 => s.usable (srcAxis src) && decide (srcSel src % 2 ^ 16 = 0) && decide (srcSel src / 2 ^ 24 = 0)
  | _ => false

/-- Offset of a modulator channel, H36 of modulator full scale. -/
def State.sdmOffs (s : State) (c : Nat) : Int := sbits (s.reg (R.sdmOffs c)) 0 16 * 2 ^ 20

/-- The word channel source `src` gives now. -/
def State.srcWord (s : State) (src : Nat) : BitVec 72 :=
  match srcKind src with
  | 1 => (s.axis (srcAxis src)).nodeWord (srcSel src % 32)
  | 2 => s.sigWord (srcSel src)
  | 3 => BitVec.ofNat 72 (tc 72 (satBits 36 ((s.sdmc (srcSel src % 16)).x - s.sdmOffs (srcSel src % 16))))
  | 4 => BitVec.ofNat 72 (s.reg (R.auxRes (srcSel src % 8))).toNat
  | 5 => BitVec.ofNat 72 (tc 72 (s.fbp (srcSel src % 4)).pos)
  | 6 =>
    match (s.axis (srcAxis src)).inj with
    | some i => BitVec.ofNat 72 (tc 72 i.u)
    | none => 0
  | _ => 0

/-! ### Signals (R309, R326, R327) -/

/-- Signals that a descriptor's block names. -/
def BlockDesc.signals (d : BlockDesc) : Nat := if d.kind = 4 then 2 * d.count else d.count

/-- What the store keeps of a value of the kind: unused bits are zero. -/
def storeForm (kind : Nat) (v : BitVec 72) : BitVec 72 :=
  match kind with
  | 0 => v &&& 1
  | 1 => v &&& 0xFF
  | 2 => BitVec.ofNat 72 (tc 72 (sext 36 v.toNat))
  | 3 => v
  | _ => v &&& 0xFFFFFFFFFFFFFFFF

/-- The block that holds signal `sg`, where the signal exists. -/
def State.sigBlock (s : State) (sg : Nat) : Option BlockDesc :=
  match s.blockDesc (sg / 64) with
  | some d => if sg % 64 < d.signals then some d else none
  | none => none

end Sys2Proof.Machine
end

