-- ==== Sys2Proof/Machine/Converters.lean ====
section
/-!
DEFINITION. The SAR converters (R444 to R459): regular rounds, injected sequences, the result word, settling, windows and
limits.
-/

namespace Sys2Proof.Machine

open Sys2Proof

/-- Internal channels of converter `k`: (slot code of R459, internal channel of R446). -/
def adcInternals (k : Nat) : List (Nat × Nat) :=
  [[(4, 0), (6, 5)], [(4, 1), (6, 6)], [(4, 2), (5, 3), (6, 7)], [(4, 4), (6, 8)]].getD k []

/-- Window of an internal channel in codes, or in 1/128 °C for a diode (R446). -/
def adcWindow (i : Nat) : Int × Int :=
  [(15414, 16043), (19923, 22020), (19661, 23593), (22413, 24773), (15729, 24576)].getD i (-7040, 19200)

/-- Slot codes of converter `k`'s regular round in order (R449). -/
def State.adcRound (s : State) (k : Nat) : List Nat :=
  (if s.bit (R.adcCfg k) 0 then [2] else []) ++ (if s.bit (R.adcCfg k) 1 then [3] else []) ++
    (adcInternals k).map Prod.fst

/-- Slot code of the regular conversion in progress. -/
def State.adcNext (s : State) (k : Nat) : Nat :=
  ((s.adcRound k).find? (fun c => decide ((s.adcv k).pos ≤ c))).getD ((s.adcRound k).headD 6)

/-- The result word of R448. -/
def adcWord (code : Int) (valid settle sat req : Bool) (seq : Nat) : Reg32 :=
  BitVec.ofNat 32 (tc 16 code + 2 ^ 16 * valid.toNat + 2 ^ 17 * settle.toNat + 2 ^ 18 * sat.toNat + 2 ^ 19 * req.toNat +
    2 ^ 24 * (seq % 256))

/-- REF_BAD after a reference result (R447): two in a row outside set it, two within clear it. -/
def State.judgeReference (s : State) (inside : Bool) : State :=
  let x := s.adcv 0
  if inside then
    let s := s.setAdcv 0 { x with refBad := 0, refGood := min 2 (x.refGood + 1) }
    if 1 ≤ x.refGood then s.setBit R.adcStat 8 false else s
  else
    let s := s.setAdcv 0 { x with refGood := 0, refBad := min 2 (x.refBad + 1) }
    if 1 ≤ x.refBad then s.setBit R.adcStat 8 true else s

/-- Limit check of an auxiliary input (R455). -/
def State.adcLimits (s : State) (k a : Nat) (code : Int) : State :=
  if s.bit (R.auxCfg a) 2 = false then s
  else if code < sbits (s.reg (R.auxLim a)) 0 16 then (s.setBit R.adcLimFlags a true).ev 46 k 1 a
  else if sbits (s.reg (R.auxLim a)) 16 16 < code then (s.setBit R.adcLimFlags (8 + a) true).ev 46 k 2 a
  else s

/-- One result of converter `k` from the channel of slot code `slot` (R445 to R448, R454, R455), also written to the
registers of `dest`. -/
def State.adcResult (s : State) (k slot : Nat) (code0 : Int) (sat0 current req : Bool) (seq : Nat) (dest : List Nat) :
    State :=
  let code := clampI (-32768) 32767 code0
  let sat := sat0 || decide (code ≠ code0)
  let cnt := SMap.get 0 (s.adcv k).settle slot
  let settling := cnt = 1 ∨ cnt = 2
  let s := s.setAdcv k { s.adcv k with settle := (s.adcv k).settle.set 0 slot (cnt - 1) }
  match (adcInternals k).find? (fun e => e.1 == slot) with
  | some (_, i) =>
    let inside := decide ((adcWindow i).1 ≤ code) && decide (code ≤ (adcWindow i).2)
    let s := if i = 0 then s.judgeReference inside else s
    let valid := !settling && !s.bit R.adcStat 8 && (decide (i < 5) || (current && inside))
    let w := adcWord code valid settling sat req seq
    let s := (dest ++ [R.intRes i]).foldl (fun s r => s.setReg r w) s
    if inside then s else (s.setBit R.adcIntFlags i true).ev 47 k i w.toNat
  | none =>
    let valid := !settling && !s.bit R.adcStat 8
    let w := adcWord code valid settling sat req seq
    if slot = 2 ∨ slot = 3 then
      let a := 2 * k + (slot - 2)
      let s := (dest ++ [R.auxRes a]).foldl (fun s r => s.setReg r w) s
      if valid then s.adcLimits k a code else s
    else dest.foldl (fun s r => s.setReg r w) s

/-- The converters start on entry to Idle or Run: the first 2 conversions of every channel settle (R454). -/
def State.adcStart (s : State) : State :=
  (List.range 4).foldl (fun s k => s.setAdcv k { s.adcv k with
    pos := 0, busy := false, requeued := false, slots := [],
    settle := [(1, 2), (2, 2), (3, 2), (4, 2), (5, 2), (6, 2)] }) s

/-- Nanoseconds that a slot takes with its acquisition (R444). -/
def adcSlotNs (c : Nat) : Nat := if c = 1 then 280 else if c = 6 then 400 else 200

/-- The slot of a sequence that runs `t` ns after its trigger. -/
def adcRunning : List Nat → Nat → Option Nat
  | [], _ => none
  | c :: rest, t => if t < adcSlotNs c then some c else adcRunning rest (t - adcSlotNs c)

/-- The slot code that converter `k` converts now: of its injected sequence, else of its regular round. -/
def State.adcConverting (s : State) (k : Nat) : Option Nat :=
  let x := s.adcv k
  if s.live = false then none
  else if x.busy then adcRunning x.slots ((t72Diff s.now x.trigAt).toNat / 2 ^ 16)
  else some (s.adcNext k)

/-- GAIN of auxiliary input `a` changes (R454): its first 2 conversions at the new gain settle; one already running
completes at the old gain. -/
def State.adcGainChange (s : State) (a : Nat) : State :=
  let k := a / 2
  let slot := 2 + a % 2
  let x := s.adcv k
  let running := decide (s.adcConverting k = some slot)
  s.setAdcv k { x with settle := x.settle.set 0 slot (if running then 3 else 2) }

/-- ADC_REGULAR_CONVERSION: the regular conversion in progress completes (R449, R451). -/
def adcRegularConversionCmd (k : Nat) (code : Int) (sat current : Bool) (s : State) : State :=
  if 4 ≤ k ∨ s.live = false ∨ s.engineRuns 10 = false ∨ (s.adcv k).busy = true then s
  else
    let slot := s.adcNext k
    let x := s.adcv k
    let s := s.adcResult k slot code sat current x.requeued x.round []
    let last := (s.adcRound k).all (fun c => decide (c ≤ slot))
    let x := s.adcv k
    if last then
      let s := s.setAdcv k { x with requeued := false, pos := 0, round := (x.round + 1) % 256 }
      if s.bit (R.adcCfg k) 2 then s.evC 45 k 1 else s
    else s.setAdcv k { x with requeued := false, pos := slot + 1 }

def execAdcRegularConversion (k : Nat) (code : Int) (sat current : Bool) (s : State) :
    Host.Outcome State Fault Refusal := .next (adcRegularConversionCmd k code sat current s)

/-- Port `k` forces the pair of converter `k` (R453). -/
def State.adcForced (s : State) (k : Nat) : Bool := decide (s.fld (R.fbCfg k) 0 3 = 2)

/-- The injected slots as staged in ADC_Ck_INJ, up to the first 0. -/
def State.adcSlots (s : State) (k : Nat) : List Nat :=
  ([0, 3, 6, 9].map (fun b => s.fld (R.adcInj k) b 3)).takeWhile (fun c => c != 0)

/-- The slots a trigger from `src` runs: a forced pair stands in slot 0 at φ0 (R453). -/
def State.adcSlotsFor (s : State) (k : Nat) (src : AdcTrigger) : List Nat :=
  match src with
  | .phi0 =>
    if s.adcForced k then
      1 :: ([3, 6, 9].map (fun b => s.fld (R.adcInj k) b 3)).takeWhile (fun c => c != 0)
    else s.adcSlots k
  | .buoy _ => s.adcSlots k

/-- Whether converter `k` takes triggers from `src` (R450, R453). -/
def State.adcListens (s : State) (k : Nat) (src : AdcTrigger) : Bool :=
  match src with
  | .phi0 => s.adcForced k || s.bit (R.adcCfg k) 4
  | .buoy b => s.bit (R.adcCfg k) 5 && decide (s.fld (R.adcCfg k) 6 3 = b) && s.bit (R.byCfg b) 24

/-- ADC_INJECTED_TRIGGER: the sequence starts, or the trigger is dropped and counted while one runs (R450 to R452).
A second trigger in the tick of the first is the same sequence. -/
def adcInjectedTriggerCmd (k : Nat) (src : AdcTrigger) (s : State) : State :=
  if 4 ≤ k ∨ s.live = false ∨ s.engineRuns 10 = false ∨ s.adcListens k src = false then s
  else
    let x := s.adcv k
    if x.busy then
      if x.trigAt / 2 ^ 17 = s.now / 2 ^ 17 then s
      else
        let s := (s.bumpFld (R.adcDrop k) 0 16 1).setBit (R.adcCkStat k) 8 true
        s.evK 44 k (s.fld (R.adcDrop k) 0 16)
    else
      (s.setAdcv k { x with busy := true, slots := s.adcSlotsFor k src, trigAt := s.now, requeued := true,
                            injCount := (x.injCount + 1) % 256 }).setBit (R.adcCkStat k) 9 true

def execAdcInjectedTrigger (k : Nat) (src : AdcTrigger) (s : State) : Host.Outcome State Fault Refusal :=
  .next (adcInjectedTriggerCmd k src s)

/-- Results of an injected sequence: `j` counts slots, a pair takes two codes (R450). -/
def State.adcInjResults (s : State) (k seq j : Nat) (slots : List Nat) (codes : List Int) : State :=
  match slots with
  | [] => s
  | c :: rest =>
    if c = 1 then
      let settle := SMap.get 0 (s.adcv k).settle 1
      let s := s.adcResult k 1 (codes.headD 0) false true false seq [R.adcSin k]
      let s := s.setAdcv k { s.adcv k with settle := (s.adcv k).settle.set 0 1 settle }
      let s := s.adcResult k 1 ((codes.drop 1).headD 0) false true false seq [R.adcCos k]
      s.adcInjResults k seq (j + 1) rest (codes.drop 2)
    else
      (s.adcResult k c (codes.headD 0) false true false seq [R.adcInjRes k j]).adcInjResults k seq (j + 1) rest
        (codes.drop 1)

/-- ADC_INJECTED_END: the results of the sequence are written, and the re-queued conversion restarts (R450, R451). -/
def adcInjectedEndCmd (k : Nat) (codes : List Int) (s : State) : State :=
  if 4 ≤ k ∨ (s.adcv k).busy = false then s
  else
    let x := s.adcv k
    let s := s.adcInjResults k x.injCount 0 x.slots codes
    let s := s.setAdcv k { s.adcv k with busy := false, slots := [] }
    if s.bit (R.adcCfg k) 3 then s.evC 45 k 2 else s

def execAdcInjectedEnd (k : Nat) (codes : List Int) (s : State) : Host.Outcome State Fault Refusal :=
  .next (adcInjectedEndCmd k codes s)

end Sys2Proof.Machine
end

