-- ==== Sys2Proof/Machine/PortPins.lean ====
section
/-!
DEFINITION. The pins of the local feedback ports between two φ0: glitch filters, counting, illegal transitions and the index
(R196 to R198, R204), feedback faults (R205), latches (R206, R207), compares (R208 to R211) and encoder emulation (R212 to R214),
tick by tick of 2 ns as commands bring the history of the pins.
-/

namespace Sys2Proof.Machine

open Sys2Proof

/-- TIM_INCR, LSB 2^-32 ns (R64). -/
def State.timIncr (s : State) : Nat := (s.reg R.timIncrLo).toNat + 2 ^ 32 * s.fld R.timIncrHi 0 16

/-- T72 of the present tick of the port history: ticks of 2 ns since φ0. -/
def State.pinTime (s : State) : Nat := t72Mod ((s.phi0Now : Int) + s.pins.tick * s.timIncr / 2 ^ 16)

/-! ### Modes and faults (R194, R205) -/

/-- MODE in force: 0 off, 1 quadrature, 2 sine/cosine, 3 SSI, 4 Hall. -/
def State.fbMode (s : State) (k : Nat) : Nat := s.fld (R.fbCfg k) 0 3

def State.fbRuns (s : State) (k : Nat) : Bool := s.bit (R.fbStat k) 0

/-- A port whose count is live: quadrature or Hall (R207, R208). -/
def State.fbLive (s : State) (k : Nat) : Bool := decide (s.fbMode k = 1) || decide (s.fbMode k = 4)

/-- A feedback fault of port `k` with cause bit `c` (R205). It has no further effect where the cause is set already, unless the port has
come to an axis since, whose source 14 is not latched (R130). -/
def State.feedbackFault (s : State) (k c : Nat) : State :=
  let told := match s.fbAxis k with
    | some a => bvGet (s.axis a).faultActive 14
    | none => true
  if s.bit (R.fbFault k) c && told then s
  else
    let s := s.setBit (R.fbFault k) c true
    match s.fbAxis k with
    | some a => ((s.ev (36 + k) k c a).setAxis a (s.axis a).clearHomed).raiseSource a 14 0 false
    | none => s.ev (36 + k) k c 0xFFFFFFFF

/-- Position that a count stands for: a quarter of a line each, or a line in Hall mode. -/
def State.countPos (s : State) (k : Nat) (count : Int) : Int :=
  satBits 72 (count * 2 ^ (if s.fbMode k = 4 then 32 else 30))

/-- Position of the live count, in sine/cosine mode of the comparator count. -/
def State.livePos (s : State) (k : Nat) : Int := s.countPos k (s.fbp k).count

/-! ### Latches (R206, R207, R215) -/

/-- The index that a homing run waits for is the reference (R183). -/
def Axis.takeIndex (x : Axis) (pos : Int) : Axis :=
  match x.homing with
  | some h => if h.phase = .toIndex ∧ h.pRef = none then
      { x with homing := some { h with pRef := some (reducePos (x.raw Pn.modulo) (pos + x.pOff)) } } else x
  | none => x

/-- What latch `j` holds now, to be put back where its port restarts in this cycle (R215). -/
def State.latchSaved (s : State) (k j : Nat) : LatchUndo :=
  { cycle := s.cycle, ctl := s.reg (R.fbLatCtl k j), done := s.bit (R.fbLatStat k) j, ovr := s.bit (R.fbLatStat k) (2 + j),
    pos := s.reg72 (R.fbLatPos k j), t := s.reg72 (R.fbLatT72 k j) }

/-- The first trigger of a cycle keeps what its latch held before it. -/
def State.latchSave (s : State) (k j : Nat) : State :=
  let p := s.fbp k
  let kept := match p.latUndo.getD j none with
    | some u => decide (u.cycle = s.cycle)
    | none => false
  if kept then s else s.setFbp k { p with latUndo := p.latUndo.set j (some (s.latchSaved k j)) }

/-- A restart of port `k` in cycle `c` discards a trigger of that cycle and leaves the latch armed (R215). EV41 of it has gone out. -/
def State.latchRestore (s : State) (k j c : Nat) : State :=
  match (s.fbp k).latUndo.getD j none with
  | some u =>
    if u.cycle ≠ c then s
    else
      let s := (s.setReg72 (R.fbLatPos k j) u.pos).setReg72 (R.fbLatT72 k j) u.t
      let s := (s.setReg (R.fbLatCtl k j) u.ctl).setBit (R.fbLatStat k) j u.done
      s.setBit (R.fbLatStat k) (2 + j) u.ovr
  | none => s

/-- The result of latch `j` is written. -/
def State.latchDone (s : State) (k j : Nat) (pos : Int) (t : Nat) : State :=
  let s := s.latchSave k j
  let done := s.bit (R.fbLatStat k) j
  let s := (s.setReg72 (R.fbLatPos k j) pos).setRegT72 (R.fbLatT72 k j) t
  let s := if done then s.setBit (R.fbLatStat k) (2 + j) true else s
  let s := s.setBit (R.fbLatStat k) j true
  let s := if s.bit (R.fbLatCtl k j) 4 then s else s.setBit (R.fbLatCtl k j) 5 false
  let s := s.ev 41 k j 0
  match s.fbAxis k with
  | some a => if j = 0 then s.setAxis a ((s.axis a).takeIndex pos) else s
  | none => s

/-- EDGE of the latch takes this edge of its source; 0b00 acts as rising. The index has no edge of its own: R198 gives its
position. -/
def State.latchEdge (s : State) (k j : Nat) (rise : Bool) : Bool :=
  let e := s.fld (R.fbLatCtl k j) 2 2
  if e = 0 then rise else if rise then e % 2 = 1 else 2 ≤ e

/-- Latch `j` of port `k` is armed on source `src` and channel `sel`, and takes an edge `rise` of it now. A port that is off, or
that restarted in this cycle, takes no trigger and leaves the latch armed (R215). -/
def State.latchTakes (s : State) (k j src sel : Nat) (rise : Bool) : Bool :=
  s.bit (R.fbLatCtl k j) 5 && decide (s.fld (R.fbLatCtl k j) 0 2 = src) &&
    (decide (src = 1) || (decide (s.fld (R.fbLatCtl k j) 8 4 = sel) && s.latchEdge k j rise)) &&
    s.fbRuns k && decide ((s.fbp k).startCycle ≠ some s.cycle)

/-- A trigger of source `src` (1 index, 2 field input, 3 buoy) at T72 `t` reaches latch `j` of port `k` (R207): the live count at
once, or a result that waits for the samples it is interpolated between. -/
def State.latchMeet (s : State) (k j src sel : Nat) (rise : Bool) (t : Nat) : State :=
  if s.latchTakes k j src sel rise = false then s
  else if src = 1 ∧ 3 ≤ s.fbMode k then s
  else if src = 1 ∨ (src = 3 ∧ s.fbLive k = true) then s.latchDone k j (s.livePos k) t
  else
    let p := s.fbp k
    let lost := (p.latWait.getD j none).isSome
    let s := s.setFbp k { p with latWait := p.latWait.set j (some { t := t, field := decide (src = 2), cycle := s.cycle }) }
    if lost then s.setBit (R.fbLatStat k) (2 + j) true else s

/-- A trigger of a source that serves every port. -/
def State.latchesMeet (s : State) (src sel : Nat) (rise : Bool) (t : Nat) : State :=
  (List.range 8).foldl (fun s i => s.latchMeet (i / 2) (i % 2) src sel rise t) s

/-- Position at `t` on the line through two samples (R207), rounded to the LSB (log entry 173). -/
def interpolate (a b : FbSample) (t tc : Nat) : Int :=
  satBits 72 (a.pos + rnd (((b.pos - a.pos : Int) : Rat) * (t72Diff a.t t : Rat) / (tc : Rat)))

/-- Latch `j` no longer waits for samples. -/
def FbPort.unwait (p : FbPort) (j : Nat) : FbPort := { p with latWait := p.latWait.set j none }

/-- A waiting result is written once the samples that bracket its trigger are there, in a cycle after the one in which the trigger
was seen (R207). A field input takes the sample of the very next φ0, which must be valid; a buoy the next valid one (R215). A
trigger older than the samples kept is lost. -/
def State.latchWrite (s : State) (k j : Nat) : State :=
  let p := s.fbp k
  match p.latWait.getD j none with
  | none => s
  | some w =>
    let after := p.hist.takeWhile (fun x => decide (0 < t72Diff w.t x.t))
    let unread := decide (s.fbMode k = 3) && !p.ssiDone && decide (after.length ≤ 1)
    if w.cycle = s.cycle ∨ after.isEmpty = true then s
    else
      match (p.hist.drop after.length).head?, (if w.field then after.getLast? else after.reverse.find? (fun x => x.valid)) with
      | none, _ => (s.setFbp k (p.unwait j)).setBit (R.fbLatStat k) (2 + j) true
      | some _, none => s
      | some a, some b =>
        if b.valid then (s.setFbp k (p.unwait j)).latchDone k j (interpolate a b w.t (tcycT s.rung)) w.t
        else if unread then s
        else (s.setFbp k (p.unwait j)).setBit (R.fbLatStat k) (2 + j) true

def State.latchWrites (s : State) (k : Nat) : State := (s.latchWrite k 0).latchWrite k 1

/-! ### Compares (R208 to R211) -/

/-- STEP in force: one written alone takes effect from the next hit (R210). -/
def State.stepNow (s : State) (k j : Nat) : Int := ((s.fbp k).stepHeld.getD j none).getD (s.reg72 (R.cmpStep k j))

/-- A write of STEP leaves the one in force until the next hit. -/
def State.holdStep (s : State) (k j : Nat) : State :=
  s.setFbp k { s.fbp k with stepHeld := (s.fbp k).stepHeld.set j (some (s.stepNow k j)) }

/-- STEP as written is in force, at a hit and at a commit of VAL. -/
def State.freeStep (s : State) (k j : Nat) : State := s.setFbp k { s.fbp k with stepHeld := (s.fbp k).stepHeld.set j none }

/-- Direction of a channel: the sign of STEP, or DIR where STEP is zero. -/
def State.cmpDir (s : State) (k j : Nat) : Int :=
  let step := s.stepNow k j
  if step < 0 then -1 else if 0 < step then 1 else if s.bit (R.cmpCtl k j) 1 then -1 else 1

/-- (pos − VAL) × dir. -/
def State.cmpAhead (s : State) (k j : Nat) (pos : Int) : Int := (pos - s.reg72 (R.cmpVal k j)) * s.cmpDir k j

/-- Steps by which a value that lies behind `pos` is advanced; 0 where it lies ahead or STEP is zero (R210). -/
def State.cmpBehind (s : State) (k j : Nat) (pos : Int) : Nat :=
  let step := s.stepNow k j
  let ahead := s.cmpAhead k j pos
  if step = 0 ∨ ahead < 0 then 0 else (ahead / |step| + 1).toNat

/-- VAL advances by `n` steps past points that emit nothing, counted in SKIP. -/
def State.cmpSkipBy (s : State) (k j n : Nat) : State :=
  (s.setReg72 (R.cmpVal k j) (satBits 72 (s.reg72 (R.cmpVal k j) + n * s.stepNow k j))).bumpFld
    (R.cmpSkip k j) 0 32 n

/-- The emulation drives the pin that OUT names. -/
def State.cmpPinBusy (s : State) (k out : Nat) : Bool :=
  let mode := s.fld (R.fbEmuCfg k) 0 2
  (decide (out = 1) && decide (mode = 1)) || ((decide (out = 2) || decide (out = 3)) && decide (mode ≠ 0))

/-- The output of channel `j` at a hit: a pulse begins or the pin changes state (R211). -/
def State.cmpDrive (s : State) (k j : Nat) : State :=
  let out := s.fld (R.cmpCtl k j) 2 2
  let busy := s.cmpPinBusy k out
  let s := s.setBit (R.cmpStat k j) 2 busy
  let p := s.fbp k
  if out = 0 ∨ busy = true then s
  else if s.bit (R.cmpCtl k j) 4 then
    s.setFbp k { p with cmpTog := p.cmpTog.set (out - 1) (!p.cmpTog.getD (out - 1) false) }
  else s.setFbp k { p with cmpPulse := p.cmpPulse.set j true }

/-- A hit of channel `j` (R209): HITS, the output, EV40 once per cycle, and VAL moves on; the channel re-arms 8 ns later. -/
def State.hitAt (s : State) (k j : Nat) : State :=
  let s := (s.setReg (R.cmpHits k j) (s.reg (R.cmpHits k j) + 1)).freeStep k j
  let s := s.cmpDrive k j
  let p := s.fbp k
  let s := s.setFbp k { p with cmpArm := p.cmpArm.set j 4 }
  let s := if s.bit (R.cmpCtl k j) 6 ∧ p.cmpSeen.getD j false = false then
      (s.setFbp k { s.fbp k with cmpSeen := p.cmpSeen.set j true }).ev 40 k j (s.reg (R.cmpHits k j)).toNat
    else s
  if s.reg72 (R.cmpStep k j) = 0 then s.setBit (R.cmpCtl k j) 0 false
  else s.setReg72 (R.cmpVal k j) (satBits 72 (s.reg72 (R.cmpVal k j) + s.reg72 (R.cmpStep k j)))

/-- The compare position moves from `old` to `new` (R208): an enabled and armed channel is hit where it crosses VAL in its
direction. -/
def State.compareMove (s : State) (k j : Nat) (old new : Int) : State :=
  if s.bit (R.cmpCtl k j) 0 = true ∧ (s.fbp k).cmpArm.getD j 0 = 0 ∧ s.cmpAhead k j old < 0 ∧ 0 ≤ s.cmpAhead k j new then s.hitAt k j
  else s

/-- Compare position of an SSI port (R208): the line through the two newest samples read, at the present tick. -/
def State.ssiExtra (s : State) (k : Nat) : Int :=
  let p := s.fbp k
  let read := if p.ssiDone then p.hist else p.hist.drop 1
  match read with
  | a :: b :: _ => satBits 72 (a.pos + rnd (((a.pos - b.pos : Int) : Rat) * (t72Diff a.t s.pinTime : Rat) / (tcycT s.rung : Rat)))
  | [a] => a.pos
  | [] => p.pos

/-- Compare position at the present tick. -/
def State.cmpPos (s : State) (k : Nat) : Int := if s.fbMode k = 3 then s.ssiExtra k else s.livePos k

/-- One tick towards the re-arming of channel `j`. A value that lies behind by then is advanced with OVERRUN (R209). -/
def State.rearmTick (s : State) (k j : Nat) : State :=
  let p := s.fbp k
  let n := p.cmpArm.getD j 0
  if n = 0 then s
  else
    let s := s.setFbp k { p with cmpArm := p.cmpArm.set j (n - 1) }
    let b := s.cmpBehind k j (s.cmpPos k)
    if n = 1 ∧ b ≠ 0 ∧ s.bit (R.cmpCtl k j) 0 = true then (s.cmpSkipBy k j b).setBit (R.cmpStat k j) 1 true else s

/-- The compare channels of a port at a tick: re-arming, and the extrapolation of an SSI port, evaluated every 2 ns. -/
def State.compareTick (s : State) (k : Nat) : State :=
  let s := (s.rearmTick k 0).rearmTick k 1
  if s.fbMode k = 3 then
    let old := (s.fbp k).ssiAt
    let new := s.ssiExtra k
    let s := s.setFbp k { s.fbp k with ssiAt := new }
    (s.compareMove k 0 old new).compareMove k 1 old new
  else s

/-- A pin of port `k` (0 FBk_EZ, 1 FBk_EA, 2 FBk_EB) is active by its compare channels: two pulses combine as R76 says. -/
def State.comparePin (s : State) (k pin : Nat) : Bool :=
  let p := s.fbp k
  (List.range 2).any (fun j => decide (s.fld (R.cmpCtl k j) 2 2 = pin + 1) && p.cmpPulse.getD j false) ^^
    p.cmpTog.getD pin false

/-- POL of the compare channel that drives a pin, the lower where both do (log entry 174). -/
def State.comparePol (s : State) (k pin : Nat) : Bool :=
  match (List.range 2).find? (fun j => decide (s.fld (R.cmpCtl k j) 2 2 = pin + 1)) with
  | some j => s.bit (R.cmpCtl k j) 5
  | none => false

/-! ### Encoder emulation (R212 to R214) -/

/-- An output count joins the backlog; one that finds 255 waiting is lost, with OVF (R214). -/
def State.emuPush (s : State) (e : Nat) (d : Int) : State :=
  let p := s.fbp e
  let wait := p.emuWait + d
  if 255 < wait.natAbs then s.setBit (R.fbEmuStat e) 8 true
  else (s.setFbp e { p with emuWait := wait }).setFld (R.fbEmuStat e) 0 8 wait.natAbs

/-- One input count of direction `d`: the accumulator takes N, and gives an output count at each M (R212). -/
def State.emuCount (s : State) (e : Nat) (d : Int) : State :=
  let p := s.fbp e
  let m : Int := max 1 (s.fld (R.fbEmuM e) 0 24)
  let acc := p.emuAcc + d * s.fld (R.fbEmuN e) 0 24
  let sense : Int := if s.bit (R.fbEmuCfg e) 4 then -1 else 1
  if m ≤ acc then (s.setFbp e { p with emuAcc := acc - m }).emuPush e sense
  else if acc ≤ -m then (s.setFbp e { p with emuAcc := acc + m }).emuPush e (-sense)
  else s.setFbp e { p with emuAcc := acc }

/-- `n` input counts of one direction. -/
def State.emuCounts (s : State) (e : Nat) (d : Int) (n : Nat) : State := (List.range n).foldl (fun s _ => s.emuCount e d) s

/-- The emulation of port `e` runs and takes its input from port `k`. -/
def State.emuFrom (s : State) (e k : Nat) : Bool :=
  let mode := s.fld (R.fbEmuCfg e) 0 2
  (decide (mode = 1) || decide (mode = 2)) && decide (s.fld (R.fbEmuCfg e) 2 2 = k)

/-- An edge or a Hall step of port `k` goes to every emulation that it feeds, one by one. -/
def State.emuFeed (s : State) (k : Nat) (d : Int) : State :=
  (List.range 4).foldl (fun s e => if s.emuFrom e k then s.emuCount e d else s) s

/-- An index of port `k` asks for a Z pulse of every emulation that follows it (ZMODE = 0). -/
def State.emuIndex (s : State) (k : Nat) : State :=
  (List.range 4).foldl (fun s e =>
    if s.emuFrom e k = true ∧ s.fld (R.fbEmuCfg e) 0 2 = 1 ∧ s.bit (R.fbEmuCfg e) 8 = false then
      s.setFbp e { s.fbp e with emuZDue := true } else s) s

/-- An output count leaves: an edge on FBk_EA and FBk_EB with its Z pulse, or a STEP pulse. -/
def State.emuEmit (s : State) (e : Nat) (d : Int) : State :=
  let p := s.fbp e
  let out := p.emuOut + d
  let quad := decide (s.fld (R.fbEmuCfg e) 0 2 = 1)
  let zdue := if s.bit (R.fbEmuCfg e) 8 then decide (out % (4 * max 1 (s.fld (R.fbEmuCfg e) 16 16) : Nat) = 0) else p.emuZDue
  let width := s.fld (R.fbEmuStep e) 0 16
  let p := { p with emuOut := out, emuWait := p.emuWait - d,
                    emuGap := if quad then max 1 (s.fld (R.fbEmuN e) 24 8) else 2 * max 1 width,
                    emuHigh := if quad then 0 else max 1 width,
                    emuZ := quad && zdue, emuZDue := false }
  (s.setFbp e p).setFld (R.fbEmuStat e) 0 8 p.emuWait.natAbs

/-- Input counts that a sampled source is due to have given by this tick, spread evenly over the cycle (R212). -/
def State.emuSpreadTick (s : State) (e : Nat) : State :=
  let p := s.fbp e
  let due := min p.emuSpread.natAbs (p.emuSpread.natAbs * s.pins.tick * 2 / tcycNs s.rung)
  if due ≤ p.emuFed then s
  else (s.setFbp e { p with emuFed := due }).emuCounts e p.emuSpread.sign (due - p.emuFed)

/-- One tick of the emulation of port `e`: outputs keep their spacing (MINSEP, or twice STEP_W), and a change of DIR comes
DIR_SETUP before the next STEP edge (R212, R213). -/
def State.emuTick (s : State) (e : Nat) : State :=
  let mode := s.fld (R.fbEmuCfg e) 0 2
  if mode ≠ 1 ∧ mode ≠ 2 then s
  else
    let s := s.emuSpreadTick e
    let p := { s.fbp e with emuGap := (s.fbp e).emuGap - 1, emuHigh := (s.fbp e).emuHigh - 1 }
    let s := s.setFbp e p
    let d := p.emuWait.sign
    if d = 0 then s
    else if mode = 2 ∧ p.emuDir ≠ decide (0 < d) then
      s.setFbp e { p with emuDir := decide (0 < d), emuGap := max p.emuGap (s.fld (R.fbEmuStep e) 16 16) }
    else if p.emuGap = 0 then s.emuEmit e d
    else s

/-- Units of 1/(4 × 2^SUB) line in a position. -/
def State.emuUnits (s : State) (e : Nat) (pos : Int) : Int := pos / 2 ^ (30 - s.fld (R.fbEmuCfg e) 5 3)

/-- The emulation of port `e` at φ0 with a sine/cosine or SSI source: what is left of the last change follows at once, and the
change of p to the newest sample is spread over the cycle that begins. The first sample is where it begins. -/
def State.emuPhi0 (s : State) (e : Nat) : State :=
  let k := s.fld (R.fbEmuCfg e) 2 2
  if s.emuFrom e k = false ∨ ¬(s.fbMode k = 2 ∨ s.fbMode k = 3) then s
  else
    let p := s.fbp e
    let s := s.emuCounts e p.emuSpread.sign (p.emuSpread.natAbs - p.emuFed)
    let src := s.fbp k
    let newest := if s.fbMode k = 3 then src.hist.drop 1 else src.hist
    match newest.find? (fun x => x.valid) with
    | none => s.setFbp e { s.fbp e with emuSpread := 0, emuFed := 0 }
    | some x =>
      let u := s.emuUnits e x.pos
      s.setFbp e { s.fbp e with emuSpread := match p.emuBase with
                                  | some b => u - b
                                  | none => 0
                                emuFed := 0, emuBase := some u }

/-! ### Counting, illegal transitions and the index (R196 to R198, R204) -/

/-- ILLEGAL_TRANSITION's effect: the count is left; ILLEGAL, the counts, EV43 once per cycle, and a fault where LEVEL reaches
ILL_LIM (R197). -/
def State.illegalAt (s : State) (k : Nat) : State :=
  let p := s.fbp k
  let s := ((s.setBit (R.fbStat k) 8 true).bumpFld (R.fbIllCnt k) 0 16 1).bumpFld (R.fbIllCnt k) 16 8 1
  let level := s.fld (R.fbIllCnt k) 16 8
  let s := (s.setFbp k { p with illSeen := true })
  let s := if p.illSeen then s else s.ev 43 k 0 level
  let lim := s.fld (R.fbCfg k) 16 8
  if 0 < lim ∧ lim ≤ level then s.feedbackFault k 0 else s

/-- A counted step `d`: the count, the compare channels, and the emulations that follow it. -/
def State.countStep (s : State) (k : Nat) (d : Int) : State :=
  let p := s.fbp k
  let s := s.setFbp k { p with count := p.count + d, lastStep := d }
  let old := s.countPos k p.count
  let new := s.livePos k
  let s := (s.compareMove k 0 old new).compareMove k 1 old new
  if s.fbLive k then s.emuFeed k d else s

/-- Deviation of a difference of counts from the nearest of -L4, 0 and L4; of two equally near, `pick` chooses. -/
def idxDeviation (d l4 : Int) (pick : Bool) : Int :=
  let t := if 0 ≤ d then l4 else -l4
  if |d| < |d - t| ∨ (|d| = |d - t| ∧ pick = true) then d else d - t

/-- The index is met at the present count (R198): it is latched, the latches armed on it fire, emulations follow it with Z, and it
is checked against the one before. -/
def State.indexAt (s : State) (k : Nat) : State :=
  let p := s.fbp k
  let count := p.count
  let seen := s.bit (R.fbStat k) 2
  let s := (s.setFbp k { p with idxCount := count }).setBit (R.fbStat k) 2 true
  let s := (s.latchMeet k 0 1 0 true s.pinTime).latchMeet k 1 1 0 true s.pinTime
  let s := s.emuIndex k
  let l4 : Int := 4 * (s.reg (R.fbLines k)).toNat
  let d := count - p.idxCount
  if seen = false ∨ s.bit (R.fbCfg k) 7 = false ∨ l4 = 0 ∨ d = 0 ∨ d = l4 ∨ d = -l4 then s
  else
    let (w, s) := s.freeW
    let dev := satBits 32 (idxDeviation d l4 (w.getLsbD 0))
    let s := (s.setBit (R.fbStat k) 9 true).setReg (R.fbIdxDiff k) (BitVec.ofInt 32 dev)
    let s := s.ev 42 k 0 (tc 32 dev)
    if 4 * (s.fld (R.fbCfg k) 12 4 : Int) < |dev| then s.feedbackFault k 1 else s

/-- ZGATE qualifies an index with these levels. -/
def State.zGate (s : State) (k : Nat) (l : FbLevels) : Bool :=
  match s.fld (R.fbCfg k) 8 2 with
  | 0 => true
  | 1 => l.a && l.b
  | 2 => l.a
  | _ => l.b

/-- Step that one sample of A and B makes from the levels before: none for an illegal transition (R196, R197). -/
def quadStep (a b a' b' : Bool) : Option Int :=
  if a ≠ a' ∧ b ≠ b' then none
  else if a ≠ a' then some (if a' = b then -1 else 1)
  else if b ≠ b' then some (if b' = a then 1 else -1)
  else some 0

/-- Place of a Hall state in the positive sequence (R204), with U as bit 0; 6 for 0b000 and 0b111. -/
def hallPlace (l : FbLevels) : Nat :=
  [6, 0, 2, 1, 4, 5, 3, 6].getD ((if l.a then 1 else 0) + (if l.b then 2 else 0) + if l.z then 4 else 0) 6

/-- Step of a change of U, V and W. A change out of 0b000 or 0b111 into a valid state counts nothing and reports nothing, whatever stood
before the illegal state: R197 and R204 name only changes into them (DESIGN CHOICE, log entry 201). -/
def hallStep (old new : FbLevels) : Option Int :=
  if old = new then some 0
  else if hallPlace new = 6 ∨ hallPlace old = 6 then (if hallPlace new = 6 then none else some 0)
  else if hallPlace new = (hallPlace old + 1) % 6 then some 1
  else if hallPlace old = (hallPlace new + 1) % 6 then some (-1)
  else none

/-- Counted steps are reversed by DIRINV, and by SWAP at the comparators (R196, R199, R204). -/
def State.fbReversed (s : State) (k : Nat) : Bool := if s.fbMode k = 2 then s.bit (R.fbSc k) 20 else s.bit (R.fbCfg k) 3

/-- A sample of the filtered lines of a running port: A and B, or U, V and W, are counted; then the ends of a pulse of Z are the
index of R198. In sine/cosine mode `a` and `b` are the comparators of sine and cosine, whose simultaneous change counts nothing. -/
def State.decode (s : State) (k : Nat) (old new : FbLevels) : State :=
  let mode := s.fbMode k
  let step := if mode = 1 then quadStep old.a old.b new.a new.b
    else if mode = 2 then some ((quadStep old.b old.a new.b new.a).getD 0)
    else if mode = 4 then hallStep old new
    else some 0
  let s := match step with
    | none => s.illegalAt k
    | some d => if d = 0 then s else s.countStep k (if s.fbReversed k then -d else d)
  if ¬(mode = 1 ∨ mode = 2) ∨ old.z = new.z then s
  else if new.z = true ∧ 0 ≤ (s.fbp k).lastStep ∧ s.zGate k new = true then s.indexAt k
  else if new.z = false ∧ (s.fbp k).lastStep < 0 ∧ s.zGate k old = true then s.indexAt k
  else s

/-! ### The glitch filter and the history of the pins (R196) -/

/-- A level passes the filter once it has held for `f` ticks. -/
def passed (f : Nat) (held : Nat) (raw lev : Bool) : Bool := if f ≤ held then raw else lev

/-- The levels behind the filter of FILT × 2 ns. The comparators of sine/cosine mode have their hysteresis instead. -/
def FbPort.filtered (p : FbPort) (f : Nat) (own : Bool) : FbLevels :=
  { a := passed (if own then 0 else f) p.heldA p.raw.a p.lev.a, b := passed (if own then 0 else f) p.heldB p.raw.b p.lev.b,
    z := passed f p.heldZ p.raw.z p.lev.z }

/-- The port takes a sample of its lines. -/
def State.portSettle (s : State) (k : Nat) : State :=
  let p := s.fbp k
  let new := p.filtered (s.fld (R.fbCfg k) 4 3) (decide (s.fbMode k = 2))
  if new = p.lev then s
  else
    let s := s.setFbp k { p with lev := new }
    if s.fbRuns k then s.decode k p.lev new else s

/-- One tick of 2 ns at port `k`. -/
def State.portTick (s : State) (k : Nat) : State :=
  let p := s.fbp k
  let s := s.setFbp k { p with heldA := min 8 (p.heldA + 1), heldB := min 8 (p.heldB + 1), heldZ := min 8 (p.heldZ + 1) }
  let s := s.portSettle k
  let s := if s.fbRuns k then s.compareTick k else s
  s.emuTick k

/-- One tick of 2 ns at every port. -/
def State.fbTick (s : State) : State :=
  (List.range 4).foldl (fun s k => s.portTick k) { s with pins := { s.pins with tick := s.pins.tick + 1 } }

/-- `n` ticks in which no pin changes. -/
def State.fbTicks : Nat → State → State
  | 0, s => s
  | n + 1, s => State.fbTicks n s.fbTick

/-- The lines of a port change. -/
def State.pinChange (s : State) (e : FbEdge) : State :=
  if 4 ≤ e.port then s
  else
    let p := s.fbp e.port
    let held (x y : Bool) (h : Nat) : Nat := if x = y then h else 0
    let p := { p with raw := { a := e.a, b := e.b, z := e.z }, heldA := held p.raw.a e.a p.heldA, heldB := held p.raw.b e.b p.heldB,
                      heldZ := held p.raw.z e.z p.heldZ }
    (s.setFbp e.port p).portSettle e.port

/-- The history of the pins that a command brings: every change with the quiet ticks before it, then the quiet ticks after the
last. -/
def State.pinsRun (s : State) (r : PinRun) : State :=
  State.fbTicks r.quiet (r.edges.foldl (fun s e => (State.fbTicks e.after s).pinChange e) s)

/-- The levels that a port shows one step of direction `d` on. -/
def State.nextLevels (s : State) (k : Nat) (d : Int) : FbLevels :=
  let l := (s.fbp k).lev
  let fwd := decide (0 < d) != s.fbReversed k
  if s.fbMode k = 4 then
    let n := (hallPlace l + (if fwd then 1 else 5)) % 6
    { a := decide (n = 0 ∨ n = 1 ∨ n = 5), b := decide (n = 1 ∨ n = 2 ∨ n = 3), z := decide (n = 3 ∨ n = 4 ∨ n = 5) }
  else
    let q := if s.fbMode k = 2 then !fwd else fwd
    if (l.a == l.b) == q then { l with a := !l.a } else { l with b := !l.b }

/-- The lines of port `k` stand at `l`, behind the filter too. -/
def State.linesAt (s : State) (k : Nat) (l : FbLevels) : State := s.setFbp k { s.fbp k with raw := l, lev := l }

/-! ### Levels of the pins of a port (R191) -/

/-- FBk_EA, FBk_EB or FBk_EZ as pin 1, 2 or 0 of R211: the emulation, or the compare channels with their polarity. -/
def State.fbOutPin (s : State) (k pin : Nat) : Bool :=
  let p := s.fbp k
  let mode := s.fld (R.fbEmuCfg k) 0 2
  if s.cmpPinBusy k (pin + 1) then
    if pin = 0 then p.emuZ
    else if mode = 2 then (if pin = 1 then decide (0 < p.emuHigh) else p.emuDir)
    else
      let q := p.emuOut % 4
      if pin = 1 then decide (q = 1 ∨ q = 2) else decide (q = 2 ∨ q = 3)
  else s.comparePin k pin != s.comparePol k pin

/-- FBk_CLK at the present tick: high at rest; a frame begins at φ0 with its first falling edge and has BITS + 1 clock periods of
1/f, low in the first half of each (R195, R201, R202). -/
def State.fbClk (s : State) (k : Nat) : Bool :=
  let half := 25 * 2 ^ s.fld (R.fbSsi k) 20 3
  let n := s.pins.tick / half
  if s.fbMode k = 3 ∧ s.fbRuns k = true ∧ (s.fbp k).loopMeasured = true ∧ n < 2 * (s.fld (R.fbSsi k) 0 7 + 1) then decide (n % 2 = 1)
  else true

end Sys2Proof.Machine
end

