-- ==== Sys2Proof/Machine/Clock.lean ====
section
/-!
DEFINITION. Backbone time and buoys (R64 to R76): the time servo, SYNC_IN and SYNC_OUT, PTM, the firing of buoys, and the
2 ns tick.
-/

namespace Sys2Proof.Machine

open Sys2Proof

/-! ### TIM_INCR and the servo (R64, R67, R68) -/

def State.setTimIncr (s : State) (x : Nat) : State :=
  (s.setReg R.timIncrLo (BitVec.ofNat 32 x)).setFld R.timIncrHi 0 16 (x / 2 ^ 32)

/-- The counter runs while PLL_SYS does: after boot, outside Standby (R496). -/
def State.counterRuns (s : State) : Bool := s.live

/-- One 2 ns tick of the local time counter (R64), taken where no command waits (log entry 13). -/
def State.tick (s : State) : State :=
  if s.counterRuns then { s with time := (s.time + s.timIncr) % 2 ^ 88 } else s

/-- A T72 interval in ns. -/
def t72Ns (e : Int) : Rat := (e : Rat) / 2 ^ 16

/-- TIM_OFFSET: e with LSB 2^-8 ns, saturating (R77). -/
def State.showOffset (s : State) (e : Int) : State :=
  s.setReg R.timOffset (BitVec.ofNat 32 (tc 32 (satBits 32 (rnd ((e : Rat) / 2 ^ 8)))))

/-! ### Buoys (R73 to R76) -/

def State.byOffsetNs (s : State) (b : Nat) : Nat := 2 * s.fld (R.byCfg b) 0 17

/-- Buoy `b` is enabled and falls in the present cycle (R73). -/
def State.byDue (s : State) (b : Nat) : Bool :=
  s.bit (R.byCfg b) 17 && decide (s.cycle % 2 ^ s.fld (R.byCfg b) 29 3 = 0)

/-- The pin of a firing buoy (R75): a pulse begins, or the level changes. -/
def State.byPin (s : State) (b : Nat) : State :=
  if s.bit (R.byCfg b) 26 = false then s
  else
    let pin := s.fld (R.byCfg b) 27 2
    if s.fld (R.byWidth b) 0 16 = 0 then
      { s with pins := { s.pins with buoyLevel := bvPut s.pins.buoyLevel pin (!bvGet s.pins.buoyLevel pin) } }
    else
      let held := s.pins.buoyActive.getD pin []
      let t := t72Mod ((s.phi0Now : Int) + (s.byOffsetNs b + 2 * s.fld (R.byWidth b) 0 16) * 2 ^ 16)
      { s with pins := { s.pins with buoyActive := s.pins.buoyActive.set pin (if b ∈ held then held else held ++ [b]),
                                     buoyEnd := s.pins.buoyEnd.set 0 b t } }

/-- The buoy pins are held inactive (R73). -/
def Pins.still (p : Pins) : Pins := { p with buoyActive := [[], [], [], []], buoyLevel := 0 }

/-- The firing of buoy `b` is a rising edge, but where it makes its toggled pin inactive (log entry 175). -/
def State.byRises (s : State) (b : Nat) : Bool :=
  !(s.bit (R.byCfg b) 26 && decide (s.fld (R.byWidth b) 0 16 = 0) && bvGet s.pins.buoyLevel (s.fld (R.byCfg b) 27 2))

/-- Latches whose source is buoy `b` (R206, R207). -/
def State.buoyLatches (s : State) (b : Nat) (rise : Bool) (t : Nat) : State := s.latchesMeet 3 b rise t

/-- Buoy `b` fires with every action its register selects (R73), once per cycle (R76). -/
def State.fireBuoy (s : State) (b : Nat) : State :=
  if 8 ≤ b ∨ s.live = false ∨ s.byDue b = false ∨ bvGet s.pins.fired b = true then s
  else
    let s := { s with pins := { s.pins with fired := bvPut s.pins.fired b true } }
    let s := if s.bit (R.byCfg b) 18 then s.ev (12 + b) 0 0 s.cycle else s
    let s := if s.bit (R.byCfg b) 19 ∧ s.fld (R.byCfg b) 20 4 < 12 then s.wake (s.fld (R.byCfg b) 20 4) else s
    let s := if s.bit (R.byCfg b) 24 then (List.range 4).foldl (fun s k => adcInjectedTriggerCmd k (.buoy b) s) s else s
    let s := if s.bit (R.byCfg b) 25 then s.timedTrigger 2 b s.now else s
    (s.byPin b).buoyLatches b (s.byRises b) (t72Mod ((s.phi0Now : Int) + s.byOffsetNs b * 2 ^ 16))

/-- Buoys whose instant of the present cycle lies in `(t0, t1]`, fired once in ascending order (R76). -/
def State.firePassed (s : State) (t0 t1 : Nat) : State :=
  (List.range 8).foldl (fun s b =>
    let t := t72Mod ((s.phi0Now : Int) + s.byOffsetNs b * 2 ^ 16)
    if 0 < t72Diff t0 t ∧ 0 ≤ t72Diff t t1 then s.fireBuoy b else s) s

/-- BUOY_FIRE: a buoy has reached its offset (R73). -/
def buoyFireCmd (x : BuoyShot) (s : State) : State := (s.pinsRun x.run).fireBuoy x.buoy

def execBuoyFire (x : BuoyShot) (s : State) : Host.Outcome State Fault Refusal := .next (buoyFireCmd x s)

/-- BUOY_PIN_END: the pulse of buoy `b` ends; the pin stays active while another buoy holds it (R75, R76).
For a latch it is the buoy's falling edge, WIDTH after the firing, which may lie in an earlier cycle (R74, R206). -/
def buoyPinEndCmd (b : Nat) (s : State) : State :=
  let active := s.pins.buoyActive.any (fun l => l.contains b)
  let s := { s with pins := { s.pins with buoyActive := s.pins.buoyActive.map (fun l => l.filter (fun x => x != b)) } }
  if active then
    s.buoyLatches b false (SMap.get 0 s.pins.buoyEnd b)
  else s

def execBuoyPinEnd (b : Nat) (s : State) : Host.Outcome State Fault Refusal := .next (buoyPinEndCmd b s)

/-! ### The servo -/

/-- Local time moves by `-e` (R67): buoys passed forward fire at once. -/
def State.stepTime (s : State) (e : Int) : State :=
  let t0 := s.now
  let s := { s with time := (((s.time : Int) - e * 2 ^ 16) % 2 ^ 88).toNat,
                    servo := { s.servo with s := 0, good := 0, badRun := 0 } }
  let s := (s.setBit R.timStat 8 true).setBit R.timStat 0 false
  s.firePassed t0 s.now

/-- LOCKED by R68 after an error `e` that was no step: 16 within 2 ns set it, 4 beyond 8 ns clear it. -/
def State.judgeLock (s : State) (e : Int) : State :=
  let good := if |e| ≤ 2 * 2 ^ 16 then min 16 (s.servo.good + 1) else 0
  let bad := if 8 * 2 ^ 16 < |e| then s.servo.badRun + 1 else 0
  let s := { s with servo := { s.servo with good := good, badRun := bad } }
  if 4 ≤ bad then s.setBit R.timStat 0 false
  else if 16 ≤ good then s.setBit R.timStat 0 true
  else s

/-- One update of the servo law of R67, by NE0, or NE1 in its place (R34), with error `e` in T72 LSB and period `t_cyc` in ns. -/
def State.runServo (s : State) (e : Int) (period : Rat) : State :=
  if s.servoServed = false then s
  else
  let s := { s with servo := { s.servo with missed := 0 } }
  let s := (s.showOffset e).setBit R.timStat 1 false
  if 1000 * 2 ^ 16 < |e| then s.stepTime e
  else
    let u : Rat := -(t72Ns e / 8 + t72Ns (s.servo.s + e) / 128) / period
    let lim : Rat := 500 / 1000000
    if lim < absR u then
      ((s.setBit R.timStat 9 true).setTimIncr (2 ^ 33 + rnd (2 ^ 33 * clampR (-lim) lim u)).toNat).judgeLock e
    else
      (({ s with servo := { s.servo with s := s.servo.s + e } }).setTimIncr (2 ^ 33 + rnd (2 ^ 33 * u)).toNat).judgeLock e

/-- A cycle, or an expected edge, without input to the servo: holdover; 8 in a row clear LOCKED (R68, R69). The spec does not say
whether a missed Flash breaks the runs of 16 good or of 4 bad Flashes: the model counts both over received Flashes, so a miss
leaves them as they are until the eighth (DESIGN CHOICE, log entry 153). -/
def State.holdover (s : State) : State :=
  let s := { s with servo := { s.servo with missed := s.servo.missed + 1 } }
  let s := s.setBit R.timStat 1 true
  if 8 ≤ s.servo.missed then { (s.setBit R.timStat 0 false) with servo := { s.servo with good := 0 } } else s

/-! ### SYNC_IN and SYNC_OUT (R71, R72) -/

/-- This VLN is the Lantern and disciplines its counter by SYNC_IN. -/
def State.disciplined (s : State) : Bool := s.bb.lantern && decide (s.fld R.timSyncCfg 0 2 = 2)

/-- SYNC_IN_EDGE: the stamp is latched; in discipline mode the Lantern runs R67 against the nearest expected edge. An edge that
lies more than 1 µs from it is still an edge, by which R67 steps the time: only an edge that does not come is missing, as
SYNCIN_MISS says (DESIGN CHOICE, log entry 154). -/
def syncInEdgeCmd (stamp : Nat) (s : State) : State :=
  if s.live = false ∨ s.fld R.timSyncCfg 0 2 = 0 then s
  else
    let s := s.setRegT72 R.timSyncin stamp
    if s.disciplined = false then s
    else
      let r := 2 ^ s.fld R.timSyncCfg 5 3
      let n0 := s.cycle - s.cycle % r
      let e0 := t72Diff (s.phi0 n0) stamp
      let e1 := t72Diff (s.phi0 (cycAdd n0 r)) stamp
      s.runServo (if |e0| ≤ |e1| then e0 else e1) (r * tcycNs s.rung : Nat)

def execSyncInEdge (stamp : Nat) (s : State) : Host.Outcome State Fault Refusal := .next (syncInEdgeCmd stamp s)

/-- SYNCIN_MISS: an expected edge is missing, and TIM_INCR is held (R69, R72). -/
def syncinMissCmd (s : State) : State :=
  if s.live ∧ s.disciplined ∧ s.servoServed then (s.setBit R.timStat 10 true).holdover else s

def execSyncinMiss (s : State) : Host.Outcome State Fault Refusal := .next (syncinMissCmd s)

/-- SYNC_OUT at φ0 of the present cycle (R71). -/
def State.syncOutPhi0 (s : State) : State :=
  if s.bit R.timSyncCfg 3 ∧ s.cycle % 2 ^ s.fld R.timSyncCfg 8 3 = 0 then
    { s with pins := { s.pins with syncOut := true } }
  else s

/-- SYNC_OUT_PULSE_END: the pulse has lasted OUT_WIDTH × 2 ns (R71). -/
def syncOutPulseEndCmd (s : State) : State := { s with pins := { s.pins with syncOut := false } }

def execSyncOutPulseEnd (s : State) : Host.Outcome State Fault Refusal := .next (syncOutPulseEndCmd s)

/-! ### PTM (R70) -/

/-- PTM_DIALOGUE: the pair (host time in ns, T72) of a dialogue, or none where it fails. -/
def ptmDialogueCmd (pair : Option (Nat × Nat)) (s : State) : State :=
  if s.live = false ∨ s.bit R.timPtmCtl 0 = false then s
  else
    match pair with
    | some (host, t) =>
      (((s.setRegT72 R.timPtmT72 t).setReg R.timPtmHost (BitVec.ofNat 32 host)).setReg (R.timPtmHost + 4)
        (BitVec.ofNat 32 (host / 2 ^ 32))).setBit R.timStat 3 true
    | none => s.setBit R.timStat 3 false

def execPtmDialogue (pair : Option (Nat × Nat)) (s : State) : Host.Outcome State Fault Refusal :=
  .next (ptmDialogueCmd pair s)

end Sys2Proof.Machine
end

