-- ==== Sys2Proof/Machine/Acquire.lean ====
section
/-!
DEFINITION. Capture pods and node traces (R427 to R435, R440 to R443): arming, samples, triggers, host copies, freezing
and reading a trace.
-/

namespace Sys2Proof.Machine

open Sys2Proof

/-! ### Arming (R427, R428, R435) -/

/-- The ACQ_ARM buffer as read (R428). -/
structure ArmCfg where
  npea : Nat
  s : Nat
  post : Nat
  c : Nat
  mode : Nat
  div : Nat
  tkind : Nat
  tedge : Nat
  tch : Nat
  targ : Nat
  host : Nat
  level : Int
  hyst : Int
  src : List Nat
  deriving DecidableEq, Repr

def parseArm (bs : List Byte) : ArmCfg :=
  { npea := field bs 0 8, s := field bs 8 4, post := field bs 12 4, c := field bs 16 1, mode := field bs 17 1,
    div := field bs 18 1, tkind := field bs 19 1, tedge := field bs 20 1, tch := field bs 21 1, targ := field bs 22 2,
    host := field bs 24 8, level := field72 bs 32, hyst := field72 bs 48,
    src := (List.range 16).map (fun j => field bs (64 + 4 * j) 4) }

/-- Decimation period of a modulator channel in ns (R220). -/
def State.decimationNs (s : State) (c : Nat) : Nat := 1600 * 2 ^ s.fld (R.sdmCfg c) 2 2

/-- Sample period of a pod in ns (R430). -/
def State.samplePeriodNs (s : State) (fast : Bool) (div : Nat) (src : List Nat) : Nat :=
  2 ^ div * (if fast then s.decimationNs (srcSel (src.headD 0) % 16) else tcycNs s.rung)

/-- Units of 512 words that an area takes (R427). -/
def areaUnits (npea n c : Nat) : Nat := (npea * n * c + 511) / 512

/-- Armed pods. -/
def State.armed (s : State) : List Pod := (List.range 8).filterMap (fun p => s.pod p)

/-- Lowest free place of `size` units in the 2,048 of the capture region (log entry 12). -/
def State.freeBase (s : State) (size : Nat) : Option Nat :=
  let fits (b : Nat) : Bool :=
    decide (b + size ≤ 2048) && s.armed.all (fun q => decide (b + size ≤ q.base) || decide (q.base + q.size ≤ b))
  ((0 :: s.armed.map (fun q => q.base + q.size)).filter fits).min?

/-- Words per µs of a pod, as an exact ratio (R435 cause 3). -/
def State.podRate (s : State) (c : Nat) (fast : Bool) (div : Nat) (src : List Nat) : Rat :=
  (1000 * c : Nat) / (s.samplePeriodNs fast div src : Rat)

/-- CAUSE of R435, the first row of its table that applies; 0 none. -/
def State.armCause (s : State) (p : Nat) (q : ArmCfg) : Nat :=
  let fast := decide (q.mode / 2 % 2 = 1)
  let src := q.src.take q.c
  if q.s < q.post then 1
  else if (s.freeBase (areaUnits q.npea q.s q.c)).isNone ∨ 1024 < (s.armed.map (fun x => x.npea)).sum + q.npea then 2
  else if 48 < (s.armed.map (fun x => s.podRate x.c x.fast x.div x.src)).sum + s.podRate q.c fast q.div src then 3
  else if !(src.all s.srcOk) || (fast && !(src.all (fun x => decide (srcKind x = 3) &&
      decide (s.decimationNs (srcSel x % 16) = s.decimationNs (srcSel (src.headD 0) % 16))))) then 4
  else if (s.pod p).isSome then 5
  else if q.npea < 1 ∨ 1024 < q.npea ∨ q.s < 256 ∨ 65536 < q.s ∨ q.c < 1 ∨ 16 < q.c ∨ 12 < q.div ∨ 4 < q.tkind ∨
      2 < q.tedge ∨ 3 < q.mode ∨ (q.src.drop q.c).any (fun x => x != 0) then 6
  else if q.c ≤ q.tch ∨ (q.tkind = 2 ∧ 7 < q.targ) ∨ (q.tkind = 3 ∧ 63 < q.targ) ∨
      (q.tkind = 4 ∧ s.usable q.targ = false) ∨ q.hyst < 0 then 7
  else 0

/-- A 128-byte argument buffer: its refusal, or its bytes (R340). -/
def State.argBuf (s : State) (a n : Nat) : Option Nat × List Byte :=
  if alignedAddr a then
    match s.memRd a n with
    | some bs => (none, bs)
    | none => (some St.hostAddress, [])
  else (some St.hostAddress, [])

/-- ACQ_ARM (R428): the pod takes its area and records from the cycle after acceptance. -/
def acqArmCmd (h : Hdr) (cfg : Nat) (s : State) : State :=
  let (bad, bs) := s.argBuf cfg 128
  let q := parseArm bs
  let fmt := match bad with
    | some st => some st
    | none => if alignedAddr q.host then none else some St.hostAddress
  let cause := s.armCause h.subj q
  let s1 := if s.takesCommands ∧ s.preRefusal h 0x0401 .long .pod fmt none = none ∧ cause ≠ 0 then
      (s.setFld R.acqArmErr 0 3 h.subj).setFld R.acqArmErr 8 3 cause
    else s
  s1.hostCmd h 0x0401 .long 0 .pod fmt none (if cause = 0 then none else some (St.argument, 0)) (fun s =>
    let own := s.openFor h 0x0401
    let size := areaUnits q.npea q.s q.c
    let s := (s.setReg (R.podStat h.subj + 4) 0).acceptLong h 0x0401 0 []
    (s.wake 11).setPod h.subj (some {
      own := own, npea := q.npea, s := q.s, post := q.post, c := q.c, cont := decide (q.mode % 2 = 1),
      fast := decide (q.mode / 2 % 2 = 1), div := q.div, tkind := q.tkind, tedge := q.tedge, tch := q.tch,
      targ := q.targ, host := q.host, level := q.level, hyst := q.hyst, src := q.src.take q.c,
      base := (s.freeBase size).getD 0, size := size, firstCycle := cycAdd s.cycle 1 }))

def execAcqArm (h : Hdr) (cfg : Nat) (s : State) : Host.Outcome State Fault Refusal := .next (acqArmCmd h cfg s)

/-! ### Samples and triggers (R430 to R434) -/

/-- Every pea of a single-mode arming has been recorded. -/
def Pod.allRecorded (q : Pod) : Bool := !q.cont && decide (q.npea ≤ q.pea.index)

/-- The next pea of the pod. -/
def Pod.nextPea (q : Pod) (t : Nat) : Pod :=
  { q with waiting := q.waiting ++ [q.pea], lastOld := q.last, last := none, timedAt := none,
           pea := { index := q.pea.index + 1, startAt := t72Mod ((t : Int) + 800 * 2 ^ 16) } }

/-- A level trigger between two consecutive samples (R432): whether it fires. -/
def Pod.levelFires (q : Pod) (x0 x1 : Int) : Bool :=
  (decide (q.tedge ≠ 1) && q.ready && decide (x0 < q.level) && decide (q.level ≤ x1)) ||
  (decide (q.tedge ≠ 0) && q.readyFall && decide (q.level < x0) && decide (x1 ≤ q.level))

/-- Hysteresis record after a sample (R432). -/
def Pod.seen (q : Pod) (x : Int) (fresh : Bool) : Pod :=
  { q with ready := (!fresh && q.ready) || decide (x ≤ q.level - q.hyst),
           readyFall := (!fresh && q.readyFall) || decide (q.level + q.hyst ≤ x), last := some x }

/-- Whole part and 16-bit fraction of a trigger point (R432). -/
def trigPoint (x : Rat) : Int × Nat :=
  let i := rfloor x
  let f := (rnd ((x - i) * 2 ^ 16)).toNat
  if f = 2 ^ 16 then (i + 1, 0) else (i, f)

/-- The trigger point that the sample at instant `t` brings, if any: (point, timed). `h` samples are kept before it. -/
def Pod.trigger (q : Pod) (x : Int) (t h : Nat) : Option (Rat × Bool) :=
  if q.pea.trig.isSome then none
  else if q.tkind = 1 then
    match q.last with
    | some x0 => if q.levelFires x0 x then some ((h : Rat) - 1 + ((q.level - x0 : Int) : Rat) / ((x - x0 : Int) : Rat), false)
                 else none
    | none => none
  else
    match (if q.tkind = 0 then some (q.timedAt.getD t) else q.timedAt) with
    | some tt => if 0 ≤ t72Diff tt t then some ((h : Rat) - (t72Diff tt t : Rat) / (q.pea.period : Rat), true) else none
    | none => none

/-- One sample enters the pea; the second part tells whether the pea is complete. -/
def Pod.addSample (q : Pod) (x : Int) (e : Nat × Nat × List (BitVec 72)) : Pod × Bool :=
  let pre := q.s - q.post
  let kept := q.pea.samples.drop (q.pea.samples.length - pre)
  let q' := q.seen x q.last.isNone
  if q.pea.trig.isSome then
    ({ q' with pea := { q.pea with samples := q.pea.samples ++ [e], left := q.pea.left - 1 } }, decide (q.pea.left ≤ 1))
  else
    match q.trigger x e.2.1 kept.length with
    | some (pt, timed) =>
      let tp := trigPoint pt
      ({ q' with pea := { q.pea with
          samples := if q.post = 0 then kept else kept ++ [e], trig := some tp.1, frac := tp.2, timed := timed,
          left := q.post - 1, part := q.pea.part || decide (kept.length < pre) } }, decide (q.post ≤ 1))
    | none => ({ q' with pea := { q.pea with samples := (kept ++ [e]).drop (kept.length + 1 - pre) } }, false)

/-- Instant of the sample that enters pod `q` now (R430): φ0 of its cycle, or the centroid of a fast sample's filter window, one group
delay before its last bit (DEDUCED, log entry 211). -/
def State.sampleAt (s : State) (q : Pod) : Nat :=
  if q.fast then t72Mod ((s.now : Int) - (s.sincNs (srcSel (q.src.headD 0) % 16) : Int) * 2 ^ 16) else s.phi0 s.cycle

/-- CAPTURE_SAMPLE: a pod records one sample of its channels (R430), takes its trigger (R432, R433) and hands over a
complete pea (R431). -/
def captureSampleCmd (p : Nat) (s : State) : State :=
  match s.pod p with
  | none => s
  | some q =>
    let n := s.cycle
    let again := !q.fast && decide ((q.pea.samples.getLast?.map (fun e => e.1)) = some n)
    if 8 ≤ p ∨ s.isRun = false ∨ s.engineRuns 11 = false ∨ q.ending ∨ q.allRecorded ∨ cycDiff q.firstCycle n < 0 ∨
        (q.fast = false ∧ n % 2 ^ q.div ≠ 0) ∨ again = true then s
    else
      let t := s.sampleAt q
      let words := q.src.map s.srcWord
      let x := sext 72 (words.getD q.tch 0).toNat
      let first := q.last.isNone
      let s := if first ∧ q.tkind = 1 ∧ (match q.lastOld with | some x0 => q.levelFires x0 x | none => false) = true then
          s.bumpFld (R.podMissed p) 0 32 1 else s
      let reused := q.waiting.filter (fun w => q.cont && decide (w.index + q.npea ≤ q.pea.index))
      let s := s.bumpFld (R.podLost p) 0 32 reused.length
      let q := { q with waiting := q.waiting.filter (fun w => !(q.cont && decide (w.index + q.npea ≤ q.pea.index))),
                        pea := { q.pea with period := s.samplePeriodNs q.fast q.div q.src * 2 ^ 16 } }
      let before := q.pea.trig
      let (q, done) := q.addSample x (n, t, words)
      let s := if before.isNone ∧ q.pea.trig.isSome then
          s.axisNos.foldl (fun s a => let ax := s.axis a
            if ax.int Pn.traceTrig = 2 + (p : Int) then s.setAxis a (ax.traceTrigger n) else s) s else s
      s.setPod p (some (if done then q.nextPea t else q))

def execCaptureSample (p : Nat) (s : State) : Host.Outcome State Fault Refusal := .next (captureSampleCmd p s)

/-- A pea as its host copy holds it (R431). -/
def Pod.peaBytes (q : Pod) (w : Pea) : List Byte :=
  let c0 := w.samples.headD (0, 0, [])
  let flags := w.trig.isSome.toNat + 2 * w.memErr.toNat + 4 * w.part.toNat + 8 * w.timed.toNat
  let body := w.samples.flatMap (fun e => e.2.2.flatMap (fun v => bytes72 (sext 72 v.toNat)))
  leBytes 8 (w.index + 1) ++ leBytes 4 c0.1 ++ leBytes 4 (tc 32 (w.trig.getD 0)) ++ bytesT72 c0.2.1 ++ leBytes 2 w.frac ++
    leBytes 2 flags ++ leBytes 4 w.samples.length ++ leBytes 8 w.period ++ List.replicate 16 0 ++
    fitBytes (16 * q.s * q.c) body ++ leBytes 8 (w.index + 1) ++ List.replicate 56 0

/-- The pod's arming ends: EV57, the FINAL of ACQ_ARM, and its area is free (R427, R434, R435). -/
def State.podDone (s : State) (p : Nat) (q : Pod) : State :=
  ((s.evFree 57 p).finalPlain q.own St.ok).setPod p none

/-- PEA_COPY_DONE: the host copy of the oldest waiting pea is complete, with GEN_TAIL and EV56 (R431, R434). -/
def peaCopyDoneCmd (p : Nat) (s : State) : State :=
  match s.pod p with
  | none => s
  | some q =>
    match q.waiting with
    | [] => s
    | w :: rest =>
      if 8 ≤ p ∨ s.hostUp = false then s
      else
        let slot := q.host + (w.index % q.npea) * (128 + 16 * q.s * q.c)
        let s := (s.memWr slot (q.peaBytes w)).evFree 56 p
        let s := s.bumpFld (R.podStat p + 4) 0 32 1
        let s := if w.part then s.setBit (R.podStat p) 8 true else s
        let s := if w.memErr then s.setBit (R.podStat p) 9 true else s
        let q := { q with waiting := rest, count := q.count + 1 }
        if (q.cont = false ∧ w.index + 1 = q.npea) ∨ (q.ending = true ∧ rest = []) then s.podDone p q
        else s.setPod p (some q)

def execPeaCopyDone (p : Nat) (s : State) : Host.Outcome State Fault Refusal := .next (peaCopyDoneCmd p s)

/-- The pea in progress ends with what it holds (R435, R442). -/
def Pod.cutPea (q : Pod) (t : Nat) : Pod := { q with pea := { q.pea with part := true } }.nextPea t

/-- ACQ_DISARM (R435). -/
def acqDisarmCmd (h : Hdr) (s : State) : State :=
  s.hostCmd h 0x0402 .imm 0 .pod none none none (fun s =>
    let s' := match s.pod h.subj with
      | some q =>
        if q.ending then s
        else if q.allRecorded then s.setPod h.subj (some { q with ending := true })
        else s.setPod h.subj (some { q.cutPea s.now with ending := true })
      | none => s
    s'.acceptImm h 0x0402 s.cycle 0 none)

def execAcqDisarm (h : Hdr) (s : State) : Host.Outcome State Fault Refusal := .next (acqDisarmCmd h s)

/-- A commit changes T_cyc: every pea in progress of the cycle timebase ends and the next starts there (R442). -/
def State.podsNewRung (s : State) : State :=
  (List.range 8).foldl (fun s p =>
    match s.pod p with
    | some q => if q.ending || q.allRecorded then s else s.setPod p (some (q.cutPea s.phi0Now))
    | none => s) s

/-! ### Node traces (R440, R441) -/

/-- Nodes that TRACE_MASK selects, ascending. -/
def Axis.traceNodes (x : Axis) : List Nat := (List.range 32).filter (fun i => x.flag Pn.traceMask i)

/-- Cycles the buffer holds (R440). -/
def Axis.traceDepth (x : Axis) : Nat := if x.traceNodes = [] then 0 else 2048 / x.traceNodes.length

/-- A write of TRACE_MASK clears the buffer and restarts recording (R440). -/
def Axis.traceRestart (x : Axis) : Axis :=
  { x with trace := { state := if x.traceNodes = [] then 0 else 1 } }

/-- The node values of a cycle enter the buffer over the oldest cycle (R440). -/
def Axis.traceRecord (x : Axis) (cycle t : Nat) : Axis :=
  let row := (cycle, t, x.traceNodes.map (fun n => sext 72 (x.nodeWord n).toNat))
  let rows := (x.trace.rows ++ [row]).drop (x.trace.rows.length + 1 - x.traceDepth)
  if x.traceNodes = [] then x
  else if x.trace.state = 1 then { x with trace := { x.trace with rows := rows } }
  else if x.trace.state = 2 ∧ 0 < x.trace.post then
    { x with trace := { x.trace with rows := rows, post := x.trace.post - 1 } }
  else x

/-- TRACE_AUTO_FREEZE: TRACE_POST cycles have passed since the trigger (R441). -/
def traceAutoFreezeCmd (a : Nat) (s : State) : State :=
  let x := s.axis a
  if s.usable a = true ∧ x.trace.state = 2 ∧ x.trace.post = 0 then
    s.setAxis a { x with trace := { x.trace with state := 3 } }
  else s

def execTraceAutoFreeze (a : Nat) (s : State) : Host.Outcome State Fault Refusal := .next (traceAutoFreezeCmd a s)

/-- Traces exist on VLN-128 only (R356, R440). -/
def State.traceGrade (s : State) : Option Nat := if s.grade = 2 then none else some St.notInGrade

/-- TRACE_FREEZE (R441). -/
def traceFreezeCmd (h : Hdr) (s : State) : State :=
  s.hostCmd h 0x0420 .imm 0 .axis s.traceGrade none none (fun s =>
    (s.setAxis h.subj ((s.axis h.subj).traceTrigger s.cycle)).acceptImm h 0x0420 s.cycle 0 none)

def execTraceFreeze (h : Hdr) (s : State) : Host.Outcome State Fault Refusal := .next (traceFreezeCmd h s)

/-- The bytes TRACE_READ writes for `rows` (R441). -/
def Axis.traceBytes (x : Axis) (rows : List (Nat × Nat × List Int)) : List Byte :=
  let r0 := rows.headD (0, 0, [])
  leBytes 4 r0.1 ++ leBytes 4 x.trace.trigCycle ++ leBytes 4 rows.length ++
    leBytes 4 (x.int Pn.traceMask).toNat ++ bytesT72 r0.2.1 ++ List.replicate 32 0 ++
    rows.flatMap (fun r => r.2.2.flatMap bytes72)

/-- TRACE_READ (R441): at most LEN bytes in whole cycles; a read that covers every cycle resumes recording. -/
def traceReadCmd (h : Hdr) (buf len : Nat) (s : State) : State :=
  let fmt := match s.traceGrade with
    | some st => some st
    | none => if alignedAddr buf then none else some St.hostAddress
  s.hostCmd h 0x0421 .read 0 .axis fmt none none (fun s =>
    let x := s.axis h.subj
    if x.trace.state ≠ 3 then s.answer h 0x0421 St.argument 0 s.cycle 0 none
    else if len < 64 then s.answerOk h 0x0421
    else
      let k := (len - 64) / (16 * x.traceNodes.length)
      let s1 := s.memWr buf (x.traceBytes (x.trace.rows.take k))
      let s2 := if x.trace.rows.length ≤ k then s1.setAxis h.subj { x with trace := { x.trace with state := 1 } } else s1
      s2.answerOk h 0x0421)

def execTraceRead (h : Hdr) (buf len : Nat) (s : State) : Host.Outcome State Fault Refusal :=
  .next (traceReadCmd h buf len s)

end Sys2Proof.Machine
end

