-- ==== Sys2Proof/Machine/Wire.lean ====
section
/-!
DEFINITION. The bytes of every lane frame (R286, R292, R296 to R321, R413, R414), its coding blocks, its CRC and its validity.
-/

namespace Sys2Proof.Machine

open Sys2Proof

/-! ### Fields (R296) -/

def zeros (n : Nat) : List Byte := List.replicate n 0

/-- A 9-byte 72-bit field and a 5-byte H36 field (R296). -/
def wire72 (x : Int) : List Byte := leBytes 9 (tc 72 x)
def wireH36 (x : Int) : List Byte := leBytes 5 (tc 40 x)

/-- One flag at a bit of a field. -/
def flagAt (b : Bool) (i : Nat) : Nat := if b then 2 ^ i else 0

/-- CRC bytes of `body`; a record or PDU whose CRC does not hold carries another value. -/
def crcBytes (ok : Bool) (body : List Byte) : List Byte := leBytes 4 (if ok then crc32c body else crc32c body ^^^ 0xFFFFFFFF)

/-! ### Header, Flash, entries (R300 to R308) -/

/-- The 48 bytes of the cycle header (R300). -/
def hdrBytes (h : CycleHeader) : List Byte :=
  leBytes 1 h.ftype ++ leBytes 1 h.ver ++ leBytes 2 h.len8 ++ leBytes 4 h.cycle ++ leBytes 8 (tc 64 h.corr) ++
    leBytes 1 (h.lane % 4 + flagAt h.oddCopy 2 + h.conductor % 4 * 8) ++ leBytes 1 (flagAt h.fog 0 + flagAt h.ring 1) ++
    leBytes 2 h.turn ++ leBytes 4 h.schedGen ++ leBytes 2 h.entries ++ leBytes 2 h.sig8 ++ leBytes 2 h.safe ++
    leBytes 2 h.mgmt8 ++ leBytes 8 h.condUid ++ leBytes 2 h.fogNode ++ zeros 6

/-- The 64 bytes of the Flash (R303). -/
def flashBytes (f : FlashIn) : List Byte :=
  bytesT72 f.tx ++ bytesT72 f.epoch ++ leBytes 4 f.nE ++ leBytes 1 f.rung ++ leBytes 1 f.nextRung ++
    leBytes 2 (flagAt f.void 0 + flagAt f.relayed 1 + flagAt f.syncin 2) ++ leBytes 8 f.lanternUid ++ leBytes 4 f.nextCycle ++ zeros 12

/-- The 32 bytes of a gather entry (R305). -/
def gEntryBytes (e : GEntry) : List Byte :=
  leBytes 1 e.node ++ leBytes 1 e.axis ++ leBytes 2 e.eflags ++ leBytes 4 e.estat ++ wire72 e.pos ++ wireH36 e.iu ++ wireH36 e.iv ++
    wireH36 e.udc

/-- The 64 bytes of the control area (R307). -/
def ctlBytes (c : ControlArea) : List Byte :=
  leBytes 8 c.ackUid ++ leBytes 2 c.ackNode ++ leBytes 1 c.ackCode ++ leBytes 1 c.quarKind ++ leBytes 2 c.quarNode ++ zeros 2 ++
    leBytes 8 c.quarUid ++ leBytes 4 c.commitCycle ++ leBytes 4 c.commitGen ++ leBytes 4 c.ringCloseCycle ++ leBytes 4 c.fogClrSeq ++
    zeros 24

/-- The 16 bytes of a scatter entry (R308). -/
def sEntryBytes (e : SEntry) : List Byte :=
  let d (i : Nat) : Int := e.d.getD i 0
  leBytes 1 e.node ++ leBytes 1 e.axis ++
    leBytes 1 (flagAt e.en 0 + flagAt e.split 1 + e.react % 4 * 4 + flagAt e.stale 4 + flagAt e.fly 5) ++ leBytes 1 e.seq ++
    (if e.split then wireH36 (d 0) ++ wireH36 (d 1) ++ zeros 2
     else leBytes 4 (tc 32 (d 0)) ++ leBytes 4 (tc 32 (d 1)) ++ leBytes 4 (tc 32 (d 2)))

/-! ### Blocks, containers, records (R286, R292, R309 to R315) -/

/-- Zeros up to a multiple of 8 bytes. -/
def padded (bs : List Byte) : List Byte := bs ++ zeros ((8 - bs.length % 8) % 8)

/-- A signal block with its payload (R309). -/
def blockBytes (b : SigBlock) : List Byte :=
  let w (i : Nat) : Nat := (b.payload.getD i 0).toNat
  let pay := match b.kind with
    | 0 => leBytes 8 (((List.range 64).map (fun i => w i % 2 * 2 ^ i)).sum)
    | 1 => (List.range b.count).flatMap (fun i => leBytes 1 (w i))
    | 2 => (List.range b.count).flatMap (fun i => leBytes 5 (w i))
    | 3 => (List.range b.count).flatMap (fun i => leBytes 9 (w i))
    | _ => (List.range (2 * b.count)).flatMap (fun i => leBytes 8 (w i))
  leBytes 2 (b.block % 2 ^ 14) ++ leBytes 1 b.kind ++ leBytes 1 b.count ++ leBytes 1 (flagAt b.valid 0) ++ leBytes 1 b.bseq ++ zeros 2 ++
    padded pay

/-- Blocks of a slow frame from byte `at_` of its signal area on, each at its OFFSET8 (R309). -/
def areaBytes : Nat → List (Nat × SigBlock) → List Byte
  | _, [] => []
  | at_, e :: rest =>
    let b := zeros (8 * e.1 - at_) ++ blockBytes e.2
    b ++ areaBytes (at_ + b.length) rest

/-- A safety PDU with its payload and CRC (R413, R414). -/
def pduBytes (p : SafetyPdu) : List Byte :=
  let pay := if p.pkind = 2 then wire72 p.pos ++ leBytes 1 p.state ++ leBytes 2 p.echo ++ leBytes 4 p.cycle ++ zeros 8
    else leBytes 1 p.cmd ++ zeros 1 ++ leBytes 2 p.echo ++ leBytes 4 p.cycle
  let body := leBytes 4 p.connId ++ leBytes 2 p.seq ++ leBytes 1 p.pkind ++ leBytes 1 p.len ++ pay
  body ++ crcBytes p.crcOk body

/-- The 40 bytes of a safety container (R310). -/
def contBytes (c : Container) : List Byte :=
  if c.chan = 0 then zeros 40
  else (leBytes 1 c.chan ++ leBytes 1 c.node ++ leBytes 1 c.saxis ++ leBytes 1 (12 + c.pdu.len) ++ pduBytes c.pdu ++ zeros 36).take 40

/-- Bytes 0 to 123 of a capability record (R286). -/
def capBody (r : CapRecord) : List Byte :=
  let axes := (List.range 16).flatMap (fun a => match r.axisFmt[a]? with
    | some (f, k) => leBytes 1 f ++ leBytes 1 k ++ leBytes 2 0
    | none => leBytes 4 0)
  leBytes 1 r.rectype ++ leBytes 1 r.profile ++ leBytes 2 r.nodeNo ++ leBytes 4 r.vendor ++ leBytes 8 r.uid ++
    leBytes 2 r.fwdDly ++ leBytes 2 r.sincDly ++ leBytes 1 r.axes ++ leBytes 1 r.rungs ++ leBytes 2 r.flags ++
    leBytes 2 r.oscPpm ++ leBytes 1 r.rank ++ leBytes 1 r.role ++ leBytes 4 r.firmware ++ axes ++ zeros 28

/-- The bytes of a capability record, its CRC computed (R286). -/
def capBytes (r : CapRecord) : List Byte := capBody r ++ crcBytes true (capBody r)

/-- Bytes 0 to 27 of a Skegil identity record (R292). -/
def skegilBody (r : SkegilRecord) : List Byte :=
  leBytes 1 r.rectype ++ leBytes 1 r.sver ++ leBytes 2 r.nodeNo ++ leBytes 8 r.uid ++ leBytes 1 r.axes ++ zeros 3 ++ leBytes 4 r.vendor ++
    leBytes 4 r.firmware ++ zeros 4

/-- The 128 bytes of the join slot (R286, R292, R302). -/
def joinBytes (j : JoinSlot) : List Byte :=
  match j with
  | .empty => zeros 128
  | .native r => capBody r ++ crcBytes r.crcOk (capBody r)
  | .skegil r => skegilBody r ++ crcBytes r.crcOk (skegilBody r) ++ zeros 96

/-- A record of a management area with its header (R311). -/
def recBytes (dest rtype gen : Nat) (pay : List Byte) : List Byte :=
  leBytes 2 dest ++ leBytes 1 rtype ++ leBytes 1 ((8 + pay.length) / 8) ++ leBytes 4 gen ++ pay

/-- A block assignment of a SCHEDULE record (R313). -/
def blkBytes (b : BlkAssign) : List Byte :=
  leBytes 8 (b.block % 2 ^ 14 + flagAt b.consumed 14 + b.cls % 8 * 2 ^ 16 + b.phase % 2 ^ 12 * 2 ^ 19 + b.offset8 % 2 ^ 16 * 2 ^ 32)

/-- An item of a CONFIG record (R314). -/
def itemBytes (i : ConfigItem) : List Byte :=
  leBytes 1 i.kind ++ leBytes 1 i.axis ++ leBytes 2 i.addr ++ leBytes 1 i.block ++ zeros 3 ++ leBytes 16 (tc 128 i.value)

/-- The bytes of a management record (R312 to R315). -/
def mgmtBytes (r : MgmtRec) : List Byte :=
  match r with
  | .reply dest gen => recBytes dest 0x00 gen (zeros 8)
  | .schedule r => recBytes r.dest 0x01 r.gen (leBytes 2 r.part ++ leBytes 2 r.parts ++ leBytes 2 r.gEntry ++ leBytes 2 r.sEntry ++
      leBytes 1 r.nEntry ++ leBytes 1 r.nSafe ++ leBytes 2 r.gSafe ++ leBytes 2 r.sSafe ++ leBytes 2 r.sflags ++
      leBytes 2 r.blks.length ++ zeros 6 ++ r.blks.flatMap blkBytes)
  | .config r => recBytes r.dest 0x02 r.gen (leBytes 2 r.part ++ leBytes 2 r.parts ++ leBytes 2 r.items.length ++ zeros 2 ++
      r.items.flatMap itemBytes)
  | .ack r => recBytes r.node 0x81 r.gen (leBytes 1 r.result ++ zeros 1 ++ leBytes 2 r.item ++ zeros 4)
  | .other dest rtype gen pay => recBytes dest rtype gen pay

/-! ### Whole frames (R297, R299, R302, R306, R311, R317, R320, R321) -/

/-- Bytes 0 to N - 9 of a gather frame (R302). -/
def gatherBody (f : GatherFrame) : List Byte :=
  hdrBytes f.hdr ++ flashBytes f.flash ++ f.entries.flatMap gEntryBytes ++ f.blocks.flatMap blockBytes ++ f.conts.flatMap contBytes ++
    joinBytes f.join

/-- Bytes 0 to N - 9 of a scatter frame (R306). -/
def scatterBody (f : ScatterFrame) : List Byte :=
  hdrBytes f.hdr ++ ctlBytes f.ctl ++ f.entries.flatMap sEntryBytes ++ f.blocks.flatMap blockBytes ++ f.conts.flatMap contBytes

/-- Bytes 0 to N - 9 of a slow frame (R311). -/
def slowBody (f : SlowFrame) : List Byte :=
  let sig := areaBytes 0 f.blocks
  hdrBytes f.hdr ++ f.recs.flatMap mgmtBytes ++ sig ++ zeros (8 * f.hdr.sig8 - sig.length)

/-- Bytes 0 to N - 9 of a Foghorn, a Coldstart and a Link frame (R317, R320, R321). -/
def fogBody (f : FogFrame) : List Byte :=
  leBytes 1 0x40 ++ leBytes 1 f.ends.ver ++ leBytes 2 f.ends.len8 ++ leBytes 4 f.cycle ++ leBytes 8 f.origin ++ leBytes 4 f.seq ++
    leBytes 2 f.cause ++ leBytes 2 f.reason
def coldBody (f : ColdFrame) : List Byte :=
  leBytes 1 0x50 ++ leBytes 1 f.ends.ver ++ leBytes 2 f.ends.len8 ++ leBytes 1 f.rank ++ zeros 3 ++ leBytes 8 f.uid
def linkBody (f : LinkFrame) : List Byte :=
  leBytes 1 0x60 ++ leBytes 1 f.ends.ver ++ leBytes 2 f.ends.len8 ++ leBytes 1 (flagAt f.response 0) ++ leBytes 1 f.seq ++
    leBytes 2 f.node ++ bytesT72 f.t2 ++ bytesT72 f.t3 ++ leBytes 8 f.uid ++ zeros 8

/-- The 8 bytes of the trailer (R297). -/
def tailBytes (t : Trailer) : List Byte := leBytes 4 t.crc ++ leBytes 2 t.errNode ++ leBytes 1 t.errCnt ++ zeros 1

/-- The trailer that a conductor's own frame leaves with. -/
def ownTail (body : List Byte) : Trailer := ⟨crc32c body, 0xFFFF, 0, false, 0⟩

/-- The CRC holds and no block of the frame is an error block (R297, R298). -/
def tailOk (body : List Byte) (t : Trailer) : Bool := decide (t.crc = crc32c body) && !t.errBlock && decide (t.badSync = 0)

/-- A frame is valid (R297), and its length is one that a frame may have (R296). -/
def frameOk (body : List Byte) (t : Trailer) (ver len8 : Nat) : Bool :=
  let n := body.length + 8
  tailOk body t && decide (ver = 1) && decide (8 * len8 = n) && decide (24 ≤ n) && decide (n ≤ 524280)

def gatherOk (f : GatherFrame) : Bool := frameOk (gatherBody f) f.tail f.hdr.ver f.hdr.len8 && decide (f.hdr.ftype = 0x10)
def scatterOkF (f : ScatterFrame) : Bool := frameOk (scatterBody f) f.tail f.hdr.ver f.hdr.len8 && decide (f.hdr.ftype = 0x20)
def slowOkF (f : SlowFrame) : Bool :=
  frameOk (slowBody f) f.tail f.hdr.ver f.hdr.len8 && decide (f.hdr.ftype = 0x30) &&
    decide (8 * f.hdr.mgmt8 = (f.recs.flatMap mgmtBytes).length)
def fogOk (f : FogFrame) : Bool := frameOk (fogBody f) f.ends.tail f.ends.ver f.ends.len8
def coldOk (f : ColdFrame) : Bool := frameOk (coldBody f) f.ends.tail f.ends.ver f.ends.len8
def linkOk (f : LinkFrame) : Bool := frameOk (linkBody f) f.ends.tail f.ends.ver f.ends.len8

/-- VER, LEN8 and trailer of a short frame of `n` bytes as it is sent; `body` forms its bytes from them. -/
def ownEnds (n : Nat) (body : Ends → List Byte) : Ends :=
  let e : Ends := ⟨1, n / 8, ⟨0, 0xFFFF, 0, false, 0⟩⟩
  { e with tail := ownTail (body e) }

/-- A Foghorn, a Coldstart and a Link frame as a VLN sends them (R299, R317, R320, R321). -/
def sentFog (cycle origin seq cause reason : Nat) : FogFrame :=
  ⟨cycle, origin, seq, cause, reason, ownEnds 32 (fun e => fogBody ⟨cycle, origin, seq, cause, reason, e⟩)⟩
def sentCold (rank uid : Nat) : ColdFrame := ⟨rank, uid, ownEnds 24 (fun e => coldBody ⟨rank, uid, e⟩)⟩
def sentLink (response : Bool) (seq node t2 t3 uid : Nat) : LinkFrame :=
  ⟨response, seq, node, t2, t3, uid, ownEnds 64 (fun e => linkBody ⟨response, seq, node, t2, t3, uid, e⟩)⟩

/-- All bytes of a frame, its trailer at the end. -/
def frameBytes (f : FwdFrame) : List Byte :=
  match f with
  | .gather f => gatherBody f ++ tailBytes f.tail
  | .scatter f => scatterBody f ++ tailBytes f.tail
  | .slow f => slowBody f ++ tailBytes f.tail
  | .foghorn f => fogBody f ++ tailBytes f.ends.tail
  | .coldstart f => coldBody f ++ tailBytes f.ends.tail
  | .link f => linkBody f ++ tailBytes f.ends.tail
  | .other bs => bs

/-! ### Coding blocks (R296) -/

/-- A 64b/66b block of a lane: a start block of type 0x78 with 7 bytes, a data block with 8, a terminate block of type 0x99 with one, or
idle. -/
inductive PcsBlock where
  | start (bytes : List Byte)
  | data (bytes : List Byte)
  | terminate (b : Byte)
  | idle
  deriving DecidableEq, Repr

/-- `n` data blocks of 8 bytes each. -/
def dataBlocks : Nat → List Byte → List PcsBlock
  | 0, _ => []
  | n + 1, bs => .data (bs.take 8) :: dataBlocks n (bs.drop 8)

/-- The blocks of a frame of N bytes: bytes 0 to 6, (N - 8) / 8 data blocks, the last byte, and the idle block that stands at least before
the next frame. -/
def frameBlocks (bs : List Byte) : List PcsBlock :=
  [.start (bs.take 7)] ++ dataBlocks ((bs.length - 8) / 8) (bs.drop 7) ++ [.terminate (bs.getLast?.getD 0), .idle]

/-- Bytes 0 to 59 of a journal record (R380). An ACCEPT reuses bytes 24 to 39 as BODY; an extension holds member targets in bytes
8 to 52. -/
def State.recordBody (s : State) (r : JRec) : List Byte :=
  let head := leBytes 1 r.rtype ++ leBytes 1 r.ring ++ leBytes 2 r.opcode ++ leBytes 4 r.wseq
  let rest :=
    if r.rtype = 4 then fitBytes 52 r.body
    else
      leBytes 8 (if r.rtype ≤ 3 then s.handle r.ring r.seq else 0) ++ leBytes 8 r.tag ++
        (if r.rtype = 2 then fitBytes 36 r.body
         else leBytes 4 r.crIdx ++ leBytes 2 r.status ++ leBytes 2 r.subj ++ leBytes 4 r.cycle ++ leBytes 4 r.detail ++
           fitBytes 20 r.body)
  head ++ rest

/-- The 64 bytes of a journal record, its CRC right unless the record is bad (R380). -/
def State.recordBytes (s : State) (r : JRec) : List Byte := s.recordBody r ++ crcBytes r.crcOk (s.recordBody r)

end Sys2Proof.Machine
end

