-- ==== Sys2Proof/Machine/Backbone.lean ====
section
/-!
DEFINITION. The Haton backbone (R265 to R295): lane links and rings, link delays, cold start, the Flash and the Lantern, and
the conductor's record of its nodes.
-/

namespace Sys2Proof.Machine

open Sys2Proof

/-! ### Lanes and rings (R266 to R272) -/

/-- MODE of a lane's staged configuration. -/
def State.laneMode (s : State) (n : Nat) : Nat := s.fld (R.bbCfg n) 0 2

/-- Lane `n` is in use: its own mode, or the partner of an even lane in ring mode; L0 and L1 in the Node role (R268). -/
def State.laneOn (s : State) (n : Nat) : Bool :=
  if s.conductor then decide (s.laneMode n ≠ 0) || (decide (n % 2 = 1) && decide (s.laneMode (n - 1) = 2))
  else decide (n < 2)

/-- The even lane of the ring that lane `n` belongs to, if it does. -/
def State.ringOf (s : State) (n : Nat) : Option Nat := if s.laneMode (n - n % 2) = 2 then some (n - n % 2) else none

/-- The lane that stands for lane `n`: the even lane of its ring, or itself. -/
def State.lineOf (s : State) (n : Nat) : Nat := (s.ringOf n).getD n

def State.linkUp (s : State) (n : Nat) : Bool := s.bit (R.bbStat n) 0

/-- The ring of even lane `e` opens (R271): RING_OPEN, RING_CHG and EV20 + e with code 3. -/
def State.openRing (s : State) (e : Nat) : State :=
  if s.bit (R.bbStat e) 4 then s
  else ((s.setBit (R.bbStat e) 4 true).setBit (R.bbStat e) 9 true).evC (20 + e) e 3

/-- The ring of even lane `e` closes (R272). -/
def State.closeRing (s : State) (e : Nat) : State :=
  if s.bit (R.bbStat e) 4 = false then s
  else
    let s := ((s.setBit (R.bbStat e) 4 false).setBit (R.bbStat e) 9 true).evC (20 + e) e 4
    s.setLane e { s.lane e with ringCloseAt := none, ctl := { (s.lane e).ctl with ringCloseCycle := 0xFFFFFFFF } }

/-- The conductor names the cycle in which the open ring of even lane `e` closes, at least two cycles ahead in the next scatter frame to
leave (R272). -/
def State.nameClosing (s : State) (e : Nat) : State :=
  let l := s.lane e
  let left := match l.scatter with
    | some f => decide (f.hdr.cycle = s.cycle)
    | none => false
  let c := cycAdd s.cycle (if left then 3 else 2)
  s.setLane e { l with ringCloseAt := some c, ctl := { l.ctl with ringCloseCycle := c } }

/-- The schedule in force says that this node's lane is a ring (R313). -/
def NodeRole.onRing (x : NodeRole) : Bool := match x.inForce.sched with
  | some r => decide (r.sflags % 2 = 1)
  | none => false

/-- LANE_LINK_UP: block lock has held for 1 ms (R266). A conductor whose own ring lane is repaired names a closing cycle
two cycles ahead (R272); a node with a link leaves LINK (R284). A node that looped at this port stops (R269), but on a ring only at
the cycle that the conductor names (R272). -/
def laneLinkUpCmd (n : Nat) (s : State) : State :=
  if 4 ≤ n ∨ s.live = false ∨ s.bit R.clkStat 2 = false ∨ s.laneOn n = false ∨ s.linkUp n = true then s
  else
    let s := s.setFld (R.bbStat n) 0 3 3
    let s := (s.setBit (R.bbStat n) 8 true).evC (20 + n) n 1
    if s.conductor then
      match s.ringOf n with
      | some e =>
        if s.bit (R.bbStat e) 4 ∧ s.linkUp e ∧ s.linkUp (e + 1) then s.nameClosing e else s
      | none => s
    else if s.node.state = .link then { s with node := { s.node with state := .listen, loopAt := some (1 - n) } }
    else if s.node.loopAt = some n ∧ s.node.onRing = false then { s with node := { s.node with loopAt := none } }
    else s

def execLaneLinkUp (n : Nat) (s : State) : Host.Outcome State Fault Refusal := .next (laneLinkUpCmd n s)

/-- A node's record once its lane `n` is down: nobody claims its number beside it, and where the lane has no other port up a node that
was only announced is gone (R293). -/
def State.nodeCutOff (s : State) (n : Nat) (x : NodeRec) : NodeRec :=
  let other := match s.ringOf n with
    | some e => s.linkUp e || s.linkUp (e + 1)
    | none => false
  { x with rivals := [], state := if x.state = .announced ∧ other = false then .absent else x.state }

/-- A port goes link-down (R266, R271). BLOCK_LOCK is lost or HI_BER is set, which of the two is open (log entry 7). -/
def State.linkDown (s : State) (n : Nat) : State :=
  if 4 ≤ n ∨ s.linkUp n = false then s
  else
    let (w, s) := s.freeW
    let s := s.setFld (R.bbStat n) 0 3 (if w.toNat % 2 = 0 then 0 else 6)
    let s := (s.setBit (R.bbStat n) 8 true).bumpFld (R.bbErr n) 16 16 1
    let s := s.evC (20 + n) n 2
    if s.conductor then
      let s := match s.ringOf n with
        | some e => s.openRing e
        | none => s
      let s := s.setLane n { s.lane n with lineEnd := false }
      { s with bb := { s.bb with nodes := s.bb.nodes.map (fun e => (e.1, if e.2.lane = n then s.nodeCutOff n e.2 else e.2)) } }
    else if s.linkUp 0 = false ∧ s.linkUp 1 = false then
      { s with node := { s.node with state := .link, loopAt := none } }
    else { s with node := { s.node with loopAt := some n } }

/-- LANE_LINK_DOWN (R266). -/
def laneLinkDownCmd (n : Nat) (s : State) : State := s.linkDown n

def execLaneLinkDown (n : Nat) (s : State) : Host.Outcome State Fault Refusal := .next (laneLinkDownCmd n s)

/-- The next φ0 is that of the cycle named for the closing of a ring, or of a later one. -/
def State.closingNow (s : State) (at_ : Option Nat) : Bool :=
  match at_ with
  | some c => decide (0 ≤ cycDiff c s.nextCycle)
  | none => false

/-- RING_CLOSE: φ0 of the named cycle, where the loops beside the repaired link end (R272). -/
def ringCloseCmd (n : Nat) (s : State) : State :=
  if 4 ≤ n ∨ s.live = false then s
  else if s.conductor then
    match s.ringOf n with
    | some e => if s.closingNow (s.lane e).ringCloseAt ∧ s.linkUp e ∧ s.linkUp (e + 1) then s.closeRing e else s
    | none => s
  else if s.closingNow s.node.ringCloseAt ∧ s.linkUp 0 ∧ s.linkUp 1 then
    { s with node := { s.node with loopAt := none, ringCloseAt := none } }
  else s

def execRingClose (n : Nat) (s : State) : Host.Outcome State Fault Refusal := .next (ringCloseCmd n s)

/-! ### Link delay (R274, R276, R321) -/

/-- The VLN has a cycle numbering: a conductor that leads or has integrated, or a node that follows a Lantern (R277, R284). -/
def State.hasCycle (s : State) : Bool :=
  if s.conductor then
    decide (s.bb.cold = .lead) || decide (s.bb.cold = .announce) || decide (s.bb.cold = .conductor)
  else
    decide (s.node.state ≠ .link) && decide (s.node.state ≠ .listen)

/-- The node number this VLN claims: that of its node configuration block (R530); a conductor's is log entry 17. -/
def State.ownNo (s : State) : Option Nat := if s.conductor then some (Config.ownNodeNo % 256) else s.node.nodeNo

/-- Invalid sync headers in a frame that port `n` received count in BLOCK_ERR (R295). -/
def State.countBad (s : State) (n : Nat) (t : Trailer) : State := s.bumpFld (R.bbErr n) 0 16 t.badSync

/-- LINK_DELAY_REQUEST: the port sends a request with a new number, in every 64th cycle where it knows one, at φ0 + 0.5 µs (R321). -/
def linkDelayRequestCmd (n : Nat) (s : State) : State :=
  if 4 ≤ n ∨ s.live = false ∨ s.linkUp n = false ∨ (s.hasCycle = true ∧ s.cycle % 64 ≠ 0) then s
  else
    let l := s.lane n
    let seq := (l.reqSeq + 1) % 256
    s.setLane n { l with reqSeq := seq, reqTx := if s.hasCycle then (s.phi0Now + 500 * 2 ^ 16) % 2 ^ 72 else s.now,
                         linkOut := some (sentLink false seq (s.ownNo.getD 0xFFFF) 0 0 s.uid), sent := l.sent + 1 }

def execLinkDelayRequest (n : Nat) (s : State) : Host.Outcome State Fault Refusal := .next (linkDelayRequestCmd n s)

/-- Sorted insertion, ascending. -/
def insertInt (x : Int) : List Int → List Int
  | [] => [x]
  | y :: ys => if x ≤ y then x :: y :: ys else y :: insertInt x ys

def sortInts : List Int → List Int
  | [] => []
  | x :: xs => insertInt x (sortInts xs)

/-- Sum of the two middle values of 8: four times the median of delays held doubled. -/
def median8 (ds : List Int) : Int := (sortInts ds).getD 3 0 + (sortInts ds).getD 4 0

/-- Delay in force of a lane's first hop in ns. -/
def Lane.delayNs (l : Lane) : Option Rat := l.median.map (fun m => (m : Rat) / (4 * 2 ^ 16))

/-- A new exchange on lane `n` (R274): the median, DLY_VALID, DLY_JUMP, and the first hop's delay (R276). -/
def State.newDelay (s : State) (n : Nat) (twice : Int) : State :=
  let l := s.lane n
  let ds := (twice :: l.delays).take 8
  if ds.length < 8 then s.setLane n { l with delays := ds }
  else
    let m := median8 ds
    let jump := match l.median with
      | some m0 => decide (2 * 4 * 2 ^ 16 < |m - m0|)
      | none => false
    let s := s.setLane n { l with delays := ds, median := some m }
    let s := s.setBit (R.bbStat n) 3 true
    let s := if jump then s.setBit (R.bbStat n) 11 true else s
    s.setFld (R.bbDly n) 0 24 (rnd ((m : Rat) / 2 ^ 10)).toNat

/-- BBN_Ln_LEN: the first hop's cable in 0.1 m by the PROP in force, at a conductor (R276, R295). -/
def State.firstLen (s : State) (n : Nat) : Nat :=
  match (s.lane n).median with
  | some m =>
    if s.conductor then min 65535 (rnd ((m : Rat) / 2 ^ 18 * 1000 / max 1 (s.fld (R.bbCfg n) 16 16))).toNat else 0
  | none => 0

/-- LINK_FRAME: a valid request is answered with its receive stamp `t2` and the answer's transmit stamp `t3`, a response to the last
request completes an exchange (R297, R321). `uid` is the sender's UID with what stands around the frame's content. -/
def linkFrameCmd (n : Nat) (response : Bool) (seq node : Nat) (uid : Nat × Ends) (t1 t2 t3 t4 : Nat) (s : State) : State :=
  if 4 ≤ n ∨ s.live = false ∨ s.linkUp n = false then s
  else
    let s := s.countBad n uid.2.tail
    let f : LinkFrame := ⟨response, seq, node, if response then t2 else 0, if response then t3 else 0, uid.1, uid.2⟩
    if linkOk f = false then s
    else
      let s := s.setLane n { s.lane n with peer := some (node, uid.1) }
      let l := s.lane n
      if response then
        if seq = l.reqSeq then s.newDelay n (t72Diff t1 t4 - t72Diff t2 t3) else s
      else s.setLane n { l with sent := l.sent + 1,
                                linkOut := some (sentLink true seq (s.ownNo.getD 0xFFFF) (t2 % 2 ^ 72) (t3 % 2 ^ 72) s.uid) }

def execLinkFrame (n : Nat) (response : Bool) (seq node : Nat) (uid : Nat × Ends) (t1 t2 t3 t4 : Nat) (s : State) :
    Host.Outcome State Fault Refusal := .next (linkFrameCmd n response seq node uid t1 t2 t3 t4 s)

/-! ### Cold start (R277, R278) -/

def State.setCold (s : State) (c : ColdState) : State := { s with bb := { s.bb with cold := c } }

def State.coldRank (s : State) : Nat := s.fld R.bbGcfg 4 4

/-- Another conductor has precedence: its rank is lower, or equal with a lower UID (R277). -/
def State.yieldsTo (s : State) (rank uid : Nat) : Bool :=
  decide (rank < s.coldRank) || (decide (rank = s.coldRank) && decide (uid < s.uid))

/-- COLD_LISTEN_END: t_L has ended in silence or among conductors without precedence. -/
def coldListenEndCmd (s : State) : State :=
  if s.live ∧ s.conductor ∧ s.bb.cold = .listen ∧ s.bit R.bbGcfg 0 then
    { s with bb := { s.bb with cold := .coldstart, extraListen := 0, heardLower := false } }
  else s

def execColdListenEnd (s : State) : Host.Outcome State Fault Refusal := .next (coldListenEndCmd s)

/-- COLDSTART_SEND: a COLDSTART frame with COLD_RANK and UID leaves on every enabled lane. -/
def coldstartSendCmd (s : State) : State :=
  if s.live ∧ s.conductor ∧ s.bb.cold = .coldstart then
    (List.range 4).foldl (fun s n =>
      if s.laneOn n ∧ (s.lane n).lineEnd = false then
        s.setLane n { s.lane n with sent := (s.lane n).sent + 1, coldOut := some (sentCold s.coldRank s.uid) }
      else s) s
  else s

def execColdstartSend (s : State) : Host.Outcome State Fault Refusal := .next (coldstartSendCmd s)

/-- COLDSTART_FRAME: by a valid one (R297) a conductor that has not yet joined or led yields to precedence; equal rank and UID make it listen
again; a running backbone only forwards it (R277, R278, R293). -/
def coldstartFrameCmd (lane rank : Nat) (f : Nat × Ends) (s0 : State) : State :=
  let s := s0.countBad lane f.2.tail
  let uid := f.1
  if 4 ≤ lane ∨ s0.live = false ∨ s0.conductor = false ∨ s0.linkUp lane = false then s0
  else if coldOk ⟨rank, uid, f.2⟩ = false then s
  else if s.bb.cold = .listen ∨ s.bb.cold = .coldstart then
    if s.yieldsTo rank uid then s.setCold .integrate
    else if rank = s.coldRank ∧ uid = s.uid then
      { s with bb := { s.bb with cold := .listen, extraListen := s.uid % 8 * 25 } }
    else { s with bb := { s.bb with heardLower := true } }
  else s

def execColdstartFrame (lane rank : Nat) (uid : Nat × Ends) (s : State) : Host.Outcome State Fault Refusal :=
  .next (coldstartFrameCmd lane rank uid s)

/-- This VLN becomes the Lantern: TIM_INCR is nominal, LOCKED reads 1 and HOLDOVER 0 while it runs free (R69); under SYNC_IN
discipline LOCKED has still to be earned. -/
def State.becomeLantern (s : State) : State :=
  let s := { s with bb := { s.bb with lantern := true, number := 0, lanternUid := s.uid, uplink := none },
                    servo := {} }
  let s := s.setTimIncr (2 ^ 33)
  ((s.setBit R.timStat 0 (!s.disciplined)).setBit R.timStat 1 false)

/-- CONTENTION_WINDOW_END: the conductor leads, with EPOCH its T72 here and n_E = 0. -/
def contentionWindowEndCmd (s : State) : State :=
  if s.live ∧ s.conductor ∧ s.bb.cold = .coldstart then
    let s := (s.setCold .lead).becomeLantern
    { s with epoch := s.now, nE := 0, cycle := 0, bb := { s.bb with firstPhi0 := true, elapsed := 0, anchor := 0 } }
  else s

def execContentionWindowEnd (s : State) : Host.Outcome State Fault Refusal := .next (contentionWindowEndCmd s)

/-- INTEGRATE_TIMEOUT: no valid Flash within 1 ms. -/
def integrateTimeoutCmd (s : State) : State :=
  if s.live ∧ s.conductor ∧ s.bb.cold = .integrate then s.setCold .listen else s

def execIntegrateTimeout (s : State) : Host.Outcome State Fault Refusal := .next (integrateTimeoutCmd s)

/-! ### The Flash (R279 to R283, R303, R304) -/

/-- Servo error of a Flash: t_rx - (t_tx + c) (R67, R304). -/
def flashError (f : FlashIn) : Int := sext 72 (t72Mod ((f.rx : Int) - f.tx - f.corr))

/-- Cycles since `n_E` in the cycle of a Flash: the number that its cycle counter and its transmit stamp agree on, since the
counter alone wraps (R65). -/
def flashElapsed (f : FlashIn) : Int :=
  let k : Int := ((f.cycle : Int) - f.nE) % 2 ^ 32
  let t : Int := tcycT (min 4 f.rung)
  let late : Int := ((f.tx : Int) - f.epoch - k * t) % 2 ^ 72
  k + 2 ^ 32 * (late / (2 ^ 32 * t))

/-- Take a Lantern's numbering with its Flash: time is stepped to it (R277, R284). -/
def State.integrate (s : State) (f : FlashIn) : State :=
  let s := (s.showOffset (flashError f)).setBit R.timStat 1 false
  let s := { s with epoch := f.epoch % 2 ^ 72, nE := f.nE % 2 ^ 32, cycle := f.cycle % 2 ^ 32,
                    bb := { s.bb with lanternUid := f.lanternUid, elapsed := flashElapsed f, anchor := f.cycle % 2 ^ 32 },
                    stage := { s.stage with inForce := { s.stage.inForce with rung := min 4 f.rung } } }
  s.stepTime (flashError f)

/-- A rung change that the Flash names (R303). -/
def State.followNext (s : State) (f : FlashIn) : State :=
  { s with bb := { s.bb with
      nextRung := if f.nextCycle = 0xFFFFFFFF then none else some (f.nextCycle, min 4 f.nextRung) } }

/-- The Flash of the backbone this VLN belongs to feeds the servo, the first valid one of a cycle (R270, R304). -/
def State.ownFlash (s : State) (lane : Nat) (f : FlashIn) : State :=
  if s.bb.flashSeen then s
  else
    let s := { s with bb := { s.bb with flashSeen := true, relay := some f }, node := { s.node with missed := 0 } }
    let s := s.followNext f
    let s := if s.bb.uplink.isNone then { s with bb := { s.bb with uplink := some lane } } else s
    s.runServo (flashError f) (tcycNs s.rung : Nat)

/-- Delay of the link on which a frame arrived at `port`, in T72 LSB (R66, R274); zero while none is measured. -/
def State.linkDelay (s : State) (port : Nat) : Int :=
  match (s.lane port).median with
  | some m => rnd ((m : Rat) / 4)
  | none => 0

/-- A new Lantern of the same backbone (R281): a hand-over is counted, EV25 raised, and a conductor of higher rank moves
up. -/
def State.handOver (s : State) (f : FlashIn) : State :=
  let s := { s with bb := { s.bb with lanternUid := f.lanternUid, handovers := min 255 (s.bb.handovers + 1),
                                      number := if s.conductor then max 1 (s.bb.number - 1) else s.bb.number } }
  s.evC 25 0 1

/-- A foreign Flash at a port of a running conductor: the port is a line end (R279). -/
def State.dualLantern (s : State) (lane : Nat) (f : FlashIn) : State :=
  let s := s.setLane lane { s.lane lane with lineEnd := true }
  (s.setBit (R.bbStat lane) 10 true).evC 25 f.conductor 2

/-- A Flash at a conductor that has joined (R279, R281): of its Lantern, of a new Lantern of the same backbone at its uplink, or a foreign
one. -/
def State.memberFlash (s : State) (lane : Nat) (f : FlashIn) : State :=
  if f.lanternUid = s.bb.lanternUid then s.ownFlash lane f
  else if s.bb.lantern = false ∧ s.bb.uplink = some lane ∧ f.epoch = s.epoch ∧ f.nE = s.nE then (s.handOver f).ownFlash lane f
  else s.dualLantern lane f

/-- FLASH_RECEIVED: a valid Flash (R303) takes a starting conductor or a node onto the backbone, feeds the servo of a
running one, and shows a new or a foreign Lantern (R67, R277, R279, R281, R284). c of R304 is its CORR and the delay of the link on which
it arrived. -/
def flashReceivedCmd (lane : Nat) (f0 : FlashIn) (s : State) : State :=
  let f := { f0 with corr := f0.corr + s.linkDelay lane }
  if 4 ≤ lane ∨ s.live = false ∨ f.valid = false ∨ f.void = true ∨ s.laneServed lane = false ∨ s.laneServed 0 = false then s
  else if s.conductor then
    match s.bb.cold with
    | .listen => s.setCold .integrate
    | .coldstart => s.setCold .integrate
    | .integrate =>
      let s := (s.integrate f).setCold .announce
      { s with bb := { s.bb with uplink := some lane, lantern := false, flashSeen := true, relay := some f } }
    | .lead => if f.lanternUid = s.bb.lanternUid then s else s.dualLantern lane f
    | .announce => s.memberFlash lane f
    | .conductor => if s.bb.lantern ∧ f.lanternUid = s.bb.lanternUid then s else s.memberFlash lane f
  else
    match s.node.state with
    | .listen =>
      if s.node.nodeNo.isNone then s
      else { (s.integrate f) with node := { (s.integrate f).node with state := .sync, missed := 0 },
                                        bb := { (s.integrate f).bb with flashSeen := true } }
    | .link => s
    | _ =>
      let s := if f.lanternUid = s.bb.lanternUid then s else s.handOver f
      let s := s.ownFlash lane f
      if s.node.state = .sync ∧ s.bit R.timStat 0 then { s with node := { s.node with state := .announce } } else s

def execFlashReceived (lane : Nat) (f : FlashIn) (s : State) : Host.Outcome State Fault Refusal :=
  .next (flashReceivedCmd lane f s)

/-- FLASH_MISSED: a cycle without a valid Flash by the gather-back instant (R68, R280). The Lantern misses none. -/
def flashMissedCmd (s : State) : State :=
  if s.live = false ∨ s.bb.lantern = true ∨ s.bb.flashSeen = true then s
  else { s.holdover with node := { s.node with missed := s.node.missed + 1 } }

def execFlashMissed (s : State) : Host.Outcome State Fault Refusal := .next (flashMissedCmd s)

/-- LANTERN_TAKEOVER: a Standby Lantern of rank r after 3 × r missed Flashes leads as conductor 0 (R281). EPOCH, n_E and the numbering
stay. -/
def lanternTakeoverCmd (s : State) : State :=
  if s.live ∧ s.conductor ∧ s.bb.cold = .conductor ∧ s.bb.lantern = false ∧ 1 ≤ s.bb.number ∧
      3 * s.bb.number ≤ s.servo.missed then
    let s := (s.setCold .lead).becomeLantern
    ({ s with bb := { s.bb with handovers := min 255 (s.bb.handovers + 1) } }).evC 25 0 1
  else s

def execLanternTakeover (s : State) : Host.Outcome State Fault Refusal := .next (lanternTakeoverCmd s)

/-- NODE_FLASH_TIMEOUT: a member without a valid Flash for 64 cycles (R284). It leaves Run with its membership (R493); its outputs follow
R336. -/
def nodeFlashTimeoutCmd (s : State) : State :=
  if s.live ∧ s.conductor = false ∧ s.node.state = .member ∧ 64 ≤ s.node.missed then
    ({ s with node := { s.node with state := .listen } }).setFld R.pwrState 0 2 1
  else s

def execNodeFlashTimeout (s : State) : Host.Outcome State Fault Refusal := .next (nodeFlashTimeoutCmd s)

/-! ### Capability records (R286 to R292) -/

/-- Code of a record state (R295). -/
def RecState.code : RecState → Nat
  | .absent => 0
  | .announced => 1
  | .member => 2
  | .lost => 3
  | .quarantined => 4
  | .refused => 5

/-- Every field of a record in its range (R286). -/
def capInRange (r : CapRecord) : Bool :=
  decide (r.rectype = 1) && decide (r.nodeNo < 256) && decide (1 ≤ r.fwdDly ∧ r.fwdDly ≤ 1000) && decide (r.axes ≤ 16) && decide (r.rungs < 32) &&
    decide (r.flags < 8) && decide (1 ≤ r.oscPpm ∧ r.oscPpm ≤ 200) && decide (r.role ≤ 1) &&
    (if r.role = 1 then decide (r.rank ≤ 15) else decide (r.rank = 255)) && decide (r.axisFmt.length ≤ r.axes) &&
    r.axisFmt.all (fun f => decide (f.1 < 16) && decide (f.2 < 8))

/-- Conductors of the backbone that are members, this one among them. -/
def State.conductors (s : State) : Nat :=
  1 + (s.bb.nodes.filter (fun e => decide (e.2.state = .member) && (match e.2.record with
    | some r => decide (r.role = 1)
    | none => false))).length

/-- REASON with which a record is refused, or none (R287). -/
def State.capReason (s : State) (r : CapRecord) : Option Nat :=
  if r.crcOk = false then some 4
  else if r.profile ≠ 1 then some 3
  else if capInRange r = false ∨ r.zeroOk = false then some 4
  else if r.role = 1 ∧ 4 ≤ s.conductors then some 5
  else none

/-- An acknowledgement for the lane's scatter of the next cycle (R287, R307). -/
def State.ack (s : State) (lane uid node code : Nat) : State :=
  let l := s.lane lane
  s.setLane lane { l with acks := l.acks ++ [⟨uid, node, code, s.cycle, false⟩] }

/-- A quarantine or release for the lane's next scatter (R289, R290, R307). -/
def State.quar (s : State) (lane kind node uid : Nat) : State :=
  let l := s.lane lane
  s.setLane lane { l with quars := l.quars ++ [⟨kind, node, uid⟩] }

/-- One by node number, for every lane: the nodes of the number may stand on different lanes. -/
def State.quarAll (s : State) (kind node : Nat) : State := (List.range 4).foldl (fun s n => if s.laneOn n then s.quar n kind node 0 else s) s

/-- Node number `n` is quarantined with REASON (R289): EV24, and the next scatters say so. A node that is LOST
receives it only when its UID announces. A member's entries are used no more, so its axes go on to sources 2 and 17. -/
def State.quarantine (s : State) (n reason : Nat) (rivals : List Nat) : State :=
  let x := s.noderec n
  let s := s.setNoderec n { x with state := .quarantined, reason := reason, rivals := rivals, readmitAt := none,
                                   dropped := decide (x.state = .member), again := false }
  let s := s.quarAll 1 n
  (s.ev 24 n 4 reason).tripNode n

/-- UID stored with a node number. -/
def NodeRec.uid (x : NodeRec) : Option Nat := x.record.map (fun r => r.uid)

/-- A node number is held: announced, a member, or LOST with its slot (R289). -/
def NodeRec.holds (x : NodeRec) : Bool :=
  decide (x.state = .announced) || decide (x.state = .member) || (decide (x.state = .lost) && x.slot)

/-- Another position where this UID is present now (R289): an announced node's, or that of a member whose entries come. -/
def State.uidElsewhere (s : State) (uid lane position : Nat) : Option Nat :=
  (s.bb.nodes.find? (fun e => decide (e.2.uid = some uid) &&
    (decide (e.2.state = .announced) || (decide (e.2.state = .member) && decide (e.2.misses = 0))) &&
    !(decide (e.2.lane = lane) && decide (e.2.position = position)))).map (fun e => e.1)

/-- A UID that announces under another number claims its old one no longer (R290). -/
def State.dropRival (s : State) (uid n : Nat) : State :=
  { s with bb := { s.bb with nodes := s.bb.nodes.map (fun e =>
      if e.1 = n then e
      else (e.1, { e.2 with rivals := e.2.rivals.filter (fun u => u != uid) })) } }

/-- A record that passed the check: duplicate, readmission or announcement (R287 to R289). -/
def State.takeRecord (s : State) (lane position : Nat) (r : CapRecord) (skegil : Bool) : State :=
  let n := r.nodeNo
  let s := s.dropRival r.uid n
  let x := s.noderec n
  match s.uidElsewhere r.uid lane position with
  | some m =>
    let s := s.quarantine m 2 (if m = n then (s.noderec m).rivals ++ [r.uid] else (s.noderec m).rivals)
    let s := s.setNoderec n { s.noderec n with lane := lane, position := position, record := some r, skegil := skegil }
    if m = n then s else s.quarantine n 2 (s.noderec n).rivals
  | none =>
    if x.state = .quarantined then
      let known := decide (x.uid = some r.uid) || decide (r.uid ∈ x.rivals)
      (s.setNoderec n { x with rivals := if known then x.rivals else x.rivals ++ [r.uid] }).quar lane 2 n r.uid
    else if x.holds ∧ x.uid ≠ some r.uid then
      let s := s.quarantine n 1 (if r.uid ∈ x.rivals then x.rivals else x.rivals ++ [r.uid])
      if x.state = .lost then s.quar lane 2 n r.uid else s
    else if x.state = .lost ∧ x.slot ∧ x.lane = lane then
      (s.setNoderec n { x with position := position, record := some r, skegil := skegil,
                               readmitAt := some (cycAdd s.cycle 3) }).ack lane r.uid n 1
    else if x.state = .member then (s.setNoderec n { x with again := decide (x.lane = lane) }).ack lane r.uid n 0
    else
      let s := s.setNoderec n { x with state := .announced, reason := 0, lane := lane, position := position,
                                       record := some r, skegil := skegil, misses := 0 }
      (s.ack lane r.uid n 0).ev 24 n 1 0

/-- A conductor that leads or shares the backbone takes records (R287). -/
def State.leads (s : State) : Bool := s.live && s.conductor && (decide (s.bb.cold = .lead) || decide (s.bb.cold = .conductor))

/-- A record from a join slot: checked, refused with its reason, or taken (R287). -/
def State.joinRecord (s : State) (lane position : Nat) (r : CapRecord) (skegil : Bool) : State :=
  match s.capReason r with
  | some reason =>
    let n := r.nodeNo % 256
    let x := s.noderec n
    let s := if x.holds then s else s.setNoderec n { x with state := .refused, reason := reason, lane := lane,
                                                            position := position, record := some r, skegil := skegil }
    s.ack lane r.uid n (0x80 + reason)
  | none => s.takeRecord lane position r skegil

/-- The delay of the hop into a node beyond the first, as the node's own port measured it (R274, R276): by which message it reaches
the conductor the spec does not say, so it is a free value, 0 while there is none (log entry 45). -/
def State.measureHop (s : State) (n : Nat) : State :=
  let x := s.noderec n
  if x.state = .absent ∨ x.position ≤ 1 then s
  else { s.setNoderec n { x with dly := (Config.freeWord s.free).toNat % 2 ^ 24 } with free := s.free + 1 }

/-- CAPABILITY_RECORD_RECEIVED (R287, R289). -/
def capabilityRecordReceivedCmd (lane position : Nat) (r : CapRecord) (s : State) : State :=
  if 4 ≤ lane ∨ s.leads = false then s else (s.joinRecord (s.lineOf lane) position r false).measureHop (r.nodeNo % 256)

def execCapabilityRecordReceived (lane position : Nat) (r : CapRecord) (s : State) :
    Host.Outcome State Fault Refusal := .next (capabilityRecordReceivedCmd lane position r s)

/-- The capability record built from a Skegil identity record (R292). -/
def skegilCap (r : SkegilRecord) : CapRecord :=
  { rectype := 1, profile := if r.sver = 1 then 1 else 0, nodeNo := r.nodeNo, vendor := r.vendor, uid := r.uid,
    fwdDly := 320, sincDly := 2400, axes := r.axes, rungs := 30, flags := 0, oscPpm := 100, rank := 255, role := 0,
    firmware := r.firmware, axisFmt := List.replicate (min 16 r.axes) (1, 1), zeroOk := r.zeroOk, crcOk := r.crcOk }

/-- SKEGIL_IDENTITY_RECORD: ignored and counted on a lane without admission, else checked and taken (R292). -/
def skegilIdentityRecordCmd (lane position : Nat) (r : SkegilRecord) (s : State) : State :=
  if 4 ≤ lane ∨ s.leads = false then s
  else if s.bit (R.bbCfg lane) 2 = false then s.bumpFld (R.bbMemb lane) 24 8 1
  else (s.joinRecord (s.lineOf lane) position (skegilCap r) true).measureHop (r.nodeNo % 256)

def execSkegilIdentityRecord (lane position : Nat) (r : SkegilRecord) (s : State) :
    Host.Outcome State Fault Refusal := .next (skegilIdentityRecordCmd lane position r s)

/-- Servo axes that run on node `n` (log entry 14). -/
def State.nodeAxes (s : State) (n : Nat) : List Nat :=
  s.axisNos.filter (fun a => (s.axis a).remote && decide ((Config.remoteHome a).1 = n))

/-- A node is no member any more: the cause of source 17 on its axes (R129, R285). -/
def State.raiseNodeLost (s : State) (n : Nat) : State :=
  (s.nodeAxes n).foldl (fun s a => (s.setAxis a ((s.axis a).setCause 17 true)).raiseSource a 17 0 false) s

/-- A node becomes LOST with its slot kept (R285). One that has announced again already is acknowledged as readmitted (R288, R293). -/
def State.markLost (s : State) (n : Nat) : State :=
  let x := s.noderec n
  let s := (((s.setNoderec n { x with state := .lost, slot := true, again := false,
                                      readmitAt := if x.again then some (cycAdd s.cycle 3) else x.readmitAt }).ev 24 n 3 x.reason).raiseNodeLost
    n).tripNode n
  match x.again, x.record with
  | true, some r => s.ack x.lane r.uid n 1
  | _, _ => s

/-- MEMBER_LOST: missing from 3 consecutive gather frames (R285). The slot is kept. The axes of a member that was quarantined go
through source 17 in the same way (R289). -/
def memberLostCmd (n : Nat) (s : State) : State :=
  let x := s.noderec n
  if s.leads = false ∨ x.misses < 3 then s
  else if x.state = .member then s.markLost n
  else if x.state = .quarantined ∧ x.dropped = true then (s.setNoderec n { x with dropped := false }).raiseNodeLost n
  else s

def execMemberLost (n : Nat) (s : State) : Host.Outcome State Fault Refusal := .next (memberLostCmd n s)

/-- A node becomes a member: the cause of source 17 ends on its axes (R285). -/
def State.memberAgain (s : State) (n : Nat) : State :=
  let s := s.setNoderec n { s.noderec n with state := .member, misses := 0, slot := true, readmitAt := none, reason := 0, again := false,
                                             dropped := false }
  let s := (s.ev 24 n 2 0).safUnsync n
  (s.nodeAxes n).foldl (fun s a => s.setAxis a ((s.axis a).setCause 17 false)) s

/-- READMISSION: φ0 of the second cycle after the acknowledgement (R288). -/
def readmissionCmd (n : Nat) (s : State) : State :=
  let x := s.noderec n
  match x.readmitAt with
  | some c => if s.leads ∧ x.state = .lost ∧ 0 ≤ cycDiff c s.nextCycle then s.memberAgain n else s
  | none => s

def execReadmission (n : Nat) (s : State) : Host.Outcome State Fault Refusal := .next (readmissionCmd n s)

/-- BB_NODE_INFO (R291): the FINAL's DETAIL carries the record state, the buffer the stored record. -/
def bbNodeInfoCmd (h : Hdr) (buf : Nat) (s : State) : State :=
  let x := s.noderec h.subj
  s.hostCmd h 0x0301 .imm 0 .node (if alignedAddr buf then none else some St.hostAddress) none
    (if x.record.isNone then some (St.nodeUnknown, 0) else none) (fun s =>
      let s := match x.record with
        | some r => s.memWr buf (capBytes r)
        | none => s
      s.acceptImm h 0x0301 s.cycle x.state.code none)

def execBbNodeInfo (h : Hdr) (buf : Nat) (s : State) : Host.Outcome State Fault Refusal := .next (bbNodeInfoCmd h buf s)

/-- BB_RELEASE (R290): the nodes of the number announce again. -/
def bbReleaseCmd (h : Hdr) (s : State) : State :=
  let x := s.noderec h.subj
  s.hostCmd h 0x0302 .imm 0 .node none none
    (firstRefusal [(decide (x.state ≠ .quarantined), St.notQuarantined, 0),
                   (!x.rivals.isEmpty, St.duplicatePresent, 0)]) (fun s =>
      let s := s.setNoderec h.subj { x with state := if x.slot then .lost else .absent, reason := 0, rivals := [] }
      (s.quarAll 3 h.subj).acceptImm h 0x0302 s.cycle 0 none)

def execBbRelease (h : Hdr) (s : State) : Host.Outcome State Fault Refusal := .next (bbReleaseCmd h s)

end Sys2Proof.Machine
end

