-- ==== Sys2Proof/Machine/CanOps.lean ====
section
/-!
DEFINITION. What the CAN rows share (chapter 18): buffers and their images in the signal store, requests and their failure,
the status registers, sleep and the stop of a controller (R478, R480, R483, R485 to R488).
-/

namespace Sys2Proof.Machine

open Sys2Proof

/-- A value that this conductor itself produces enters the store (R327, R331). -/
def State.localSig (s : State) (w : Nat) (v : BitVec 72) : State :=
  let s := s.setSigWord w v
  let st := s.blockStat (w / 64)
  s.setBlockStat (w / 64) { valid := true, bseq := (st.bseq + 1) % 256, age := 0 }

/-! ### Registers (R488) -/

def State.canInit (s : State) (k : Nat) : Bool := s.bit (R.canCtl k) 0
def State.canFd (s : State) (k : Nat) : Bool := s.bit (R.canCtl k) 1

/-- EN, DIR, ONESHOT and EVT of a buffer. -/
def State.bufEn (s : State) (k b : Nat) : Bool := s.bit (R.canBuf k b) 0
def State.bufTx (s : State) (k b : Nat) : Bool := s.bit (R.canBuf k b) 1
def State.bufOneShot (s : State) (k b : Nat) : Bool := s.bit (R.canBuf k b) 2
def State.bufEvt (s : State) (k b : Nat) : Bool := s.bit (R.canBuf k b) 3

/-- Number of the first signal of a buffer's image. -/
def State.bufSig (s : State) (k b : Nat) : Nat := 64 * s.fld (R.canBuf k b) 4 14 + s.fld (R.canBuf k b) 18 6

/-- The controller is on the bus. -/
def State.canOn (s : State) (k : Nat) : Bool :=
  s.live && s.conductor && s.engineRuns 10 && !s.canInit k && (s.canc k).joined && !(s.canc k).asleep && !(s.canc k).busOff

/-- One of the error counts is above 127. -/
def Can.passive (x : Can) : Bool := decide (127 < x.tec) || decide (127 < x.rec_)

/-- CANk_ERR and STATE of CANk_STAT follow the controller. -/
def State.canShow (s : State) (k : Nat) : State :=
  let x := s.canc k
  let st := if s.canInit k ∨ x.asleep then 3 else if x.busOff then 2 else if x.passive then 1 else 0
  (s.setFld (R.canStat k) 0 2 st).setReg (R.canErr k)
    (BitVec.ofNat 32 (min x.tec 255 + 256 * min x.rec_ 127 + (if 127 < x.rec_ then 32768 else 0)))

/-- Traffic event of a buffer with EVT = 1, its VALUE not stated (R489). -/
def State.canTraffic (s : State) (k b code : Nat) : State := if s.bufEvt k b then s.evC (52 + 2 * k) b code else s

/-- Error event with CANk_ERR as its VALUE. -/
def State.canErrEv (s : State) (k code : Nat) : State := s.ev (53 + 2 * k) 0xFFFF code (s.reg (R.canErr k)).toNat

/-! ### Requests (R478, R483) -/

/-- The image of a transmit buffer as a frame. -/
def State.bufFrame (s : State) (k b : Nat) : CanFrame :=
  let w := s.bufSig k b
  let h := (s.sigWord w).toNat
  { ident := h % 2 ^ 29, ide := h / 2 ^ 29 % 2 = 1, rtr := h / 2 ^ 30 % 2 = 1, fdf := h / 2 ^ 31 % 2 = 1,
    brs := h / 2 ^ 32 % 2 = 1, esi := false, dlc := h / 2 ^ 36 % 16,
    data := (List.range 8).flatMap (fun j => leBytes 8 (s.sigWord (w + 2 + j)).toNat) }

/-- Whether buffer `b` has a pending request. -/
def State.canPending (s : State) (k b : Nat) : Bool := (SMap.get none (s.canc k).pending b).isSome

def State.setCanPending (s : State) (k b : Nat) (f : Option CanFrame) : State :=
  (s.setCanc k { s.canc k with pending := (s.canc k).pending.set none b f }).setBit (R.canTxreq k b) (b % 32) f.isSome

/-- A request fails: TXFAIL, and the traffic event with code 3, its cause and LEC. -/
def State.canFail (s : State) (k b cause lec : Nat) : State :=
  let s := (s.setCanPending k b none).setBit (R.canTxfail k b) (b % 32) true
  if s.bufEvt k b then s.ev (52 + 2 * k) b 3 (cause + 256 * lec) else s

/-- A request of buffer `b`: the image is copied; an FD frame without FD_EN fails. A controller off the bus by INIT or SLEEP
takes none. -/
def State.canRequest (s : State) (k b : Nat) : State :=
  if s.canInit k ∨ s.bit (R.canCtl k) 4 ∨ s.bufEn k b = false ∨ s.bufTx k b = false ∨ s.canPending k b then s
  else
    let f := s.bufFrame k b
    let s := s.setCanc k { s.canc k with reqAt := (s.canc k).reqAt.set 0 b s.now }
    let s := s.setCanPending k b (some f)
    if f.fdf ∧ s.canFd k = false then s.canFail k b 2 0 else s

/-- Every pending request fails with `cause`; only those of one-shot buffers where `oneShot`. -/
def State.canFailAll (s : State) (k cause : Nat) (oneShot : Bool) : State :=
  ((s.canc k).pending.map (fun e => e.1)).foldl (fun s b =>
    if oneShot ∧ s.bufOneShot k b = false then s else s.canFail k b cause 0) s

/-- The cyclic requests of φ0 of cycle `n`. -/
def State.canCyclic (s : State) (n : Nat) : State :=
  if s.conductor = false then s
  else
    [0, 1].foldl (fun s k =>
      (List.range 64).foldl (fun s b =>
        let c := s.fld (R.canBuf k b) 24 4
        if c = 0 ∨ n % 2 ^ (c - 1) ≠ 0 then s else s.canRequest k b) s) s

/-! ### Sleep and stop (R485 to R487) -/

/-- SLEEP: pending requests are cancelled, and at bus idle the controller sleeps with CANk_STB high. -/
def State.canSleepNow (s : State) (k : Nat) : State :=
  let s := (s.canFailAll k 4 false).setBit (R.canCtl k) 4 true
  (s.setCanc k { s.canc k with asleep := true, joined := false, joining := false, stb := true }).canShow k

/-- INIT is set: the controller stops, its requests fail. -/
def State.canStop (s : State) (k : Nat) : State :=
  let s := (s.canFailAll k 4 false).setBit (R.canCtl k) 0 true
  (s.setCanc k { s.canc k with joined := false, joining := false, stb := true }).canShow k

/-- WAKE_CFG.MODE: 1 dominant level, 2 wake-up frame, else none. -/
def State.canWakeMode (s : State) (k : Nat) : Nat := let m := s.fld (R.canWakeCfg k) 0 2; if m = 3 then 0 else m

/-- What the controllers do on the entry to Standby. -/
def State.canStandby (s : State) : State :=
  [0, 1].foldl (fun s k => if s.canWakeMode k = 0 then s.canStop k else s.canSleepNow k) s

/-- The controller goes on to the bus: it joins after 11 recessive bits. -/
def State.canStart (s : State) (k : Nat) : State :=
  (s.setCanc k { s.canc k with joining := true, joined := false, stb := false }).canShow k

end Sys2Proof.Machine
end

