-- ==== Sys2Proof/Machine/Fabric.lean ====
section
/-!
DEFINITION. The two dies (R24 to R29), memories (R38, R39) and cycle budgets (R42 to R49): link frames, the scrubber's finds,
and the budget counters.
-/

namespace Sys2Proof.Machine

open Sys2Proof

/-! ### Budgets and arbitration (R42 to R49) -/

/-- The first of the best elements of a list. -/
def firstBest {α : Type} (better : α → α → Bool) : List α → Option α
  | [] => none
  | x :: rest =>
    match firstBest better rest with
    | some y => if better y x then some y else some x
    | none => some x

/-- Bank group of a word: consecutive words lie in consecutive groups. -/
def Beat.group (b : Beat) : Nat := b.word % 4

/-- Among guaranteed requests the oldest wins, then the lower requester number (R44). -/
def Beat.older (a b : Beat) : Bool :=
  decide (a.made < b.made) || (decide (a.made = b.made) && decide (a.requester < b.requester))

/-- Places from the round-robin pointer to the requester (R45). -/
def Fabric.turn (f : Fabric) (b : Beat) : Nat := (b.requester + 18 - f.pointer) % 18

/-- Among shared requests the requester nearest after the pointer wins, with its oldest request (R45). -/
def Fabric.sooner (f : Fabric) (a b : Beat) : Bool :=
  decide (f.turn a < f.turn b) || (decide (f.turn a = f.turn b) && decide (a.made < b.made))

/-- The request that bank group `g` serves in this clock: a guaranteed one before any shared one (R44, R45). -/
def Fabric.winner (f : Fabric) (g : Nat) : Option Beat :=
  let here := f.waiting.filter (fun b => decide (b.group = g))
  match firstBest Beat.older (here.filter Beat.guaranteed) with
  | some b => some b
  | none => firstBest f.sooner here

/-- A beat is served: the counter of a guaranteed request goes down (R43), and after a shared grant the pointer moves to the
requester after the winner (R45). -/
def Fabric.grant (f : Fabric) (b : Beat) : Fabric :=
  { f with
    waiting := f.waiting.erase b
    served := f.served.set b.requester (f.served.getD b.requester 0 + 1)
    counters := if b.guaranteed then f.counters.set b.requester (f.counters.getD b.requester 0 - 1) else f.counters
    pointer := if b.guaranteed then f.pointer else (b.requester + 1) % 18 }

/-- Each bank group delivers one beat per clock, group 0 first (log entry 150). -/
def Fabric.serve (f : Fabric) : Fabric :=
  (List.range 4).foldl (fun f g =>
    match f.winner g with
    | some b => f.grant b
    | none => f) f

/-- A request is made: guaranteed while its requester's counter is above zero, else shared (R43). -/
def Fabric.request (f : Fabric) (q : BeatReq) : Fabric :=
  { f with waiting := f.waiting ++ [⟨q.requester, q.word, f.clock, decide (0 < f.counters.getD q.requester 0)⟩] }

/-- The clocks `t`, `t + 1`, … of a window, `n` of them: the requests of the clock are made, then each group serves one. -/
def Fabric.runClocks (reqs : List BeatReq) : (n t : Nat) → Fabric → Fabric
  | 0, _, f => f
  | n + 1, t, f =>
    if f.waiting.isEmpty && reqs.all (fun q => decide (q.clock < t)) then { f with clock := f.clock + (n + 1) }
    else
      let f := (reqs.filter (fun q => decide (q.clock = t))).foldl Fabric.request f
      Fabric.runClocks reqs n (t + 1) { f.serve with clock := f.clock + 1 }

/-- BUDGET_WINDOW: every counter is loaded with its budget, rounded down for the last, shorter window of a cycle (R42); then the
requests made in the window, and those left from the window before, are served as long as it lasts. -/
def budgetWindowCmd (w : BudgetSpan) (s : State) : State :=
  if s.live = false then s
  else
    let len := min w.lenNs 1000
    let f := { s.fab with
      counters := s.stage.inForce.budgets.map (fun b => b * len / 1000), window := s.fab.window + 1
      served := List.replicate 18 0 }
    { s with fab := f.runClocks (w.reqs.filter (fun q => decide (q.requester < 18))) (len / 2) 0 }

def execBudgetWindow (w : BudgetSpan) (s : State) : Host.Outcome State Fault Refusal := .next (budgetWindowCmd w s)

/-! ### Bursts (R50, R51) -/

/-- φ0 ends a cycle of `clocks` clock periods: it joins the last 1,024, and every engine that runs has its schedule entry of the
new cycle, by which a burst begins (R50, R51). The spec lists no entries: each engine has one in every cycle (log entry 44). -/
def State.burstsPhi0 (s : State) : State :=
  let clocks := tcycNs s.rung / 2
  let f := { s.fab with
    cycles := ((s.fab.cycleNo, clocks, s.fab.awake) :: s.fab.cycles).take 1024, cycleNo := s.fab.cycleNo + 1, awake := 0 }
  (List.range 12).foldl (fun s e => s.wake e) { s with fab := f }

/-- Clock periods for which engine `e` was gated in one of the last cycles: all of them, or with a burst as many as the part
leaves. -/
def gatedIn (e : Nat) (c : Nat × Nat × BitVec 12) : Nat :=
  if c.2.2.getLsbD e then min c.2.1 (Config.gatedClocks e c.1) else c.2.1

/-- The idle fraction of engine `e` over the last 1,024 cycles, in 2^-16 (R51); gated throughout while there has been none. -/
def Fabric.idle (f : Fabric) (e : Nat) : Nat :=
  let total := (f.cycles.map (fun c => c.2.1)).sum
  if total = 0 then 0x10000 else (f.cycles.map (gatedIn e)).sum * 0x10000 / total

/-! ### Engines that stop (R30, R34, R38, R259) -/

/-- The axes an engine owns (R30, R32). -/
def State.ownedAxes (s : State) (e : Nat) : List Nat :=
  if e < 4 then s.axisNos.filter (fun a => decide (s.loopEngine a = e))
  else if e < 6 then s.axisNos.filter (fun a => decide (s.profEngine a = e - 4))
  else []

/-- Port `k` goes to its debug-halt safe state, its low sides after their dead time (R259). -/
def State.haltPort (s : State) (k : Nat) : State :=
  let s := s.highsOff k false
  (s.setPwmp k { s.pwmp k with halt := true }).setBit (R.pwmStat k) 2 true

/-- Axis `a` goes to its PWM safe state, held until it has been disabled and enabled (R259). -/
def State.safeStateAxis (s : State) (a : Nat) : State :=
  let x := s.axis a
  if x.inUse = false then s
  else
    let s := s.setAxis a { x with haltSafe := true }
    match x.localPort with
    | some k => s.haltPort k
    | none => s

/-- The engine that owns local axis `i` of a Node-role VLN (R259). -/
def State.nodeEngine (s : State) (i : Nat) : Nat := if (s.node.axes.getD i {}).split then 0 else 6

/-- The axes that lose their engine go to the PWM safe state (R259). -/
def State.haltAxes (s : State) (e : Nat) : State :=
  if s.conductor then (if e < 4 then (s.ownedAxes e).foldl (fun s a => s.safeStateAxis a) s else s)
  else (List.range 4).foldl (fun s i =>
    if s.nodeEngine i = e then s.haltPort i else s) s

/-- Engine health (R360): EV00 + e, VALUE an axis or none. -/
def State.evEngine (s : State) (e code : Nat) (axis : Option Nat) : State := s.ev e e code (axis.getD 0xFFFFFFFF)

/-- An engine stops on a fault: its health event, and its axes in their safe state (R38). NE1 takes over NE0's work and
reports EV06 (R34). -/
def State.stopEngine (s : State) (e code : Nat) : State :=
  let s := { s with fab := { s.fab with stopped := bvPut s.fab.stopped e true } }
  let s := (s.evEngine e code none).haltAxes e
  let s := if s.conductor ∧ 4 ≤ e then (s.ownedAxes e).foldl (fun s a => s.safeStateAxis a) s else s
  if e = 6 then { s with fab := { s.fab with ne1Takes := true } } else s

/-! ### Uncorrectable errors (R38) -/

/-- What the journal holds of a FINAL, in either bank (R563). -/
def State.journalFinal (s : State) (ring seq : Nat) : Option JRec :=
  let live (b : Nat) : Option JRec :=
    if s.bankOk b then (findFinal (s.bank b) ring seq).bind (fun r => if s.recLive b r then some r else none) else none
  match live 0 with
  | some r => some r
  | none => live 1

/-- The extended result that a journal record can rebuild: REMAIN or HOME_OFFSET (R563). -/
def JRec.extBytes (r : JRec) : Option (List Byte) :=
  if r.ext ∧ r.body.length = 9 then some (fitBytes 64 (bytes72 (field72 r.body 0))) else none

/-- Rebuild a lost cache entry from the journal, or mark it lost (R38, R563). -/
def State.rebuildResult (s : State) (ring seq : Nat) : State :=
  match s.journalFinal ring seq with
  | some r =>
    let f : FinalRec := ⟨r.tag, r.status, r.opcode, r.ext, r.cycle, r.detail, false, s.crPhase ring r.crIdx⟩
    let s := { s with host := { s.host with results := s.host.results.set none (resKey ring seq) (some f) } }
    match r.extBytes with
    | some bs => { s with host := { s.host with extPool := ((ring, seq, bs) :: s.host.extPool).take 2048 } }
    | none => s
  | none =>
    let lost : FinalRec := ⟨0, 0, 0, false, 0, 0, true, true⟩
    { s with host := { s.host with results := s.host.results.set none (resKey ring seq) (some lost) } }

/-- A result whose extended part is lost for good: a QUERY of it is answered RESULT_LOST (R38, R351). -/
def State.loseResult (s : State) (ring seq : Nat) : State :=
  match SMap.get none s.host.results (resKey ring seq) with
  | some f => { s with host := { s.host with results := s.host.results.set none (resKey ring seq) (some { f with lost := true }) } }
  | none => s

/-- An uncorrectable error in a region acts as the table of R38 says. -/
def State.sramDouble (s : State) (r : SramRegion) : State :=
  match r with
  | .engine e => if e < 12 then s.stopEngine e 3 else s
  | .axisRecord a => if s.usable a then s.raiseSource a 4 0 true else s
  | .signalStore w =>
    let b := w / 64
    let s := if (s.blockDesc b).isSome ∧ (s.blockStat b).valid = true then
        s.setBlockStat b { s.blockStat b with valid := false, memErr := true } else s
    s.evEngine 9 3 none
  | .network a => if s.usable a then (s.setAxis a { s.axis a with sampleBad := true }).evEngine 9 3 (some a) else s
  | .pod p w =>
    match s.pod p with
    | some q => s.setPod p (some (if w = 0 then { q with pea := { q.pea with memErr := true } }
        else { q with waiting := q.waiting.modify (w - 1) (fun x => { x with memErr := true }) }))
    | none => s
  | .trace a => if s.usable a ∧ s.grade = 2 then
      s.setAxis a { s.axis a with trace := { (s.axis a).trace with memErr := true } } else s
  | .resultCache ring seq =>
    if (SMap.get none s.host.results (resKey ring seq)).isSome then s.rebuildResult ring seq else s
  | .extPool ring seq =>
    let pool := s.host.extPool.filter (fun e => !(decide (e.1 = ring) && decide (e.2.1 = seq)))
    if pool.length = s.host.extPool.length then s
    else
      let s := { s with host := { s.host with extPool := pool } }
      match (s.journalFinal ring seq).bind JRec.extBytes with
      | some bs => { s with host := { s.host with extPool := ((ring, seq, bs) :: s.host.extPool).take 2048 } }
      | none => s.loseResult ring seq

/-- SCRUB_PASS: one pass over the SRAM (R39). A single-bit error is written back corrected. -/
def scrubPassCmd (errs : List SramError) (s : State) : State :=
  if s.live = false then s
  else
    let s := { s with fab := { s.fab with scrubs := s.fab.scrubs + 1 } }
    errs.foldl (fun s e => if e.double then s.sramDouble e.region else s) s

def execScrubPass (errs : List SramError) (s : State) : Host.Outcome State Fault Refusal := .next (scrubPassCmd errs s)

/-! ### The die-to-die link (R24 to R26) -/

/-- Bits of a number, least significant first. -/
def lsbBits (n x : Nat) : List Bool :=
  match n with
  | 0 => []
  | k + 1 => decide (x % 2 = 1) :: lsbBits k (x / 2)

/-- Bits 111:0 of a frame in the order sent (R25). -/
def dieSent (f : DieFrame) : List Bool :=
  lsbBits 4 f.ftype ++ lsbBits 4 f.seq ++ lsbBits 32 f.fio.toNat ++ lsbBits 16 f.stat.toNat ++ lsbBits 24 f.cfg.toNat ++
    lsbBits 32 f.safe.toNat

/-- TYPE of the frames that an end receives: 0x2 field-to-core at the core die, 0x1 core-to-field at the field die (R25). -/
def dieType (atField : Bool) : Nat := if atField then 1 else 2

/-- A frame is good (R24 to R26): its synchronisation word, TYPE and CRC, and SEQ one more than that of the last good frame. -/
def dieGood (atField : Bool) (f : DieFrame) (resync : Bool) (rxSeq : Nat) : Bool :=
  f.syncOk && decide (f.ftype = dieType atField) && decide (crc16 (dieSent f) = f.crc.toNat) &&
    (resync || decide (f.seq % 16 = (rxSeq + 1) % 16))

/-- A frame as an end sends it in the frame period: the next SEQ, and the CRC of its bits (R25). -/
def dieFrameOf (ftype seq : Nat) (fio : BitVec 32) (stat : BitVec 16) (cfg : BitVec 24) (safe : BitVec 32) : DieFrame :=
  let f : DieFrame := ⟨ftype, seq % 16, fio, stat, cfg, safe, 0, true⟩
  { f with crc := BitVec.ofNat 16 (crc16 (dieSent f)) }

/-- The contents of STAT, CFG and SAFE of a frame that is sent, to which the spec gives no layout or no value: free (log entry
151). -/
def State.dieSlots (s : State) : BitVec 16 × BitVec 24 × BitVec 32 × State :=
  ((Config.freeWord s.free).setWidth 16, (Config.freeWord (s.free + 1)).setWidth 24, (Config.freeWord (s.free + 2)).setWidth 32,
    { s with free := s.free + 3 })

/-- The core die sends its frame of the period: output commands and enables (R25). -/
def State.coreSends (s : State) : State :=
  let (stat, cfg, safe, s) := s.dieSlots
  let seq := (s.die.txSeq + 1) % 16
  let fio : BitVec 32 := BitVec.ofNat 32 (s.fld R.dioOut 0 16 + 2 ^ 16 * s.fld R.dioOutEn 0 16)
  { s with die := { s.die with txSeq := seq, sent := some (dieFrameOf 1 seq fio stat cfg safe) } }

/-- The CFG slot of a field-to-core frame sent at `now`: channel, age in link frames and 32 ns step within its frame of an edge at
`t` (R463). `free` gives the bits above, an age that its six bits cannot hold, and the step in Slow mode, whose frame has more steps than
three bits can name: to these the spec gives no value (log entry 151). -/
def edgeReport (fast : Bool) (now ch t : Nat) (free : BitVec 24) : BitVec 24 :=
  let per := if fast then 250 else 8000
  let d := (t72Diff t now / 2 ^ 16).toNat
  let age := d / per
  let step := ((age + 1) * per - d) / 32
  BitVec.ofNat 24 (ch % 16 + 2 ^ 4 * (if age < 64 then age else free.toNat / 2 ^ 4 % 64) +
    2 ^ 10 * (if fast then min 7 step else free.toNat / 2 ^ 10 % 8) + 2 ^ 13 * (free.toNat / 2 ^ 13))

/-- The field die sends its frame of the period: debounced inputs and read-back, and the oldest edge report of its queue (R25, R463). -/
def State.fieldSends (s : State) : State :=
  let (stat, free, safe, s) := s.dieSlots
  let cfg := match s.field.stampQueue with
    | (ch, t) :: _ => edgeReport s.die.fast s.now ch t free
    | [] => free
  let e := s.die.fieldEnd
  let seq := (e.txSeq + 1) % 16
  let fio : BitVec 32 := BitVec.ofNat 32 (s.field.inputs.toNat + 2 ^ 16 * s.field.readback.toNat)
  { s with die := { s.die with fieldEnd := { e with txSeq := seq, sent := some (dieFrameOf 2 seq fio stat cfg safe) } }
           field := { s.field with stampQueue := s.field.stampQueue.drop 1 } }

/-- The frame period of the core die's receiver: a good frame is taken, with the debounced inputs, while they are valid, and the
read-back of the outputs (R25, R472); any other is discarded and counted (R26). -/
def State.coreTakes (s : State) (f : DieFrame) : State :=
  if dieGood false f s.die.resync s.die.rxSeq then
    let s := s.setFld R.dioIn 16 16 (f.fio.toNat / 2 ^ 16)
    let s := if s.bit R.dioStat 0 then s.setFld R.dioIn 0 16 f.fio.toNat else s
    { s with die := { s.die with rxSeq := f.seq % 16, resync := false, missing := 0, fio := f.fio, stat := f.stat,
                                 cfg := f.cfg, safe := f.safe } }
  else { s with die := { s.die with resync := true, discards := s.die.discards + 1, missing := s.die.missing + 1 } }

/-- The frame period of the field die's receiver. -/
def State.fieldTakes (s : State) (f : DieFrame) : State :=
  let e := s.die.fieldEnd
  if dieGood true f e.resync e.rxSeq then
    { s with die := { s.die with fieldEnd := { e with rxSeq := f.seq % 16, resync := false, missing := 0, fio := f.fio } } }
  else
    { s with die := { s.die with fieldEnd := { e with resync := true, discards := e.discards + 1, missing := e.missing + 1 } } }

/-- LINK_FRAME_RECEIVED: one frame period at the core die's end, or at the field die's. The end takes or discards what it received
(R26) and sends its own frame. -/
def linkFrameReceivedCmd (x : DieSlot) (s : State) : State :=
  if x.atField then (if s.die.fieldEnd.up then (s.fieldTakes x.frame).fieldSends else s)
  else if s.die.up then (s.coreTakes x.frame).coreSends
  else s

def execLinkFrameReceived (x : DieSlot) (s : State) : Host.Outcome State Fault Refusal := .next (linkFrameReceivedCmd x s)

end Sys2Proof.Machine
end

