-- ==== Sys2Proof/Machine/Pwm.lean ====
section
/-!
DEFINITION. The PWM generator of the four local ports (R247 to R263): periods, widths, dithering, suppression, the shadow
triple, choppers, trips and safe states.
-/

namespace Sys2Proof.Machine

open Sys2Proof

/-! ### Widths (R250, R251, R253) -/

/-- c of R250 for a current `i` (H36 of I_FS) of the axis. -/
def Axis.dtcRatio (x : Axis) (i : Int) : Rat :=
  if x.raw Pn.dtcBand = 0 then signR (i : Rat) else clampR (-1) 1 (hVal i * x.g Pn.iFs / x.g Pn.dtcBand)

/-- The axis whose currents compensate port `k` (R250): the one whose POWER_PORT names it; local axis `k` on a Node-role VLN (log
entry 93). -/
def State.portOwner (s : State) (k : Nat) : Option Nat := if s.conductor then s.portAxis k else some k

/-- ΔW of R250 in ticks. -/
def State.deltaW (s : State) (k : Nat) (i : Int) : Rat :=
  if s.bit (R.pwmCfg k) 5 = false then 0
  else
    match s.portOwner k with
    | some a =>
      let c := (s.axis a).dtcRatio i
      if 0 ≤ c then s.dtR k * c else s.dtF k * c
    | none => 0

/-- W' of R250 in 1/16 tick for duty `d` (2^-35 of a period). -/
def State.width16 (s : State) (k ticks : Nat) (d i : Int) : Nat :=
  (rnd (16 * clampR 0 ticks ((d : Rat) / 2 ^ 35 * ticks + s.deltaW k i))).toNat

/-- The four bits of `m` in reverse order (R251). -/
def rev4 (m : Nat) : Nat := m % 2 * 8 + m / 2 % 2 * 4 + m / 4 % 2 * 2 + m / 8 % 2

/-- Period `m` gets the extra tick of dithering (R251). -/
def extended (on : Bool) (m w16 : Nat) : Bool := on && decide (rev4 m < w16 % 16)

/-- Whole ticks of a period with dithering index `m` (R251). -/
def dithered (on : Bool) (m w16 : Nat) : Nat :=
  if on then w16 / 16 + (if extended on m w16 then 1 else 0) else (rnd ((w16 : Rat) / 16)).toNat

/-- Gate widths (H, L) of a period and which of them is suppressed (R252, R253). -/
def gates (ticks w dtR dtF minp : Nat) : (Nat × Nat) × (Bool × Bool) :=
  let h : Int := (w : Int) - dtR
  let l : Int := (ticks : Int) - w - dtF
  if h < minp ∨ h ≤ 0 then ((0, ticks), (true, false))
  else if l < minp ∨ l ≤ 0 then ((ticks, 0), (false, true))
  else ((h.toNat, l.toNat), (false, false))

/-- The levels of the pins of phase `f` of port `k` (R247, R264). -/
def State.pwmPins (s : State) (k f : Nat) : Option (Bool × Bool) :=
  (s.gatesNow k f).map (fun g => (g.1 != s.bit (R.pwmCfg k) 7, g.2 != s.bit (R.pwmCfg k) 8))

/-- Period `i` of port `k` starts (R248 to R253): suppression is decided and counted; m, the number of the period, runs on while
the port is enabled and starts at 0 with it. -/
def State.startPeriod (s : State) (k i : Nat) : State :=
  let p := s.pwmp k
  let ticks := s.periodTicks k i
  let m := p.m % 16
  let w16 := [0, 1, 2].map (fun f => s.width16 k ticks (p.active.getD f 0) (p.activeI.getD f 0))
  let gs := w16.map (fun w => gates ticks (dithered (s.bit (R.pwmCfg k) 4) m w) (s.dtR k) (s.dtF k) (s.minp k))
  let on := decide (s.drive k = .active)
  let hs := if on then (gs.filter (fun g => g.2.1)).length else 0
  let ls := if on then (gs.filter (fun g => g.2.2)).length else 0
  let s := s.setReg (R.pwmCfg k + 0xC) (BitVec.ofNat 32 p.ticks)
  let s := (s.bumpFld (R.pwmSupp k) 0 16 hs).bumpFld (R.pwmSupp k) 16 16 ls
  let s := [0, 1, 2].foldl (fun s f => s.setReg (R.pwmCfg k + 0x20 + 4 * f) (BitVec.ofNat 32 (w16.getD f 0))) s
  let waits := [0, 1, 2].map (fun f =>
    lowWait (s.bit (R.pwmCfg k) 1) (p.extra.getD f false) p.ticks (s.dtR k) (s.dtF k) (p.hGate.getD f 0) (p.lGate.getD f 0))
  s.setPwmp k { p with m := if s.bit (R.pwmCfg k) 0 then (m + 1) % 16 else 0, period := i, ticks := ticks,
                       hGate := gs.map (fun g => g.1.1), lGate := gs.map (fun g => g.1.2), lWait := waits,
                       extra := w16.map (extended (s.bit (R.pwmCfg k) 4) m),
                       lowFrom := [0, 1, 2].map (fun f => if s.lowFree k f then none else p.lowFrom.getD f none) }

/-- PWM_PERIOD_START: a period after the first of the cycle starts on its own boundary. -/
def pwmPeriodStartCmd (k : Nat) (s : State) : State :=
  if 4 ≤ k ∨ s.live = false ∨ s.clkFail = true ∨ s.portK k ≤ (s.pwmp k).period + 1 then s
  else s.startPeriod k ((s.pwmp k).period + 1)

def execPwmPeriodStart (k : Nat) (s : State) : Host.Outcome State Fault Refusal := .next (pwmPeriodStartCmd k s)

/-! ### Shadow and reload (R254, R255) -/

/-- A whole triple, with its currents, enters the shadow registers of port `k`; one in the last 4 ticks is held back. -/
def State.writeTriple (s : State) (k : Nat) (d i : List Int) (late : Bool) : State :=
  let p := s.pwmp k
  if late then (s.setPwmp k { p with late := some (d, i) }).setBit (R.pwmStat k) 8 true
  else s.setPwmp k { p with shadow := d, shadowI := i, late := none }

/-- A triple from the axis that port `k` serves: one with SRC = 1 takes none (R255). -/
def State.axisTriple (s : State) (k : Nat) (d i : List Int) (late : Bool) : State :=
  if s.bit (R.pwmCfg k) 6 then s else s.writeTriple k d i late

/-- Port `k` takes its triples from an axis and no enabled axis names it (R255). -/
def State.unserved (s : State) (k : Nat) : Bool :=
  s.conductor && !s.bit (R.pwmCfg k) 6 && !(match s.portAxis k with
    | some a => (s.axis a).enabled
    | none => false)

/-- The reload at φ0 (R254): a port that no axis serves has no triple (log entry 53); else the shadow triple becomes active; a cleared
trip ends (R258), and period 0 starts. -/
def State.reload (s : State) (k : Nat) : State :=
  let p := if s.unserved k then { s.pwmp k with shadow := [], late := none } else s.pwmp k
  let s := s.setPwmp k { p with active := p.shadow, activeI := p.shadowI, shadow := (p.late.getD (p.shadow, p.shadowI)).1,
                                shadowI := (p.late.getD (p.shadow, p.shadowI)).2, late := none, clearPending := false }
  s.startPeriod k 0

/-- Whether now lies in the 4 ticks that end with the next reload (R254). -/
def State.lateNow (s : State) : Bool :=
  decide (0 ≤ t72Diff s.now (s.phi0 (cycAdd s.cycle 1))) && decide (t72Diff s.now (s.phi0 (cycAdd s.cycle 1)) < 8 * 2 ^ 16)

/-- Valid bit of a modulator channel's last φ0 sample (R246). -/
def State.sdmValid (s : State) (c : Nat) : Bool := s.bit (R.sdmStat c) 0 && s.engineRuns 10

/-- ISENS_FS of port `k`; on a node the full scale of its own modulators (log entry 16). -/
def State.portIsens (s : State) (k a : Nat) : Rat := if s.conductor then (s.axis a).g Pn.isensFs else (Config.nodeScale k).1

/-- Phase currents of port `k` in the axis's H36, sampled at the last φ0, for a manual triple or for one that a node receives in the cycle
of its samples (R250); zero where they cannot be had. -/
def State.sampledCurrents (s : State) (k : Nat) : List Int :=
  match s.portOwner k with
  | some a =>
    if s.bit (R.sdmCfg (2 * k)) 0 ∧ s.bit (R.sdmCfg (2 * k + 1)) 0 ∧ s.sdmValid (2 * k) ∧ s.sdmValid (2 * k + 1) then
      let x := s.axis a
      let cur (c : Nat) : Int := toHfs (x.g Pn.iFs) (hVal ((s.sdmc c).x - s.sdmOffs c) * s.portIsens k a)
      [cur (2 * k), cur (2 * k + 1), satBits 36 (-(cur (2 * k)) - cur (2 * k + 1))]
    else [0, 0, 0]
  | none => [0, 0, 0]

/-- A manual duty in 2^-35 of a period (R264): a value above 0x1_0000 acts as 1. -/
def manDuty (v : Nat) : Int := ((min (v % 2 ^ 17) 0x10000 * 2 ^ 19 : Nat) : Int)

/-- MANUAL_TRIPLE_WRITE: a write of PWM_Pk_MAN_W moves the manual triple into the shadow of a port with SRC = 1. -/
def manualTripleWriteCmd (k : Nat) (w : Reg32) (s : State) : State :=
  if 4 ≤ k ∨ s.writable = false then s
  else
    let s := s.setReg (R.pwmMan k + 8) (w &&& 0x1FFFF)
    if s.bit (R.pwmCfg k) 6 = false then s
    else s.writeTriple k ([0, 4, 8].map (fun o => manDuty (s.reg (R.pwmMan k + o)).toNat)) (s.sampledCurrents k) s.lateNow

def execManualTripleWrite (k : Nat) (w : Reg32) (s : State) : Host.Outcome State Fault Refusal :=
  .next (manualTripleWriteCmd k w s)

/-! ### Choppers (R256) -/

/-- The request of chopper `c`: the brake comparator's or COIL_ON, unless a hold-off is in force (R227, R228). -/
def State.chopReq (s : State) (c : Nat) : Bool :=
  let x := s.chopper c
  s.bit (R.chCfg c) 0 && !x.open_ && !x.ovl && (if s.bit (R.chCfg c) 3 then s.bit (R.chCtl c) 0 else x.req)

def State.chopCarrier (s : State) (c : Nat) : Nat := s.fld (R.chCfg c) 1 2

/-- Chopper `c` follows its request: it turns on unless TOFF runs, which the fixed-period carrier does not know; an ended request turns
carriers 0 and 2 off at once. -/
def State.chopFollow (s : State) (c : Nat) : State :=
  let x := s.chopper c
  if s.clkFail then s.setChopper c { x with on := false, offUntil := false }
  else if s.chopReq c then
    if x.offUntil ∧ s.chopCarrier c ≠ 0 then s else s.setChopper c { x with on := true, offUntil := false }
  else if s.chopCarrier c = 1 then s
  else s.setChopper c { x with on := false, offUntil := decide (s.chopCarrier c = 2) && (x.offUntil || x.on) }

/-- The choppers after a commit, which may have changed what requests or shapes them. -/
def State.choppersAfter (s : State) : State := (List.range 4).foldl (fun s c => s.chopFollow c) s

/-- The level of CHOPc, none where it is high-impedance (R256): on carrier 0 the output is on for DUTY of each PWM period of its
port. -/
def State.chopPin (s : State) (c : Nat) : Option Bool :=
  if s.bit (R.chCfg c) 0 = false then none
  else
    let within := decide (s.chopCarrier c ≠ 0) ||
      decide (s.periodTick c * 2 ^ 16 < s.fld (R.chDuty c) 0 17 * s.periodTicks c (s.pwmp c).period)
    some (((s.chopper c).on && within) != s.bit (R.chCfg c) 6)

/-- The terminating comparator of the coil on chopper `c` fires: the on-time of carrier 2 ends (R256). -/
def State.chopTerminate (s : State) (c : Nat) : State :=
  let x := s.chopper c
  if x.on ∧ s.chopCarrier c = 2 ∧ s.bit (R.chCfg c) 3 = true then
    (s.setChopper c { x with on := false, offUntil := true }).setBit (R.chStat c) 1 true
  else s

/-- CHOPPER_PULSE_END: TON or TOFF of chopper `c` has passed, or the terminating comparator of a coil on carrier 2 has
fired. -/
def chopperPulseEndCmd (c : Nat) (byComparator : Bool) (s : State) : State :=
  if 4 ≤ c ∨ s.live = false ∨ s.chopCarrier c = 0 then s
  else
    let x := s.chopper c
    if byComparator then s.chopTerminate c
    else if x.on then s.setChopper c { x with on := false, offUntil := true }
    else (s.setChopper c { x with offUntil := false }).chopFollow c

def execChopperPulseEnd (c : Nat) (byComparator : Bool) (s : State) : Host.Outcome State Fault Refusal :=
  .next (chopperPulseEndCmd c byComparator s)

/-! ### Trips (R257, R258, R263) -/

/-- TRIPk or a trip comparator of the port is active. -/
def PwmPort.tripActive (p : PwmPort) : Bool := p.pinActive || p.cmpTrip

/-- STAT and GSTAT show the port's trip. -/
def State.showTrip (s : State) (k : Nat) : State :=
  let p := s.pwmp k
  ((s.setBit (R.pwmStat k) 0 p.tripped).setBit (R.pwmStat k) 1 p.tripActive).setBit R.pwmGstat (1 + k) p.tripped

/-- The cause of source 11 follows the port's inputs. -/
def State.tripCause (s : State) (k : Nat) : State :=
  let s := s.showTrip k
  match s.portAxis k with
  | some a => s.setAxis a ((s.axis a).setCause 11 (s.pwmp k).tripActive)
  | none => s

/-- The trip is raised as source 11 on the axis that the port serves; with none, EV34 names the port (R257). -/
def State.raiseTrip (s : State) (k : Nat) : State :=
  let s := s.showTrip k
  match s.portAxis k with
  | some a => (s.setAxis a ((s.axis a).setCause 11 (s.pwmp k).tripActive)).raiseSource a 11 0 true
  | none => s.ev 34 0xFFFF 11 k

/-- The trip latch sets; one that is set already stays so. The low sides keep their dead time (R257). -/
def State.trip (s : State) (k : Nat) : State :=
  if (s.pwmp k).tripped then s.tripCause k
  else
    let s := s.highsOff k false
    (s.setPwmp k { s.pwmp k with tripped := true }).raiseTrip k

/-- The trip polarity of port `k` differs between two states. -/
def polarityDiffers (s t : State) (k : Nat) : Bool := s.bit R.tripCfg k != t.bit R.tripCfg k

/-- A polarity loaded from the parameter store: an input that is active at it latches; the trip is raised when Idle is reached. -/
def State.pinsLoaded (s t : State) : State :=
  (List.range 4).foldl (fun t k =>
    if polarityDiffers s t k then
      let p := t.pwmp k
      t.setPwmp k { p with pinActive := !p.pinActive, tripped := p.tripped || !p.pinActive }
    else t) t

/-- Trips latched while the VLN booted are raised. -/
def State.raiseTrips (s : State) : State := (List.range 4).foldl (fun s k => if (s.pwmp k).tripped then s.raiseTrip k else s) s

/-- TRIP_INPUT: TRIPk has been at its active level for 5 ns. -/
def tripInputCmd (k : Nat) (s : State) : State :=
  if 4 ≤ k ∨ (s.pwmp k).pinActive = true then s else (s.setPwmp k { s.pwmp k with pinActive := true }).trip k

def execTripInput (k : Nat) (s : State) : Host.Outcome State Fault Refusal := .next (tripInputCmd k s)

/-- A commit that changes a polarity turns the level of the input round (R264). -/
def State.pinsAfter (s t : State) : State :=
  (List.range 4).foldl (fun t k =>
    if polarityDiffers s t k then
      let p := t.pwmp k
      if p.pinActive then (t.setPwmp k { p with pinActive := false }).tripCause k
      else (t.setPwmp k { p with pinActive := true }).trip k
    else t) t

/-- TRIP_INPUT_INACTIVE: TRIPk has returned to its inactive level; the latch stays (R263). -/
def tripInputInactiveCmd (k : Nat) (s : State) : State :=
  if 4 ≤ k then s else (s.setPwmp k { s.pwmp k with pinActive := false }).tripCause k

def execTripInputInactive (k : Nat) (s : State) : Host.Outcome State Fault Refusal := .next (tripInputInactiveCmd k s)

/-- A trip clear (R258): refused while an input is active; the outputs keep the trip state until the next reload. -/
def State.clearTrip (s : State) (k : Nat) : State :=
  let p := s.pwmp k
  if p.tripped = false then s
  else if p.tripActive then s.setBit (R.pwmStat k) 9 true
  else (s.setPwmp k { p with tripped := false, clearPending := true }).showTrip k

/-- TRIP_CLEAR: a write of 1 to PWM_Pk_TRIP_CTL.CLR. -/
def tripClearCmd (k : Nat) (s : State) : State := if 4 ≤ k ∨ s.writable = false then s else s.clearTrip k

def execTripClear (k : Nat) (s : State) : Host.Outcome State Fault Refusal := .next (tripClearCmd k s)

/-! ### Clock loss (R259) -/

/-- Every port goes to its safe state, its low sides after their dead time in slow-clock periods, the choppers turn off, CLKFAIL sets and
ALERT_N is asserted. -/
def State.clockLoss (s : State) : State :=
  let s := (List.range 4).foldl (fun s k => s.highsOff k true) s
  let s := s.setBit R.pwmGstat 0 true
  let s := (List.range 4).foldl (fun s c => s.chopFollow c) s
  { s with pw := { s.pw with alertN := false } }

/-- CLOCK_MONITOR_FAIL: the counter clock is missing or off its frequency. -/
def clockMonitorFailCmd (s : State) : State := s.clockLoss

def execClockMonitorFail (s : State) : Host.Outcome State Fault Refusal := .next (clockMonitorFailCmd s)

end Sys2Proof.Machine
end

