-- ==== Sys2Proof/Machine/Loops.lean ====
section
/-!
DEFINITION. The loop engines (R78 to R104): samples, velocity estimate, transforms, current loop and modulation (C1 to C9),
position and velocity loops (B1 to B4), filters, hand-over of set-points, test-signal injection (R436 to R438), the back-EMF
observer (R231, R232) and the analogue curve (R236 to R238). Axis functions are pure; `tc` is T_cyc in seconds.
-/

namespace Sys2Proof.Machine

open Sys2Proof

/-- The constants of R79, held to the LSB of G72. -/
def kInvSqrt3 : Rat := 162509653574041 / 2 ^ 48
def kSqrt3Half : Rat := 243764480361061 / 2 ^ 48
def kTwoPi : Rat := 1768559438007110 / 2 ^ 48

/-! ### Test-signal injection (R436 to R438) -/

/-- Taps of the PRBS register of an order (R437). -/
def prbsTaps (order : Nat) : List Nat :=
  [[7, 6], [8, 6, 5, 4], [9, 5], [10, 7], [11, 9], [12, 11, 10, 4], [13, 12, 11, 8], [14, 13, 12, 2], [15, 14],
   [16, 15, 13, 4]].getD (order - 7) []

/-- One step of the Fibonacci register; stage `i` is bit `i - 1`. -/
def prbsStep (order r : Nat) : Nat :=
  let x := ((prbsTaps order).map (fun t => r / 2 ^ (t - 1) % 2)).sum % 2
  (2 * r + x) % 2 ^ order

/-- The bit that the next step shifts out. -/
def prbsOut (order r : Nat) : Bool := decide (r / 2 ^ (order - 1) % 2 = 1)

/-- Sine of `q` turns. -/
def sinTurns (q : Rat) : Rat := sinE (rnd ((q - rfloor q) * (2 * piQ)))

/-- Update j of an injection with period `tu` (R437). -/
def Injection.update (i : Injection) (tu : Rat) (cycle : Nat) : Injection :=
  if i.stopping ∨ i.duration ≤ i.j then { i with u := 0, j := max i.j i.duration }
  else
    let t := i.tNs
    let newBit := decide (i.j % max 1 i.hold = 0)
    let u : Int :=
      if i.wave = 0 then i.amp
      else if i.wave = 1 then rnd (i.amp * sinTurns (gVal i.f0 * t))
      else if i.wave = 2 then
        rnd (i.amp * sinTurns (gVal i.f0 * t + gVal (i.f1 - i.f0) * t ^ 2 / (2 * i.duration * tu)))
      else if newBit then (if prbsOut i.order i.lfsr then i.amp else -i.amp)
      else i.u
    { i with u := u, j := i.j + 1, tNs := t + tu, lastCycle := cycle,
             lfsr := if i.wave = 3 ∧ newBit = true then prbsStep i.order i.lfsr else i.lfsr }

/-- The injection of `point` takes its due update of `cycle` (R436). -/
def Axis.injStep (x : Axis) (point : Nat) (tu : Rat) (cycle : Nat) : Axis :=
  match x.inj with
  | some i => if i.point = point ∧ 0 ≤ cycDiff i.startCycle cycle then { x with inj := some (i.update tu cycle) } else x
  | none => x

/-- u at a summing point (R438). -/
def Axis.injU (x : Axis) (point : Nat) : Int :=
  match x.inj with
  | some i => if i.point = point then i.u else 0
  | none => 0

/-- The first update of an injection has just been made: TKIND 4 of R433. -/
def Axis.injFirst (x y : Axis) : Bool :=
  match x.inj, y.inj with
  | some i, some j => decide (i.j = 0) && decide (j.j = 1)
  | _, _ => false

/-! ### Samples (C1) -/

/-- Bits of a gather entry's EFLAGS (R305). -/
def entryFlag (e : GEntry) (i : Nat) : Bool := decide (e.eflags / 2 ^ i % 2 = 1)

/-- A filter output less its offset, as share of modulator full scale (R223). -/
def State.sdmShare (s : State) (c : Nat) : Rat := hVal ((s.sdmc c).x - s.sdmOffs c)

/-- DC-bus channel of a local axis (R225). -/
def Axis.busChannel (x : Axis) (k : Nat) : Nat := 8 + (if 0 ≤ x.int Pn.udcPort then (x.int Pn.udcPort).toNat else k)

/-- An entry whose POS, IU and IV carry the result of a flying start in place of samples (R305): its currents are none. -/
def Axis.flyEntry (x : Axis) (e : GEntry) : GEntry :=
  if x.fly.on ∧ e.estat / 2 ^ 11 % 2 = 1 then { e with iu := 0, iv := 0 } else e

/-- Phase currents and DC-bus voltage of an axis (R84, R223, R225): validity and (i_u, i_v, u_dc). -/
def State.powerSample (s : State) (x : Axis) (e : Option GEntry) : Bool × Int × Int × Int :=
  match x.localPort with
  | some k =>
    let b := x.busChannel k
    (s.sdmValid (2 * k) && s.sdmValid (2 * k + 1) && s.sdmValid b,
     toHfs (x.g Pn.iFs) (s.sdmShare (2 * k) * x.g Pn.isensFs),
     toHfs (x.g Pn.iFs) (s.sdmShare (2 * k + 1) * x.g Pn.isensFs),
     max 0 (toHfs (x.g Pn.uFs) (s.sdmShare b * x.g Pn.usensFs)))
  | none =>
    match e.map (x.flyEntry) with
    | some e =>
      (x.remote && entryFlag e 0 && !entryFlag e 1 && !entryFlag e 3 && !entryFlag e 4,
       toHfs (x.g Pn.iFs) (hVal e.iu * x.g Pn.isensFs), toHfs (x.g Pn.iFs) (hVal e.iv * x.g Pn.isensFs),
       max 0 (toHfs (x.g Pn.uFs) (hVal e.udc * x.g Pn.usensFs)))
    | none => (false, 0, 0, 0)

/-- Position of an axis with feedback (R84): validity and p before reduction. A split axis takes the sample of the cycle
before (R102). -/
def State.posSample (s : State) (x : Axis) (e : Option GEntry) : Bool × Int :=
  if x.int Pn.fbSrc = 4 then
    match e with
    | some e => (entryFlag e 0 && !entryFlag e 1 && !entryFlag e 2, e.pos + x.pOff)
    | none => (false, 0)
  else
    let k := (x.int Pn.fbSrc).toNat
    if x.split then ((s.fbp k).validPrev, (s.fbp k).posPrev + x.pOff) else ((s.fbp k).valid, (s.fbp k).pos + x.pOff)

/-- UDC_MIN in the axis's H36. -/
def Axis.udcMinH (x : Axis) : Int := toHfs (x.g Pn.uFs) (x.g Pn.udcMin)

/-- u_dc' of R84. -/
def Axis.udcUsed (x : Axis) : Int := max x.loop.udc x.udcMinH

/-- The entry an axis is worked on: a split axis takes the cycle before (R102). -/
def Axis.workEntry (x : Axis) : Option GEntry := if x.split then x.entryPrev else x.entry

/-! ### Velocity and angle (C2, C3) -/

/-- C2 (R85). In the zero-vector window of a flying start without feedback, and up to its takeover, nothing gives a velocity: the
estimate stays invalid (R233, R234). -/
def Axis.c2 (x : Axis) (tc : Rat) : Axis :=
  let l := x.loop
  let count := if x.fly.on && x.fly.observer then 0 else min 3 (l.vestCount + 1)
  let d := reduceHalf (x.raw Pn.modulo) (l.p - l.pPrev)
  let vRaw := if l.vestCount = 0 then l.vRaw else toP (pVal d / tc)
  let tf := x.g Pn.tfVest
  let alpha := if tf = 0 then 1 else tc / (tf + tc)
  let vEst := if count < 3 then l.vEst else if l.vestCount < 3 then vRaw
    else toP (pVal l.vEst + alpha * (pVal vRaw - pVal l.vEst))
  let w := toG (kTwoPi * x.int Pn.polePairs * pVal vEst / x.ln Pn.lRev)
  { x with loop := { l with vestCount := count, vestValid := decide (count = 3), vRaw := vRaw, vEst := vEst, wE := w } }

/-- ωe as C5 and C7 use it (R85). -/
def Axis.omega (x : Axis) : Rat := if x.loop.vestValid then gVal x.loop.wE else 0

/-- θe of R86 for a position. -/
def Axis.elecAngle (x : Axis) (p : Int) : Int :=
  let q : Rat := (x.int Pn.polePairs : Rat) * ((p - x.raw Pn.pComm : Int) : Rat) / (x.raw Pn.lRev : Rat)
  (rnd ((q - rfloor q) * 2 ^ 36) + 2 ^ 35) % 2 ^ 36 - 2 ^ 35

/-- C3 (R86). -/
def Axis.c3 (x : Axis) : Axis :=
  let l := x.loop
  let th := x.elecAngle l.p
  let c := cosE (angQ th)
  let sn := sinE (angQ th)
  let ia := l.iu
  let ib := toH ((hVal l.iu + 2 * hVal l.iv) * kInvSqrt3)
  { x with loop := { l with thE := th, ia := ia, ib := ib, id := toH (hVal ia * c + hVal ib * sn),
                            iq := toH (hVal ib * c - hVal ia * sn) } }

/-! ### Set-point selection (C4) -/

/-- The j-th inner period's value of a handed-over set-point (R99, R100). -/
def handOver (hold : Bool) (n : Nat) (old new : Int) (j : Nat) : Int :=
  if hold ∨ n ≤ j then new else rnd ((old : Rat) + ((new - old : Int) : Rat) * j / n)

/-- The axis searches for a hard stop (R183, method 4). -/
def Axis.stallSearch (x : Axis) : Bool :=
  match x.homing with
  | some h => decide (h.phase = .stallSearch)
  | none => false

/-- IQ_LIM in H36 (R87); HOME_ILIM during the stall search of homing method 4 (R183). -/
def Axis.iqLim (x : Axis) : Int :=
  let u : Rat := 2 ^ 35 / x.g Pn.iFs
  let lim := min (2 ^ 35 - 1) (sqrtE ((x.g Pn.iMax * u) ^ 2 - (x.g Pn.idRef * u) ^ 2))
  if x.stallSearch then min lim (toHfs (x.g Pn.iFs) (x.g Pn.homeIlim)) else lim

/-- The generating-side limit of R229: (in force, limit). -/
def Axis.regenLim (x : Axis) : Bool × Int :=
  let on := decide (x.raw Pn.stillV < |x.loop.vEst|) && x.loop.vestValid
  let r := clampR 0 1 ((x.g Pn.ovWarn - hVal x.loop.udc * x.g Pn.uFs) / x.g Pn.regenBand)
  (on, rnd (x.iqLim * r))

/-- Bound a current set-point: ±IQ_LIM, then the regenerating side. Answer: value, ILIM, REGEN_LIM. -/
def Axis.boundIq (x : Axis) (iq : Int) : Int × Bool × Bool :=
  let lim := x.iqLim
  let a := clampI (-lim) lim iq
  let (on, rg) := x.regenLim
  let b := if on ∧ 0 < x.loop.vEst ∧ a < -rg then -rg else if on ∧ x.loop.vEst < 0 ∧ rg < a then rg else a
  (b, decide (a ≠ iq), decide (b ≠ a))

/-- The axis runs without feedback and is driven open-loop, and the iq* of that drive: START_I in the direction of travel (R232). -/
def Axis.openDrive (x : Axis) : Bool := decide (x.int Pn.fbSrc = -1) && x.loop.obs.openLoop
def Axis.startCurrent (x : Axis) : Int := (if 0 ≤ x.loop.vUsed then 1 else -1) * toHfs (x.g Pn.iFs) (x.g Pn.startI)

/-- id* and iq* before injection and bounds (R87, R232, R239). Under TSTOP iq* is interpolated up to the first B3 that follows it
(R122). -/
def Axis.selectCurrents (x : Axis) (tc : Rat) (cycle : Nat) : Int × Int :=
  let l := x.loop
  match x.ident with
  | some i =>
    let it := toHfs (x.g Pn.iFs) (gVal i.iTest)
    let half := toHfs (x.g Pn.iFs) (gVal i.iTest / 2)
    match i.stepsLeft.headD 3 with
    | 0 => (it, 0)
    | 1 => (if ((cycDiff i.since cycle : Int) : Rat) * tc < 1 / 5 then half else it, 0)
    | 2 => (0, 0)
    | _ => (0, if x.openDrive then x.startCurrent else handOver true 1 l.iqOld l.iqNew 1)
  | none =>
    if x.openDrive then (0, x.startCurrent)
    else
      (toHfs (x.g Pn.iFs) (x.g Pn.idRef),
       if x.ctrlMode = 2 then x.iqSlew
       else handOver (!x.flag Pn.interp 0 || l.iqHold || x.tsRan) (x.int Pn.nv).toNat l.iqOld l.iqNew
         (l.iqJ + 1))

/-- C4 (R87), with injection at the current point. The count j of the inner periods of R99 goes on only where C4 runs: whether a cycle
whose C4 an invalid sample keeps from running counts as one is left open (DESIGN CHOICE, log entry 190). -/
def Axis.c4 (x0 : Axis) (tc : Rat) (cycle : Nat) : Axis :=
  let x := x0.injStep 0 tc cycle
  let (idS, iqS) := x.selectCurrents tc cycle
  let (iq, lim, rg) := x.boundIq (satBits 36 (iqS + x.injU 0))
  let x := { x with loop := { x.loop with idSet := idS, iqSet := iq, iqJ := x.loop.iqJ + 1 } }
  let x := if lim then x.loopFlag fIlim true else x
  if rg then x.psFlag fRegenLim true else x

/-! ### Current loop and modulation (C5 to C8) -/

/-- C5 and C6 (R88, R89). The feed-forwards ff_d and ff_q, to which R81 gives no format, pass from C5 to C6 exact (DESIGN CHOICE,
log entry 155). -/
def Axis.c56 (x : Axis) (tc : Rat) : Axis :=
  let l := x.loop
  let w := x.omega
  let iFs := x.g Pn.iFs
  let uFs := x.g Pn.uFs
  let ed := satBits 36 (l.idSet - l.id)
  let eq := satBits 36 (l.iqSet - l.iq)
  let ffd := -(w * x.g Pn.lQ * (hVal l.iq * iFs)) / uFs
  let ffq := w * (x.g Pn.lD * (hVal l.id * iFs) + x.g Pn.psiPm) / uFs
  let xd := toH (hVal l.xd + x.g Pn.kiI * tc * (hVal ed * iFs) / uFs)
  let xq := toH (hVal l.xq + x.g Pn.kiI * tc * (hVal eq * iFs) / uFs)
  let pd := x.g Pn.kpI * (hVal ed * iFs) / uFs
  let pq := x.g Pn.kpI * (hVal eq * iFs) / uFs
  let vd0 := toH (pd + hVal xd + ffd)
  let vq0 := toH (pq + hVal xq + ffq)
  let lim := toH (x.g Pn.modLimit * hVal x.udcUsed * kInvSqrt3)
  let vd := clampI (-lim) lim vd0
  let qlim := sqrtE ((lim * lim - vd * vd : Int) : Rat)
  let vq := clampI (-qlim) qlim vq0
  let xd := if vd ≠ vd0 then toH (hVal vd - pd - ffd) else xd
  let xq := if vq ≠ vq0 then toH (hVal vq - pq - ffq) else xq
  ({ x with loop := { l with ed := ed, eq := eq, xd := clampI (-lim) lim xd, xq := clampI (-lim) lim xq, vd := vd, vq := vq }
   }).loopFlag fVlim (decide (vd ≠ vd0) || decide (vq ≠ vq0))

/-- Duty of a phase (R91), in 2^-35 of a period. -/
def dutyOf (v v0 udc : Int) : Int := clampI 0 (2 ^ 35 - 1) (rnd ((1 / 2 + ((v + v0 : Int) : Rat) / (udc : Rat)) * 2 ^ 35))

/-- Middle of the extremes, negated (R91). -/
def minMax (a b c : Int) : Int := rnd (-((max a (max b c) + min a (min b c) : Int) : Rat) / 2)

/-- C7 and C8 (R90, R91). The observer has the voltage as C8 scales it, which is the one that acts (R231). θo is placed in [-π, π), the
limit of R81 for angles (DEDUCED, log entry 157). -/
def Axis.c78 (x : Axis) (tc : Rat) : Axis :=
  let l := x.loop
  let th := toAng (hVal l.thE * piR + x.omega * x.g Pn.tAdv * tc)
  let c := cosE (angQ th)
  let sn := sinE (angQ th)
  let va := toH (hVal l.vd * c - hVal l.vq * sn)
  let vb := toH (hVal l.vd * sn + hVal l.vq * c)
  let vu := va
  let vv := toH (-(hVal va) / 2 + kSqrt3Half * hVal vb)
  let vw := toH (-(hVal va) / 2 - kSqrt3Half * hVal vb)
  let udc := x.udcUsed
  let span := max vu (max vv vw) - min vu (min vv vw)
  let ovm := decide (x.int Pn.overmod = 1) && decide (udc < span)
  let sc (v : Int) : Int := if ovm then toH (hVal v * udc / span) else v
  let v0 := minMax (sc vu) (sc vv) (sc vw)
  let du := dutyOf (sc vu) v0 udc
  let dv := dutyOf (sc vv) v0 udc
  let dw := dutyOf (sc vw) v0 udc
  ({ x with loop := { l with thO := th, du := du, dv := dv, dw := dw,
                             obs := { l.obs with va2 := sc va, vb2 := sc vb } }
   }).loopFlag fOvm ovm

/-! ### Back-EMF observer (R231, R232) -/

/-- 2π × POLE_PAIRS × v / L_REV for a speed in LSB of V72. -/
def Axis.elecSpeed (x : Axis) (v : Int) : Rat := kTwoPi * x.int Pn.polePairs * pVal v / x.ln Pn.lRev

/-- At φ0 the voltages of the observer move on (R231): those of the duties computed last now act, while the axis drives its stage; else
the stage applies none (log entry 179). After an invalid sample the duties of the cycle before act again. -/
def Axis.voltPhi0 (x : Axis) (drives : Bool) : Axis :=
  let o := x.loop.obs
  { x with loop := { x.loop with obs := { o with va := o.va1, vb := o.vb1, va1 := if drives then o.va2 else 0,
                                                 vb1 := if drives then o.vb2 else 0 } } }

/-- The observer, or the open-loop drive below OBS_VMIN, moves to this cycle's φ0; `ia`, `ib` are this sample's. R232 says where the
drive begins and where the observer takes over, and leaves open which quantity ends an observer that runs: here the set-point and
v_est both lie below OBS_VMIN (DESIGN CHOICE, log entry 191). A flying start decides it at its takeover. `thUnwrapped`, to which R231
gives no format and no end of range, is held in 2^-48 rad without a bound (DESIGN CHOICE, log entry 192). -/
def Axis.observe (x : Axis) (tc : Rat) (ia ib : Int) : Axis :=
  let l := x.loop
  let o := l.obs
  let iFs := x.g Pn.iFs
  let uFs := x.g Pn.uFs
  let vmin := x.raw Pn.obsVmin
  let ol := if x.fly.on then o.openLoop else decide (|l.vUsed| < vmin) && (o.openLoop || decide (|l.vEst| < vmin))
  let o1 :=
    if o.openLoop then
      let w := x.elecSpeed l.vUsed
      { o with w := toG w, thUnwrapped := o.thUnwrapped + rnd (w * tc * 2 ^ 48) }
    else
      let ls := (x.g Pn.lD + x.g Pn.lQ) / 2
      let e (v i ip : Int) : Rat :=
        hVal v * uFs - x.g Pn.rS * (hVal i * iFs) - ls * (hVal (i - ip) * iFs) / tc
      let ea := e o.va ia o.iaPrev
      let eb := e o.vb ib o.ibPrev
      let ang := wrapPi (o.thUnwrapped * 2 ^ 16)
      let ed := ea * cosE ang + eb * sinE ang
      let eps := -ed / max (sqrtR (ea ^ 2 + eb ^ 2)) (1 / 100 * uFs) * signR (gVal o.w)
      let bw := x.g Pn.obsBw
      let w := gVal o.w + bw ^ 2 * tc * eps
      { o with w := toG w, thUnwrapped := o.thUnwrapped + rnd (tc * (w + 2 * bw * eps) * 2 ^ 48) }
  let o2 := { o1 with th := wrapPi (o1.thUnwrapped * 2 ^ 16) / 2 ^ 16, iaPrev := ia, ibPrev := ib, openLoop := ol }
  { x with loop := { l with obs := o2 } }

/-- p of R231. -/
def Axis.obsPos (x : Axis) : Int :=
  toP (x.ln Pn.pComm + x.ln Pn.lRev * gVal x.loop.obs.thUnwrapped / (kTwoPi * x.int Pn.polePairs))

/-! ### Position loop (B1) -/

/-- TSTOP governs the loops: from the first B3 of a cycle later than the detection, until standstill (R122). -/
def Axis.tstopping (x : Axis) : Bool := decide (x.reaction = .tstop) && x.tsActs && !x.still

/-- Set-points a coupled, homing or profiled axis uses this cycle. -/
def Axis.posError (x : Axis) : Int :=
  let d := x.pSet + x.injU 2 - x.loop.p
  satBits 72 (reduceHalf (x.raw Pn.modulo) d)

/-- B1 (R93), with injection at the position point. -/
def Axis.b1 (x0 : Axis) (tc : Rat) (cycle : Nat) : Axis :=
  let x := x0.injStep 2 (tc * x0.int Pn.nv * x0.int Pn.np) cycle
  let ep := x.posError
  let v := toP (x.g Pn.kpP * pVal ep + x.g Pn.kvff * pVal x.vSet)
  let lim := x.raw Pn.vMax
  let new := clampI (-lim) lim v
  let l := x.loop
  ({ x with loop := { l with ep := ep, ranP := true, vOld := l.vNew, vNew := new, vJ := 0, vHold := l.vFirst,
                             vFirst := false } }).loopFlag fSpdlim
    (decide (new ≠ v))

/-! ### Analogue curve (R236 to R238) -/

/-- Input of CURVE_SRC: validity and share of full scale; a negative value counts as 0. -/
def State.curveInput (s : State) (x : Axis) : Bool × Rat :=
  let c := x.int Pn.curveSrc
  if c < 0 then (false, 0)
  else if c < 8 then
    let w := s.reg (R.auxRes c.toNat)
    (decide (bits w 16 1 = 1), max 0 ((sbits w 0 16 : Rat) / 2 ^ 15))
  else if c < 12 then (s.sdmValid (c.toNat + 4), max 0 (s.sdmShare (c.toNat + 4)))
  else
    let sg := (c - 16).toNat
    let ok := match s.sigBlock sg with
      | some d => decide (d.kind = 2) && (s.blockStat (sg / 64)).valid
      | none => false
    (ok, max 0 (hVal (sext 36 (s.sigWord sg).toNat)))

/-- Curve output for a filtered input (R237). -/
def Axis.curveOut (x : Axis) (xf : Rat) : Rat :=
  let k := min 31 (rfloor (31 * xf)).toNat
  let v (i : Nat) : Rat := x.ln (Pn.curveV0 + min 31 i)
  v k + (v (k + 1) - v k) * (31 * xf - k)

/-- B2 of an axis in analogue-curve mode; the ramp of a reaction takes the speed command over in the cycle in which its set-points
come into use (R122, R124, R238). -/
def Axis.curveStep (x : Axis) (ok : Bool) (input tv : Rat) : Axis :=
  let c := x.curve
  let xf := if ok then min (2 ^ 48) (rnd ((gVal c.xf + (input - gVal c.xf) * tv / (x.g Pn.curveTf + tv)) * 2 ^ 48)) else c.xf
  let bad := if ok then 0 else c.badCount + 1
  let inv := (c.invalid && !(ok && decide (x.raw Pn.curveOn < xf))) || decide (x.int Pn.curveHold ≤ bad)
  let run := if inv then false else if x.raw Pn.curveOn < xf then true else if xf < x.raw Pn.curveOff then false else c.run
  let out := if run then toP (x.curveOut (gVal xf)) else 0
  let step := toP (x.ln Pn.profA * tv)
  let v := if x.rampSet then x.vSet else clampI (c.v - step) (c.v + step) out
  (({ x with curve := { xf := xf, run := run, badCount := bad, invalid := inv, v := v } }).psFlag fCurveRun run).psFlag
    fCurveInvalid inv

/-! ### Velocity loop and filters (B2 to B4) -/

/-- One biquad (R97): input and answer in 2^-48 × I_FS; a disabled one holds its states equal to its input. -/
def Biquad.step (b : Biquad) (on : Bool) (c : Nat → Rat) (u : Int) : Int × Biquad :=
  if on then
    let y := clampI (-(2 ^ 48)) (2 ^ 48) (rnd (c 0 * u + c 1 * b.x1 + c 2 * b.x2 - c 3 * b.y1 - c 4 * b.y2))
    (y, ⟨u, b.x1, y, b.y1⟩)
  else (u, ⟨u, u, u, u⟩)

/-- v* of B2 (R95, R122). -/
def Axis.selectV (x : Axis) : Int :=
  let l := x.loop
  if x.tstopping then 0
  else if x.ctrlMode = 0 then
    handOver (!x.flag Pn.interp 1 || l.vHold || (decide (x.reaction = .tstop) && x.tsActs)) (x.int Pn.np).toNat l.vOld l.vNew (l.vJ + 1)
  else if x.ctrlMode = 3 ∧ x.rampSet = false then x.curve.v
  else x.vSet

/-- B2 to B4 (R95, R96), with injection at the velocity point. x_v keeps its value where iq* is clamped in the sense of e_v, but
stays within ±IQ_LIM (R81, R111). ILIM is set there and nowhere else in B4, as the evaluation of R96 says (log entry 158). -/
def Axis.b24 (x0 : Axis) (tc : Rat) (cycle : Nat) : Axis :=
  let nv := x0.int Pn.nv
  let tv := tc * nv
  let x := x0.injStep 1 tv cycle
  let vmax := x.raw Pn.vMax
  let vs := clampI (-vmax) vmax (x.selectV + x.injU 1)
  let l := x.loop
  let iFs := x.g Pn.iFs
  let ev := satBits 72 (vs - l.vEst)
  let xc := toHfs iFs (hVal l.xv * iFs + x.g Pn.kiV * tv * pVal ev)
  let uv := toHfs iFs (x.g Pn.kpV * pVal ev + hVal xc * iFs)
  let co (base : Nat) (i : Nat) : Rat := x.g (base + i)
  let (y1, n1) := l.n1.step (x.flag Pn.filtMode 0) (co Pn.n1B0) (uv * 2 ^ 13)
  let (y2, n2) := l.n2.step (x.flag Pn.filtMode 1) (co Pn.n2B0) y1
  let (y3, lp) := l.lp.step (x.flag Pn.filtMode 2) (co Pn.lpfB0) y2
  let f := satBits 36 (rnd ((y3 : Rat) / 2 ^ 13))
  let aSet := if x.ctrlMode = 3 then 0 else x.aSet
  let raw := toHfs iFs (hVal f * iFs + x.g Pn.kaff * pVal aSet)
  let (new, lim, rg) := x.boundIq raw
  let keep := decide (new ≠ raw) && decide (0 < ev ∧ 0 < raw ∨ ev < 0 ∧ raw < 0 ∨ ev = 0 ∧ raw = 0)
  let iql := x.iqLim
  let x := { x with tsRan := x.tsRan || x.tstopping, loop := { l with
    vUsed := vs, ev := ev, ranV := true, uv := uv, f := f, xv := clampI (-iql) iql (if keep then l.xv else xc),
    n1 := n1, n2 := n2, lp := lp, vJ := l.vJ + 1,
    iqOld := l.iqNew, iqNew := new, iqJ := 0, iqHold := l.iqFirst, iqFirst := false } }
  let x := if keep && lim then x.loopFlag fIlim true else x
  if rg then x.psFlag fRegenLim true else x

/-! ### Filter design (R98) -/

/-- K = tan(π × F × T_v). -/
def filterK (f tv : Rat) : Rat :=
  let a := rnd (f * tv * piQ)
  (sinExact a : Rat) / (cosExact a : Rat)

/-- (b0, b1, b2, a1, a2) of a notch or a low-pass filter. -/
def filterCoeffs (notch : Bool) (k zp zz : Rat) : List Rat :=
  let a0 := 1 + 2 * zp * k + k ^ 2
  let n := if notch then [(1 + 2 * zz * k + k ^ 2) / a0, 2 * (k ^ 2 - 1) / a0, (1 - 2 * zz * k + k ^ 2) / a0]
    else [k ^ 2 / a0, 2 * k ^ 2 / a0, k ^ 2 / a0]
  n ++ [2 * (k ^ 2 - 1) / a0, (1 - 2 * zp * k + k ^ 2) / a0]

/-- The coefficient PNs from one filter's design, while RAW = 0. -/
def Axis.designOne (x : Axis) (base : Nat) (cs : List Rat) : Axis :=
  if x.flag Pn.filtMode 3 = false then
    (List.range 5).foldl (fun x i => x.setPn (base + i) (toG (cs.getD i 0))) x
  else x

/-- All coefficients (R98, R106). Those of a filter that is not enabled are computed as well: their default is "computed", and
no step uses them. -/
def Axis.design (x : Axis) (tc : Rat) : Axis :=
  let tv := tc * x.int Pn.nv
  let notch (f w d : Nat) : List Rat :=
    let zp := x.g w / (2 * x.g f)
    filterCoeffs true (filterK (x.g f) tv) zp (x.g d * zp)
  let x1 := x.designOne Pn.n1B0 (notch Pn.n1F (Pn.n1F + 1) (Pn.n1F + 2))
  let x2 := x1.designOne Pn.n2B0 (notch Pn.n2F (Pn.n2F + 1) (Pn.n2F + 2))
  x2.designOne Pn.lpfB0 (filterCoeffs false (filterK (x.g Pn.lpfF) tv) (x.g Pn.lpfZeta) 0)

end Sys2Proof.Machine
end

