-- ==== Sys2Proof/Machine/Supervision.lean ====
section
/-!
DEFINITION. The critical and background parts of an axis (R33, R82, R83, R102), following-error and plausibility supervision
(R112 to R120), overruns (R53), standstill and the time limits of QSTOP and TSTOP (R123, R128).
-/

namespace Sys2Proof.Machine

open Sys2Proof

/-- T_cyc in seconds. -/
def State.tc (s : State) : Rat := tcycS s.rung

/-- Raise a source only where its condition holds. -/
def State.raiseIf (s : State) (c : Bool) (a src : Nat) (value : Int) : State :=
  if c then s.raiseSource a src value true else s

/-! ### C1 -/

/-- An H36 current at an end of its format (source 5 of R129). -/
def atFs (i : Int) : Bool := decide (2 ^ 35 - 1 ≤ i) || decide (i ≤ -(2 ^ 35))

/-- C1 begins the cycle's evaluation. -/
def Axis.beginCycle (x : Axis) : Axis :=
  { x with loop := { x.loop with done := true, ranC := false, ranV := false, ranP := false, bg := false } }

/-- An invalid sample (R84): duties repeated and marked stale; the second in a row raises source 2. Feedback that is invalid
during a flying start, as `fb` tells, fails it after 8 cycles with source 15 in place of source 2 (R235; log entry 159). R235 does not
say that the 8 cycles follow one another: every one of the flying start counts (DESIGN CHOICE, log entry 193). -/
def State.sampleInvalid (s : State) (a : Nat) (x : Axis) (fb : Bool) : State :=
  let bad := x.loop.badSamples + 1
  let x := { (x.loopFlag fStale true).setCause 2 true with loop := { x.loop with badSamples := bad } }
  if x.fly.on && fb then
    let n : Nat := x.fly.badCycles + 1
    (s.setAxis a { x with fly := { x.fly with badCycles := n } }).raiseIf (decide (8 ≤ n)) a 15 0
  else (s.setAxis a x).raiseIf (decide (2 ≤ bad)) a 2 0

/-- Samples accepted (C1): currents, bus and position, reduced on a rotary axis and saturated at the ends of P72 on a linear one
(R8, R78, R94). The position before is that of the last valid sample: after an invalid one C2 forms v_raw over one T_cyc all the
same, which the spec leaves open (DESIGN CHOICE, log entry 156). -/
def Axis.takeSample (x : Axis) (iu iv udc p : Int) : Axis :=
  let l := x.loop
  let x := { x with loop := { l with iu := iu, iv := iv, iw := satBits 36 (-iu - iv), udc := udc, pPrev := l.p,
                                     p := satBits 72 (reducePos (x.raw Pn.modulo) p), badSamples := 0, staleRun := 0 } }
  (x.loopFlag fStale false).loopFlag fUdcLow (decide (udc < x.udcMinH))

/-- The fault sources that C1 judges, in ascending order, on every axis in use: R84, R94 and R129 name no other condition (log
entry 24). -/
def State.judgeSample (s : State) (a : Nat) (x : Axis) (pRaw : Int) : State :=
  let l := x.loop
  let low := decide (l.udc < x.udcMinH)
  let warn := decide (toHfs (x.g Pn.uFs) (x.g Pn.ovWarn) < l.udc)
  let trip := decide (toHfs (x.g Pn.uFs) (x.g Pn.ovTrip) < l.udc)
  let range := decide (x.raw Pn.modulo = 0) && (decide (pRaw ≤ -(2 ^ 70)) || decide (2 ^ 70 ≤ pRaw))
  let s := s.setAxis a ((((x.setCause 2 false).setCause 7 low).setCause 8 warn).setCause 9 trip)
  let s := s.raiseIf (atFs l.iu || atFs l.iv || atFs l.iw) a 5 0
  let s := s.raiseIf range a 6 0
  let s := s.raiseIf low a 7 l.udc
  let s := s.raiseIf warn a 8 l.udc
  s.raiseIf trip a 9 l.udc

/-- What the gather entry of a remote axis reports of its node (R305): new feedback fault causes raise source 14 with EV28
(R129) and clear HOMED (R186), TRIPPED is the cause of source 11, and CHOP_OPEN and the first CHOP_OVL raise source 10 (R228). -/
def State.judgeEntry (s : State) (a : Nat) : State :=
  let x := s.axis a
  match (if x.remote then x.entry else none) with
  | none => s
  | some e =>
    if entryFlag e 0 = false then s
    else
      let old := match x.entryPrev with
        | some f => if entryFlag f 0 then f.estat else 0
        | none => 0
      let has (v i : Nat) : Bool := decide (v / 2 ^ i % 2 = 1)
      let fresh (i : Nat) : Bool := has e.estat i && !has old i
      let trip := entryFlag e 8
      let x := ((x.psFlag fChopOpen (has e.estat 6)).psFlag fChopOvl (has e.estat 7)).setCause 10 (has e.estat 7)
      let s := s.setAxis a (x.setCause 11 trip)
      let s := if fresh 6 || fresh 7 then s.raiseSource a 10 0 true else s
      let s := s.raiseIf trip a 11 0
      if (List.range 6).any fresh then (s.modAxis a Axis.clearHomed).raiseSource a 14 0 false else s

/-! ### Running without feedback (R232) -/

/-- The speed set-point of an axis without feedback. -/
def Axis.speedSet (x : Axis) : Int := if x.ctrlMode = 3 then x.curve.v else x.vSet

/-- The speed that the set-point of an axis without feedback goes to: what waits to be planned, what is planned, or the curve. -/
def Axis.speedGoal (x : Axis) : Int :=
  if x.ctrlMode = 3 then (if x.curve.run then toP (x.curveOut (gVal x.curve.xf)) else 0)
  else
    match x.reqs.findSome? (fun r => match r.what with | .toSpeed v => some v | _ => none) with
    | some v => v
    | none =>
      match x.plan with
      | some pl => toP (endKin ⟨pl.x0, pl.v0, pl.a0⟩ pl.segs).v
      | none => x.vSet

/-- OBS_VALID, OBS_IDLE, and the flying start that ends idling (R231, R232): idling begins below OBS_VMIN at a set-point of zero that
goes to no other, never in a flying start, and only a new set-point other than zero ends it. -/
def Axis.observerFlags (x : Axis) (cycle : Nat) : Axis :=
  if x.int Pn.fbSrc ≠ -1 then (x.psFlag fObsValid false).psFlag fObsIdle false
  else
    let slow := decide (|x.loop.vEst| < x.raw Pn.obsVmin)
    let wasIdle := x.obsIdle
    let idle := x.enabled && !x.fly.on && decide (x.speedSet = 0) && (wasIdle || (slow && x.loop.vestValid && decide (x.speedGoal = 0))) &&
      x.ident.isNone
    let x := (x.psFlag fObsValid (x.loop.vestValid && !slow)).psFlag fObsIdle idle
    if wasIdle ∧ x.speedSet ≠ 0 ∧ x.enabled then { x with fly := { on := true, observer := true, since := cycle } } else x

/-! ### Background steps -/

/-- The loops of an axis run: every axis evaluates every step (R82), but under PINH, ASC or STO they stop (R122). -/
def Axis.loopsRun (x : Axis) : Bool := decide (x.reaction.rank < 4)

/-- The duties of C9 drive the stage: the axis is enabled, its loops run, and neither a flying start before its takeover nor
idling without feedback keeps the switches off (R232, R233; log entry 106). -/
def Axis.drives (x : Axis) : Bool := x.enabled && x.loopsRun && !x.fly.on && !x.obsIdle

/-- B1 to B4 where they are due (R57, R82, R85). -/
def Axis.outerLoops (x : Axis) (tc : Rat) (cycle : Nat) (input : Bool × Rat) : Axis :=
  if x.loopsRun = false ∨ x.ctrlMode = 2 then x
  else
    let nv := (x.int Pn.nv).toNat
    let dueV := decide (cycle % nv = 0)
    let dueP := decide (cycle % (nv * (x.int Pn.np).toNat) = 0)
    let x := if x.ctrlMode = 0 ∧ dueP = true ∧ x.tstopping = false then x.b1 tc cycle else x
    let x := if x.ctrlMode = 3 ∧ dueV = true then x.curveStep input.1 input.2 (tc * nv) else x
    if dueV ∧ x.loop.vestValid = true then x.b24 tc cycle else x

/-- A time in s as a count of T72 LSBs; times are compared as such, so that a PN of 0.0005 s is 500 µs (the example of R113;
log entry 54). -/
def timeT72 (t : Rat) : Int := rnd (t * (10 ^ 9 * 2 ^ 16))

/-- Following error (R112 to R114): the axis with its count, and the error where source 0 is to be raised. -/
def Axis.followCheck (x : Axis) (tc : Rat) : Axis × Option Int :=
  if 3 ≤ x.reaction.rank then ({ x with supv := { x.supv with kFe := 0 } }, none)
  else if x.int Pn.supvMode = 1 ∨ x.enabled = false ∨ x.ctrlMode = 2 ∨ x.stallSearch = true then (x, none)
  else
    let pos := decide (x.ctrlMode = 0)
    let ran := (if pos then x.loop.ranP else x.loop.ranV) && x.loop.vestValid
    if ran = false then (x, none)
    else
      let e := if pos then x.loop.ep else x.loop.ev
      let lim := if pos then x.raw Pn.feLim else x.raw Pn.fevLim
      let ts := tc * x.int Pn.nv * (if pos then x.int Pn.np else 1)
      let k := if lim < |e| then x.supv.kFe + 1 else 0
      if timeT72 (x.g Pn.feTime) < timeT72 (k * ts) then ({ x with supv := { x.supv with kFe := 0 } }, some e)
      else ({ x with supv := { x.supv with kFe := k } }, none)

/-- The model starts at p and v_est (R120). -/
def Axis.modelInit (x : Axis) : Axis :=
  { x with supv := { x.supv with ready := true, xm := x.loop.p, xl := x.loop.p, vm := x.loop.vEst, vl := x.loop.vEst } }

/-- One step of the two-mass model (R115): the axis, r_p and r_v. -/
def Axis.modelStep (x : Axis) (tc : Rat) : Axis × Int × Int :=
  let m := x.supv
  let l := x.loop
  let u := hVal m.u2 * x.g Pn.iFs
  let sg : Rat := if |m.vm| < x.raw Pn.stillV then 0 else signR (pVal m.vm)
  let two := decide (x.raw Pn.mL ≠ 0)
  let f := if two then x.g Pn.kS * pVal (m.xm - m.xl) + x.g Pn.dS * pVal (m.vm - m.vl) else 0
  let am := (u - f - x.g Pn.bF * pVal m.vm - x.g Pn.fC * sg) / x.g Pn.mM
  let vm := toP (pVal m.vm + tc * am)
  let xm := toP (pVal m.xm + tc * pVal vm)
  let vl := if two then toP (pVal m.vl + tc * (f / x.g Pn.mL)) else m.vl
  let xl := if two then toP (pVal m.xl + tc * pVal vl) else m.xl
  let rp := satBits 72 (reduceHalf (x.raw Pn.modulo) (l.p - xm))
  let rv := satBits 72 (l.vEst - vm)
  let xm := toP (pVal xm + x.g Pn.modelLp * pVal rp)
  let vm := toP (pVal vm + x.g Pn.modelLv * pVal rv)
  let shift := xm - reducePos (x.raw Pn.modulo) xm
  ({ x with supv := { m with xm := xm - shift, xl := satBits 72 (xl - shift), vm := vm, vl := vl } }, rp, rv)

/-- The plausibility model of a cycle, while the axis is enabled and its PWM active (R115 to R117, R120): the axis, and r_p where source
1 is to be raised. -/
def Axis.modelCheck (x : Axis) (tc : Rat) : Axis × Option Int :=
  if x.int Pn.supvMode = 0 ∨ x.enabled = false ∨ x.haltSafe = true ∨ 4 ≤ x.reaction.rank ∨ x.fly.on = true ∨
      x.loop.ranC = false ∨ x.loop.vestValid = false then (x, none)
  else if x.supv.ready = false then (x.modelInit, none)
  else
    let (x, rp, rv) := x.modelStep tc
    let idle := decide (x.int Pn.fbSrc = -1) && !x.obsValid
    let beyond := !x.stallSearch && (decide (x.raw Pn.modelLim < |rp|) ||
      (decide (0 < x.raw Pn.modelVlim) && decide (x.raw Pn.modelVlim < |rv|)))
    if idle then (x, none)
    else
      let k := if beyond then x.supv.kModel + 1 else 0
      if timeT72 (x.g Pn.modelTime) < timeT72 (k * tc) then ({ x with supv := { x.supv with kModel := 0 } }, some rp)
      else ({ x with supv := { x.supv with kModel := k } }, none)

/-- Pods that wait for the first update of this axis's injection are triggered at its φ0 (R433). -/
def State.injectionTrigger (s : State) (a : Nat) (x y : Axis) : State :=
  if x.injFirst y then s.timedTrigger 4 a s.phi0Now else s

/-- Raise a supervision source with its value where there is one. -/
def State.raiseOpt (s : State) (a src : Nat) (v : Option Int) : State :=
  match v with
  | some e => s.raiseSource a src e true
  | none => s

/-! ### LOOP_CRITICAL_PART -/

/-- In the L step of an identification 32 alternating voltage steps come on d, then 32 on q, each for 2 cycles (R239). Their amplitude
is not stated: it is free (log entry 107). -/
def Axis.identVoltage (x : Axis) (cycle : Nat) : Axis :=
  match x.ident with
  | some i =>
    if i.stepsLeft.headD 3 ≠ 2 then x
    else
      let n := (cycDiff i.since cycle).toNat / 2
      let v : Int := (if n % 2 = 0 then 1 else -1) * (Config.identStep i.own.subj).toNat
      { x with loop := { x.loop with vd := if n < 32 then v else 0, vq := if 32 ≤ n ∧ n < 64 then v else 0 } }
  | none => x

/-- What a step of an identification measures in a cycle (R239, R240): v_d and i_d of the R_S step, motion above STILL_V, and from
0.5 s after V_TEST was reached the terms of PSI_PM. -/
def Axis.identTrack (x : Axis) (tc : Rat) (cycle : Nat) : Axis :=
  match x.ident with
  | none => x
  | some i =>
    let l := x.loop
    let step := i.stepsLeft.headD 3
    let still := !(decide (step = 1 ∨ step = 2) && l.vestValid && decide (x.raw Pn.stillV < |l.vEst|))
    let i := { i with moved := i.moved || !still }
    let i := if step ≠ 1 then i
      else if ((cycDiff i.since cycle : Int) : Rat) * tc < 1 / 5 then { i with half := (l.vd, l.id) } else { i with full := (l.vd, l.id) }
    let i := if step ≠ 3 then i
      else
        match i.reached with
        | none => if l.vestValid ∧ |i.vTest| ≤ (if 0 ≤ i.vTest then l.vEst else -l.vEst) then { i with reached := some cycle } else i
        | some c =>
          let w := x.omega
          let r := match i.rMeas with
            | some v => gVal v
            | none => x.g Pn.rS
          if ((cycDiff c cycle : Int) : Rat) * tc < 1 / 2 ∨ w = 0 then i
          else { i with psiSum := i.psiSum + (hVal l.vq * x.g Pn.uFs - r * (hVal l.iq * x.g Pn.iFs)) / w, psiN := i.psiN + 1 }
    { x with ident := some i }

/-- C4 to C9 of an axis whose sample is valid (R82, R92, R102). -/
def State.currentLoop (s : State) (a : Nat) : State :=
  let x0 := s.axis a
  if x0.loopsRun = false then s
  else if x0.split then
    let x1 := x0.outerLoops s.tc s.cycle (s.curveInput x0)
    let x2 := x1.c4 s.tc s.cycle
    (s.setAxis a x2).injectionTrigger a x0 x2
  else
    let x1 := x0.c4 s.tc s.cycle
    let x3 := ((((x1.c56 s.tc).identVoltage s.cycle).identTrack s.tc s.cycle)).c78 s.tc
    let s := (s.setAxis a x3).injectionTrigger a x0 x3
    match x3.localPort with
    | some k =>
      if x3.drives = false then s
      else s.axisTriple k [x3.loop.du, x3.loop.dv, x3.loop.dw] [x3.loop.iu, x3.loop.iv, x3.loop.iw] false
    | none => s

/-- One sample enters the sums of the axis's thermal model (R507): A² and A from the phase currents, V from the bus. On a split axis
i_d² + i_q² is formed from the phases, whose vector has the same length. -/
def Axis.thermSample (x : Axis) : Axis :=
  let l := x.loop
  let fs := x.g Pn.iFs
  let iu := hVal l.iu * fs
  let iv := hVal l.iv * fs
  let iw := hVal l.iw * fs
  let dq := if x.split then iu ^ 2 + (iu + 2 * iv) ^ 2 / 3 else (hVal l.id * fs) ^ 2 + (hVal l.iq * fs) ^ 2
  { x with therm := { x.therm with
      sumIdq2 := x.therm.sumIdq2 + dq, sumIph2 := x.therm.sumIph2 + (iu ^ 2 + iv ^ 2 + iw ^ 2),
      sumAbsI := x.therm.sumAbsI + (absR iu + absR iv + absR iw),
      sumUdc := x.therm.sumUdc + hVal l.udc * x.g Pn.uFs, samples := x.therm.samples + 1 } }

/-- What the first valid sample after an enable sets: p* is p (R104). Under PINH, ASC or STO p* follows p in every cycle (R122). -/
def Axis.anchorSet (x : Axis) : Axis :=
  if x.loop.atEnable ∨ x.loopsRun = false then
    { x with pSet := x.loop.p, pNext := x.loop.p, loop := { x.loop with atEnable := false } }
  else x

/-- Under split closure the node forms the duties (R102), and no rule carries the voltage that acted to the conductor's observer: it
is free (log entry 179). -/
def State.splitVoltage (s : State) (a : Nat) : State :=
  let x := s.axis a
  if x.split = false ∨ x.int Pn.fbSrc ≠ -1 then s
  else
    let (va, s) := s.freeW
    let (vb, s) := s.freeW
    s.setAxis a { x with loop := { x.loop with obs := { x.loop.obs with va := sext 36 va.toNat, vb := sext 36 vb.toNat } } }

/-- The critical part of axis `a` at a conductor. -/
def State.criticalPart (s : State) (a : Nat) : State :=
  let s := (s.judgeEntry a).splitVoltage a
  let x0 := (s.axis a).beginCycle
  let e := x0.workEntry
  let (okI, iu, iv, udc) := s.powerSample x0 e
  let free := decide (x0.int Pn.fbSrc = -1)
  let x := if free ∧ okI = true then
      x0.observe s.tc iu (toH ((hVal iu + 2 * hVal iv) * kInvSqrt3)) else x0
  let (okP, p) := if free then (okI, x.obsPos) else s.posSample x e
  if okI ∧ okP ∧ x.sampleBad = false then
    let x := ((x.takeSample iu iv udc p).anchorSet).c2 s.tc
    let x := if x.split then x else x.c3
    let x := { (x.loopFlag fVestValid x.loop.vestValid) with loop := { x.loop with ranC := true } }
    let x := (x.observerFlags s.cycle).thermSample
    (s.judgeSample a x p).currentLoop a
  else s.sampleInvalid a x (okI && !okP && !free)

/-- The loop steps that a Node-role VLN runs on its own samples in every cycle for split axis `i` (R102): C1 to C9, C4 with the set-points it
received. A triple that comes in the last ticks before the reload is held back (R254). -/
def State.nodeCritical (s : State) (i : Nat) : State :=
  let n := s.node.axes.getD i {}
  let x := s.axis i
  if n.split = false ∨ x.loop.done = true ∨ s.engineRuns 0 = false then s
  else
    let x := x.beginCycle
    let ok := s.sdmValid (2 * i) && s.sdmValid (2 * i + 1) && s.sdmValid (8 + i) && (s.fbp i).valid
    if ok = false then s.setAxis i { (x.loopFlag fStale true) with loop := { x.loop with badSamples := x.loop.badSamples + 1 } }
    else
      let (ia, ua) := Config.nodeScale i
      let iu := toHfs (x.g Pn.iFs) (s.sdmShare (2 * i) * ia)
      let iv := toHfs (x.g Pn.iFs) (s.sdmShare (2 * i + 1) * ia)
      let udc := max 0 (toHfs (x.g Pn.uFs) (s.sdmShare (8 + i) * ua))
      let x := ((x.takeSample iu iv udc (s.fbp i).pos).c2 s.tc).c3
      let x := x.loopFlag fVestValid x.loop.vestValid
      let lim := x.iqLim
      let iq := clampI (-lim) lim n.iqSet
      let x := if iq ≠ n.iqSet then x.loopFlag fIlim true else x
      let x := { x with loop := { x.loop with ranC := true, idSet := n.idSet, iqSet := iq } }
      let x := (x.c56 s.tc).c78 s.tc
      let s := s.setAxis i x
      if n.enabled = false ∨ n.held = true then s
      else s.axisTriple i [x.loop.du, x.loop.dv, x.loop.dw] [x.loop.iu, x.loop.iv, x.loop.iw] s.lateNow

/-- LOOP_CRITICAL_PART: once per cycle, in Run, on the engine that owns the axis. -/
def loopCriticalPartCmd (a : Nat) (s : State) : State :=
  if s.isRun = false then s
  else if s.conductor = false then (if a < 4 then s.nodeCritical a else s)
  else if s.usable a = false ∨ (s.axis a).inUse = false ∨ (s.axis a).loop.done = true ∨
      s.engineRuns (s.loopEngine a) = false then s
  else s.criticalPart a

def execLoopCriticalPart (a : Nat) (s : State) : Host.Outcome State Fault Refusal := .next (loopCriticalPartCmd a s)

/-- CRITICAL_PART_OVERRUN: not done by the scatter instant (R53). -/
def criticalPartOverrunCmd (a : Nat) (s : State) : State :=
  let x := s.axis a
  if s.isRun = false ∨ s.conductor = false ∨ s.usable a = false ∨ x.inUse = false ∨ x.loop.done = true then s
  else
    let x := { (x.loopFlag fStale true) with loop := { x.loop with done := true, staleRun := x.loop.staleRun + 1 } }
    let s := (s.setAxis a x).evEngine (s.loopEngine a) 2 (some a)
    s.raiseIf (decide (2 ≤ x.loop.staleRun)) a 3 0

def execCriticalPartOverrun (a : Nat) (s : State) : Host.Outcome State Fault Refusal := .next (criticalPartOverrunCmd a s)

/-! ### LOOP_BACKGROUND_PART -/

/-- The background part of a Node-role VLN-128 records the loop nodes of its local axis `i` in the node trace (R4, R37, R440), once a
cycle, those of a split axis after its critical part. -/
def State.nodeBackground (s : State) (i : Nat) : State :=
  let x := s.axis i
  if 4 ≤ i ∨ s.grade ≠ 2 ∨ ((s.node.axes.getD i {}).split = true ∧ x.loop.done = false) ∨ x.loop.bg = true ∨ s.engineRuns 0 = false then s
  else s.setAxis i (({ x with loop := { x.loop with bg := true } }).traceRecord s.cycle s.phi0Now)

/-- LOOP_BACKGROUND_PART: B1 to B4, supervision and trace (R82, R83, R112, R115, R440). -/
def loopBackgroundPartCmd (a : Nat) (s : State) : State :=
  let x0 := s.axis a
  if s.isRun = false then s
  else if s.conductor = false then s.nodeBackground a
  else if s.usable a = false ∨ x0.inUse = false ∨ x0.loop.done = false ∨ x0.loop.bg = true ∨
      s.engineRuns (s.loopEngine a) = false then s
  else
    let x0 := { x0 with loop := { x0.loop with bg := true } }
    let x1 := if x0.loop.ranC ∧ x0.split = false then x0.outerLoops s.tc s.cycle (s.curveInput x0) else x0
    let (x2, fe) := x1.followCheck s.tc
    let (x3, mo) := x2.modelCheck s.tc
    let s := ((s.setAxis a x3).injectionTrigger a x0 x1).raiseOpt a 0 fe
    let s := s.raiseOpt a 1 mo
    if s.grade = 2 then s.setAxis a ((s.axis a).traceRecord s.cycle s.phi0Now) else s

def execLoopBackgroundPart (a : Nat) (s : State) : Host.Outcome State Fault Refusal := .next (loopBackgroundPartCmd a s)

/-! ### Standstill and its time limits (R123, R128) -/

/-- The set-points hold the position the axis stands at. -/
def Axis.holdHere (x : Axis) (p : Int) : Axis :=
  { x with pSet := p, vSet := 0, aSet := 0, pNext := p, vNext := 0, aNext := 0, plan := none }

/-- STANDSTILL_REACHED: |v_est| ≤ STILL_V for STILL_TIME under QSTOP, TSTOP or SS1. -/
def standstillReachedCmd (a : Nat) (s : State) : State :=
  let x := s.axis a
  if s.isRun = false ∨ s.usable a = false ∨ x.enabled = false ∨ x.still = true ∨ x.loop.vestValid = false ∨
      x.raw Pn.stillV < |x.loop.vEst| ∨ ¬(x.reaction = .qstop ∨ x.reaction = .tstop ∨ x.ss1 = true) then s
  else
    let x' := { x with still := true }
    let x' := if x.reaction = .tstop then x'.holdHere x.loop.p else x'
    let s := (s.setAxis a x').takeRemain a
    if x.cur.isSome then s.suspendMove a x.remainNow
    else s.modAxis a (fun y => { y with prof := if x.holdsWork then .suspended else x.restState })

def execStandstillReached (a : Nat) (s : State) : Host.Outcome State Fault Refusal := .next (standstillReachedCmd a s)

/-- A reaction that a time limit puts in place is reported like a new one (R123): EV28 with its code as VALUE and, which the spec
leaves open, FAULT_FIRST as the source number (DESIGN CHOICE, log entry 161). -/
def State.replaceReaction (s : State) (a : Nat) (r : Reaction) : State :=
  (s.ev 28 a (s.axis a).faultFirst r.code).applyReaction a r

/-- QSTOP_TIMEOUT: not at standstill within QS_TMAX. -/
def qstopTimeoutCmd (a : Nat) (s : State) : State :=
  let x := s.axis a
  if s.usable a ∧ x.enabled ∧ x.reaction = .qstop ∧ x.still = false then s.replaceReaction a .tstop else s

def execQstopTimeout (a : Nat) (s : State) : Host.Outcome State Fault Refusal := .next (qstopTimeoutCmd a s)

/-- TSTOP_TIMEOUT: not at standstill within TS_TMAX. -/
def tstopTimeoutCmd (a : Nat) (s : State) : State :=
  let x := s.axis a
  if s.usable a ∧ x.enabled ∧ x.reaction = .tstop ∧ x.still = false then s.replaceReaction a .pinh else s

def execTstopTimeout (a : Nat) (s : State) : Host.Outcome State Fault Refusal := .next (tstopTimeoutCmd a s)

end Sys2Proof.Machine
end

