-- ==== Sys2Proof/Machine/Feedback.lean ====
section
/-!
DEFINITION. The local feedback ports (R191 to R215) as commands reach them: starts, the samples of φ0, sine/cosine and SSI, and the
rows of the index, the latches, the compares and the emulation.
-/

namespace Sys2Proof.Machine

open Sys2Proof

/-! ### Modes, starts and faults (R194, R205) -/

/-- VEST_VALID and supervision start again (R85, R120). -/
def Axis.restartEstimate (x : Axis) : Axis :=
  { (x.loopFlag fVestValid false) with
    loop := { x.loop with vestCount := 0, vestValid := false },
    supv := { x.supv with kFe := 0, kModel := 0, ready := false } }

/-- The feedback source of axis `x` has restarted (R194). -/
def Axis.feedbackRestart (x : Axis) : Axis := { (x.clearHomed).restartEstimate with pOff := 0 }

/-- Start or restart of port `k` in cycle `c` (R194). Counts are kept. A trigger of that cycle is discarded (R215); one of an earlier cycle
that still waits for its samples is dropped too, without a result and without OVR, its latch staying armed, of which R215 says nothing
(DESIGN CHOICE, log entry 202). -/
def State.portStartAt (s : State) (k c : Nat) : State :=
  let s := (s.latchRestore k 0 c).latchRestore k 1 c
  let p := s.fbp k
  let s := s.setReg (R.fbFault k) 0
  let s := ((s.setBit (R.fbStat k) 0 (decide (s.fbMode k ≠ 0))).setBit (R.fbStat k) 1 false).setBit (R.fbStat k) 2 false
  let s := s.setFbp k { p with valid := false, ampRun := 0, ssiRun := 0, ssiLast := none, ssiDone := false,
                               loopMeasured := false, startCycle := some c, hist := [], latWait := [none, none],
                               latUndo := [none, none],
                               emuBase := none, emuSpread := 0, emuFed := 0 }
  match s.fbAxis k with
  | some a => s.setAxis a (s.axis a).feedbackRestart
  | none => s

/-- Start or restart of port `k` now. -/
def State.portStart (s : State) (k : Nat) : State := s.portStartAt k s.cycle

/-! ### Illegal transitions (R197, R204) -/

/-- Lines after an illegal transition: A and B have both changed, or U, V and W are all low, or all high where they were low. -/
def State.brokenLevels (s : State) (k : Nat) : FbLevels :=
  let l := (s.fbp k).lev
  if s.fbMode k = 1 then { l with a := !l.a, b := !l.b }
  else
    let v := !(l.a || l.b || l.z)
    { a := v, b := v, z := v }

/-- ILLEGAL_TRANSITION: after the history, a sample of a counting port breaks its sequence (R197). -/
def illegalTransitionCmd (x : PortRun) (s : State) : State :=
  let s := s.pinsRun x.run
  let k := x.port
  if 4 ≤ k ∨ s.fbRuns k = false ∨ s.fbLive k = false then s else (s.linesAt k (s.brokenLevels k)).illegalAt k

def execIllegalTransition (x : PortRun) (s : State) : Host.Outcome State Fault Refusal := .next (illegalTransitionCmd x s)

/-! ### The index (R198) -/

/-- INDEX_PULSE: after the history, a pulse of Z comes between two counts; where ZGATE qualifies it, it is an index. -/
def indexPulseCmd (k : Nat) (run : PinRun) (s : State) : State :=
  let s := s.pinsRun run
  if 4 ≤ k ∨ s.fbRuns k = false ∨ ¬(s.fbMode k = 1 ∨ s.fbMode k = 2) ∨ s.zGate k (s.fbp k).lev = false then s else s.indexAt k

def execIndexPulse (k : Nat) (run : PinRun) (s : State) : Host.Outcome State Fault Refusal := .next (indexPulseCmd k run s)

/-! ### Sine and cosine (R199, R200) -/

/-- Steps of 2^-16 turn that an angle `b` in the first quadrant rounds to; `(sn, cs)` is its direction, `cs > 0`. -/
def quarterSteps (fuel : Nat) (sn cs : Int) (lo hi : Nat) : Nat :=
  match fuel with
  | 0 => lo
  | n + 1 =>
    if hi ≤ lo then lo
    else
      let mid := (lo + hi + 1) / 2
      let beta := piQ * (2 * mid - 1 : Int) / 65536
      if 0 ≤ sn * cosExact beta - cs * sinExact beta then quarterSteps n sn cs mid hi
      else quarterSteps n sn cs lo (mid - 1)

/-- Quadrant and angle in 2^-16 turn, rounded, of tracks that are not both zero. -/
def trackAngle (sn cs : Int) : Nat × Nat :=
  if 0 < cs ∧ 0 ≤ sn then (0, quarterSteps 20 sn cs 0 16384)
  else if cs ≤ 0 ∧ 0 < sn then (1, 16384 + quarterSteps 20 (-cs) sn 0 16384)
  else if cs < 0 ∧ sn ≤ 0 then (2, 32768 + quarterSteps 20 (-sn) (-cs) 0 16384)
  else (3, 49152 + quarterSteps 20 cs (-sn) 0 16384)

/-- Corrected tracks (s, c) of port `k`, scaled by 2^14. -/
def State.tracks (s : State) (k : Nat) (sin cos : Int) : Int × Int :=
  let a := (sin - sbits (s.reg (R.fbScOffs k)) 0 16) * 2 ^ 14
  let b := (cos - sbits (s.reg (R.fbScOffs k)) 16 16) * (s.fld (R.fbScGain k) 0 16 : Int)
  if s.bit (R.fbSc k) 20 then (b, a) else (a, b)

/-- AMP_LOW, AMP_HIGH, AMP and the run of samples outside the window (R200); the answer tells whether it is inside. -/
def State.judgeAmp (s : State) (k : Nat) (sn cs : Int) : Bool × State :=
  let m : Rat := ((sn * sn + cs * cs : Int) : Rat) / ((13107 ^ 2 * 2 ^ 28 : Nat) : Rat)
  let low := decide (m < (s.fld (R.fbSc k) 0 8 : Rat) / 64)
  let high := decide ((s.fld (R.fbSc k) 8 8 : Rat) / 64 < m)
  let s := s.setFld (R.fbAmp k) 0 16 (min 65535 (rnd (m * 4096)).toNat)
  let s := if low then s.setBit (R.fbStat k) 10 true else s
  let s := if high then s.setBit (R.fbStat k) 11 true else s
  let run := if low || high then (s.fbp k).ampRun + 1 else 0
  let s := s.setFbp k { s.fbp k with ampRun := run }
  (!(low || high), if 0 < run ∧ s.fld (R.fbSc k) 16 4 ≤ run then s.feedbackFault k 2 else s)

/-- The pair's results lie within settling or the reference is bad (R447, R454). -/
def State.pairInvalid (s : State) (k : Nat) : Bool :=
  let cnt := SMap.get 0 (s.adcv k).settle 1
  s.bit R.adcStat 8 || decide (cnt = 1 ∨ cnt = 2)

/-- The sine/cosine sample of φ0 (R199): position and validity. With both tracks at zero the angle is free. -/
def State.sincosSample (s : State) (k : Nat) (sin cos : Int) : State :=
  let (sn, cs) := s.tracks k sin cos
  let (inside, s) := s.judgeAmp k sn cs
  let (w, s) := if sn = 0 ∧ cs = 0 then s.freeW else (0, s)
  let (q, u) := if sn = 0 ∧ cs = 0 then (w.toNat % 65536 / 16384, w.toNat % 65536) else trackAngle sn cs
  let p := s.fbp k
  let d := ((q : Int) - p.count) % 4
  if d = 2 then
    ((s.setFbp k { p with valid := false }).setBit (R.fbStat k) 12 true).feedbackFault k 3
  else
    let cnt := p.count + (if d = 3 then -1 else d)
    let pos := satBits 72 ((cnt - q) / 4 * 2 ^ 32 + (u : Int) * 2 ^ 16)
    if inside ∧ s.pairInvalid k = false then s.setFbp k { p with pos := pos, valid := true }
    else s.setFbp k { p with valid := false }

/-! ### Encoder emulation (R212 to R214) -/

/-- EMULATION_BACKLOG_OVERFLOW: one more output count comes while 255 wait; it is lost (R214). -/
def emulationBacklogOverflowCmd (k : Nat) (s : State) : State :=
  if 4 ≤ k ∨ (s.fbp k).emuWait.natAbs < 255 then s else s.emuPush k (s.fbp k).emuWait.sign

def execEmulationBacklogOverflow (k : Nat) (s : State) : Host.Outcome State Fault Refusal :=
  .next (emulationBacklogOverflowCmd k s)

/-! ### φ0 (R195, R197) -/

/-- LEVEL falls by 1 every 1,024 cycles while it is above zero (R197). -/
def State.leakLevel (s : State) (k : Nat) : State :=
  let p := s.fbp k
  let level := s.fld (R.fbIllCnt k) 16 8
  if level = 0 then s.setFbp k { p with illCycles := 0 }
  else if p.illCycles + 1 < 1024 then s.setFbp k { p with illCycles := p.illCycles + 1 }
  else (s.setFbp k { p with illCycles := 0 }).setFld (R.fbIllCnt k) 16 8 (level - 1)

/-- Samples kept for latches: as many cycles as the longest debounce of 65,535 µs has (R463). -/
def fbHistory : Nat := 4200

/-- Port `k` takes its sample at φ0. An SSI port starts its frame and has no position until it is read. -/
def State.portSample (s : State) (k : Nat) (sin cos : Int) : State :=
  let p := s.fbp k
  let s := s.setFbp k { p with illSeen := false, cmpSeen := [false, false] }
  if s.fbRuns k = false then s
  else
    let s := s.leakLevel k
    let p := s.fbp k
    let p := { p with posPrev := p.pos, validPrev := p.valid, ssiDone := false }
    let s := match s.fbMode k with
      | 1 => s.setFbp k { p with pos := s.livePos k, valid := true }
      | 2 => (s.setFbp k p).sincosSample k sin cos
      | 4 => s.setFbp k { p with pos := s.livePos k, valid := true }
      | _ => s.setFbp k { p with valid := false }
    let p := s.fbp k
    let s := s.setFbp k { p with hist := ({ t := s.phi0Now, pos := p.pos, valid := p.valid } :: p.hist).take fbHistory }
    ((s.setReg72 (R.fbPos k) p.pos).setBit (R.fbStat k) 1 p.valid).latchWrites k

/-- Every feedback port and emulation at φ0. -/
def State.feedbackPhi0 (s : State) (sin cos : List Int) : State :=
  let s := (List.range 4).foldl (fun s k => s.portSample k (sin.getD k 0) (cos.getD k 0)) s
  (List.range 4).foldl (fun s e => s.emuPhi0 e) s

/-! ### SSI (R201, R203) -/

/-- A Gray code of at most 64 bits decoded. -/
def grayDecode (x : Nat) : Nat :=
  let x := x ^^^ (x >>> 1)
  let x := x ^^^ (x >>> 2)
  let x := x ^^^ (x >>> 4)
  let x := x ^^^ (x >>> 8)
  let x := x ^^^ (x >>> 16)
  x ^^^ (x >>> 32)

/-- SSI_LOOP_MEASUREMENT: the delays of 8 frames in 2 ns units, `none` without an acknowledge within 2,000 ns. -/
def ssiLoopMeasurementCmd (k : Nat) (delays : List (Option Nat)) (s : State) : State :=
  if 4 ≤ k ∨ s.fbRuns k = false ∨ s.fbMode k ≠ 3 ∨ (s.fbp k).loopMeasured = true then s
  else if delays.length ≠ 8 ∨ delays.any (fun d => match d with | some t => decide (1000 < t) | none => true) then
    (s.setBit (R.fbStat k) 0 false).feedbackFault k 5
  else
    let loop := (rnd ((median8 (delays.map (fun d => (d.getD 0 : Int))) : Rat) / 2)).toNat
    let len := 2 * loop - 4 * s.fld (R.fbSsi2 k) 24 8
    ((s.setFld (R.fbSsiLoop k) 0 12 loop).setFld (R.fbSsiLoop k) 16 16 len).setFbp k { s.fbp k with loopMeasured := true }

def execSsiLoopMeasurement (k : Nat) (delays : List (Option Nat)) (s : State) : Host.Outcome State Fault Refusal :=
  .next (ssiLoopMeasurementCmd k delays s)

/-- The position field of a frame. -/
def State.ssiField (s : State) (k bits : Nat) : Nat :=
  let raw := bits / 2 ^ s.fld (R.fbSsi k) 14 6 % 2 ^ s.fld (R.fbSsi k) 8 6
  if s.bit (R.fbSsi k) 7 then grayDecode raw else raw

/-- Error bit active, or stop bit not 0. -/
def State.ssiBad (s : State) (k bits : Nat) (stopBit : Bool) : Bool :=
  stopBit || (s.bit (R.fbSsi k) 23 &&
    decide (bits.testBit (s.fld (R.fbSsi k) 14 6 - 1) = s.bit (R.fbSsi k) 24))

/-- The frame of this cycle gives the newest sample its position. -/
def FbPort.readSample (p : FbPort) (pos : Int) (valid : Bool) : List FbSample :=
  match p.hist with
  | x :: rest => { x with pos := pos, valid := valid } :: rest
  | [] => []

/-- SSI_FRAME: the frame that started at φ0 has been read. -/
def ssiFrameCmd (k bits : Nat) (stopBit : Bool) (s : State) : State :=
  let p := s.fbp k
  if 4 ≤ k ∨ s.fbRuns k = false ∨ s.fbMode k ≠ 3 ∨ p.loopMeasured = false ∨ p.ssiDone = true then s
  else
    let f := s.ssiField k bits
    let change := match p.ssiLast with
      | some f0 => sext (s.fld (R.fbSsi k) 8 6) (tc (s.fld (R.fbSsi k) 8 6) ((f : Int) - f0))
      | none => 0
    let bad := s.ssiBad k bits stopBit
    let jump := s.fld (R.fbSsi2 k) 0 24
    let leap := decide (0 < jump ∧ (jump : Int) < |change|)
    let s := if bad then s.setBit (R.fbStat k) 13 true else s
    let s := if leap then s.setBit (R.fbStat k) 14 true else s
    if bad || leap then
      let s := (s.setFbp k { p with ssiDone := true, valid := false, ssiRun := p.ssiRun + 1 }).setBit (R.fbStat k) 1 false
      (if s.fld (R.fbSsi k) 25 4 ≤ p.ssiRun + 1 then s.feedbackFault k 4 else s).latchWrites k
    else
      let pos := match p.ssiLast with
        | some _ => satBits 72 (p.pos + change * 2 ^ 32)
        | none => (f : Int) * 2 ^ 32
      let p := { p with ssiDone := true, valid := true, ssiRun := 0, ssiLast := some f, pos := pos, hist := p.readSample pos true
                        ssiAt := if p.ssiLast.isNone then pos else p.ssiAt }
      (((s.setFbp k p).setReg72 (R.fbPos k) pos).setBit (R.fbStat k) 1 true).latchWrites k

def execSsiFrame (k bits : Nat) (stopBit : Bool) (s : State) : Host.Outcome State Fault Refusal :=
  .next (ssiFrameCmd k bits stopBit s)

/-! ### Latches (R206, R207, R215) -/

/-- The axis that uses port `k` is homing. -/
def State.portHoming (s : State) (k : Nat) : Bool :=
  match s.fbAxis k with
  | some a => (s.axis a).homing.isSome
  | none => false

/-- A write of LATj_CTL, which drops a trigger that still waits; latch 0 is not available while homing runs. -/
def State.writeLatCtl (s : State) (k j : Nat) (v : Reg32) : State :=
  if j = 0 ∧ s.portHoming k = true then s else (s.setReg (R.fbLatCtl k j) (v &&& 0xF3F)).setFbp k ((s.fbp k).unwait j)

/-- LATCH_ARM. -/
def latchArmCmd (k j : Nat) (v : Reg32) (s : State) : State :=
  if 4 ≤ k ∨ 2 ≤ j ∨ s.writable = false then s else s.writeLatCtl k j v

def execLatchArm (k j : Nat) (v : Reg32) (s : State) : Host.Outcome State Fault Refusal := .next (latchArmCmd k j v s)

/-- LATCH_TRIGGER: after the history, an edge `rise` of latch `j`'s source reaches it (R206, R207): an index at the present count, a
field input that has survived its debounce with its stamp `t`, or a buoy of this cycle at its instant. -/
def latchTriggerCmd (k j : Nat) (run : PinRun) (t : Nat) (rise : Bool) (s : State) : State :=
  let s := s.pinsRun run
  let src := s.fld (R.fbLatCtl k j) 0 2
  let sel := s.fld (R.fbLatCtl k j) 8 4
  if 4 ≤ k ∨ 2 ≤ j then s
  else if src = 1 then s.latchMeet k j 1 0 rise s.pinTime
  else if src = 2 then
    (if s.bit R.dioStat 0 = true ∧ s.bit (R.dioCh sel) 7 = true then s.latchMeet k j 2 sel rise t else s)
  else if src = 3 ∧ sel < 8 ∧ s.byDue sel = true then s.latchMeet k j 3 sel rise t
  else s

def execLatchTrigger (k j : Nat) (run : PinRun) (t : Nat) (rise : Bool) (s : State) :
    Host.Outcome State Fault Refusal := .next (latchTriggerCmd k j run t rise s)

/-! ### Compares (R208 to R211) -/

/-- COMPARE_HIT: after the history, the position moves on in the direction of channel `j`, by one count, or by one tick of an SSI
port's line; where it crosses VAL so, the channel is hit (R208, R209). -/
def compareHitCmd (k j : Nat) (run : PinRun) (s : State) : State :=
  let s := s.pinsRun run
  if 4 ≤ k ∨ 2 ≤ j ∨ s.fbRuns k = false then s
  else if s.fbMode k = 3 then s.fbTick
  else
    let d := s.cmpDir k j
    (s.linesAt k (s.nextLevels k d)).countStep k d

def execCompareHit (k j : Nat) (run : PinRun) (s : State) : Host.Outcome State Fault Refusal := .next (compareHitCmd k j run s)

/-- A write of _HI commits the held halves and the written top (R15): `w` is the width of the value. -/
def State.commitWide (s : State) (lo w : Nat) (hi : Reg32) : State :=
  let h := SMap.get ((0 : Reg32), (0 : Reg32)) s.holds lo
  if w = 72 then s.setReg72 lo (sext 72 (h.1.toNat + 2 ^ 32 * h.2.toNat + 2 ^ 64 * (hi.toNat % 256)))
  else (s.setReg lo h.1).setReg (lo + 4) (BitVec.ofInt 32 (sext (w - 32) hi.toNat))

/-- COMPARE_VAL_COMMIT: VAL is committed at the tick that the history reaches; a hit of the old VAL in that tick has come before it
(R210, R215). -/
def compareValCommitCmd (k j : Nat) (hi : Reg32) (run : PinRun) (s : State) : State :=
  let s := s.pinsRun run
  if 4 ≤ k ∨ 2 ≤ j ∨ s.writable = false then s
  else
    let s := (s.commitWide (R.cmpVal k j) 72 hi).freeStep k j
    let pos := s.cmpPos k
    if s.fbRuns k = false ∨ s.cmpAhead k j pos < 0 then s
    else (s.cmpSkipBy k j (s.cmpBehind k j pos)).setBit (R.cmpStat k j) 0 true

def execCompareValCommit (k j : Nat) (hi : Reg32) (run : PinRun) (s : State) : Host.Outcome State Fault Refusal :=
  .next (compareValCommitCmd k j hi run s)

/-- COMPARE_PULSE_END: WIDTH × 2 ns after the hit the pulse of channel `j` ends. -/
def comparePulseEndCmd (k j : Nat) (s : State) : State :=
  if 4 ≤ k then s else s.setFbp k { s.fbp k with cmpPulse := (s.fbp k).cmpPulse.set j false }

def execComparePulseEnd (k j : Nat) (s : State) : Host.Outcome State Fault Refusal := .next (comparePulseEndCmd k j s)

end Sys2Proof.Machine
end

