-- ==== Sys2Proof/Machine/Power.lean ====
section
/-!
DEFINITION. The local power stage (R217 to R242) beside its loops: modulator samples, fast comparators, the brake chopper,
enabling an axis (R104), the flying start (R233 to R235) and load identification (R239, R240).
-/

namespace Sys2Proof.Machine

open Sys2Proof

/-! ### Modulator samples (R218 to R222) -/

/-- Outputs of channel `c` in a cycle. -/
def State.sdmOutputs (s : State) (c : Nat) : Nat := tcycNs s.rung / s.decimationNs c

/-- Channel `c` starts or changes its filter (R222): its first 3 or 4 outputs after this φ0 settle. -/
def State.sdmSettle (s : State) (c : Nat) : State :=
  s.setSdmc c { s.sdmc c with settle := (if s.bit (R.sdmCfg c) 1 then 4 else 3) + s.sdmOutputs c }

/-- What channel `c` reads of a filter output `x` of the bit stream at its ball: INV inverts the bits (R246). -/
def State.sdmPolarity (s : State) (c : Nat) (x : Int) : Int := satBits 36 (if s.bit (R.sdmCfg c) 4 then -x else x)

/-- The sample of channel `c` at φ0. A stuck channel is valid again from the first window after its level changed; the first window
whose output shows a change counts as that window (DESIGN CHOICE, log entry 194). -/
def State.sdmSample (s : State) (c : Nat) (x : Int) : State :=
  if s.bit (R.sdmCfg c) 0 = false then (s.setBit (R.sdmStat c) 0 false).setBit (R.sdmStat c) 1 false
  else
    let p := s.sdmc c
    let n := s.sdmOutputs c
    let marked := decide (0 < p.settle) && decide (n ≤ p.settle)
    let x := s.sdmPolarity c x
    let stuck := p.stuckNow && atFs x
    let s := s.setSdmc c { p with x := x, settle := p.settle - n, stuckNow := stuck }
    let s := (s.setBit (R.sdmStat c) 0 (!marked && !stuck)).setBit (R.sdmStat c) 1 marked
    let v := satBits 36 (x - s.sdmOffs c)
    (s.setReg (R.sdmVal c) (BitVec.ofInt 32 v)).setReg (R.sdmVal c + 4) (BitVec.ofInt 32 (v / 2 ^ 32))

/-- Every modulator channel at φ0. -/
def State.sdmPhi0 (s : State) (xs : List Int) : State :=
  (List.range 16).foldl (fun s c => s.sdmSample c (xs.getD c 0)) s

/-- SDM_STUCK: 64 equal bits in a row (R218). -/
def sdmStuckCmd (c : Nat) (s : State) : State :=
  if 16 ≤ c ∨ s.bit (R.sdmCfg c) 0 = false then s
  else ((s.setSdmc c { s.sdmc c with stuckNow := true }).setBit (R.sdmStat c) 8 true).setBit (R.sdmStat c) 0 false

def execSdmStuck (c : Nat) (s : State) : Host.Outcome State Fault Refusal := .next (sdmStuckCmd c s)

/-! ### Fast comparators (R224) -/

/-- Port that channels 0 to 11 belong to. -/
def sdmPort (c : Nat) : Nat := if c < 8 then c / 2 else c - 8

/-- The chopper of port `k` is enabled by the axis on the port (R226). -/
def State.brakeOn (s : State) (k : Nat) : Bool :=
  match s.portAxis k with
  | some a => decide ((s.axis a).int Pn.chopEn = 1)
  | none => false

/-- The comparator of channel `c` is enabled, and acts as a trip. -/
def State.cmpOn (s : State) (c : Nat) : Bool :=
  s.bit (R.sdmCmpCfg c) 0 || (decide (8 ≤ c ∧ c < 12) && s.brakeOn (c - 8))
def State.cmpTrips (s : State) (c : Nat) : Bool :=
  decide (c < 12) && s.bit (R.sdmCmpCfg c) 1 && !(decide (8 ≤ c) && s.brakeOn (c - 8))

/-- A trip comparator of port `k` is active. -/
def State.portCmpTrip (s : State) (k : Nat) : Bool :=
  [2 * k, 2 * k + 1, 8 + k].any (fun c => s.cmpTrips c && ((s.sdmc c).above || (s.sdmc c).below))

/-- Voltage in V that a share of modulator full scale stands for on the axis. -/
def Axis.busVolts (x : Axis) (v : Int) : Rat := hVal v * x.g Pn.usensFs

/-- The fast output of channel `c`, less OFFS, lies above and below its thresholds: CMP_HI and CMP_LO, or CHOP_ON and CHOP_OFF on
a DC-bus channel whose chopper is enabled (R224, R226). -/
def State.cmpBeyond (s : State) (c : Nat) : Bool × Bool :=
  let v := (s.sdmc c).fast - s.sdmOffs c
  match (if decide (8 ≤ c ∧ c < 12) && s.brakeOn (c - 8) then s.portAxis (c - 8) else none) with
  | some a =>
    let x := s.axis a
    (decide (x.g Pn.chopOn < x.busVolts v), decide (x.busVolts v < x.g Pn.chopOff))
  | none => (decide (sbits (s.reg (R.sdmCmp c)) 0 16 * 2 ^ 20 < v), decide (v < sbits (s.reg (R.sdmCmp c)) 16 16 * 2 ^ 20))

/-- The trip comparators of port `k` act as an active level of its trip input, and release it (R224). -/
def State.cmpTripInput (s : State) (k : Nat) : State :=
  let was := (s.pwmp k).cmpTrip
  let now := s.portCmpTrip k
  let s := s.setPwmp k { s.pwmp k with cmpTrip := now }
  if now ∧ was = false then s.trip k else if was ∧ now = false then s.tripCause k else s

/-- The brake chopper's request follows the comparator of the port's own DC-bus channel; a chopper that is not enabled has none
(R226). -/
def State.brakeRequest (s : State) (k : Nat) : State :=
  let c := s.sdmc (8 + k)
  let x := s.chopper k
  let req := s.brakeOn k && (c.above || (x.req && !c.below))
  if req = x.req then s else (s.setChopper k { x with req := req }).chopFollow k

/-- The comparator of channel `c` is judged by the thresholds in force. A comparator that is off lies beyond none. Where the output
itself has moved, `crossing`, each crossing sets its hit flag. -/
def State.judgeCmp (s : State) (c : Nat) (crossing : Bool) : State :=
  let p := s.sdmc c
  let b := if s.cmpOn c then s.cmpBeyond c else (false, false)
  let s := s.setSdmc c { p with above := b.1, below := b.2 }
  let s := if crossing ∧ b.1 = true ∧ p.above = false then s.setBit (R.sdmStat c) 9 true else s
  let s := if crossing ∧ b.2 = true ∧ p.below = false then s.setBit (R.sdmStat c) 10 true else s
  if 12 ≤ c then
    if crossing ∧ b.1 = true ∧ p.above = false then
      (List.range 4).foldl (fun s q => if s.fld (R.chCfg q) 4 2 = c - 12 then s.chopTerminate q else s) s
    else s
  else if 8 ≤ c then (s.cmpTripInput (sdmPort c)).brakeRequest (c - 8)
  else s.cmpTripInput (sdmPort c)

/-- Every comparator after a commit, which may have changed what it compares with or does. -/
def State.judgeCmps (s : State) : State := (List.range 16).foldl (fun s c => s.judgeCmp c false) s

/-- FAST_COMPARATOR_CROSSING: the fast filter gives `x` (2^-35 of full scale) for the bit stream at the ball of
channel `c`, across a threshold. The filter runs whether or not its comparator is enabled (R224). -/
def fastComparatorCrossingCmd (c : Nat) (x : Int) (s : State) : State :=
  if 16 ≤ c then s
  else (s.setSdmc c { s.sdmc c with fast := s.sdmPolarity c x }).judgeCmp c true

def execFastComparatorCrossing (c : Nat) (x : Int) (s : State) : Host.Outcome State Fault Refusal :=
  .next (fastComparatorCrossingCmd c x s)

/-! ### The brake chopper (R226 to R228) -/

/-- CHOPPER_THRESHOLD: the fast filter of port `k`'s DC-bus channel gives `udc` (2^-35 of modulator full scale, less OFFS), which its
comparator judges (R226). -/
def chopperThresholdCmd (k : Nat) (udc : Int) (s : State) : State :=
  if 4 ≤ k then s
  else (s.setSdmc (8 + k) { s.sdmc (8 + k) with fast := udc + s.sdmOffs (8 + k) }).judgeCmp (8 + k) true

def execChopperThreshold (k : Nat) (udc : Int) (s : State) : Host.Outcome State Fault Refusal :=
  .next (chopperThresholdCmd k udc s)

/-- CHOPPER_OPEN_DETECT: the chopper has been on without a break for CHOP_DET, and the bus went from `uStart` to `uEnd`. -/
def chopperOpenDetectCmd (k : Nat) (uStart uEnd : Int) (s : State) : State :=
  match s.portAxis k with
  | none => s
  | some a =>
    if 4 ≤ k ∨ (s.axis a).int Pn.chopEn ≠ 1 ∨ s.chopReq k = false ∨ uEnd < uStart then s
    else
      let s := (s.setChopper k { s.chopper k with open_ := true }).chopFollow k
      (s.setAxis a ((s.axis a).psFlag fChopOpen true)).raiseSource a 10 0 true

def execChopperOpenDetect (k : Nat) (uStart uEnd : Int) (s : State) : Host.Outcome State Fault Refusal :=
  .next (chopperOpenDetectCmd k uStart uEnd s)

/-- The energy model of the chopper resistor over one cycle (R227): new energy in 2^-48 J. -/
def Axis.chopEnergy (x : Axis) (u share tc : Rat) : Int :=
  max 0 (x.chopE + rnd ((u ^ 2 / x.g Pn.chopR * share - x.g Pn.chopP) * tc * 2 ^ 48))

/-- The chopper of port `k` over the cycle that ends: `share` in 2^-16. -/
def State.chopperPhi0 (s : State) (k share : Nat) : State :=
  match s.portAxis k with
  | none => s
  | some a =>
    let x := s.axis a
    let c := s.chopper k
    let u := hVal (max 0 (toHfs (x.g Pn.uFs) (s.sdmShare (8 + k) * x.g Pn.usensFs))) * x.g Pn.uFs
    let e := x.chopEnergy u (share / 2 ^ 16) s.tc
    let full := rnd (x.g Pn.chopE * 2 ^ 48)
    let ovl := if full < e then true else if 2 * e < full then false else c.ovl
    let x := { ((x.psFlag fChopActive (decide (0 < share))).psFlag fChopOvl ovl).psFlag fChopOpen c.open_ with chopE := e }
    let s := (s.setAxis a (x.setCause 10 ovl)).setChopper k { c with ovl := ovl }
    let s := s.chopFollow k
    if ovl ∧ c.ovl = false then s.raiseSource a 10 0 true else s

/-! ### Enabling an axis (R104) -/

/-- Starting values of an enabled axis: integrators and filters zero, v_est invalid, curve stopped; p* is at p, and the first valid
sample sets it to that p. -/
def Axis.enableStart (x : Axis) : Axis :=
  let l := x.loop
  let x := x.restartEstimate
  { x.holdHere l.p with
    enabled := true, still := false, misses := 0, missing := false, nextReady := true, iqTarget := 0, iqSlew := 0,
    iqNext := [],
    streamLost := false, streamAge := 0, curve := {},
    prof := if x.holdsWork then .suspended else x.restState,
    loop := { x.loop with
      xd := 0, xq := 0, xv := 0, n1 := {}, n2 := {}, lp := {}, iqSet := 0, idSet := toHfs (x.g Pn.iFs) (x.g Pn.idRef),
      iqNew := 0, iqOld := 0, iqJ := 0, iqHold := true, iqFirst := true, vNew := 0, vOld := 0, vJ := 0, vHold := true,
      vFirst := true, badSamples := 0, staleRun := 0, atEnable := true,
      obs := { l.obs with th := 0, thUnwrapped := 0, w := 0, openLoop := true } } }

/-- The debug-halt and clock-loss hold of the axis ends with its disable and enable while its engine runs (R259). -/
def State.leaveHaltSafe (s : State) (a : Nat) : State :=
  let x := s.axis a
  if x.haltSafe = false ∨ s.engineRuns (s.loopEngine a) = false then s
  else
    let s := s.setAxis a { x with haltSafe := false }
    match x.localPort with
    | some k => (s.setPwmp k { s.pwmp k with halt := false }).setBit (R.pwmStat k) 2 false
    | none => s

/-- FLY_MODE 1 or 2 as it acts on the axis; 0 none (R233). -/
def Axis.flyKind (x : Axis) : Int :=
  if x.int Pn.flyMode = 3 then (if 0 ≤ x.int Pn.fbSrc then 1 else 2) else x.int Pn.flyMode

/-- The node of a remote axis offers a capability FLAGS bit (R286). -/
def State.nodeOffers (s : State) (a b : Nat) : Bool :=
  match (s.noderec (Config.remoteHome a).1).record with
  | some r => decide (r.flags / 2 ^ b % 2 = 1)
  | none => false

/-- A flying start without feedback can run: on a local stage, or where the node's capability record offers it (R235). -/
def State.canFly (s : State) (a : Nat) : Bool := !(s.axis a).remote || s.nodeOffers a 1

/-- The axis is enabled; with FLY_MODE a flying start begins. One without feedback that its node does not offer fails at once
(log entry 181). -/
def State.applyEnable (s : State) (a : Nat) (fly : Bool) (c : Nat) : State :=
  let s := s.leaveHaltSafe a
  let x := (s.axis a).enableStart
  if fly ∧ x.flyKind ≠ 0 then
    let s := s.setAxis a { x with fly := { on := true, observer := decide (x.flyKind = 2), since := c } }
    if x.flyKind = 2 ∧ s.canFly a = false then s.raiseSource a 15 0 true else s
  else s.setAxis a { x with fly := {} }

/-! ### Flying start (R233 to R235) -/

/-- The zero-vector window of an observer start opens at φ0 of cycle e + 1. -/
def Axis.flyPhi0 (x : Axis) (cycle : Nat) : Axis :=
  if x.fly.on ∧ x.fly.observer ∧ x.fly.fitted = false ∧ cycDiff x.fly.since cycle = 1 then
    { x with fly := { x.fly with window := true } }
  else x

/-- Line speed of an electrical speed in rad/s. -/
def Axis.lineSpeed (x : Axis) (w : Rat) : Int := toP (w * x.ln Pn.lRev / (kTwoPi * x.int Pn.polePairs))

/-- Angle of the vector `(x, y)` in 2^-64 rad, found in its quarter turn by bisection. -/
def quarterAngle (fuel : Nat) (x y lo hi : Int) : Int :=
  match fuel with
  | 0 => lo
  | n + 1 =>
    let mid := (lo + hi) / 2
    if 0 ≤ y * cosExact mid - x * sinExact mid then quarterAngle n x y mid hi else quarterAngle n x y lo mid

def vectorAngle (x y : Int) : Int :=
  let q := piQ / 2
  if 0 < x ∧ 0 ≤ y then quarterAngle 48 x y 0 q
  else if x ≤ 0 ∧ 0 < y then q + quarterAngle 48 y (-x) 0 q
  else if x < 0 ∧ y ≤ 0 then 2 * q + quarterAngle 48 (-x) (-y) 0 q
  else 3 * q + quarterAngle 48 (-y) x 0 q

/-- e = −L_S × di/dt − R_S × i in V at each sample after the first of a window (R233), in α and β, formed as R231 forms it. -/
def Axis.windowEmf (x : Axis) (dt : Rat) : List (Rat × Rat) → List (Rat × Rat)
  | i0 :: i1 :: rest =>
    let ls := (x.g Pn.lD + x.g Pn.lQ) / 2
    let e (a b : Rat) : Rat := -(ls * (b - a) / dt) - x.g Pn.rS * b
    (e i0.1 i1.1, e i0.2 i1.2) :: x.windowEmf dt (i1 :: rest)
  | _ => []

/-- What a window yields: |e| in V, the electrical angle in 2^-48 rad, the sense of rotation, and the residual in V. -/
structure EmfFit where
  mag : Rat
  th : Int
  fwd : Bool
  residual : Rat
  deriving DecidableEq, Repr

/-- Sum of the vector products of neighbours: the sense in which e turns. -/
def turning : List (Rat × Rat) → Rat
  | e0 :: e1 :: rest => (e0.1 * e1.2 - e0.2 * e1.1) + turning (e1 :: rest)
  | _ => 0

/-- The fit of R233 over the e of a window: |e| is their mean length, the angle that of the last, and the residual the root of the
mean square by which their lengths differ from |e| (log entry 180). -/
def fitEmf (es : List (Rat × Rat)) : EmfFit :=
  let ms := es.map (fun e => sqrtR (e.1 ^ 2 + e.2 ^ 2))
  let n : Nat := max 1 ms.length
  let m := ms.sum / n
  let last := es.getLast?.getD (0, 0)
  let big (v : Rat) : Int := rnd (v * 2 ^ 32)
  { mag := m, th := (vectorAngle (big last.1) (big last.2) - piQ / 2) / 2 ^ 16, fwd := decide (0 ≤ turning es),
    residual := sqrtR ((ms.map (fun v => (v - m) ^ 2)).sum / n) }

/-- Currents in A, in α and β, of the phase currents at each decimation period of a window (H36 of I_FS). -/
def Axis.windowCurrents (x : Axis) (us vs : List Int) : List (Rat × Rat) :=
  (us.zip vs).map (fun i => (hVal i.1 * x.g Pn.iFs, (hVal i.1 + 2 * hVal i.2) * kInvSqrt3 * x.g Pn.iFs))

/-- Time between two current samples of the axis's stage in s: the decimation period of its phase channel. -/
def State.windowStep (s : State) (x : Axis) : Rat :=
  match x.localPort with
  | some k => (s.decimationNs (2 * k) : Rat) / 10 ^ 9
  | none => s.tc

/-- The node's result of a window: |ωe| in POS, θe in IU and the direction in IV, with FLY_DONE (R305; log entry 182). -/
def Axis.nodeFit (x : Axis) : Option EmfFit :=
  match x.entry with
  | some e => if entryFlag e 0 && decide (e.estat / 2 ^ 11 % 2 = 1) then
      some { mag := absR (gVal e.pos) * x.g Pn.psiPm, th := angQ e.iu / 2 ^ 16, fwd := decide (0 ≤ e.iv), residual := 0 } else none
  | none => none

/-- The window is over: 200 µs have passed, or a current has reached min(FLY_IMAX, I_MAX), as a sample shows or as `atLimit`
tells of an instant between two (R233). -/
def Axis.windowOver (x : Axis) (us vs : List Int) (atLimit : Bool) (ns : Nat) : Bool :=
  let lim := toHfs (x.g Pn.iFs) (min (x.g Pn.flyImax) (x.g Pn.iMax))
  decide (200000 ≤ ns) || atLimit || (us.zip vs).any (fun i => decide (lim ≤ |i.1|) || decide (lim ≤ |i.2|) ||
    decide (lim ≤ |i.1 + i.2|))

/-- The window ends in `cycle` with a fit: a flying start that can be controlled goes on to its takeover. -/
def Axis.windowFit (x : Axis) (f : EmfFit) (cycle : Nat) : Axis :=
  let w : Rat := (if f.fwd then 1 else -1) * (f.mag / x.g Pn.psiPm)
  { x with
    fly := { x.fly with window := false, fitted := true, v0 := x.lineSpeed w, endAt := cycle },
    loop := { x.loop with obs := { x.loop.obs with th := wrapPi (f.th * 2 ^ 16) / 2 ^ 16, thUnwrapped := f.th, w := toG w,
                                                   openLoop := false } } }

/-- FLYING_START_WINDOW_END: the zero-vector window ends with the phase currents `us`, `vs` of its decimation periods, `ns` after it
opened; a remote axis has its node's result (R233, R235, R305). -/
def flyingStartWindowEndCmd (a : Nat) (us vs : List Int) (atLimit : Bool) (ns : Nat) (s : State) : State :=
  let x := s.axis a
  let fit := if x.remote then x.nodeFit
    else if x.windowOver us vs atLimit ns then some (fitEmf (x.windowEmf (s.windowStep x) (x.windowCurrents us vs))) else none
  if s.usable a = false ∨ s.isRun = false ∨ x.fly.on = false ∨ x.fly.window = false then s
  else
    match fit with
    | none => s
    | some f =>
      if 3 * f.mag ^ 2 ≤ (hVal x.udcUsed * x.g Pn.uFs) ^ 2 ∧ 10 * f.residual ≤ f.mag then s.setAxis a (x.windowFit f s.cycle)
      else (s.setAxis a { x with fly := { x.fly with window := false } }).raiseSource a 15 0 true

def execFlyingStartWindowEnd (a : Nat) (us vs : List Int) (atLimit : Bool) (ns : Nat) (s : State) :
    Host.Outcome State Fault Refusal := .next (flyingStartWindowEndCmd a us vs atLimit ns s)

/-- Loop values at takeover (R234). -/
def Axis.takeover (x : Axis) (v0 : Int) : Axis :=
  let w := x.elecSpeed v0
  let x := (x.loopFlag fVestValid true).psFlag fObsIdle false
  { x with
    fly := {}, flyResult := v0, curve := { x.curve with v := v0 }, plan := none,
    pSet := x.loop.p, vSet := v0, aSet := 0, pNext := x.loop.p, vNext := v0, aNext := 0,
    loop := { x.loop with
      vEst := v0, vUsed := v0, vestCount := 3, vestValid := true, wE := toG w, xd := 0,
      xq := toHfs (x.g Pn.uFs) (w * x.g Pn.psiPm), idSet := toHfs (x.g Pn.iFs) (x.g Pn.idRef), iqSet := 0,
      iqNew := 0, iqOld := 0,
      obs := { x.loop.obs with openLoop := decide (|v0| < x.raw Pn.obsVmin) } } }

/-- Speed in whole line/s, signed and saturating. -/
def wholeSpeed (v : Int) : Int := satBits 32 (v / 2 ^ 32)

/-- The speed a velocity axis is commanded to (R234): the end of its transition, or its set-point; zero in the other modes. -/
def Axis.speedWanted (x : Axis) : Int :=
  if x.ctrlMode ≠ 1 then 0
  else match x.plan with
    | some pl => toP (endKin ⟨pl.x0, pl.v0, pl.a0⟩ pl.segs).v
    | none => x.vSet

/-- The loops can take over: with feedback in cycle e + 2, when VEST_VALID is set; without, in the cycle after the window's end, so
that the second reload after it has the first regulated duties (R233). -/
def Axis.flyReady (x : Axis) (cycle : Nat) : Bool :=
  if x.fly.observer then x.fly.fitted && decide (1 ≤ cycDiff x.fly.endAt cycle)
  else x.loop.vestValid && decide (2 ≤ cycDiff x.fly.since cycle)

/-- FLYING_START_TAKEOVER: the loops go on from v0 (R233, R234). Where the critical part of the cycle has run, its current loop runs
again from the new values, and its duties are those of the next reload. -/
def flyingStartTakeoverCmd (a : Nat) (s : State) : State :=
  let x := s.axis a
  if s.usable a = false ∨ s.isRun = false ∨ x.fly.on = false ∨ x.flyReady s.cycle = false then s
  else
    let v := if x.fly.observer then x.fly.v0 else x.loop.vEst
    let v0 := if |v| < x.raw Pn.flyVmin then 0 else v
    let s := (s.setAxis a (x.takeover v0)).ev 35 a 0x0100 (tc 32 (wholeSpeed v0))
    let s := if x.ctrlMode = 3 ∨ x.streamed = true ∨ !x.reqs.isEmpty then s else s.request a (.toSpeed x.speedWanted)
    if x.loop.ranC then s.currentLoop a else s

def execFlyingStartTakeover (a : Nat) (s : State) : Host.Outcome State Fault Refusal :=
  .next (flyingStartTakeoverCmd a s)

/-! ### Load identification (R239, R240) -/

/-- Steps in the order of R239: alignment (0) without feedback, then the selected ones. -/
def identSteps (free : Bool) (steps : Nat) : List Nat :=
  (if free then [0] else []) ++ (if steps % 2 = 1 then [1] else []) ++ (if steps / 2 % 2 = 1 then [2] else []) ++
    (if steps / 4 % 2 = 1 then [3] else [])

/-- The next step of an identification begins; for PSI_PM the axis runs up to V_TEST in velocity mode. -/
def State.identNext (s : State) (a : Nat) (i : Ident) : State :=
  let s := s.modAxis a (fun x => { x with ident := some { i with since := s.cycle } })
  if i.stepsLeft.head? = some 3 then s.request a (.toSpeed i.vTest) else s

/-- LOAD_IDENT. -/
def loadIdentCmd (h : Hdr) (steps : Nat) (iTest vTest : Int) (s : State) : State :=
  let x := s.axis h.subj
  let badArg := decide (steps = 0) || decide (7 < steps) || decide (iTest < 0) || decide (x.raw Pn.iMax < iTest) ||
    decide (x.raw Pn.profV < |vTest|)
  s.hostCmd h 0x0440 .long 0 .axis (if badArg then some St.argument else none)
    (if s.isRun then none else some (St.wrongPower, 0))
    (firstRefusal [(x.enabled || !x.enableAt.isEmpty || !x.inUse || x.ident.isSome, St.notIdle, 0), x.reactionRefusal])
    (fun s =>
      let own := s.openFor h 0x0440
      let s := (s.acceptLong h 0x0440 0 []).applyEnable h.subj false s.cycle
      s.identNext h.subj {
        stepsLeft := identSteps (decide ((s.axis h.subj).int Pn.fbSrc = -1)) steps, iTest := iTest, vTest := vTest, own := own })

def execLoadIdent (h : Hdr) (steps : Nat) (iTest vTest : Int) (s : State) : Host.Outcome State Fault Refusal :=
  .next (loadIdentCmd h steps iTest vTest s)

/-- The identification ends: its FINAL, and the axis is disabled again. -/
def State.endIdent (s : State) (a : Nat) (own : Open) (status code : Nat) (ext : Option (List Byte)) : State :=
  ((s.modAxis a (fun x => { x with ident := none })).disableAxis a).final own status s.cycle code ext []

/-- L = v / (di/dt) in H from the changes of a current along its voltage steps over each decimation period (H36 of I_FS), averaged
(R239); none where the current does not rise. -/
def Axis.stepInductance (x : Axis) (v dt : Rat) (di : List Int) : Option Int :=
  let mean := (di.map hVal).sum * x.g Pn.iFs / (max 1 di.length : Nat)
  if mean ≤ 0 then none else some (toG (v * dt / mean))

/-- Seconds since a cycle. -/
def State.secsSince (s : State) (c : Nat) : Rat := (cycDiff c s.cycle : Rat) * s.tc

/-- What the present step comes to (R239, R240): none while it runs, else a failure code or its results with their PNs. -/
def State.identJudge (s : State) (x : Axis) (i : Ident) (short : Bool) (slopes : List Int × List Int) :
    Option (Nat ⊕ List (Nat × Nat × Int)) :=
  let step := i.stepsLeft.headD 0
  let t := s.secsSince i.since
  if i.moved then some (.inl 2)
  else if short ∧ step ≤ 1 then some (.inl 1)
  else
    match step with
    | 0 => if t < 1 / 5 then none else some (.inr [])
    | 1 =>
      if t < 2 / 5 then none
      else if i.full.2 = i.half.2 then some (.inl 1)
      else some (.inr [(0, Pn.rS, toG (hVal (i.full.1 - i.half.1) * x.g Pn.uFs / (hVal (i.full.2 - i.half.2) * x.g Pn.iFs)))])
    | 2 =>
      let v := hVal (Config.identStep i.own.subj).toNat * x.g Pn.uFs
      let dt := s.windowStep x
      if cycDiff i.since s.cycle < 128 then none
      else match x.stepInductance v dt slopes.1, x.stepInductance v dt slopes.2 with
        | some ld, some lq => some (.inr [(1, Pn.lD, ld), (2, Pn.lQ, lq)])
        | _, _ => some (.inl 4)
    | _ =>
      match i.reached with
      | none => if 2 ≤ t then some (.inl 3) else none
      | some c =>
        if s.secsSince c < 1 then none
        else if i.psiN = 0 then some (.inl 4)
        else some (.inr [(3, Pn.psiPm, toG (i.psiSum / i.psiN))])

/-- LOAD_IDENT_STEP_END: the present step is over. `short` tells that a test current was not reached; `slopes` are the changes of i_d
and i_q along their voltage steps over each decimation period of the L step. -/
def loadIdentStepEndCmd (a : Nat) (short : Bool) (slopes : List Int × List Int) (s : State) : State :=
  let x := s.axis a
  match x.ident with
  | none => s
  | some i =>
    match s.identJudge x i short slopes with
    | none => s
    | some (.inl code) => s.endIdent a i.own St.identFailed code none
    | some (.inr rs) =>
      let results := rs.foldl (fun l r => l.set r.1 r.2.2) i.results
      let rest := i.stepsLeft.drop 1
      let ok := rs.all (fun r => match pnDesc? r.2.1 with
        | some d => pnInRange x.raw d r.2.2
        | none => true)
      let rm := match rs with
        | (0, _, v) :: _ => some v
        | _ => i.rMeas
      if ok = false then s.endIdent a i.own St.identFailed 4 none
      else if rest.isEmpty then s.endIdent a i.own St.ok 0 (some (results.flatMap bytes72))
      else s.identNext a { i with stepsLeft := rest, results := results, rMeas := rm }

def execLoadIdentStepEnd (a : Nat) (short : Bool) (slopes : List Int × List Int) (s : State) :
    Host.Outcome State Fault Refusal := .next (loadIdentStepEndCmd a short slopes s)

end Sys2Proof.Machine
end

