-- ==== Sys2Proof/Machine/Layout.lean ====
section
/-!
DEFINITION. The layout of lane frames (R300 to R313): which nodes, entries, blocks and containers a lane carries, the lengths
of its frames, and the sums of R62.
-/

namespace Sys2Proof.Machine

open Sys2Proof

/-- Bytes of the payload of a block (R309). -/
def BlockDesc.payload (d : BlockDesc) : Nat :=
  match d.kind with
  | 0 => 8
  | 1 => d.count
  | 2 => 5 * d.count
  | 3 => 9 * d.count
  | _ => 16 * d.count

/-- Bytes a block occupies in a signal area (R309). -/
def BlockDesc.bytes (d : BlockDesc) : Nat := 8 + 8 * ((d.payload + 7) / 8)

/-- The block is due in cycle `n` (R328). -/
def BlockDesc.due (d : BlockDesc) (n : Nat) : Bool := decide (d.phase ≤ n % 8 ^ d.cls) && decide ((n - d.phase) % 8 ^ d.cls = 0)

/-- Admitted nodes with the lane of their slot. -/
def State.slots (s : State) : List (Nat × Nat) :=
  s.stage.inForce.nodes.filterMap (fun e => e.2.map (fun p => (e.1, p.1)))

/-- Insertion by the position of the nodes' records. -/
def State.insertPos (s : State) (n : Nat) : List Nat → List Nat
  | [] => [n]
  | m :: rest => if (s.noderec n).position < (s.noderec m).position then n :: m :: rest else m :: s.insertPos n rest

/-- Nodes of the line of lane `n`, nearest first. -/
def State.lineNodes (s : State) (n : Nat) : List Nat :=
  ((s.slots.filter (fun e => decide (s.lineOf e.2 = s.lineOf n))).map (fun e => e.1)).foldl (fun l m => s.insertPos m l) []

/-- A lane that this conductor leads: in use, not the odd lane of a ring, not its uplink (R332). -/
def State.ledLine (s : State) (n : Nat) : Bool :=
  s.laneOn n && decide (s.lineOf n = n) && decide (s.bb.uplink ≠ some n)

/-- Entries of a node: one per axis, at least one (R305, R313). A node without a record has one. -/
def State.nodeEntries (s : State) (n : Nat) : List (Nat × Nat) :=
  let k := match (s.noderec n).record with
    | some r => r.axes
    | none => 0
  if k = 0 then [(n, 0xFF)] else (List.range k).map (fun a => (n, a))

/-- Entries of the frames of lane `n`, in order. -/
def State.laneEntries (s : State) (n : Nat) : List (Nat × Nat) := (s.lineNodes n).flatMap s.nodeEntries

/-- Staged blocks with their descriptors, ascending. -/
def State.blocks (s : State) : List (Nat × BlockDesc) :=
  s.stage.inForce.blocks.filterMap (fun e => e.2.map (fun d => (e.1, d)))

/-- A member conductor among the nodes: its record says so (R332). -/
def State.isConductorNode (s : State) (m : Nat) : Bool :=
  match (s.noderec m).record with
  | some r => decide (r.role = 1)
  | none => false

/-- The node whose place in this conductor's frames carries the blocks of a producer (R331 to R334): the node itself where it has a slot
here, the member conductor of number c for 256 + c, and for a node that has no slot here the member conductor of the lowest number, behind
which it lies (log entry 142). None for this conductor itself. -/
def State.carrier (s : State) (producer : Nat) : Option Nat :=
  let conds := (s.slots.map (fun e => e.1)).filter s.isConductorNode
  if 256 ≤ producer then
    (if producer = 256 + s.bb.number then none else conds.find? (fun m => decide ((s.noderec m).condNo + 256 = producer)))
  else if s.slots.any (fun e => decide (e.1 = producer)) then some producer
  else
    conds.foldl (fun best m => match best with
      | some b => if (s.noderec m).condNo < (s.noderec b).condNo then some m else some b
      | none => some m) none

/-- Class 0 blocks in gather and scatter frames of lane `n`, in the order of the nodes that produce or consume them
(R309, R322, R328). -/
def State.gatherBlocks (s : State) (n : Nat) : List (Nat × BlockDesc) :=
  (s.lineNodes n).flatMap (fun m => s.blocks.filter (fun e => decide (e.2.cls = 0) && decide (s.carrier e.2.producer = some m)))
def State.consumes (s : State) (m b : Nat) : Bool := s.stage.inForce.consumed.any (fun e => decide (e = (m, b)))
def State.scatterBlocks (s : State) (n : Nat) : List (Nat × BlockDesc) :=
  ((s.lineNodes n).flatMap (fun m => s.blocks.filter (fun e => decide (e.2.cls = 0) && s.consumes m e.1))).eraseDups
def State.slowBlocks (s : State) (n : Nat) : List (Nat × BlockDesc) :=
  ((s.lineNodes n).flatMap (fun m => s.blocks.filter (fun e =>
    decide (e.2.cls ≠ 0) && (decide (s.carrier e.2.producer = some m) || s.consumes m e.1)))).eraseDups

/-- Some cycle has both blocks due (R328). -/
def BlockDesc.meets (c d : BlockDesc) : Bool :=
  let p := 8 ^ min c.cls d.cls
  decide (c.phase % p = d.phase % p)

/-- Lowest offset from which `len` bytes touch none of the (offset, length) pairs. -/
def lowestFree (taken : List (Nat × Nat)) (len : Nat) : Nat :=
  let ok (o : Nat) : Bool := taken.all (fun t => decide (o + len ≤ t.1) || decide (t.1 + t.2 ≤ o))
  ((0 :: taken.map (fun t => t.1 + t.2)).filter ok).foldl (fun m o => match m with
    | some k => some (min k o)
    | none => some o) none |>.getD 0

/-- Offsets in bytes of slow blocks: blocks that are never due together may share bytes (R322). -/
def slowPlaces (bs : List (Nat × BlockDesc)) : List (Nat × BlockDesc × Nat) :=
  bs.foldl (fun acc e =>
    acc ++ [(e.1, e.2, lowestFree ((acc.filter (fun t => t.2.1.meets e.2)).map (fun t => (t.2.2, t.2.1.bytes))) e.2.bytes)]) []

/-- Safety axes of the selected set that stand on node `m`, ascending. -/
def State.nodeSafAxes (s : State) (m : Nat) : List Nat :=
  match s.selectedSet with
  | some st => (List.range 32).filter (fun sx => match st.rec? sx with
      | some r => r.remote && decide (r.node = m)
      | none => false)
  | none => []

/-- Places of the safety containers of lane `n` in either direction (R310, R322): per node, A and then B of each of its safety axes. -/
def State.contPlaces (s : State) (n : Nat) : List (Nat × Nat) :=
  ((s.lineNodes n).flatMap s.nodeSafAxes).flatMap (fun sx => [(sx, 0x0A), (sx, 0x0B)])

/-- Containers of each direction on lane `n`: two per remote safety axis (R310). -/
def State.laneContainers (s : State) (n : Nat) : Nat := (s.contPlaces n).length

def blocksLen (bs : List (Nat × BlockDesc)) : Nat := (bs.map (fun e => e.2.bytes)).sum

/-- Lengths N of the gather and scatter frames of lane `n` (R302, R306). -/
def State.gatherLen (s : State) (n : Nat) : Nat :=
  248 + 32 * (s.laneEntries n).length + blocksLen (s.gatherBlocks n) + 40 * s.laneContainers n
def State.scatterLen (s : State) (n : Nat) : Nat :=
  120 + 16 * (s.laneEntries n).length + blocksLen (s.scatterBlocks n) + 40 * s.laneContainers n

/-- Length of the longest slow frame over 4,096 cycles, without management records (R311, R324). -/
def State.slowLen (s : State) (n : Nat) : Nat :=
  56 + (slowPlaces (s.slowBlocks n)).foldl (fun m t => max m (t.2.2 + t.2.1.bytes)) 0

/-- Bytes on the wire: the frame with its preamble of 8 bytes. -/
def wireLen (n : Nat) : Nat := n + 8

/-- Delay of the hop into node `m` in ns: measured, else 150 (R62). -/
def State.hopNs (s : State) (m : Nat) : Rat :=
  if (s.noderec m).dly = 0 then 150 else (((s.noderec m).dly : Nat) : Rat) / 256

/-- Forwarding delay of node `m`: from its record, else the 160 ns that R61 admits. -/
def State.fwdNs (s : State) (m : Nat) : Nat :=
  match (s.noderec m).record with
  | some r => r.fwdDly
  | none => 160

/-- Sum of hop delays of the line that starts at port `port` (R62, R273). -/
def State.hopSum (s : State) (n port : Nat) : Rat :=
  match s.lineNodes n with
  | [] => 0
  | _ :: rest => ((s.lane port).delayNs).getD 150 + (rest.map s.hopNs).sum

def State.fwdSum (s : State) (n : Nat) : Nat := ((s.lineNodes n).map s.fwdNs).sum

/-- Servo axes in use on the nodes of the lane. -/
def State.laneAxes (s : State) (n : Nat) : List Nat :=
  ((s.lineNodes n).flatMap s.nodeAxes).filter (fun a => (s.axis a).inUse)

/-- All axes of the lane use split closure (R63). -/
def State.laneSplit (s : State) (n : Nat) : Bool :=
  !(s.laneAxes n).isEmpty && (s.laneAxes n).all (fun a => (s.axis a).split)

/-- Gather departure offset of lane `n` in ns (R60). -/
def State.departNs (s : State) (n : Nat) : Nat := 2 * s.stage.inForce.gather.getD n 1250

/-- The two inequalities of R62 for the line that starts at `port`, with the further cycle of R63: round trip, scatter. -/
def State.roundTripOk (s : State) (n port : Nat) : Bool :=
  let more := if s.laneSplit n then tcycNs s.rung else 0
  decide (450 + (wireLen (s.gatherLen n) : Rat) * 4 / 5 + 2 * s.hopSum n port + 2 * (s.fwdSum n : Rat) ≤
    (gatherBackNs s.rung : Rat) - s.departNs n + more)

def State.scatterOk (s : State) (n port : Nat) : Bool :=
  let more := if s.laneSplit n then tcycNs s.rung else 0
  decide (400 + (wireLen (s.scatterLen n) : Rat) * 4 / 5 + s.hopSum n port + (s.fwdSum n : Rat) ≤
    (lastNodeNs s.rung : Rat) - scatterNs s.rung + more)

/-- The slow frame returns in time (R324). -/
def State.slowOk (s : State) (n port : Nat) : Bool :=
  let tw : Rat := (scatterNs s.rung : Rat) + (wireLen (s.scatterLen n) : Rat) * 4 / 5 + 100
  decide (450 + (wireLen (s.slowLen n) : Rat) * 4 / 5 + 2 * s.hopSum n port + 2 * (s.fwdSum n : Rat) ≤
    (tcycNs s.rung : Rat) + 400 - tw)

/-- Ports from which a lane's frames leave: one of a line, both of a ring (R273). -/
def State.linePorts (s : State) (n : Nat) : List Nat := if s.laneMode n = 2 then [n, n + 1] else [n]

end Sys2Proof.Machine
end

