-- ==== Sys2Proof/Machine/Check.lean ====
section
/-!
DEFINITION. The check of a stage set (R368 to R371): the prospective configuration, and every consistency rule of R369 in its
order (R32, R47, R48, R56, R60 to R63, R74, R107, R119, R138, R158, R164, R175, R187, R193, R243, R261, R273, R324, R325,
R333), and the check of a direct write (R108).
-/

namespace Sys2Proof.Machine

open Sys2Proof

/-! ### The prospective configuration (R366, R368) -/

/-- Bits of a staged register that a commit writes; none where the register is no staged setting. -/
def stagedMask (off : Nat) : Option Nat :=
  match regDesc? off with
  | some d =>
    if d.staged = false then none
    else if off < 0x880 then some 0xFFFFFFFF
    else if off < 0x8A0 then some 0xFFFF
    else if off < 0x900 then some 0xF
    else if off < 0x2400 then some (if off % 0x100 = 0 then 0xFFFF0007 else 0x1FFFFF)
    else if off < 0x3000 then some 0xF1
    else if off < 0x3200 then
      some (if off % 0x40 = 0 then 0x7FF else if off % 0x40 = 4 then 0x07FF07FF else 0x7FF)
    else if off < 0x3300 then
      some (if off % 0x20 = 0 then 0x7F else if off % 0x20 = 0xC then 0x1FFFF else 0xFFFF)
    else if off < 0x3800 then some 0xF
    else if off < 0x4000 then
      some (match off % 0x100 with
        | 0x00 => 0x00FFF3FF
        | 0x08 => 0x1FFFFFFF
        | 0x10 => 0x1FFFFF
        | 0x18 => 0xFFFF
        | 0x1C => 0xFFFF01FF
        | 0xEC => 0xFFFFFF
        | _ => 0xFFFFFFFF)
    else if off < 0x4840 then some 3
    else if off < 0x5000 then
      some (match off % 0x20 with
        | 0x00 => 0x1F1F
        | 0x04 => 0xFFFF
        | 0x14 => 3
        | _ => 0xFFFFFFFF)
    else if off = R.dioGcfg then some 0xFFFFFFFF
    else some 0xFFFF00FF
  | none => none

/-- Block descriptor of R331; none for zero. -/
def descOf (v : Nat) : Option BlockDesc :=
  if v = 0 then none
  else some { kind := v / 2 ^ 14 % 8, count := v / 2 ^ 17 % 128, cls := v / 2 ^ 24 % 8, phase := v / 2 ^ 27 % 2 ^ 12,
              producer := v / 2 ^ 39 % 512 }

/-- A cam table as its host buffer holds it (R174); one that breaks the layout has no points. -/
def State.readCam (s : State) (addr : Nat) : CamTable :=
  let bad : CamTable := ⟨false, 0, []⟩
  if alignedAddr addr = false then bad
  else
    match s.memRd addr 32 with
    | none => bad
    | some h =>
      let n := Machine.field h 0 8
      let fl := Machine.field h 8 8
      let span := field72 h 16
      if n < 4 ∨ 4096 < n ∨ 2 ≤ fl ∨ span ≤ 0 then bad
      else
        match s.memRd (addr + 32) (16 * n) with
        | none => bad
        | some ys => ⟨decide (fl = 1), span, (List.range n).map (fun k => field72 ys (16 * k))⟩

/-- Key of a remote register: node and local axis, ADDR, BLOCK (R366). -/
def remoteKey (node b : Nat) : Nat := ((node * 256 + b % 256) * 2 ^ 16 + b / 2 ^ 8 % 2 ^ 16) * 4 + b / 2 ^ 24 % 4

def State.modSettings (s : State) (f : Settings → Settings) : State :=
  { s with stage := { s.stage with inForce := f s.stage.inForce } }

/-- The configuration with one item applied. -/
def State.withItem (s : State) (it : StageItem) : State :=
  let v := it.value.toNat
  match it.kind with
  | 1 => s.modAxis it.a (fun x => x.write it.b (sext 72 v))
  | 2 =>
    match stagedMask it.b with
    | some m => s.setReg it.b (BitVec.ofNat 32 (v &&& m))
    | none => s
  | 3 => s.modSettings (fun c => { c with rung := v })
  | 4 => s.modSettings (fun c => { c with budgets := c.budgets.set it.a v })
  | 5 => s.modSettings (fun c => { c with
      assign := c.assign.set (it.a / 32 % 4, it.a / 64 % 2) it.a (v % 4, v / 256 % 2) })
  | 6 => s.modSettings (fun c => { c with gather := c.gather.set it.a v })
  | 7 => s.modSettings (fun c => { c with blocks := c.blocks.set none it.a (descOf v) })
  | 8 => s.modSettings (fun c => { c with
      consumed := (c.consumed.filter (fun p => p != (it.a, it.b))) ++ (if v = 1 then [(it.a, it.b)] else []) })
  | 9 => s.modSettings (fun c => { c with
      nodes := if v ≠ 0 then c.nodes.set none it.a (some (it.b, v % 2 ^ 64))
        else if (SMap.get none c.nodes it.a).any (fun p => decide (p.1 = it.b)) then c.nodes.set none it.a none else c.nodes })
  | 10 => s.modSettings (fun c => { c with
      remote := c.remote.set none (remoteKey it.a it.b) (some (BitVec.ofNat 32 v)) })
  | _ => s.modSettings (fun c => { c with
      cams := c.cams.set none it.a (if v = 0 then none else some (s.readCam v)) })

/-- The prospective configuration of a list of items. -/
def State.withItems (s : State) (items : List StageItem) : State := items.foldl State.withItem s

/-! ### Failures (R368) -/

structure Failure where
  rule : Nat
  skind : Nat := 0
  subject : Nat := 0
  pn : Nat := 0
  item : Nat := 0xFFFFFFFF
  deriving DecidableEq, Repr

/-- Index of the first item that `p` names. -/
def itemAt (items : List StageItem) (p : StageItem → Bool) : Nat :=
  match items.findIdx? p with
  | some i => i
  | none => 0xFFFFFFFF

/-- The first subject of a list that breaks a rule. -/
def firstBad {α : Type} (l : List α) (bad : α → Bool) (mk : α → Failure) : Option Failure := (l.find? bad).map mk

/-- What a check looks at: the state in force, the prospective one, and the items. -/
structure CheckEnv where
  s : State
  t : State
  items : List StageItem
  /-- Cycle whose φ0 the configuration would take effect at. -/
  at_ : Nat

/-- A failure of axis `a` and PN `pn`. -/
def CheckEnv.onPn (e : CheckEnv) (rule a pn : Nat) : Failure :=
  { rule := rule, skind := 1, subject := a, pn := pn,
    item := itemAt e.items (fun i => decide (i.kind = 1) && decide (i.a = a) && decide (i.b = pn)) }

/-- A failure of a register subject: its item writes a register of `lo … lo + span - 1`. -/
def CheckEnv.onReg (e : CheckEnv) (rule skind subject lo span : Nat) : Failure :=
  { rule := rule, skind := skind, subject := subject,
    item := itemAt e.items (fun i => decide (i.kind = 2) && decide (lo ≤ i.b) && decide (i.b < lo + span)) }

/-- A failure whose item has KIND `kind` and first target `a`. -/
def CheckEnv.onKind (e : CheckEnv) (rule skind subject kind a : Nat) : Failure :=
  { rule := rule, skind := skind, subject := subject,
    item := itemAt e.items (fun i => decide (i.kind = kind) && decide (i.a = a)) }

/-- A failure of an item itself. -/
def CheckEnv.onItem (rule skind subject idx : Nat) : Failure :=
  { rule := rule, skind := skind, subject := subject, item := idx }

/-- Axes in use in the prospective configuration (R371). -/
def CheckEnv.used (e : CheckEnv) : List Nat := e.t.axisNos.filter (fun a => (e.t.axis a).inUse)

/-- The first axis in use with a PN that breaks a rule. -/
def CheckEnv.axisRule (e : CheckEnv) (rule : Nat) (bad : Nat → Option Nat) : Option Failure :=
  e.used.findSome? (fun a => (bad a).map (fun pn => e.onPn rule a pn))

/-- First of a list of (broken, PN). -/
def firstPn : List (Bool × Nat) → Option Nat
  | [] => none
  | (b, pn) :: rest => if b then some pn else firstPn rest

/-- The first failure of a list of rules, in order; a rule after a failure is not evaluated. -/
def firstRule : List (CheckEnv → Option Failure) → CheckEnv → Option Failure
  | [], _ => none
  | r :: rest, e =>
    match r e with
    | some f => some f
    | none => firstRule rest e

/-- An axis is enabled at φ0 of cycle `c`: it is enabled now, or a pending enable takes effect before that commit (R107, R564). -/
def Axis.engaged (x : Axis) (c : Nat) : Bool := x.enabled || x.enableAt.any (fun e => decide (0 < cycDiff e c))

/-! ### Group 0x01 (R370) -/

/-- SKIND and subject of the target of an item that does not exist. -/
def State.badTarget (s : State) (i : StageItem) : Option (Nat × Nat) :=
  match i.kind with
  | 1 => if s.usable i.a then none else some (1, i.a)
  | 4 => if i.a < 18 then none else some (7, i.a)
  | 5 => if s.usable i.a then none else some (1, i.a)
  | 6 => if i.a < 4 then none else some (4, i.a)
  | 7 => if i.a < 16384 then none else some (6, i.a)
  | 8 => if 256 ≤ i.a then some (5, i.a) else if i.b < 16384 then none else some (6, i.b)
  | 9 => if 256 ≤ i.a then some (5, i.a) else if i.b < 4 then none else some (4, i.b)
  | 10 => if i.a < 256 then none else some (5, i.a)
  | 11 => if i.a < 64 then none else some (9, i.a)
  | _ => none

/-- The failure of the lowest subject; of several, the first (R368). -/
def leastSubject : List Failure → Option Failure
  | [] => none
  | f :: rest =>
    match leastSubject rest with
    | some g => if g.subject < f.subject then some g else some f
    | none => some f

def ruleTargets (e : CheckEnv) : Option Failure :=
  leastSubject (e.items.zipIdx.filterMap (fun p =>
    (e.s.badTarget p.1).map (fun q =>
      { CheckEnv.onItem 0x0101 q.1 q.2 p.2 with pn := if p.1.kind = 1 then p.1.b else 0 })))

def ruleEmpty (e : CheckEnv) : Option Failure := if e.items.isEmpty then some { rule := 0x0102 } else none

def ruleLantern (e : CheckEnv) : Option Failure :=
  if e.s.bb.lantern then none
  else e.items.zipIdx.findSome? (fun p => if p.1.kind = 3 then some (CheckEnv.onItem 0x0103 0 0 p.2) else none)

/-- An item whose value lies outside the encoding its own table gives: SKIND and subject. -/
def badValue (i : StageItem) : Option (Nat × Nat) :=
  let v := i.value.toNat
  match i.kind with
  | 2 =>
    if 0x2000 ≤ i.b ∧ i.b < 0x2400 ∧ i.b % 0x100 = 0 ∧
        (v % 4 = 3 ∨ v / 2 ^ 16 % 2 ^ 16 < 100 ∨ 1000 < v / 2 ^ 16 % 2 ^ 16) then some (4, i.b / 0x100 % 4)
    else none
  | 3 => if 4 < v then some (0, 0) else none
  | 5 => if v % 256 < 4 ∧ v / 256 < 2 then none else some (1, i.a)
  | 7 =>
    match descOf v with
    | some d =>
      if v % 2 ^ 14 = i.a ∧ v < 2 ^ 48 ∧ d.kind ≤ 4 ∧ 1 ≤ d.count ∧ d.count ≤ (if d.kind = 4 then 32 else 64) ∧
          d.cls ≤ 4 ∧ d.producer < 260 then none
      else some (6, i.a)
    | none => none
  | 8 => if v ≤ 1 then none else some (5, i.a)
  | 10 => if i.b < 2 ^ 26 ∧ i.b / 2 ^ 24 ≤ 2 then none else some (5, i.a)
  | _ => none

/-- The rule that judges the range of a PN: of R107, R119, R243, or R370 item 4. -/
def rangeRule (pn : Nat) : Nat :=
  if pn < 0x0400 then 0x0801
  else if 0x0420 ≤ pn ∧ pn < 0x0434 then 0x0904
  else if 0x0800 ≤ pn ∧ pn < 0x0860 then 0x0D01
  else 0x0104

def allPns : List PnDesc := pnsLoop ++ pnsVel ++ pnsSupv ++ pnsProf ++ pnsCoord ++ pnsPower ++ pnsTherm

/-- First PN of `ds` that lies outside its range on the axis. -/
def Axis.badPn (x : Axis) (ds : List PnDesc) : Option Nat :=
  (ds.find? (fun d => decide (d.cls ≠ .ro) && !pnInRange x.raw d (x.raw d.pn))).map (fun d => d.pn)

/-- PNs of `rule` whose range is judged on axis `a`: all where it is in use, else those the set writes (R371). -/
def CheckEnv.rangePns (e : CheckEnv) (rule a : Nat) : List PnDesc :=
  let ds := allPns.filter (fun d => decide (rangeRule d.pn = rule))
  if (e.t.axis a).inUse then ds
  else ds.filter (fun d => e.items.any (fun i => decide (i.kind = 1) && decide (i.a = a) && decide (i.b = d.pn)))

/-- Axes whose PN ranges are judged. -/
def CheckEnv.judged (e : CheckEnv) : List Nat :=
  e.t.axisNos.filter (fun a => (e.t.axis a).inUse || e.items.any (fun i => decide (i.kind = 1) && decide (i.a = a)))

def ruleRange (rule : Nat) (e : CheckEnv) : Option Failure :=
  e.judged.findSome? (fun a => ((e.t.axis a).badPn (e.rangePns rule a)).map (fun pn => e.onPn rule a pn))

def ruleValues (e : CheckEnv) : Option Failure :=
  leastSubject (e.items.zipIdx.filterMap (fun p => (badValue p.1).map (fun q => CheckEnv.onItem 0x0104 q.1 q.2 p.2)) ++
    (ruleRange 0x0104 e).toList)

/-! ### Groups 0x02 to 0x04 (R48, R32, R138, R56) -/

/-- Axes in use on an engine. -/
def State.onLoopEngine (s : State) (e : Nat) : Nat :=
  (s.axisNos.filter (fun a => (s.axis a).inUse && decide (s.loopEngine a = e))).length
def State.onProfEngine (s : State) (e : Nat) : Nat :=
  (s.axisNos.filter (fun a => (s.axis a).inUse && decide (s.profEngine a = e))).length

/-- Floor of a requester's budget (R47). -/
def State.budgetFloor (s : State) (r : Nat) : Nat :=
  if r < 4 then 4 * s.onLoopEngine r
  else if r < 6 then 32 + s.onProfEngine (r - 4)
  else if r < 8 then (if s.laneOn (2 * (r - 6)) ∨ s.laneOn (2 * (r - 6) + 1) then 80 else 16)
  else if r < 13 then [16, 32, 16, 32, 32].getD (r - 8) 0
  else if r < 17 then (if s.laneOn (r - 13) then 160 else 0)
  else 32

def State.budget (s : State) (r : Nat) : Nat := s.stage.inForce.budgets.getD r 0

def ruleBudget (e : CheckEnv) : Option Failure :=
  let rs := List.range 18
  let mk (n : Nat) (r : Nat) : Failure := e.onKind (0x0200 + n) 7 r 4 r
  match firstBad rs (fun r => decide (e.t.budget r % 4 ≠ 0) || decide (512 < e.t.budget r)) (mk 1) with
  | some f => some f
  | none =>
    match firstBad rs (fun r => decide (e.t.budget r < e.t.budgetFloor r)) (mk 2) with
    | some f => some f
    | none =>
      if e.t.budget 17 ≠ 32 then some (mk 3 17)
      else if 1875 < (rs.map e.t.budget).sum then
        some (mk 4 ((rs.find? (fun r => decide (e.s.budget r < e.t.budget r))).getD 0))
      else none

def ruleAssign (e : CheckEnv) : Option Failure :=
  let mk (n : Nat) : Failure := { rule := 0x0301, skind := 10, subject := n, item := itemAt e.items (fun i => decide (i.kind = 5)) }
  match firstBad (List.range 4) (fun n => decide ((if e.t.rung = 0 then 16 else 32) < e.t.onLoopEngine n)) mk with
  | some f => some f
  | none => firstBad [0, 1] (fun n => decide (64 < e.t.onProfEngine n)) (fun n => mk (4 + n))

/-- Profile window in 10 ns (R138). -/
def peWindow (rung : Nat) : Nat := [887, 1775, 4900, 11150, 23650].getD rung 0

/-- Fixed load of a profile engine in 10 ns, plans included (R138, R163). -/
def State.peFixed (s : State) (e : Nat) : Nat :=
  9 * s.onProfEngine e + 250 +
    ((List.range 16).map (fun g => match s.members g with
      | [] => 0
      | a :: rest => if s.profEngine a = e then 4 + 3 * (rest.length + 1) else 0)).sum

/-- The inequality of R138 holds with `more` 10 ns of further load. -/
def State.peFits (s : State) (e more : Nat) : Bool :=
  decide (2 * (s.peFixed e + more) ≤ 2 * peWindow s.rung + (if s.rung = 0 then 1 else 0))

def rulePeLoad (e : CheckEnv) : Option Failure :=
  firstBad [0, 1] (fun n => !e.t.peFits n 0) (fun n =>
    { rule := 0x0302, skind := 10, subject := 4 + n, item := itemAt e.items (fun i => decide (i.kind = 5)) })

/-- The period count of a power stage exceeds 16 bits (R56). -/
def longCount (rung : Nat) (cfg : Reg32) : Bool :=
  let p := tcycNs rung / 2 / kmul (bits cfg 2 2)
  decide (65535 < if bits cfg 1 1 = 0 then p / 2 else p)

/-- Remote registers staged for BLOCK `blk` and ADDR 0, with node and local axis. -/
def State.remoteCfgs (s : State) (blk : Nat) : List (Nat × Nat × Reg32) :=
  s.stage.inForce.remote.filterMap (fun e => e.2.bind (fun v =>
    if e.1 % 4 = blk ∧ e.1 / 4 % 2 ^ 16 = 0 then some (e.1 / 2 ^ 26, e.1 / 2 ^ 18 % 256, v) else none))

def ruleCount (e : CheckEnv) : Option Failure :=
  match firstBad (List.range 4) (fun k => longCount e.t.rung (e.t.reg (R.pwmCfg k))) (fun k => e.onReg 0x0401 2 k (R.pwmCfg k) 4) with
  | some f => some f
  | none => firstBad (e.t.remoteCfgs 0) (fun q => longCount e.t.rung q.2.2) (fun q => e.onKind 0x0401 5 q.1 10 q.1)

/-! ### Groups 0x05 and 0x06: lanes and schedule -/

/-- Lanes this conductor leads. -/
def CheckEnv.lanes (e : CheckEnv) : List Nat := (List.range 4).filter (fun n => e.t.ledLine n)

def ruleDeparture (e : CheckEnv) : Option Failure :=
  firstBad e.lanes (fun n => (e.t.lineNodes n).any (fun m => match (e.t.noderec m).record with
    | some r => decide (e.t.departNs n + 200 < r.sincDly + 100)
    | none => false)) (fun n => e.onKind 0x0501 4 n 6 n)

/-- Node and axis caps of a central-closure lane (R61). -/
def capNodes (rung : Nat) : Nat := [4, 8, 16, 32, 64].getD rung 64
def capAxes (rung : Nat) : Nat := [16, 32, 64, 128, 128].getD rung 128

def ruleCaps (e : CheckEnv) : Option Failure :=
  firstBad e.lanes (fun n => !e.t.laneSplit n && (decide (capNodes e.t.rung < (e.t.lineNodes n).length) ||
    decide (capAxes e.t.rung < ((e.t.laneEntries n).filter (fun p => decide (p.2 ≠ 0xFF))).length)))
    (fun n => e.onKind 0x0502 4 n 9 n)

def ruleTrip (e : CheckEnv) : Option Failure :=
  firstBad e.lanes (fun n => !e.t.laneSplit n && !(e.t.linePorts n).all (fun p => e.t.roundTripOk n p))
    (fun n => e.onKind 0x0503 4 n 6 n)

def ruleScatter (e : CheckEnv) : Option Failure :=
  firstBad e.lanes (fun n => !e.t.laneSplit n && !(e.t.linePorts n).all (fun p => e.t.scatterOk n p))
    (fun n => e.onKind 0x0504 4 n 6 n)

def ruleSplit (e : CheckEnv) : Option Failure :=
  firstBad e.lanes (fun n => e.t.laneSplit n && (decide (64 < (e.t.lineNodes n).length) ||
    !(e.t.linePorts n).all (fun p => e.t.roundTripOk n p && e.t.scatterOk n p))) (fun n => e.onKind 0x0505 4 n 6 n)

def ruleRing (e : CheckEnv) : Option Failure :=
  firstBad (List.range 4) (fun n => decide (e.t.laneMode n = 2) &&
    (decide (n % 2 = 1) || decide (e.t.laneMode (n + 1) ≠ 0))) (fun n => e.onReg 0x0506 4 n (R.bbCfg n) 4)

def ruleSlow (e : CheckEnv) : Option Failure :=
  firstBad (List.range 4) (fun n => decide (e.t.departNs n < 2500) ||
    (e.t.ledLine n && !(e.t.linePorts n).all (fun p => e.t.slowOk n p))) (fun n => e.onKind 0x0507 4 n 6 n)

/-- Departure offsets of branch lanes (R333). Of its uplink path this conductor measures the first link; the sums over what lies beyond it
are a free value (log entry 143). -/
def ruleBranch (e : CheckEnv) : Option Failure :=
  match e.t.bb.uplink with
  | some u =>
    firstBad e.lanes (fun n => decide (((e.t.departNs n : Nat) : Rat) <
      (e.t.departNs u : Nat) + 450 + 90 + ((e.t.lane u).delayNs).getD 150 + (Config.uplinkRest : Nat) + 200)) (fun n => e.onKind 0x0508 4 n 6 n)
  | none => none

def ruleFrame (e : CheckEnv) : Option Failure :=
  firstBad e.lanes (fun n => decide (524280 < e.t.gatherLen n) || decide (524280 < e.t.scatterLen n) ||
    decide (524280 < e.t.slowLen n)) (fun n => { rule := 0x0602, skind := 4, subject := n })

/-- A node lacks the rung, or the PWM multiple or feedback format one of its axes is given. -/
def CheckEnv.nodeLacks (e : CheckEnv) (m : Nat) : Bool :=
  match (e.t.noderec m).record with
  | some r =>
    decide (r.rungs / 2 ^ e.t.rung % 2 = 0) ||
    (e.t.remoteCfgs 0).any (fun q => decide (q.1 = m) &&
      decide ((r.axisFmt.getD q.2.1 (0, 0)).2 / kmul (bits q.2.2 2 2) % 2 = 0)) ||
    (e.t.remoteCfgs 1).any (fun q => decide (q.1 = m) && decide (bits q.2.2 0 3 ≠ 0) &&
      decide ((r.axisFmt.getD q.2.1 (0, 0)).1 / 2 ^ (bits q.2.2 0 3 - 1) % 2 = 0))
  | none => false

def ruleMember (e : CheckEnv) : Option Failure :=
  firstBad (e.t.slots.map (fun p => p.1)) e.nodeLacks (fun m => e.onKind 0x0603 5 m 10 m)

/-- R325 item 4: a KIND 9 item gives a node number that another item, or a slot in force that the set does not remove, gives on
another lane. -/
def ruleTwice (e : CheckEnv) : Option Failure :=
  let given := e.items.filter (fun i => decide (i.kind = 9) && decide (i.value.toNat % 2 ^ 64 ≠ 0))
  let kept := e.s.slots.filter (fun p => !e.items.any (fun i => decide (i.kind = 9) && decide (i.a = p.1) && decide (i.b = p.2)))
  firstBad (List.range 256) (fun n =>
    decide (2 ≤ (given.filter (fun i => decide (i.a = n))).length +
      (kept.filter (fun p => decide (p.1 = n) && given.any (fun i => decide (i.a = n)))).length))
    (fun n => e.onKind 0x0604 5 n 9 n)

/-- A block has a producer: this conductor, a node or member conductor that one of its lanes reaches, or, where this conductor is a member
itself, one beyond its uplink (R325 case 5; log entry 142). -/
def State.hasProducer (t : State) (p : Nat) : Bool :=
  decide (p < 260) && (decide (p = 256 + t.bb.number) || (t.carrier p).isSome || t.bb.uplink.isSome)

def ruleBlocks (e : CheckEnv) : Option Failure :=
  match firstBad e.t.blocks (fun p => !(e.t.hasProducer p.2.producer) || decide (8 ^ p.2.cls ≤ p.2.phase)) (fun p => e.onKind 0x0605 6 p.1 7 p.1) with
  | some f => some f
  | none =>
    firstBad e.t.stage.inForce.consumed (fun p => (e.t.blockDesc p.2).isNone ||
      !(e.t.slots.any (fun q => decide (q.1 = p.1)))) (fun p => e.onKind 0x0605 6 p.2 8 p.1)

/-- A node admitted from a Skegil identity record has no safety support. -/
def ruleSafety (e : CheckEnv) : Option Failure :=
  firstBad (e.t.slots.map (fun p => p.1)) (fun m => (e.t.noderec m).skegil && !(e.t.nodeSafAxes m).isEmpty)
    (fun m => e.onKind 0x0606 5 m 9 m)

/-! ### Group 0x07: buoys (R74) -/

def State.byWidthNs (s : State) (b : Nat) : Nat := 2 * s.fld (R.byWidth b) 0 16

/-- Buoy `b` drives its pin. -/
def State.byDrives (s : State) (b : Nat) : Bool := s.bit (R.byCfg b) 17 && s.bit (R.byCfg b) 26

def ruleBuoys (e : CheckEnv) : Option Failure :=
  let t := e.t
  let on := (List.range 8).filter (fun b => t.bit (R.byCfg b) 17)
  let mk (n b : Nat) : Failure :=
    { rule := 0x0700 + n, skind := 8, subject := b,
      item := itemAt e.items (fun i => decide (i.kind = 2) && (decide (i.b = R.byCfg b) || decide (i.b = R.byWidth b))) }
  match firstBad on (fun b => decide (tcycNs t.rung ≤ t.byOffsetNs b)) (mk 1) with
  | some f => some f
  | none =>
    match firstBad on (fun b => t.bit (R.byCfg b) 19 && decide (11 < t.fld (R.byCfg b) 20 4)) (mk 2) with
    | some f => some f
    | none =>
      match firstBad on (fun b => decide (2 ^ t.fld (R.byCfg b) 29 3 * tcycNs t.rung ≤ t.byWidthNs b)) (mk 3) with
      | some f => some f
      | none =>
        firstBad on (fun b => t.byDrives b && on.any (fun c => t.byDrives c &&
          decide (t.fld (R.byCfg c) 27 2 = t.fld (R.byCfg b) 27 2) &&
          (decide (t.byWidthNs b = 0) != decide (t.byWidthNs c = 0)))) (mk 4)

/-! ### Group 0x08: loop PNs (R107) -/

/-- S* PNs that the set changes on an axis that is enabled at the commit's φ0. -/
def ruleStar (e : CheckEnv) : Option Failure :=
  e.t.axisNos.findSome? (fun a =>
    if (e.s.axis a).engaged e.at_ then
      (allPns.find? (fun d => decide (d.cls = .sStar) && decide ((e.s.axis a).raw d.pn ≠ (e.t.axis a).raw d.pn))).map
        (fun d => e.onPn 0x0802 a d.pn)
    else none)

/-- Filters as (bit of FILT_MODE, PN of F, first coefficient PN). -/
def filters : List (Nat × Nat × Nat) := [(0, Pn.n1F, Pn.n1B0), (1, Pn.n2F, Pn.n2B0), (2, Pn.lpfF, Pn.lpfB0)]

/-- T_v of an axis in seconds. -/
def State.tv (s : State) (x : Axis) : Rat := tcycS s.rung * x.int Pn.nv

/-- Rules 4, 5 and 8 of R107 on one axis. -/
def Axis.rule4 (x : Axis) : Option Nat :=
  firstPn [(decide (x.int Pn.ctrlMode = 0) && decide (x.int Pn.fbSrc = -1), Pn.ctrlMode)]
def Axis.rule5 (x : Axis) : Option Nat :=
  firstPn [(decide (gq 1 < x.raw Pn.modLimit) && decide (x.int Pn.overmod ≠ 1), Pn.modLimit)]
def Axis.rule8 (x : Axis) : Option Nat :=
  firstPn [(decide (x.raw Pn.iFs < x.raw Pn.iMax), Pn.iMax), (decide (x.raw Pn.idRef < -(x.raw Pn.iMax)), Pn.idRef)]

def ruleClosure (e : CheckEnv) : Option Failure :=
  e.axisRule 0x0803 (fun a =>
    firstPn [(decide ((e.t.axis a).int Pn.closure = 1) && !((e.t.axis a).remote && e.t.nodeOffers a 0), Pn.closure)])

def ruleFilters (e : CheckEnv) : Option Failure :=
  e.axisRule 0x0806 (fun a =>
    let x := e.t.axis a
    firstPn (filters.flatMap (fun f =>
      [(x.flag Pn.filtMode f.1 && decide (9 / 20 < x.g f.2.1 * e.t.tv x), f.2.1),
       (x.flag Pn.filtMode f.1 && decide (f.1 < 2) && decide (x.raw f.2.1 < x.raw (f.2.1 + 1)), f.2.1 + 1)])))

def ruleCoeffs (e : CheckEnv) : Option Failure :=
  e.axisRule 0x0807 (fun a =>
    let x := e.t.axis a
    let raw := x.flag Pn.filtMode 3
    let staged (pn : Nat) : Bool := e.items.any (fun i => decide (i.kind = 1) && decide (i.a = a) && decide (i.b = pn))
    firstPn ((List.range 15).map (fun i => (!raw && staged (0x0220 + i), 0x0220 + i)) ++
      filters.map (fun f => (raw && x.flag Pn.filtMode f.1 &&
        !(decide (|x.raw (f.2.2 + 4)| < gq 1) && decide (|x.raw (f.2.2 + 3)| < gq 1 + x.raw (f.2.2 + 4))), f.2.2 + 4))))

/-! ### Group 0x09: supervision (R119) -/

/-- Reactions allowed for a source (R129), bit per code. -/
def allowedReactions (src : Nat) : Nat :=
  [0x3F, 0x39, 0x38, 0x38, 0x28, 0x38, 0x3E, 0x0F, 0x01, 0x38, 0x3F, 0x28, 0x3F, 0x3F, 0x38, 0x28, 0x3E, 0x28, 0x2E,
   0x3E].getD src 0

/-- Servo axis `a` is a safety axis of the sealed or confirmed set. -/
def State.confirmedSafAxis (s : State) (a : Nat) : Bool :=
  match s.selectedSet with
  | some st => s.setGood s.saf.chA.sw st && (List.range 32).any (fun sx => match st.rec? sx with
      | some r => decide (r.axis = a)
      | none => false)
  | none => false

def Axis.supv1 (x : Axis) : Option Nat :=
  firstPn [(decide (x.int Pn.supvMode = 0) && decide (x.int Pn.ctrlMode = 2), Pn.supvMode)]
def Axis.supv2 (x : Axis) : Option Nat :=
  firstPn [(decide (x.int Pn.supvMode ≠ 0) && decide (x.raw Pn.mM = 0), Pn.mM)]
def Axis.supv3 (x : Axis) : Option Nat :=
  firstPn [(decide (0 < x.raw Pn.mL) && decide (x.raw Pn.kS = 0), Pn.kS)]
def Axis.supv4 (x : Axis) : Option Nat :=
  firstPn ((List.range 20).map (fun src =>
    (decide (x.int (Pn.fr + src) < 0) || decide (5 < x.int (Pn.fr + src)) ||
      decide (allowedReactions src / 2 ^ (x.int (Pn.fr + src)).toNat % 2 = 0), Pn.fr + src)))
def State.supv5 (s : State) (a : Nat) : Option Nat :=
  if s.confirmedSafAxis a then none
  else firstPn ((List.range 20).map (fun src => (decide ((s.axis a).int (Pn.fr + src) = 5), Pn.fr + src)))

/-! ### Group 0x0A: profiles (R158) -/

def Axis.prof1 (x : Axis) : Option Nat := firstPn [(decide (x.raw Pn.vMax < x.raw Pn.profV), Pn.profV)]

def ruleSource (e : CheckEnv) : Option Failure :=
  e.axisRule 0x0A02 (fun a => firstPn [(decide ((e.s.axis a).raw Pn.profSrc ≠ (e.t.axis a).raw Pn.profSrc) &&
    ((e.s.axis a).holdsWork || decide ((e.s.axis a).prof = .stopping)), Pn.profSrc)])

/-- Kind of the block that holds signal `sg`. -/
def State.sigKind (s : State) (sg : Int) : Option Nat := if sg < 0 then none else (s.sigBlock sg.toNat).map (fun d => d.kind)

def ruleStream (e : CheckEnv) : Option Failure :=
  e.axisRule 0x0A03 (fun a =>
    let x := e.t.axis a
    if x.streamed = false then none
    else firstPn [
      (decide (x.int Pn.ctrlMode ≠ 3) &&
        decide (e.t.sigKind (x.int Pn.streamSig) ≠ some (if x.int Pn.ctrlMode = 2 then 2 else 3)), Pn.streamSig),
      (decide (0 ≤ x.int Pn.streamVsig) && decide (e.t.sigKind (x.int Pn.streamVsig) ≠ some 3), Pn.streamVsig),
      (decide (0 ≤ x.int Pn.streamSeqSig) && (e.t.sigKind (x.int Pn.streamSeqSig)).isNone, Pn.streamSeqSig)])

def ruleStreamCurve (e : CheckEnv) : Option Failure :=
  e.axisRule 0x0A04 (fun a => firstPn [((e.t.axis a).streamed && decide ((e.t.axis a).int Pn.ctrlMode = 3), Pn.profSrc)])

/-! ### Group 0x0B: coordination (R164, R175, R187) -/

def ruleGroupSize (e : CheckEnv) : Option Failure :=
  (List.range 16).findSome? (fun g => ((e.t.members g)[16]?).map (fun a => e.onPn 0x0B01 a Pn.group))

def ruleGroupEngine (e : CheckEnv) : Option Failure :=
  (List.range 16).findSome? (fun g => match e.t.members g with
    | [] => none
    | a :: rest => (rest.find? (fun b => decide (e.t.profEngine b ≠ e.t.profEngine a))).map (fun b => e.onPn 0x0B02 b Pn.group))

/-- A group has a move executing, stopping, suspended or queued. -/
def Group.busy (g : Group) : Bool := g.cur.isSome || !g.queue.isEmpty

def ruleGroupBusy (e : CheckEnv) : Option Failure :=
  e.axisRule 0x0B03 (fun a =>
    let g := (e.s.axis a).int Pn.group
    firstPn [(decide (g ≠ (e.t.axis a).int Pn.group) && decide (0 ≤ g) && (e.s.group g.toNat).busy, Pn.group)])

/-- Words of the pool a cam table takes (R174). -/
def CamTable.words (c : CamTable) : Nat := c.ys.length + 8

/-- A function of master travel uses cam table `n`. -/
def SlaveFn.usesCam (n : Nat) : SlaveFn → Bool
  | .cam t _ _ _ => decide (t = n)
  | .blend o w _ _ => o.usesCam n || w.usesCam n
  | _ => false

def State.camInUse (s : State) (n : Nat) : Bool :=
  s.axisNos.any (fun a =>
    (match (s.axis a).coupling with
     | some c => c.fn.usesCam n
     | none => false) ||
    (s.axis a).reqs.any (fun r => match r.what with
      | .camOn _ _ table _ _ _ _ _ => decide (table = n)
      | _ => false))

def ruleCams (e : CheckEnv) : Option Failure :=
  let cams := e.t.stage.inForce.cams.filterMap (fun p => p.2.map (fun c => (p.1, c)))
  let changed := (e.items.filter (fun i => decide (i.kind = 11))).map (fun i => i.a)
  match firstBad cams (fun p => decide (p.2.ys.length < 4)) (fun p => e.onKind 0x0B04 9 p.1 11 p.1) with
  | some f => some f
  | none =>
    if 114688 < (cams.map (fun p => p.2.words)).sum then
      some (e.onKind 0x0B04 9 (changed.headD 0) 11 (changed.headD 0))
    else firstBad changed (fun n => e.s.camInUse n) (fun n => e.onKind 0x0B04 9 n 11 n)

def ruleSwitch (e : CheckEnv) : Option Failure :=
  e.axisRule 0x0B05 (fun a =>
    firstPn ([Pn.limPosSrc, Pn.limNegSrc, Pn.homeSrc].map (fun pn =>
      (decide (16 ≤ (e.t.axis a).int pn) && decide (e.t.sigKind ((e.t.axis a).int pn - 16) ≠ some 0), pn))))

/-! ### Group 0x0C: feedback ports (R193) -/

/-- A field of port `k` lies outside its table. -/
def State.fbRangeBad (s : State) (k : Nat) : Bool :=
  let f := s.fld
  decide (4 < f (R.fbCfg k) 0 3) ||
  decide (f (R.fbSsi k) 0 7 < 8) || decide (64 < f (R.fbSsi k) 0 7) ||
  decide (f (R.fbSsi k) 8 6 < 8) || decide (38 < f (R.fbSsi k) 8 6) ||
  decide (f (R.fbSsi k) 0 7 < f (R.fbSsi k) 8 6 + f (R.fbSsi k) 14 6) || decide (4 < f (R.fbSsi k) 20 3) ||
  (decide (f (R.fbSsi k) 23 1 = 1) && decide (f (R.fbSsi k) 14 6 = 0)) || decide (f (R.fbSsi k) 25 4 = 0) ||
  decide (f (R.fbSc k) 8 8 ≤ f (R.fbSc k) 0 8) || decide (f (R.fbSc k) 16 4 = 0) ||
  decide (f (R.fbScGain k) 0 16 < 0x2000) || decide (0x8000 < f (R.fbScGain k) 0 16) ||
  decide (2 < f (R.fbEmuCfg k) 0 2) || decide (f (R.fbEmuCfg k) 16 16 = 0) ||
  decide (f (R.fbEmuN k) 0 24 = 0) || decide (f (R.fbEmuM k) 0 24 < f (R.fbEmuN k) 0 24) ||
  decide (f (R.fbEmuN k) 24 8 < 12) || decide (f (R.fbEmuM k) 0 24 = 0) || decide (f (R.fbEmuStep k) 0 16 = 0)

/-- CFG, LINES, SSI, SSI2, SC, SC_OFFS and SC_GAIN of port `k`. -/
def fbFields (k : Nat) : List Nat :=
  [R.fbCfg k, R.fbLines k, R.fbSsi k, R.fbSsi2 k, R.fbSc k, R.fbScOffs k, R.fbScGain k]

/-- The frame of an SSI port fits before the gather-back instant (R202). -/
def State.ssiFits (s : State) (k : Nat) : Bool :=
  let loopNs : Nat := if (s.fbp k).loopMeasured then 2 * s.fld (R.fbSsiLoop k) 0 12 else 2000
  decide (loopNs + (s.fld (R.fbSsi k) 0 7 + 1) * (100 * 2 ^ s.fld (R.fbSsi k) 20 3) + 300 ≤ gatherBackNs s.rung)

def rulePorts (e : CheckEnv) : Option Failure :=
  let ks := List.range 4
  let mk (n k : Nat) : Failure := e.onReg (0x0C00 + n) 2 k (R.fbCfg k) 0x100
  let users (k : Nat) : List Nat := e.used.filter (fun a => decide ((e.t.axis a).int Pn.fbSrc = (k : Int)))
  match firstBad ks (fun k => e.t.fbRangeBad k) (mk 1) with
  | some f => some f
  | none =>
    match firstBad ks (fun k => (fbFields k).any (fun o => e.s.reg o != e.t.reg o) &&
        e.s.axisNos.any (fun a => (e.s.axis a).engaged e.at_ && decide ((e.s.axis a).int Pn.fbSrc = (k : Int)))) (mk 2) with
    | some f => some f
    | none =>
      match firstBad (List.range 5) (fun k => if k = 4 then
          e.used.any (fun a => (e.t.axis a).localPort.isSome && decide ((e.t.axis a).int Pn.fbSrc = 4))
        else decide (2 ≤ (users k).length) || (!(users k).isEmpty && decide (e.t.fbMode k = 0))) (fun k =>
          if k = 4 then { rule := 0x0C03, skind := 2, subject := 4, item := itemAt e.items (fun i =>
            decide (i.kind = 1) && decide (i.b = Pn.fbSrc) && decide (i.value = 4 * 2 ^ 48)) } else mk 3 k) with
      | some f => some f
      | none =>
        match firstBad ks (fun k => decide (e.t.fbMode k = 3) && !e.t.ssiFits k) (mk 4) with
        | some f => some f
        | none =>
          firstBad ks (fun k => decide (e.t.fld (R.fbEmuCfg k) 0 2 ≠ 0) &&
            decide (e.t.fbMode (e.t.fld (R.fbEmuCfg k) 2 2) = 0)) (mk 5)

/-! ### Group 0x0D: power stage (R243, R221, R222) -/

/-- Rules 2, 4 and 5 of R243 on one axis. -/
def Axis.power2 (x : Axis) : Option Nat :=
  firstPn [
    (decide (x.raw Pn.chopOff ≤ x.raw Pn.udcMin), Pn.chopOff), (decide (x.raw Pn.chopOn ≤ x.raw Pn.chopOff), Pn.chopOn),
    (decide (x.raw Pn.ovWarn - x.raw Pn.regenBand < x.raw Pn.chopOn), Pn.ovWarn),
    (decide (x.raw Pn.ovWarn ≤ x.raw Pn.ovWarn - x.raw Pn.regenBand), Pn.regenBand),
    (decide (x.raw Pn.ovTrip ≤ x.raw Pn.ovWarn), Pn.ovTrip),
    (decide (min (x.raw Pn.uFs) (x.raw Pn.usensFs) < x.raw Pn.ovTrip), Pn.ovTrip),
    (decide (x.raw Pn.isensFs < x.raw Pn.iFs), Pn.iFs)]
def Axis.power4 (x : Axis) : Option Nat :=
  if x.int Pn.fbSrc ≠ -1 then none
  else firstPn [
    (decide (x.int Pn.ctrlMode ≠ 1) && decide (x.int Pn.ctrlMode ≠ 3), Pn.ctrlMode),
    (decide (x.int Pn.flyMode ≤ 1), Pn.flyMode), (decide (x.raw Pn.psiPm = 0), Pn.psiPm),
    (decide (x.raw Pn.lD = 0), Pn.lD), (decide (x.raw Pn.startI = 0), Pn.startI)]
def Axis.power5 (x : Axis) : Option Nat :=
  firstPn [(decide (x.int Pn.ctrlMode = 3) && decide (x.int Pn.curveSrc = -1), Pn.curveSrc),
    (decide (x.raw Pn.curveOn ≤ x.raw Pn.curveOff), Pn.curveOff)]

def State.sdmEn (s : State) (c : Nat) : Bool := s.bit (R.sdmCfg c) 0

def ruleSdmRange (e : CheckEnv) : Option Failure :=
  firstBad (List.range 16) (fun c => decide (e.t.fld (R.sdmCfg c) 2 2 = 3) || decide (24 < e.t.fld (R.sdmCfg c) 8 5))
    (fun c => e.onReg 0x0D01 11 c (R.sdmCfg c) 0x20)

def rulePower3 (e : CheckEnv) : Option Failure :=
  e.axisRule 0x0D03 (fun a =>
    let x := e.t.axis a
    match x.localPort with
    | some k => firstPn [
        (e.used.any (fun b => decide (b ≠ a) && decide ((e.t.axis b).localPort = some k)), Pn.powerPort),
        (!(e.t.sdmEn (2 * k) && e.t.sdmEn (2 * k + 1)), Pn.powerPort)]
    | none => firstPn [(decide (x.int Pn.chopEn = 1), Pn.chopEn)])

/-- Channel `c` serves axis `x` with local port `k`. -/
def Axis.servedBy (x : Axis) (c : Nat) : Bool :=
  match x.localPort with
  | some k => decide (c = 2 * k) || decide (c = 2 * k + 1) || decide (c = x.busChannel k)
  | none => false

def rulePower6 (e : CheckEnv) : Option Failure :=
  let mk (c : Nat) : Failure := e.onReg 0x0D06 11 c (R.sdmCfg c) 4
  match firstBad (List.range 16) (fun c => e.t.sdmEn c && e.used.any (fun a => (e.t.axis a).servedBy c) && decide (gatherBackNs e.t.rung <
      e.t.sincNs c + 300 + (if e.t.rung = 0 then 25 else 0))) mk with
  | some f => some f
  | none =>
    firstBad (List.range 16) (fun c => decide (e.s.fld (R.sdmCfg c) 0 4 ≠ e.t.fld (R.sdmCfg c) 0 4) &&
      e.s.axisNos.any (fun a => (e.s.axis a).engaged e.at_ && (e.s.axis a).servedBy c)) mk

/-- A chopper is enabled on local port `k`: an axis of the port has CHOP_EN = 1. -/
def State.chopEnabled (s : State) (k : Nat) : Bool :=
  s.axisNos.any (fun a => decide ((s.axis a).localPort = some k) && decide ((s.axis a).int Pn.chopEn = 1))

def rulePower7 (e : CheckEnv) : Option Failure :=
  firstBad (List.range 16) (fun c =>
    (e.t.bit (R.sdmCmpCfg c) 1 && (decide (12 ≤ c) || (decide (8 ≤ c) && e.t.chopEnabled (c - 8)))) ||
    (e.t.sdmEn c && !e.t.bit R.sdmClk (c / 8))) (fun c => e.onReg 0x0D07 11 c (R.sdmCfg c) 0x20)

/-! ### Group 0x0E: PWM (R261) -/

def State.portEngaged (s : State) (k c : Nat) : Bool :=
  s.axisNos.any (fun a => (s.axis a).engaged c && decide ((s.axis a).localPort = some k))

def rulePwm (e : CheckEnv) : Option Failure :=
  let ks := List.range 4
  let mk (n k : Nat) : Failure := e.onReg (0x0E00 + n) 2 k (R.pwmCfg k) 0xC
  let mkc (n c : Nat) : Failure := e.onReg (0x0E00 + n) 3 (4 + c) (R.chCfg c) 0x10
  let ps := fun (o lo w : Nat) => decide (e.s.fld o lo w ≠ e.t.fld o lo w)
  match firstBad ks (fun k => decide (e.t.fld (R.pwmCfg k) 2 2 = 3)) (mk 1) with
  | some f => some f
  | none =>
  match firstBad ks (fun c => decide (e.t.fld (R.chCfg c) 1 2 = 3) || decide (0x10000 < e.t.fld (R.chDuty c) 0 17)) (mkc 1) with
  | some f => some f
  | none =>
  match firstBad ks (fun k => decide (tcycNs e.t.rung / 2 / kmul (e.t.fld (R.pwmCfg k) 2 2) ≤
      e.t.fld (R.pwmDt k) 0 11 + e.t.fld (R.pwmDt k) 16 11 + 2 * e.t.fld (R.pwmMinp k) 0 11)) (mk 2) with
  | some f => some f
  | none =>
  match firstBad ks (fun k => e.s.portEngaged k e.at_ && (ps (R.pwmCfg k) 1 3 || ps (R.pwmCfg k) 9 2 || ps (R.pwmDt k) 0 32 ||
      ps (R.pwmMinp k) 0 32)) (mk 3) with
  | some f => some f
  | none =>
  match firstBad ks (fun k => ps (R.pwmCfg k) 7 2 && (e.s.bit (R.pwmCfg k) 0 || e.t.bit (R.pwmCfg k) 0)) (mk 4) with
  | some f => some f
  | none =>
  match firstBad ks (fun k => e.t.bit (R.pwmCfg k) 6 && e.s.portEngaged k e.at_) (mk 5) with
  | some f => some f
  | none =>
    firstBad ks (fun c =>
      let cfg := e.t.reg (R.chCfg c)
      decide (bits cfg 0 1 = 1) &&
        ((decide (bits cfg 3 1 = 1) && decide (bits cfg 1 2 = 2) && !e.t.bit (R.sdmCmpCfg (12 + bits cfg 4 2)) 0) ||
         (decide (bits cfg 3 1 = 0) && !e.t.chopEnabled c) ||
         ((decide (bits cfg 1 2 = 1) || decide (bits cfg 1 2 = 2)) &&
            (decide (e.t.fld (R.chTon c) 0 16 = 0) || decide (e.t.fld (R.chToff c) 0 16 = 0))))) (mkc 6)

/-! ### The whole check -/

/-- Every rule of R369, in its order. -/
def checkRules : List (CheckEnv → Option Failure) := [
  ruleTargets, ruleEmpty, ruleLantern, ruleValues, ruleBudget, ruleAssign, rulePeLoad, ruleCount,
  ruleDeparture, ruleCaps, ruleTrip, ruleScatter, ruleSplit, ruleRing, ruleSlow, ruleBranch,
  ruleFrame, ruleMember, ruleTwice, ruleBlocks, ruleSafety, ruleBuoys,
  ruleRange 0x0801, ruleStar, ruleClosure, fun e => e.axisRule 0x0804 (fun a => (e.t.axis a).rule4),
  fun e => e.axisRule 0x0805 (fun a => (e.t.axis a).rule5), ruleFilters, ruleCoeffs,
  fun e => e.axisRule 0x0808 (fun a => (e.t.axis a).rule8),
  fun e => e.axisRule 0x0901 (fun a => (e.t.axis a).supv1), fun e => e.axisRule 0x0902 (fun a => (e.t.axis a).supv2),
  fun e => e.axisRule 0x0903 (fun a => (e.t.axis a).supv3), fun e => e.axisRule 0x0904 (fun a => (e.t.axis a).supv4),
  fun e => e.axisRule 0x0905 (fun a => e.t.supv5 a), fun e => e.axisRule 0x0A01 (fun a => (e.t.axis a).prof1),
  ruleSource, ruleStream, ruleStreamCurve, ruleGroupSize, ruleGroupEngine, ruleGroupBusy, ruleCams, ruleSwitch,
  rulePorts, ruleRange 0x0D01, ruleSdmRange, fun e => e.axisRule 0x0D02 (fun a => (e.t.axis a).power2), rulePower3,
  fun e => e.axisRule 0x0D04 (fun a => (e.t.axis a).power4), fun e => e.axisRule 0x0D05 (fun a => (e.t.axis a).power5),
  rulePower6, rulePower7, rulePwm ]

/-- The check of a stage set for a commit at φ0 of cycle `c`: its first failure, or none (R368). -/
def State.checkItems (s : State) (items : List StageItem) (c : Nat) : Option Failure :=
  firstRule checkRules ⟨s, s.withItems items, items, c⟩

/-- DETAIL of a failed check, and its extended result (R368). -/
def Failure.detail (f : Failure) : Nat := f.rule % 2 ^ 16 + f.subject % 2 ^ 16 * 2 ^ 16

def Failure.bytes (f : Failure) : List Byte :=
  fitBytes 64 (leBytes 2 f.rule ++ leBytes 1 f.skind ++ leBytes 1 0 ++ leBytes 4 f.subject ++ leBytes 2 f.pn ++ leBytes 2 0 ++
    leBytes 4 f.item)

/-! ### Direct writes (R108) -/

/-- Axis `a` with every accepted direct write that has not yet taken effect (R108). -/
def State.axisAhead (s : State) (a : Nat) : Axis :=
  (s.stage.direct.filter (fun d => decide (d.2.1 = a))).foldl (fun x d => x.write d.2.2.1 d.2.2.2) (s.axis a)

/-- Rule code that a direct write of `ws` on axis `a` breaks, in the order of R369. The range of a PN is judged where the PN itself is
written: whether a write that moves the end of another PN's range past its value is refused is left open (DESIGN CHOICE, log entry
195). -/
def State.directFails (s : State) (a : Nat) (ws : List (Nat × Int)) : Option Nat :=
  let x := ws.foldl (fun x w => x.write w.1 w.2) (s.axisAhead a)
  let t := s.setAxis a x
  let rangeBad (rule : Nat) : Bool := ws.any (fun w => match pnDesc? w.1 with
    | some d => decide (rangeRule d.pn = rule) && decide (rule ≠ 0x0904) && !pnInRange x.raw d w.2
    | none => false)
  let rules : List (Nat × Bool) := [
    (0x0104, rangeBad 0x0104), (0x0801, rangeBad 0x0801), (0x0805, x.inUse && x.rule5.isSome),
    (0x0808, x.inUse && x.rule8.isSome), (0x0901, x.inUse && x.supv1.isSome), (0x0902, x.inUse && x.supv2.isSome),
    (0x0903, x.inUse && x.supv3.isSome), (0x0904, x.inUse && x.supv4.isSome), (0x0905, x.inUse && (t.supv5 a).isSome),
    (0x0A01, x.inUse && ws.any (fun w => [Pn.profV, Pn.profA, Pn.profJ].contains w.1) && x.prof1.isSome),
    (0x0D01, rangeBad 0x0D01), (0x0D02, x.inUse && x.power2.isSome),
    (0x0D04, x.inUse && x.power4.isSome), (0x0D05, x.inUse && x.power5.isSome)]
  (rules.find? (fun r => r.2)).map (fun r => r.1)

end Sys2Proof.Machine
end

