-- ==== Sys2Proof/Machine/Stage.lean ====
section
/-!
DEFINITION. Stage sets and the start of a commit (R365 to R374, R376), direct parameter writes and parameter reads (R105,
R108, R109), and the journal's writes (R378 to R383, R388 to R391).
-/

namespace Sys2Proof.Machine

open Sys2Proof

/-! ### Stage sets (R365 to R367) -/

def State.stageSet (s : State) (n : Nat) : StageSet := s.stage.sets.getD n {}

def State.setStage (s : State) (n : Nat) (x : StageSet) : State :=
  { s with stage := { s.stage with sets := s.stage.sets.set n x } }

/-- Items of the pool in use, of 4,096. -/
def State.itemsUsed (s : State) : Nat := (s.stage.sets.map (fun x => x.items.length)).sum

/-- Two items name the same target (R366). -/
def StageItem.same (x y : StageItem) : Bool :=
  decide (x.kind = y.kind) && decide (x.a = y.a) && decide (x.b = y.b)

/-- An item enters a set in place of the one that names its target. -/
def addItem (items : List StageItem) (it : StageItem) : List StageItem :=
  if items.any (fun x => x.same it) then items.map (fun x => if x.same it then it else x) else items ++ [it]

/-- An item as its 32 bytes spell it, and whether its zero fields are zero (R366). -/
def parseItem (bs : List Byte) : StageItem × Bool :=
  let it : StageItem := ⟨field bs 0 1, field bs 2 2, field bs 4 4, BitVec.ofNat 72 (field bs 16 9)⟩
  (it, decide (field bs 1 1 = 0) && decide (field bs 8 8 = 0) &&
    (if it.kind = 1 ∨ it.kind = 8 ∨ it.kind = 9 ∨ it.kind = 10 then true
     else if it.kind = 2 then decide (it.a = 0)
     else if it.kind = 3 then decide (it.a = 0) && decide (it.b = 0)
     else decide (it.b = 0)))

/-- The item names a safety parameter: a register of the SAF block, or the configuration of a field channel that the set in force
claims (R401). -/
def State.safetyItem (s : State) (it : StageItem) : Bool :=
  decide (0x7000 ≤ it.b ∧ it.b < 0x8000) || (List.range 16).any (fun c => decide (it.b = R.dioCh c) && s.claimed c)

/-- Status with which an item is refused (R367). -/
def State.itemRefusal (s : State) (p : StageItem × Bool) : Option Nat :=
  let it := p.1
  if it.kind < 1 ∨ 11 < it.kind ∨ p.2 = false then some St.argument
  else if it.kind = 1 then
    match pnDesc? it.b with
    | some d => if d.cls = .ro then some St.pnReadOnly else none
    | none => some St.pnUnknown
  else if it.kind = 2 then
    if s.safetyItem it then some St.safetyParam
    else if (stagedMask it.b).isNone then some St.argument
    else none
  else none

/-- A set that a command may not touch now (R365). -/
def StageSet.busy (x : StageSet) : Bool := decide (x.state = .checking) || decide (x.state = .committing)

/-- The items a STAGE_WRITE brings, or the refusal of its arguments (R367). -/
def State.stageItems (s : State) (set addr len : Nat) : Option Nat × List StageItem :=
  if 3 < set ∨ len = 0 ∨ len % 32 ≠ 0 ∨ 2048 < len then (some St.argument, [])
  else if alignedAddr addr = false then (some St.hostAddress, [])
  else
    match s.memRd addr len with
    | none => (some St.hostAddress, [])
    | some bs =>
      let ps := (List.range (len / 32)).map (fun i => parseItem ((bs.drop (32 * i)).take 32))
      (ps.findSome? s.itemRefusal, ps.map (fun p => p.1))

/-- STAGE_WRITE (R367). -/
def stageWriteCmd (h : Hdr) (set addr len : Nat) (s : State) : State :=
  let (bad, items) := s.stageItems set addr len
  let x := s.stageSet set
  let added := items.foldl addItem x.items
  s.hostCmd h 0x0201 .imm 0 .none bad none
    (firstRefusal [(x.busy, St.setBusy, 0),
                   (decide (4096 < s.itemsUsed - x.items.length + added.length), St.setFull, 0)])
    (fun s => (s.setStage set { state := .opened, items := added }).acceptImm h 0x0201 s.cycle 0 none)

def execStageWrite (h : Hdr) (set addr len : Nat) (s : State) : Host.Outcome State Fault Refusal :=
  .next (stageWriteCmd h set addr len s)

/-- STAGE_DISCARD (R365, R367). -/
def stageDiscardCmd (h : Hdr) (set : Nat) (s : State) : State :=
  s.hostCmd h 0x0204 .imm 0 .none (if 3 < set then some St.argument else none) none
    (firstRefusal [((s.stageSet set).busy, St.setBusy, 0)])
    (fun s => (s.setStage set {}).acceptImm h 0x0204 s.cycle 0 none)

def execStageDiscard (h : Hdr) (set : Nat) (s : State) : Host.Outcome State Fault Refusal :=
  .next (stageDiscardCmd h set s)

/-- What STAGE_CHECK and STAGE_COMMIT need of their set (R365). -/
def StageSet.refusal (x : StageSet) : Option (Nat × Nat) :=
  firstRefusal [(decide (x.state = .closed), St.setUnknown, 0), (x.busy, St.setBusy, 0)]

/-- STAGE_CHECK (R368): the set is CHECKING until STAGE_CHECK_COMPLETE. -/
def stageCheckCmd (h : Hdr) (set : Nat) (s : State) : State :=
  s.hostCmd h 0x0202 .long 0 .none (if 3 < set then some St.argument else none) none (s.stageSet set).refusal (fun s =>
    let own := s.openFor h 0x0202
    let s := s.setStage set { s.stageSet set with state := .checking }
    ({ s with stage := { s.stage with checks := s.stage.checks ++ [(set, own)] } }).acceptLong h 0x0202 0 [])

def execStageCheck (h : Hdr) (set : Nat) (s : State) : Host.Outcome State Fault Refusal := .next (stageCheckCmd h set s)

/-- FINAL of a check (R368). -/
def State.checkFinal (s : State) (own : Open) (f : Option Failure) : State :=
  match f with
  | some f => s.final own St.checkFailed s.cycle f.detail (some f.bytes) []
  | none => s.finalPlain own St.ok

/-- The host buffer of a cam table item cannot be used: its address is not aligned, or a read of it completes with an error (R340). -/
def State.camFails (s : State) (it : StageItem) : Bool :=
  let v := it.value.toNat
  decide (it.kind = 11) && decide (v ≠ 0) && (!alignedAddr v || (match s.memRd v 32 with
    | none => true
    | some h =>
      let n := Machine.field h 0 8
      decide (4 ≤ n ∧ n ≤ 4096) && (s.memRd (v + 32) (16 * n)).isNone))

/-- A check that reads cam tables reports on EV62 each that it cannot read (R340); `ring` is that of its command. -/
def State.camEvents (s : State) (items : List StageItem) (ring : Nat) : State :=
  (items.filter s.camFails).foldl (fun t _ => t.evC 62 ring 2) s

/-- STAGE_CHECK_COMPLETE: the oldest open STAGE_CHECK ends. -/
def stageCheckCompleteCmd (s : State) : State :=
  match s.stage.checks with
  | [] => s
  | (set, own) :: rest =>
    if s.svRuns = false then s
    else
      let x := s.stageSet set
      let f := s.checkItems x.items (cycAdd s.cycle 2)
      let s := ({ s with stage := { s.stage with checks := rest } }).setStage set { x with state := .opened }
      (s.camEvents x.items own.ring).checkFinal own f

def execStageCheckComplete (s : State) : Host.Outcome State Fault Refusal := .next (stageCheckCompleteCmd s)

/-! ### Commits (R372 to R376) -/

/-- PNs that a commit carries to the node of a split axis (R103). -/
def splitPn (pn : Nat) : Bool := decide (0x0110 ≤ pn ∧ pn ≤ 0x011F)

/-- An item writes a PN that its split axis's node holds (R103), or makes the axis split and so carries them there; `t` holds
the configuration after the commit. -/
def State.splitItem (t : State) (i : StageItem) : Bool :=
  decide (i.kind = 1) && (splitPn i.b || decide (i.b = Pn.closure)) && (t.axis i.a).split

/-- The set touches nodes (second row of R373). -/
def State.touchesNodes (s : State) (items : List StageItem) : Bool :=
  items.any (fun i => [3, 7, 8, 9, 10].contains i.kind || (s.withItems items).splitItem i)

/-- Nodes a set concerns: those of every lane concerned. -/
def State.nodesConcerned (s : State) (items : List StageItem) : List Nat :=
  let all := items.any (fun i => [3, 7, 8].contains i.kind)
  let t := s.withItems items
  let laneOfNode (n : Nat) : Option Nat := (t.slots.find? (fun p => decide (p.1 = n))).map (fun p => t.lineOf p.2)
  let lanes := items.flatMap (fun i => match i.kind with
    | 9 => [t.lineOf i.b]
    | 10 => (laneOfNode i.a).toList
    | 1 => if t.splitItem i then (laneOfNode (Config.remoteHome i.a).1).toList else []
    | _ => [])
  ((t.slots.filter (fun p => all || decide (t.lineOf p.2 ∈ lanes))).map (fun p => p.1)).filter (fun n =>
    decide ((s.noderec n).state = .member) || decide ((s.noderec n).state = .announced))

/-- The control areas of every lane name the cycle and generation of a commit that touches nodes (R307, R316), and the Flash
its rung (R303). -/
def State.nameCommit (s : State) (c gen : Nat) (items : List StageItem) : State :=
  let s := (List.range 4).foldl (fun s n =>
    let l := s.lane n
    s.setLane n { l with ctl := { l.ctl with commitCycle := c, commitGen := gen } }) s
  match items.find? (fun i => decide (i.kind = 3)) with
  | some i => { s with bb := { s.bb with nextRung := some (c, i.value.toNat) } }
  | none => s

/-- The commit is named no more. -/
def State.unnameCommit (s : State) : State :=
  let s := (List.range 4).foldl (fun s n =>
    let l := s.lane n
    s.setLane n { l with ctl := { l.ctl with commitCycle := 0xFFFFFFFF } }) s
  if s.bb.lantern then { s with bb := { s.bb with nextRung := none } } else s

/-- A commit ends without being applied: its FINAL, and its set stays OPEN (R372, R373). -/
def State.failCommit (s : State) (set : Nat) (own : Open) (status detail : Nat) (ext : Option (List Byte)) : State :=
  (s.setStage set { s.stageSet set with state := .opened }).final own status s.cycle detail ext []

/-- A named cycle, if one is named. -/
def namedCycle (c : Nat) : Option Nat := if c = 0xFFFFFFFF then none else some c

/-- A commit starts (R372, R373): its check, its cycle, or the wait for its nodes' answers. The second part tells whether it
is now pending. -/
def State.tryCommit (s : State) (set : Nat) (own : Open) (named : Option Nat) : State × Bool :=
  let items := (s.stageSet set).items
  let wide := s.touchesNodes items
  let earliest := cycAdd s.cycle (if wide then 4 else 2)
  let verdict := s.checkItems items (named.getD earliest)
  let s := s.camEvents items own.ring
  match verdict with
  | some f => (s.failCommit set own St.checkFailed f.detail (some f.bytes), false)
  | none =>
    let needs := if wide then s.nodesConcerned items else []
    let gen := if wide then s.stage.gen + 1 else s.stage.gen
    let c := named.getD earliest
    let t := s.withItems items
    let cams := (items.filter (fun i => decide (i.kind = 11))).map (fun i => (i.a, SMap.get none t.stage.inForce.cams i.a))
    let k : Commit := { set := set, own := own, named := named, cycle := c, gen := gen, answered := [], needs := needs,
                        phase := if needs.isEmpty then .scheduled else .awaiting, checked := s.cycle, cams := cams }
    if cycDiff earliest c < 0 then (s.failCommit set own St.tooLate 0 none, false)
    else
      let s := { s with stage := { s.stage with commit := some k } }
      (if wide ∧ needs.isEmpty = true then s.nameCommit c gen items else s, true)

/-- Commits that wait start in their order, until one is pending (R372). -/
def State.startWaiting (s : State) : List (Nat × Open × Nat) → State
  | [] => { s with stage := { s.stage with waiting := [] } }
  | (set, own, c) :: rest =>
    match s.tryCommit set own (namedCycle c) with
    | (s', true) => { s' with stage := { s'.stage with waiting := rest } }
    | (s', false) => State.startWaiting s' rest

/-- The pending commit is over: the next that waits starts. -/
def State.nextCommit (s : State) : State :=
  let s := { s with stage := { s.stage with commit := none } }
  s.unnameCommit.startWaiting s.stage.waiting

/-- STAGE_COMMIT (R372, R373). -/
def stageCommitCmd (h : Hdr) (set cycle : Nat) (s : State) : State :=
  s.hostCmd h 0x0203 .long 0 .none
    (if 3 < set ∨ (cycle ≠ 0xFFFFFFFF ∧ 2 ^ 20 < cycDiff s.cycle cycle) then some St.argument else none) none
    (s.stageSet set).refusal (fun s =>
      let own := s.openFor h 0x0203
      let s := (s.setStage set { s.stageSet set with state := .committing }).acceptLong h 0x0203 0 []
      let w := s.stage.waiting ++ [(set, own, cycle)]
      if s.stage.commit.isSome then { s with stage := { s.stage with waiting := w } } else s.startWaiting w)

def execStageCommit (h : Hdr) (set cycle : Nat) (s : State) : Host.Outcome State Fault Refusal :=
  .next (stageCommitCmd h set cycle s)

/-- Extended result of 0x0205: the subject in the layout of R368, with no rule. -/
def noAckBytes (skind subject : Nat) : List Byte := ({ rule := 0, skind := skind, subject := subject } : Failure).bytes

/-- The pending commit ends with COMMIT_NO_ACK (R373, R376). -/
def State.commitNoAck (s : State) (k : Commit) (skind subject : Nat) : State :=
  (s.failCommit k.set k.own St.noAck (subject % 2 ^ 16 * 2 ^ 16) (some (noAckBytes skind subject))).nextCommit

/-- COMMIT_ANSWER_TIMEOUT: an answer is missing by cycle c - 4, or 256 cycles after the check (R373). -/
def commitAnswerTimeoutCmd (s : State) : State :=
  match s.stage.commit with
  | some k =>
    let late := match k.named with
      | some c => decide (cycDiff s.cycle c < 4)
      | none => decide (256 < cycDiff k.checked s.cycle)
    if k.phase = .awaiting ∧ late = true then
      let n := (k.needs.find? (fun n => decide (n ∉ k.answered))).getD 0
      let s := s.evC 26 (s.noderec n).lane 3
      s.commitNoAck k 5 n
    else s
  | none => s

def execCommitAnswerTimeout (s : State) : Host.Outcome State Fault Refusal := .next (commitAnswerTimeoutCmd s)

/-- COMMIT_READY_MISS: a participant is not ready by the gather-back instant of cycle c - 1 (R376). -/
def commitReadyMissCmd (isNode : Bool) (subject : Nat) (s : State) : State :=
  match s.stage.commit with
  | some k => if k.phase = .scheduled then s.commitNoAck k (if isNode then 5 else 10) subject else s
  | none => s

def execCommitReadyMiss (isNode : Bool) (subject : Nat) (s : State) : Host.Outcome State Fault Refusal :=
  .next (commitReadyMissCmd isNode subject s)

/-! ### Direct writes and reads (R105, R108, R109) -/

/-- Items of the pending commit's set. -/
def State.commitItems (s : State) : List StageItem :=
  match s.stage.commit with
  | some k => (s.stageSet k.set).items
  | none => []

/-- The pending commit's set holds a PN of axis `a` (R374). -/
def State.commitHoldsPn (s : State) (a pn : Nat) : Bool :=
  s.commitItems.any (fun i => decide (i.kind = 1) && decide (i.a = a) && decide (i.b = pn))

/-- The (PN, value) pairs as the image spells them: fields beyond it read as zero (R346). -/
def imageWrites (nslot count : Nat) (ws : List (Nat × Int)) : List (Nat × Int) :=
  (List.range count).map (fun i =>
    let w := ws.getD i (0, 0)
    (if 24 + 24 * i + 8 ≤ 64 * nslot then w.1 else 0, if 32 + 24 * i + 16 ≤ 64 * nslot then w.2 else 0))

/-- Status with which a direct write of a PN is refused (R105, R103, R440). -/
def State.writeRefusal (s : State) (a : Nat) (w : Nat × Int) : Option Nat :=
  match pnDesc? w.1 with
  | none => some St.pnUnknown
  | some d =>
    if d.cls = .ro then some St.pnReadOnly
    else if d.cls ≠ .l then some St.argument
    else if splitPn d.pn ∧ (s.axis a).split then some St.argument
    else if 0x0900 ≤ d.pn ∧ d.pn ≤ 0x0902 ∧ s.grade ≠ 2 then some St.notInGrade
    else none

/-- Accepted direct writes take effect at φ0 of cycle m + 2 (R105). -/
def State.addDirect (s : State) (a : Nat) (ws : List (Nat × Int)) : State :=
  { s with stage := { s.stage with
      direct := s.stage.direct ++ ws.map (fun w => (cycAdd s.cycle 2, a, w.1, w.2)) } }

/-- TRACE_POST above depth - 1 (R440). -/
def State.postTooLong (s : State) (a : Nat) (ws : List (Nat × Int)) : Bool :=
  let x := ws.foldl (fun x w => x.write w.1 w.2) (s.axisAhead a)
  ws.any (fun w => decide (w.1 = Pn.tracePost) &&
    (match pnDesc? Pn.tracePost with
     | some d => !pnInRange x.raw d w.2
     | none => false))

/-- PARAM_WRITE (R105, R108, R374). -/
def paramWriteCmd (h : Hdr) (count : Nat) (writes : List (Nat × Int)) (s : State) : State :=
  let ws := imageWrites h.nslot count writes
  let fmt : Option Nat :=
    if count < 1 ∨ 9 < count then some St.argument
    else if h.nslot = 1 ∧ 2 ≤ count then some St.lengthInvalid
    else
      match ws.findSome? (s.writeRefusal h.subj) with
      | some st => some st
      | none => if s.postTooLong h.subj ws then some St.argument else none
  s.hostCmd h 0x0210 .imm 0 .axis fmt none
    (firstRefusal [
      (ws.any (fun w => s.commitHoldsPn h.subj w.1), St.setBusy, 0),
      ((s.directFails h.subj ws).isSome, St.checkFailed,
        ((s.directFails h.subj ws).getD 0) % 2 ^ 16 + h.subj % 2 ^ 16 * 2 ^ 16)])
    (fun s => (s.addDirect h.subj ws).acceptImm h 0x0210 (cycAdd s.cycle 2) 0 none)

def execParamWrite (h : Hdr) (count : Nat) (writes : List (Nat × Int)) (s : State) :
    Host.Outcome State Fault Refusal := .next (paramWriteCmd h count writes s)

/-- Model PNs M_M to F_C, a change of which starts the plausibility model anew (R120). -/
def modelPn (pn : Nat) : Bool := decide (Pn.mM ≤ pn ∧ pn ≤ Pn.fC)

/-- A direct write takes effect. -/
def State.applyDirect (s : State) (a pn : Nat) (v : Int) : State :=
  let x := (s.axis a).write pn v
  let x := if pn = Pn.traceMask then x.traceRestart else x
  let x := if modelPn pn ∧ x.raw pn ≠ (s.axis a).raw pn then { x with supv := { x.supv with ready := false } } else x
  s.setAxis a x

/-- Cycle `c` begins with the next φ0, or has begun. -/
def State.dueAtPhi0 (s : State) (c : Nat) : Bool := decide (0 ≤ cycDiff c s.nextCycle)

/-- PARAM_WRITE_EFFECT: every direct write due at this φ0, in acceptance order (R105). -/
def paramWriteEffectCmd (s : State) : State :=
  let due := s.stage.direct.filter (fun d => s.dueAtPhi0 d.1)
  let rest := s.stage.direct.filter (fun d => !s.dueAtPhi0 d.1)
  due.foldl (fun s d => s.applyDirect d.2.1 d.2.2.1 d.2.2.2) { s with stage := { s.stage with direct := rest } }

def execParamWriteEffect (s : State) : Host.Outcome State Fault Refusal := .next (paramWriteEffectCmd s)

/-- The group of axis `a` moves it now: whether, and whether it is stopping. -/
def State.groupMoves (s : State) (a : Nat) : Bool × Bool :=
  let g := (s.axis a).int Pn.group
  if g < 0 then (false, false)
  else
    let x := s.group g.toNat
    (decide (x.prof = .moving) || decide (x.prof = .stopping), decide (x.prof = .stopping))

/-- A flag or count as a G72 code. -/
def asG (n : Nat) : Int := (n : Int) * 2 ^ 48

/-- What a PN reads as: read-only numbers show the state (R109, R133, R159, R187, R241, R440, R509). -/
def State.pnValue (s : State) (a pn : Nat) : Int :=
  let x := s.axis a
  let (g, gs) := s.groupMoves a
  if pn = 0x03F0 then asG x.loopStatus.toNat
  else if pn = 0x04F0 then asG x.faultActive.toNat
  else if pn = 0x04F1 then asG x.faultFirst
  else if pn = 0x04F2 then sext 72 x.faultT72
  else if pn = 0x04F3 then asG x.reactionCode
  else if pn = 0x04F4 then x.faultValue
  else if pn = 0x04F5 then x.remain
  else if pn = 0x05F0 then asG (profStateCode g gs x)
  else if pn = 0x05F1 then asG x.queue.length
  else if pn = 0x05F2 then (match x.cur with | some m => m.target | none => 0)
  else if pn = 0x05F3 then asG x.profStatus.toNat
  else if pn = 0x05F4 then asG x.streamAge
  else if pn = 0x06F0 then asG (coordState (decide (0 ≤ x.int Pn.group)) x)
  else if pn = 0x06F1 then asG x.coordStatus.toNat
  else if pn = 0x06F2 then x.homeOffset
  else if pn = 0x08F0 then asG x.psStatus.toNat
  else if pn = 0x08F1 then toG ((x.chopE : Rat) / x.raw Pn.chopE)
  else if pn = 0x08F2 then x.flyResult
  else if pn = 0x09F0 then asG x.trace.state
  else if pn = 0x0AF0 then x.therm.tw
  else if pn = 0x0AF1 then x.therm.tb
  else if pn = 0x0AF2 then x.therm.ts
  else if pn = 0x0AF3 then asG x.thmStatus.toNat
  else if Pn.n1B0 ≤ pn ∧ pn < Pn.lpfB0 + 5 then (x.design (tcycS s.rung)).raw pn
  else x.raw pn

/-- The 16 bytes of a PN; zeros where no PN has the number. FAULT_T72 is a T72. -/
def State.pnBytes (s : State) (a pn : Nat) : List Byte :=
  if (pnDesc? pn).isNone then leBytes 16 0
  else if pn = 0x04F2 then bytesT72 (s.axis a).faultT72
  else bytes72 (s.pnValue a pn)

/-- The sticky copies of a status PN clear when it is read (R109). -/
def Axis.readClears (x : Axis) (pn : Nat) : Axis :=
  if pn = 0x03F0 then { x with loopStatus := clearSticky x.loopStatus }
  else if pn = 0x05F3 then { x with profStatus := clearSticky x.profStatus }
  else if pn = 0x06F1 then { x with coordStatus := clearSticky x.coordStatus }
  else if pn = 0x08F0 then { x with psStatus := clearSticky x.psStatus }
  else if pn = 0x0AF3 then { x with thmStatus := clearSticky x.thmStatus }
  else x

/-- PARAM_READ (R105, R109, R356). -/
def paramReadCmd (h : Hdr) (pn count buf : Nat) (s : State) : State :=
  let fmt : Option Nat :=
    if count < 1 ∨ 64 < count then some St.argument
    else if alignedAddr buf = false then some St.hostAddress
    else if (pnDesc? pn).isNone then some St.pnUnknown
    else none
  s.hostCmd h 0x0211 .read 0 .axis fmt none none (fun s =>
    let pns := (List.range count).map (fun i => pn + i)
    let s := s.memWr buf (pns.flatMap (s.pnBytes h.subj))
    (s.modAxis h.subj (fun x => pns.foldl Axis.readClears x)).answerOk h 0x0211)

def execParamRead (h : Hdr) (pn count buf : Nat) (s : State) : Host.Outcome State Fault Refusal :=
  .next (paramReadCmd h pn count buf s)

/-- SIG_STATUS (R327, R356): 8 bytes per block. -/
def sigStatusCmd (h : Hdr) (block count buf : Nat) (s : State) : State :=
  let fmt : Option Nat :=
    if count < 1 ∨ 256 < count ∨ 16384 < block + count then some St.argument
    else if alignedAddr buf = false then some St.hostAddress
    else none
  s.hostCmd h 0x0212 .read 0 .none fmt none none (fun s =>
    let one (b : Nat) : List Byte :=
      let x := s.blockStat b
      leBytes 8 ((if x.valid then 1 else 0) + x.bseq % 256 * 2 ^ 8 + x.age % 2 ^ 16 * 2 ^ 16)
    (s.memWr buf ((List.range count).flatMap (fun i => one (block + i)))).answerOk h 0x0212)

def execSigStatus (h : Hdr) (block count buf : Nat) (s : State) : Host.Outcome State Fault Refusal :=
  .next (sigStatusCmd h block count buf s)

/-! ### The journal (R378 to R383, R388 to R391) -/

def State.setBank (s : State) (b : Nat) (m : SMap (Option JRec)) : State :=
  if b = 0 then { s with jnl := { s.jnl with bank0 := m } } else { s with jnl := { s.jnl with bank1 := m } }

/-- First slot from `i` on that holds no live record of bank `b`; `fuel` slots are looked at. -/
def State.freeSlot (s : State) (b : Nat) : Nat → Nat → Nat
  | 0, i => i % 16384
  | k + 1, i =>
    match SMap.get none (s.bank b) (i % 16384) with
    | some r => if s.recLive b r then State.freeSlot s b k (i + 1) else i % 16384
    | none => i % 16384

/-- The records that leave bank `b` with the dead record in slot `i`: those of a command whose FINAL record gives way go with it, so
that replay never finds an ACCEPT whose FINAL is gone (R384). -/
def State.giveWay (s : State) (b i : Nat) : SMap (Option JRec) :=
  match SMap.get none (s.bank b) i with
  | some q =>
    if q.rtype = 3 then (s.bank b).filter (fun e => match e.2 with
      | some r => !((decide (r.rtype = 2) || decide (r.rtype = 4)) && decide (r.ring = q.ring) && decide (r.seq = q.seq))
      | none => true)
    else s.bank b
  | none => s.bank b

/-- One slot write: the next free slot after the last one written (R378), counted (R389). -/
def State.writeSlot (s : State) (b : Nat) (r : JRec) : State :=
  let i := s.freeSlot b 16384 (if b = 0 then s.jnl.next0 else s.jnl.next1)
  let s := s.setBank b ((s.giveWay b i).set none i (some r))
  { s with jnl := { s.jnl with
      next0 := if b = 0 then (i + 1) % 16384 else s.jnl.next0,
      next1 := if b = 0 then s.jnl.next1 else (i + 1) % 16384,
      writes0 := if b = 0 then s.jnl.writes0 + 1 else s.jnl.writes0,
      writes1 := if b = 0 then s.jnl.writes1 else s.jnl.writes1 + 1,
      sinceRestart := s.jnl.sinceRestart + 1, thisSecond := s.jnl.thisSecond + 1 } }

/-- Mirrored records are all but those of immediate commands (R379). -/
def JRec.mirrored (r : JRec) : Bool := decide (r.rtype ≠ 1)

/-- The live mirrored records of the retired bank `b` are made whole in the other bank (R388). -/
def State.copyLive (s : State) (b : Nat) : State :=
  let o := 1 - b
  if s.bankOk o = false then s
  else
    let live := (s.bank b).filterMap (fun e => e.2.bind (fun r =>
      if r.mirrored ∧ s.recLive b r = true ∧ r.crcOk = true ∧
          !((s.bank o).any (fun q => match q.2 with | some x => decide (x.wseq = r.wseq) | none => false)) then some r
      else none))
    live.foldl (fun s r => s.writeSlot o r) s

/-- Copies that had to wait for MRAM writes are made once they are permitted (R41). -/
def State.copyNow (s : State) : State :=
  match s.jnl.copyDue with
  | some b => if s.mramOpen then { s with jnl := { s.jnl with copyDue := none } }.copyLive b else s
  | none => s

/-- Bank `b` is retired (R388): BANKn_OK, BANK_FAULT, EV59 code 1, and the copies are due, at once where the MRAM takes writes
(R41). -/
def State.bankFault (s : State) (b : Nat) : State :=
  if s.bankOk b = false then s
  else
    let s := ((s.setBit R.jnlStat b false).setBit R.jnlStat 8 true).evC 59 b 1
    { s with jnl := { s.jnl with copyDue := some b } }.copyNow

/-- Banks that a record goes to (R378, R388): both for a mirrored one, the next in turn for a single one. -/
def State.recordBanks (s : State) (mirrored : Bool) : List Nat :=
  if s.bankOk 0 ∧ s.bankOk 1 then (if mirrored then [0, 1] else [if s.jnl.nextBank then 1 else 0])
  else if s.bankOk 0 then [0]
  else if s.bankOk 1 then [1]
  else []

/-- A record is written and read back; a bank that fails the read-back is retired, and the record counts as done in the good
bank (R381, R388, R390). -/
def State.writeRecord (s : State) (r : JRec) (badBank : Option Nat) : State :=
  let r := { r with wseq := (s.jnl.wseq + 1) % 2 ^ 32 }
  let banks := s.recordBanks r.mirrored
  let s := { s with jnl := { s.jnl with
    wseq := r.wseq, nextBank := if r.mirrored then s.jnl.nextBank else !s.jnl.nextBank,
    lastSeq := if r.rtype ≤ 4 then s.jnl.lastSeq.set 0 r.ring (max r.seq (SMap.get 0 s.jnl.lastSeq r.ring)) else s.jnl.lastSeq } }
  match badBank with
  | some b =>
    if b ∈ banks then
      let s := s.bankFault b
      let good := 1 - b
      if s.bankOk good then s.writeSlot good r else s
    else banks.foldl (fun s b => s.writeSlot b r) s
  | none => banks.foldl (fun s b => s.writeSlot b r) s

/-- Journal type of a completion record (R380). -/
def OutRec.rtype (r : OutRec) : Nat := if r.journal = 1 then 1 else if r.kind = .accept then 2 else 3

/-- The journal record of a completion record whose place in its ring is `crIdx`. -/
def OutRec.jrec (r : OutRec) (crIdx cqIdx : Nat) : JRec :=
  { rtype := r.rtype, ring := r.ring, opcode := r.opcode, wseq := 0, seq := r.seq, tag := r.tag,
    crIdx := if r.kind = .accept then 0xFFFFFFFF else crIdx, status := r.status, subj := r.subj, cycle := r.cycle,
    detail := r.detail, ext := r.ext.isSome, irq := r.irq,
    body := if r.kind = .accept then r.body.take 36 else r.body, crcOk := true, cqIdx := cqIdx }

/-- Extension records of an ACCEPT, 45 bytes each (R380). -/
def OutRec.extensions (r : OutRec) : List JRec :=
  (List.range r.extra).map (fun i =>
    { rtype := 4, ring := r.ring, opcode := r.opcode, wseq := 0, seq := r.seq, tag := r.tag, crIdx := 0xFFFFFFFF,
      status := r.status, subj := r.subj, cycle := r.cycle, detail := 0, ext := false, irq := false,
      body := (r.body.drop (36 + 45 * i)).take 45, crcOk := true })

/-- The ring set-up record of a command ring (R379): EN with the registers of its two rings, and the doorbell address, which
replay needs (R385), where other records have TAG (log entry 41). -/
def State.setupRec (s : State) (ring : Nat) (en : Bool) : JRec :=
  { rtype := 5, ring := ring, opcode := 0, wseq := 0, seq := 0, tag := s.base R.dbLo R.dbHi, crIdx := 0, status := 0, subj := 0xFFFF,
    cycle := s.cycle, detail := 0, ext := false, irq := false,
    body := leBytes 4 (s.reg (R.cqLo ring)).toNat ++ leBytes 4 (s.reg (R.cqHi ring)).toNat ++
      leBytes 4 (s.reg (R.crLo ring)).toNat ++ leBytes 4 (s.reg (R.crHi ring)).toNat ++
      leBytes 2 (s.reg (R.cqCfg ring)).toNat ++ leBytes 1 (s.reg (R.crCfg ring)).toNat ++ leBytes 1 (if en then 1 else 0),
    crcOk := true }

/-- Set-up records that wait for the write window (R390). -/
def State.flushSetups (s : State) : State :=
  s.jnl.setupWaiting.foldl (fun s p => s.writeRecord (s.setupRec p.1 p.2) none)
    { s with jnl := { s.jnl with setupWaiting := [] } }

/-- Records of the outbox before the one that is journalled next, that one, and those after it. -/
def splitOutbox : List OutRec → Option (List OutRec × OutRec × List OutRec)
  | [] => none
  | r :: rest =>
    if r.journal = 0 then (splitOutbox rest).map (fun p => (r :: p.1, p.2.1, p.2.2)) else some ([], r, rest)

/-- The record of acceptance of sequence `seq` on ring `n` is not in the journal yet. -/
def State.unrecorded (s : State) (n seq : Nat) : Bool :=
  s.host.outbox.any (fun r => decide (r.ring = n) && decide (r.seq = seq) &&
    (decide (r.journal = 1) || (decide (r.journal = 2) && decide (r.kind = .accept))))

/-- CQ_CI of ring `n` as far as every command before it is refused or on record: a restart takes the others again (R384). -/
def State.cqOnRecord (s : State) (n : Nat) : Nat :=
  match (s.ring n).unrec.find? (fun e => s.unrecorded n e.2) with
  | some e => e.1
  | none => (s.ring n).cqCi

/-- CQ_CI of ring `n` is written back once more of its commands are on record. -/
def State.writeBackCi (s : State) (n : Nat) : State :=
  let base := s.base R.dbLo R.dbHi
  if base = 0 ∨ s.hostUp = false then s else s.memWr (base + 192 + 4 * n) (leBytes 4 (s.cqOnRecord n))

/-- JOURNAL_RECORD_WRITE: the record of the oldest command that waits is written and read back, and its completion record
leaves (R381). Nothing is written while writes are forbidden (R41, R383) or no bank is in use. -/
def journalRecordWriteCmd (badBank : Option Nat) (s : State) : State :=
  if s.mramStop ∨ s.live = false ∨ s.svRuns = false ∨ (s.bankOk 0 = false ∧ s.bankOk 1 = false) then s
  else
    let s := s.flushSetups
    match splitOutbox s.host.outbox with
    | none => s
    | some (before, r, after) =>
      let idx := (s.ring r.ring).crPi + (before.filter (fun q => decide (q.ring = r.ring))).length
      let s := r.extensions.foldl (fun s x => s.writeRecord x none) s
      let behind := (((s.ring r.ring).longIdx.find? (fun e => decide (e.2 = r.seq))).map (fun e => e.1)).getD (s.ring r.ring).cqCi
      let s := s.writeRecord (r.jrec (idx % 2 ^ 32) behind) badBank
      let s := if r.kind = .final ∧ r.opcode = 0x0203 ∧ r.status = St.ok then
          { s with stage := { s.stage with namedB := decide (Machine.field r.body 0 1 = 1) } } else s
      let s := State.drain { s with host := { s.host with outbox := before ++ { r with journal := 0 } :: after } }
      if r.rtype = 3 then s else s.writeBackCi r.ring

def execJournalRecordWrite (badBank : Option Nat) (s : State) : Host.Outcome State Fault Refusal :=
  .next (journalRecordWriteCmd badBank s)

/-- JOURNAL_RECORD_SCRUB: every live record is read once per second, by SV; a bank that fails is retired (R388), and copies that
waited are made (R41). -/
def journalRecordScrubCmd (badBank : Option Nat) (s : State) : State :=
  if s.live = false ∨ s.svRuns = false then s
  else
    let s := s.copyNow
    match badBank with
    | some b => s.bankFault (b % 2)
    | none => s

def execJournalRecordScrub (badBank : Option Nat) (s : State) : Host.Outcome State Fault Refusal :=
  .next (journalRecordScrubCmd badBank s)

/-- Remaining life in days at a rate, by the bank that has been written most (R389, R391). -/
def lifeDays (writes rate : Nat) : Nat :=
  if rate = 0 then 0xFFFFFFFF
  else min 0xFFFFFFFE ((16384 * 10 ^ 8 - writes) * 2 / (rate * 86400))

/-- JNL_RATE_UPDATE: once per second (R391); EV59 code 6 when the remaining life falls below 365 days (R389). -/
def jnlRateUpdateCmd (s : State) : State :=
  if s.live = false then s
  else
    let j := s.jnl
    let secs := j.seconds + 1
    let per := (j.thisSecond :: j.perSecond).take 86400
    let rate := if secs < 86400 then j.sinceRestart / secs else per.sum / 86400
    let life := lifeDays (max j.writes0 j.writes1) rate
    let old := (s.reg R.jnlLife).toNat
    let s := { s with jnl := { j with seconds := secs, perSecond := per, thisSecond := 0 } }
    let s := (s.setReg R.jnlRate (BitVec.ofNat 32 rate)).setReg R.jnlLife (BitVec.ofNat 32 life)
    if life < 365 ∧ 365 ≤ old then s.evC 59 0xFFFF 6 else s

def execJnlRateUpdate (s : State) : Host.Outcome State Fault Refusal := .next (jnlRateUpdateCmd s)

/-! ### JNL_STATUS and LOG_READ (R356) -/

/-- Bytes of a buffer to which the spec gives no layout (log entry 9). -/
def State.freeBytes (s : State) (n : Nat) : List Byte × State :=
  ((List.range n).map (fun i => Config.bufferByte s.free i), { s with free := s.free + 1 })

/-- JNL_STATUS. -/
def jnlStatusCmd (h : Hdr) (buf : Nat) (s : State) : State :=
  s.hostCmd h 0x0603 .read 0 .none (if alignedAddr buf then none else some St.hostAddress) none none (fun s =>
    let (bs, s) := s.freeBytes 64
    (s.memWr buf bs).answerOk h 0x0603)

def execJnlStatus (h : Hdr) (buf : Nat) (s : State) : Host.Outcome State Fault Refusal := .next (jnlStatusCmd h buf s)

/-- LOG_READ: entries of the event log from number `start` on, as many as there are up to `count`. -/
def logReadCmd (h : Hdr) (start count buf : Nat) (s : State) : State :=
  s.hostCmd h 0x0604 .read 0 .none (if alignedAddr buf then none else some St.hostAddress) none none (fun s =>
    let (bs, s) := s.freeBytes (32 * min count (s.eventLog.length - start))
    (s.memWr buf bs).answerOk h 0x0604)

def execLogRead (h : Hdr) (start count buf : Nat) (s : State) : Host.Outcome State Fault Refusal :=
  .next (logReadCmd h start count buf s)

end Sys2Proof.Machine
end

