-- ==== Sys2Proof/Machine/Enable.lean ====
section
/-!
DEFINITION. Enabling and disabling an axis (R104, R371, R374, R409, R564) and the fault clear (R131, R126, R228, R258).
-/

namespace Sys2Proof.Machine

open Sys2Proof

/-! ### AXIS_ENABLE -/

/-- Safety axis of the selected set that holds servo axis `a`, with its record. -/
def State.safRecOf (s : State) (a : Nat) : Option (Nat × SafAxisRec) :=
  match s.selectedSet with
  | some st => (List.range 32).findSome? (fun sx => match st.rec? sx with
      | some r => if r.axis = a then some (sx, r) else none
      | none => none)
  | none => none

/-- A used pair of the guard mask whose start-up test is pending (R406). -/
def State.guardTestPending (s : State) (gmask : BitVec 8) : Bool :=
  match s.selectedSet with
  | some st => (List.range 8).any (fun p => bvGet gmask p && bvGet s.saf.testPending p &&
      (match st.pairs[p]? with
       | some q => decide (q.type ≠ 0) && q.startTest
       | none => false))
  | none => false

/-- Why AXIS_ENABLE of a safety axis in STO is refused (R409). -/
def State.stoRefusal (s : State) (a : Nat) : Option (Nat × Nat) :=
  match s.safRecOf a with
  | none => none
  | some (sx, r) =>
    if s.setInForce.isNone then some (St.safNotConfirmed, 0)
    else if ((s.chan .a).view sx).state = .sto ∨ ((s.chan .b).view sx).state = .sto then
      (if s.guardTestPending r.gmask then some (St.guardTestPending, 0) else some (St.safetyDenied, 0))
    else none

/-- The pending commit holds an S* PN of the axis, or a feedback or power-stage register of its ports (R374). -/
def State.commitHoldsAxis (s : State) (a : Nat) : Bool :=
  let x := s.axis a
  s.commitItems.any (fun i =>
    (decide (i.kind = 1) && decide (i.a = a) && (match pnDesc? i.b with
      | some d => decide (d.cls = .sStar)
      | none => false)) ||
    (decide (i.kind = 2) &&
      ((decide (0 ≤ x.int Pn.fbSrc ∧ x.int Pn.fbSrc ≤ 3) && decide (0x3800 ≤ i.b ∧ i.b < 0x4000) &&
          decide ((i.b - 0x3800) / 0x100 = (x.int Pn.fbSrc).toNat)) ||
       (match x.localPort with
        | some k =>
          (decide (0x3000 ≤ i.b ∧ i.b < 0x3100) && decide ((i.b - 0x3000) / 0x40 = k)) ||
          (decide (0x3200 ≤ i.b ∧ i.b < 0x3280) && decide ((i.b - 0x3200) / 0x20 = k)) ||
          (decide (0x4840 ≤ i.b ∧ i.b < 0x4A40) && x.servedBy ((i.b - 0x4840) / 0x20))
        | none => false))))

/-- POWER_STATE to Idle or Standby is accepted without a FINAL (R491). -/
def State.leavingRun (s : State) : Bool :=
  match s.pw.req with
  | some q => decide (q.target ≠ 0)
  | none => false

/-- AXIS_ENABLE (R104, R371, R374, R409, R564): effect at φ0 of cycle m + 2. -/
def axisEnableCmd (h : Hdr) (s : State) : State :=
  let x := s.axis h.subj
  s.hostCmd h 0x0108 .imm 0 .axis (if x.inUse then none else some St.argument)
    (if s.isRun ∧ s.leavingRun = false then none else some (St.wrongPower, 0))
    (match firstRefusal [(x.ident.isSome, St.notIdle, 0), (x.inReaction || x.ascShort, St.inReaction, 0)] with
     | some r => some r
     | none =>
       match s.stoRefusal h.subj with
       | some r => some r
       | none => firstRefusal [(s.commitHoldsAxis h.subj, St.setBusy, 0)])
    (fun s =>
      let c := cycAdd s.cycle 2
      (s.modAxis h.subj (fun x => { x with enableAt := x.enableAt ++ [c] })).acceptImm h 0x0108 c 0 none)

def execAxisEnable (h : Hdr) (s : State) : Host.Outcome State Fault Refusal := .next (axisEnableCmd h s)

/-- One enable at its cycle of effect `c`, applied or dropped (R564). Where several reasons to drop it hold, EV28 carries the first
of them in the order 1, 2, 3, which the spec leaves open (DESIGN CHOICE, log entry 160). -/
def State.enableEffect (s : State) (a c : Nat) : State :=
  let x := s.axis a
  if x.inUse = false then s.ev 28 a 0x0101 1
  else if x.inReaction || x.ascShort then s.ev 28 a 0x0101 2
  else if x.enabled then s.ev 28 a 0x0101 3
  else s.applyEnable a true c

/-- AXIS_ENABLE_EFFECT: the pending enables of axis `a` that are due at this φ0. -/
def axisEnableEffectCmd (a : Nat) (s : State) : State :=
  if s.usable a = false then s
  else
    let due := (s.axis a).enableAt.filter (fun c => s.dueAtPhi0 c)
    let rest := (s.axis a).enableAt.filter (fun c => !s.dueAtPhi0 c)
    due.foldl (fun s c => s.atPhi0 c (fun s => s.enableEffect a c)) (s.modAxis a (fun x => { x with enableAt := rest }))

def execAxisEnableEffect (a : Nat) (s : State) : Host.Outcome State Fault Refusal := .next (axisEnableEffectCmd a s)

/-- AXIS_DISABLE (R126, R151, R178, R186, R240, R439): at once, in any state of the axis; an enable accepted before it
is not left to act after it (R354). -/
def axisDisableCmd (h : Hdr) (s : State) : State :=
  s.hostCmd h 0x0109 .imm 0 .axis none none none (fun s =>
    (((s.axisHighsOff h.subj).disableAxis h.subj).modAxis h.subj (fun x => { x with enableAt := [] })).acceptImm h 0x0109 s.cycle 0 none)

def execAxisDisable (h : Hdr) (s : State) : Host.Outcome State Fault Refusal := .next (axisDisableCmd h s)

/-! ### FAULT_CLEAR -/

/-- Chopper of the DC-bus channel an axis reads, if it is a local one (R225, R228). -/
def Axis.busChopper (x : Axis) : Option Nat :=
  match x.localPort with
  | some k => some (x.busChannel k - 8)
  | none => none

/-- The lowest source whose cause keeps a fault clear from succeeding (R131, R228). -/
def State.presentCause (s : State) (a : Nat) : Option Nat :=
  let x := s.axis a
  let ovl := match x.busChopper with
    | some c => (s.chopper c).ovl
    | none => false
  (List.range 20).find? (fun src => (bvGet x.faultActive src && bvGet x.causes src) || (decide (src = 10) && ovl))

/-- QSTOP, TSTOP or SS1 is in force and has not reached standstill. -/
def Axis.notStill (x : Axis) : Bool :=
  (decide (x.reaction = .qstop) || decide (x.reaction = .tstop) || x.ss1) && !x.still

/-- What a successful clear does beside the latches: the chopper, the trip and the feedback port (R228, R258, R194). -/
def State.clearUnits (s : State) (x : Axis) : State :=
  let s := match x.busChopper with
    | some c =>
      if (s.chopper c).open_ then (s.setChopper c { s.chopper c with open_ := false }).chopFollow c else s
    | none => s
  let s := match x.localPort with
    | some k => if bvGet x.faultActive 11 then s.clearTrip k else s
    | none => s
  if bvGet x.faultActive 14 ∧ 0 ≤ x.int Pn.fbSrc ∧ x.int Pn.fbSrc ≤ 3 then
    s.portStart (x.int Pn.fbSrc).toNat
  else s

/-- A remote feedback source starts again with the clear of source 14 (R186, R194). -/
def Axis.remoteRestart (x y : Axis) : Axis :=
  if bvGet x.faultActive 14 ∧ x.int Pn.fbSrc = 4 then y.feedbackRestart else y

/-- A fault clear of source 11 that is refused since the trip is still active sets CLR_REFUSED of the port (R258). -/
def State.clearRefused (s : State) (h : Hdr) : State :=
  let x := s.axis h.subj
  if s.takesCommands = false ∨ (s.preRefusal h 0x010A .imm .axis none none).isSome = true ∨ (s.presentCause h.subj).isNone = true ∨
      bvGet x.faultActive 11 = false then s
  else
    match x.localPort with
    | some k => if (s.pwmp k).tripped ∧ (s.pwmp k).tripActive then s.setBit (R.pwmStat k) 9 true else s
    | none => s

/-- FAULT_CLEAR (R131). -/
def faultClearCmd (h : Hdr) (s : State) : State :=
  let x := s.axis h.subj
  (s.clearRefused h).hostCmd h 0x010A .imm 0 .axis none none
    (firstRefusal [
      ((s.presentCause h.subj).isSome, St.faultCause, (s.presentCause h.subj).getD 0),
      (x.notStill, St.notStandstill, 0)])
    (fun s =>
      let s := s.clearUnits x
      let s := s.modAxis h.subj (fun y => { (x.remoteRestart y) with
        faultActive := 0, faultWarn := 0, reaction := .none, still := false,
        prof := if y.enabled ∧ y.holdsWork = false ∧ y.inReaction = true then y.restState else y.prof })
      s.acceptImm h 0x010A s.cycle 0 none)

def execFaultClear (h : Hdr) (s : State) : Host.Outcome State Fault Refusal := .next (faultClearCmd h s)

end Sys2Proof.Machine
end

