-- ==== Sys2Proof/Machine/Moves.lean ====
section
/-!
DEFINITION. The motion commands of one axis (R145 to R157): MOVE and its queue, STOP, RESUME, FLUSH, SET_LIMITS,
SET_VELOCITY and SET_CURRENT, with the refusals of R132, R147, R168, R181, R186 and R387.
-/

namespace Sys2Proof.Machine

open Sys2Proof

/-! ### What an axis may do -/

/-- Number of its group, where the axis has one. -/
def Axis.groupNo (x : Axis) : Option Nat := if x.int Pn.group < 0 then none else some (x.int Pn.group).toNat

/-- A group move of the axis's group is executing, stopping, suspended or queued (R168). -/
def State.groupBusy (s : State) (a : Nat) : Bool :=
  match (s.axis a).groupNo with
  | some g => (s.group g).busy
  | none => false

/-- The axis is a gear or cam slave, or stops as one (R187). -/
def Axis.slave (x : Axis) : Bool := x.coupling.isSome || x.uncoupling.isSome

/-- Motion of sense `d` goes toward an active limit (R181). -/
def Axis.towardLimit (x : Axis) (d : Int) : Bool :=
  (decide (0 < d) && x.sw.getD 0 false) || (decide (d < 0) && x.sw.getD 1 false)

/-- HOME_REQ is set and the axis is not homed (R186). -/
def Axis.unhomed (x : Axis) : Bool := decide (x.int Pn.homeReq = 1) && !x.homed

/-- A limit of a command: zero selects the PN (R140). -/
def orPn (v pn : Int) : Int := if v = 0 then pn else v

/-- A limit that is above its PN or not valid (R140, R161). -/
def limitBad (v pn : Int) : Bool := decide (v < 0) || decide (pn < v)

/-- Target that a new move starts from (R148): of the last queued move, of the present one, or p*. -/
def Axis.baseTarget (x : Axis) : Int :=
  match x.queue.getLast? with
  | some m => m.target
  | none =>
    match x.cur with
    | some m => m.target
    | none => x.pSet

/-- 7 bytes of a limit with LSB 2^-16 (R380). -/
def limitBytes (v : Int) : List Byte := leBytes 7 (tc 56 (v / 2 ^ 16))

/-- Replay data of a move (R380): target, limits as they apply, FLAGS. -/
def moveBody (target v a j : Int) (flags : Nat) : List Byte :=
  leBytes 9 (tc 72 target) ++ limitBytes v ++ limitBytes a ++ limitBytes j ++ leBytes 1 flags

/-- The same for a move of this axis, a limit of zero being the PN in force. -/
def Axis.bodyOf (x : Axis) (m : Move) (flags : Nat) : List Byte :=
  moveBody m.target (orPn m.v (x.raw Pn.profV)) (orPn m.a (x.raw Pn.profA)) (orPn m.j (x.raw Pn.profJ)) flags

/-! ### Plan slots (R139, R145) -/

/-- A request accepted in cycle `c` may be planned in cycle `n` (R145). -/
def dueReq (n c : Nat) : Bool := decide (1 ≤ cycDiff c n)

/-- Enabled axes, and groups, of profile engine `pe`. -/
def State.peAxes (s : State) (pe : Nat) : List Nat :=
  s.axisNos.filter (fun a => decide (s.profEngine a = pe) && (s.axis a).enabled)

def State.peGroups (s : State) (pe : Nat) : List Nat :=
  (List.range 16).filter (fun g => match s.members g with
    | [] => false
    | a :: _ => decide (s.profEngine a = pe))

/-- Acceptance cycles of every request that waits at profile engine `pe`. -/
def State.peWaits (s : State) (pe : Nat) : List Nat :=
  (s.peAxes pe).flatMap (fun a => (s.axis a).reqs.map (fun r => r.cycle)) ++
    (s.peGroups pe).flatMap (fun g => (s.group g).reqs.map (fun r => r.cycle))

/-- The cycle from which a plan accepted now for profile engine `pe` is used: m + 2, and one later for every four requests that
stand before it (R139, R145). Of the requests of the present cycle that wait, `own` are the plan's own. -/
def State.planCycleOf (s : State) (pe own : Nat) : Nat :=
  let all := s.peWaits pe
  let old := (all.filter (fun c => dueReq s.cycle c)).length
  let left := if bvGet s.fab.peDone pe then old else old - 4
  cycAdd s.cycle (2 + (left + (all.length - old - own)) / 4)

/-- The same before the plan is requested. A FINAL that is posted at acceptance names it. -/
def State.planCycle (s : State) (pe : Nat) : Nat := s.planCycleOf pe 0

/-! ### MOVE -/

/-- FLAGS of MOVE: REL, REPLACE, DIR. -/
def fRel (flags : Nat) : Bool := decide (flags % 2 = 1)
def fReplace (flags : Nat) : Bool := decide (flags / 2 % 2 = 1)
def fDir (flags : Nat) : Nat := flags / 4 % 4

/-- A MOVE as resolved at acceptance (R148). On a rotary axis a relative move keeps its signed distance, whatever DIR says: R146
lets DIR choose a way round, and a distance leaves none to choose (DESIGN CHOICE, log entry 167). A limit of zero stays zero: it
selects the PN in force whenever the move is planned (R140, R153). -/
def Axis.resolveMove (x : Axis) (flags : Nat) (target v a j : Int) (own : Open) : Move :=
  let m := x.raw Pn.modulo
  let t := if fRel flags then x.baseTarget + target else target
  { target := if fRel flags ∧ m ≠ 0 then reducePos m t else t, dir := fDir flags,
    v := v, a := a, j := j,
    dist := if fRel flags ∧ m ≠ 0 then some target else none, own := own }

/-- The target lies outside what R147 permits. DIR = 0b11 is refused on a linear axis too, where R146 gives DIR no meaning (DESIGN
CHOICE, log entry 166). -/
def Axis.targetBad (x : Axis) (flags : Nat) (m : Move) (raw : Int) : Bool :=
  if x.raw Pn.modulo = 0 then decide (m.target < -(2 ^ 70)) || decide (2 ^ 70 < m.target) || decide (fDir flags = 3)
  else decide (fDir flags = 3) || (!fRel flags && (decide (raw < 0) || decide (x.raw Pn.modulo ≤ raw)))

/-- Travel of a move that would start at the base target. -/
def Axis.moveTravel (x : Axis) (m : Move) : Int := x.leftFrom m x.baseTarget

/-- The refusals of R147, R168, R181 and R186, in order. -/
def State.moveRefusal (s : State) (a : Nat) (flags : Nat) (target v ac j : Int) : Option (Nat × Nat) :=
  let x := s.axis a
  let m := x.resolveMove flags target v ac j {}
  let moving := decide (x.prof = .moving) || decide (x.prof = .stopping) || decide (x.prof = .suspended)
  firstRefusal [
    (decide (x.ctrlMode ≠ 0), St.wrongMode, 0), (x.streamed, St.streamActive, 0), (!x.enabled, St.axisDisabled, 0),
    x.reactionRefusal, (s.groupBusy a || x.slave, St.coupled, 0), (x.homing.isSome, St.notIdle, 0),
    (fReplace flags && (moving || !x.queue.isEmpty), St.busyMoving, 0),
    (decide (4 ≤ x.queue.length), St.queueFull, 0),
    ((decide (x.prof = .stopping) || decide (x.prof = .suspended)) && !x.queue.isEmpty, St.queueHeld, 0),
    (x.targetBad flags m target, St.targetRange, 0),
    (limitBad v (x.raw Pn.profV) || limitBad ac (x.raw Pn.profA) || limitBad j (x.raw Pn.profJ), St.limitRange, 0),
    (x.unhomed && !fRel flags, St.notHomed, 0), (x.towardLimit (x.moveTravel m), St.atLimit, 0)]

/-- A move becomes the executing one; its plan is requested (R145, R149). -/
def State.startMove (s : State) (a : Nat) (m : Move) : State :=
  (s.modAxis a (fun x => { x with cur := some m, curOpen := true, prof := .moving, plan := none, kept := false })).request a (.move m)

/-- An accepted MOVE starts, or waits in the queue with its place in the order of acceptance (R139, R149, R150, R152). -/
def State.takeMove (s : State) (a : Nat) (m : Move) : State :=
  let x := s.axis a
  if x.prof = .moving ∨ x.prof = .stopping then
    { (s.setAxis a { x with queue := x.queue ++ [{ m with no := s.planNo }] }) with planNo := s.planNo + 1 }
  else s.startMove a m

/-- MOVE (R146 to R149). -/
def moveCmd (h : Hdr) (flags : Nat) (target v a j : Int) (s : State) : State :=
  let x := s.axis h.subj
  let m0 := x.resolveMove flags target v a j {}
  s.hostCmd h 0x0101 .long 0 .axis (if 16 ≤ flags then some St.reservedNonzero else none) none
    (s.moveRefusal h.subj flags target v a j) (fun s =>
      let own := s.openFor h 0x0101
      (s.acceptLong h 0x0101 0 (x.bodyOf m0 flags)).takeMove h.subj { m0 with own := own })

def execMove (h : Hdr) (flags : Nat) (target v a j : Int) (s : State) : Host.Outcome State Fault Refusal :=
  .next (moveCmd h flags target v a j s)

/-! ### STOP -/

/-- A group move stops on the line (R168). -/
def State.stopGroup (s : State) (g : Nat) : State :=
  let x := s.group g
  if x.prof = .moving then
    (s.setGroup g { x with prof := .stopping, heldQueue := !x.queue.isEmpty }).requestGroup g .stop
  else s

/-- Drop the plan request of a move accepted in the present `cycle`: a STOP of that cycle suspends it at once (R162). One
accepted before starts at φ0 of the present cycle, and the stop is planned after it (R145, R149). -/
def dropMoveReq (cycle : Nat) (rs : List Req) : List Req :=
  rs.filter (fun r => match r.what with
    | .move _ => decide (r.cycle ≠ cycle)
    | .resume => decide (r.cycle ≠ cycle)
    | _ => true)

/-- STOP of an axis in position mode with an executing move (R150, R162). -/
def State.stopMove (s : State) (a : Nat) : State :=
  (s.modAxis a (fun x => { x with prof := .stopping, heldQueue := !x.queue.isEmpty, reqs := dropMoveReq s.cycle x.reqs })).request a .stop

/-- What STOP does to an enabled axis (R150, R168, R178, R186, R240). A streamed axis goes on with its stream: what STOP does to it is left
open (DESIGN CHOICE, log entry 196). -/
def State.stopAxis (s : State) (a : Nat) : State :=
  let x := s.axis a
  if s.groupBusy a ∧ (s.groupMoves a).1 = true then s.stopGroup (x.int Pn.group).toNat
  else if x.ident.isSome then (s.failIdent a 5).disableAxis a
  else if x.coupling.isSome ∧ x.uncoupling.isNone = true then
    (s.setAxis a { x with uncoupling := some none }).request a .uncouple
  else if x.homing.isSome then
    ((s.endHoming a St.homingAborted 0).modAxis a (fun x => { x with
      prof := .stopping, heldQueue := !x.queue.isEmpty, reqs := [] })).request a (.toSpeed 0)
  else if x.ctrlMode = 0 then (if x.prof = .moving then s.stopMove a else s)
  else if x.ctrlMode = 1 then (if x.streamed then s else s.request a (.toSpeed 0))
  else if x.ctrlMode = 2 then (if x.streamed then s else s.setAxis a { x with iqNext := x.iqNext ++ [(s.cycle, 0)] })
  else s

/-- The cycle that the FINAL of a stop names, which turned `s` into `t`: that of its plan, behind the requests that still wait, or m + 2
where it asks for none (R139, R145, R350). -/
def State.plannedIn (s t : State) (pe : Nat) : Nat :=
  if t.planNo = s.planNo then cycAdd s.cycle 2 else t.planCycleOf pe (t.planNo - s.planNo)

/-- STOP (R150). -/
def stopCmd (h : Hdr) (s : State) : State :=
  s.hostCmd h 0x0102 .imm 0 .axis none none none (fun s =>
    let t := if (s.axis h.subj).enabled ∧ (s.axis h.subj).inReaction = false then s.stopAxis h.subj else s
    t.acceptImm h 0x0102 (s.plannedIn t (s.profEngine h.subj)) 0 none)

def execStop (h : Hdr) (s : State) : Host.Outcome State Fault Refusal := .next (stopCmd h s)

/-! ### RESUME and FLUSH -/

/-- Travel that a RESUME would begin. -/
def Axis.resumeTravel (x : Axis) : Int :=
  match x.cur with
  | some m => x.leftFrom m x.pSet
  | none =>
    match x.queue with
    | m :: _ => x.leftFrom m x.pSet
    | [] => 0

/-- The refusals of RESUME (R152, R157, R168, R181, R387). -/
def State.resumeRefusal (s : State) (a : Nat) : Option (Nat × Nat) :=
  let x := s.axis a
  firstRefusal [
    (!x.enabled, St.axisDisabled, 0), x.reactionRefusal, (s.groupBusy a || x.slave, St.coupled, 0),
    (!x.streamLost && !(decide (x.prof = .suspended) && x.holdsWork), St.nothingToResume, 0),
    (!x.streamLost && decide (x.ctrlMode ≠ 0), St.wrongMode, 0),
    (!x.streamLost && x.kept && x.unhomed, St.notHomed, 0), (!x.streamLost && x.towardLimit x.resumeTravel, St.atLimit, 0)]

/-- RESUME (R152): the kept move goes on under its new owner, or the held queue is served. -/
def State.resumeAxis (s : State) (a : Nat) (own : Open) : State :=
  let x := s.axis a
  match x.cur with
  | some m =>
    (s.setAxis a { x with cur := some { m with own := own }, curOpen := true, prof := .moving, plan := none,
                          kept := false }).request a .resume
  | none =>
    match x.queue with
    | m :: rest => ((s.setAxis a { x with queue := rest }).startMove a m).finalPlain own St.ok
    | [] => s.finalPlain own St.ok

/-- Replay data of a RESUME: that of the move it goes on with. -/
def Axis.resumeBody (x : Axis) : List Byte :=
  match x.cur with
  | some m => x.bodyOf m (4 * m.dir)
  | none => []

/-- RESUME: immediate on a lost stream, else long (R157, R152). -/
def resumeCmd (h : Hdr) (s : State) : State :=
  let x := s.axis h.subj
  if x.streamLost then
    s.hostCmd h 0x0103 .imm 0 .axis none none (s.resumeRefusal h.subj) (fun s =>
      (s.modAxis h.subj (fun x => { (x.profFlag fStreamLost false) with
        streamLost := false, plan := none, reqs := [] })).acceptImm h 0x0103 (cycAdd s.cycle 1) 0 none)
  else
    s.hostCmd h 0x0103 .long 0 .axis none none (s.resumeRefusal h.subj) (fun s =>
      let own := s.openFor h 0x0103
      (s.acceptLong h 0x0103 0 x.resumeBody).resumeAxis h.subj own)

def execResume (h : Hdr) (s : State) : Host.Outcome State Fault Refusal := .next (resumeCmd h s)

/-- FLUSH on an axis: queued moves end, and in SUSPENDED the remainder too (R152). -/
def State.flushAxis (s : State) (a : Nat) : State :=
  let x := s.axis a
  let s := x.queue.foldl (fun s m => s.finalMove m.own St.moveFlushed s.cycle (satBits 72 (x.leftFrom m x.loop.p))) s
  let x := { x with queue := [], heldQueue := false }
  s.setAxis a (if x.prof = .suspended then
      { x with cur := none, curOpen := false, kept := false, prof := if x.enabled then x.restState else .disabled }
    else x)

/-- FLUSH (R152, R168). -/
def flushCmd (h : Hdr) (s : State) : State :=
  s.hostCmd h 0x0104 .imm 0 .axis none none (firstRefusal [
      (s.axis h.subj).reactionRefusal, (s.groupBusy h.subj, St.coupled, 0)])
    (fun s => (s.flushAxis h.subj).acceptImm h 0x0104 s.cycle 0 none)

def execFlush (h : Hdr) (s : State) : Host.Outcome State Fault Refusal := .next (flushCmd h s)

/-! ### SET_LIMITS, SET_VELOCITY, SET_CURRENT -/

/-- SET_LIMITS (R153): the PNs as a direct write; with an executing move, a replan and a FINAL of its own. -/
def setLimitsCmd (h : Hdr) (v a j : Int) (s : State) : State :=
  let x := s.axis h.subj
  let ws := [(Pn.profV, v), (Pn.profA, a), (Pn.profJ, j)]
  let chapter := firstRefusal [
    x.reactionRefusal,
    (ws.any (fun w => s.commitHoldsPn h.subj w.1), St.setBusy, 0),
    ((s.directFails h.subj ws).isSome, St.checkFailed,
      ((s.directFails h.subj ws).getD 0) % 2 ^ 16 + h.subj % 2 ^ 16 * 2 ^ 16)]
  if x.prof = .moving ∧ x.cur.isSome then
    s.hostCmd h 0x0105 .long 0 .axis none none chapter (fun s =>
      let own := s.openFor h 0x0105
      ((s.acceptLong h 0x0105 0 []).addDirect h.subj ws).request h.subj (.limits own))
  else
    s.hostCmd h 0x0105 .imm 0 .axis none none chapter (fun s =>
      (s.addDirect h.subj ws).acceptImm h 0x0105 (cycAdd s.cycle 2) 0 none)

def execSetLimits (h : Hdr) (v a j : Int) (s : State) : Host.Outcome State Fault Refusal := .next (setLimitsCmd h v a j s)

/-- SET_VELOCITY (R154). -/
def setVelocityCmd (h : Hdr) (v : Int) (s : State) : State :=
  let x := s.axis h.subj
  s.hostCmd h 0x0106 .imm 0 .axis none none
    (firstRefusal [
      (decide (x.ctrlMode ≠ 1), St.wrongMode, 0), (x.streamed, St.streamActive, 0), (!x.enabled, St.axisDisabled, 0),
      x.reactionRefusal, (s.groupBusy h.subj, St.coupled, 0), (x.ident.isSome, St.notIdle, 0),
      (decide (x.raw Pn.profV < |v|), St.limitRange, 0), (x.towardLimit v, St.atLimit, 0)])
    (fun s => (s.request h.subj (.toSpeed v)).acceptImm h 0x0106 (s.planCycle (s.profEngine h.subj)) 0 none)

def execSetVelocity (h : Hdr) (v : Int) (s : State) : Host.Outcome State Fault Refusal := .next (setVelocityCmd h v s)

/-- SET_CURRENT (R155). -/
def setCurrentCmd (h : Hdr) (iq : Int) (s : State) : State :=
  let x := s.axis h.subj
  s.hostCmd h 0x0107 .imm 0 .axis none none
    (firstRefusal [
      (decide (x.ctrlMode ≠ 2), St.wrongMode, 0), (x.streamed, St.streamActive, 0), (!x.enabled, St.axisDisabled, 0),
      x.reactionRefusal])
    (fun s => (s.modAxis h.subj (fun x => { x with iqNext := x.iqNext ++ [(s.cycle, sext 36 (tc 36 iq))] })).acceptImm h 0x0107
      (cycAdd s.cycle 2) 0 none)

def execSetCurrent (h : Hdr) (iq : Int) (s : State) : Host.Outcome State Fault Refusal := .next (setCurrentCmd h iq s)

end Sys2Proof.Machine
end

