-- ==== Sys2Proof/Machine/Couple.lean ====
section
/-!
DEFINITION. Couplings of a slave to a master (R163, R169 to R179): the functions of master travel with their
derivatives, and the commands GEAR_ENGAGE, CAM_ENGAGE and DECOUPLE. Positions are rationals in LSB of P72.
-/

namespace Sys2Proof.Machine

open Sys2Proof

/-! ### Functions of master travel (R170, R173, R176, R177) -/

/-- A value with its first and second derivative by master travel. -/
structure Jet where
  x : Rat
  d : Rat
  dd : Rat
  deriving DecidableEq, Repr

/-- Blend weight w(u) at `u`, where `g` is the derivative of u by master travel (R170). -/
def blendW (u g : Rat) : Jet :=
  ⟨6 * u ^ 5 - 15 * u ^ 4 + 10 * u ^ 3, (30 * u ^ 4 - 60 * u ^ 3 + 30 * u ^ 2) * g,
   (120 * u ^ 3 - 180 * u ^ 2 + 60 * u) * g ^ 2⟩

/-- Integral W(u) of the weight (R170). -/
def blendInt (u : Rat) : Rat := u ^ 6 - 3 * u ^ 5 + 5 / 2 * u ^ 4

/-- `old + w × (new - old)` with its derivatives. -/
def blendJets (w old new : Jet) : Jet :=
  let e : Jet := ⟨new.x - old.x, new.d - old.d, new.dd - old.dd⟩
  ⟨old.x + w.x * e.x, old.d + w.d * e.x + w.x * e.d, old.dd + w.dd * e.x + 2 * w.d * e.d + w.x * e.dd⟩

/-- Table value number `i` with the neighbours of R176 beyond the ends of a cyclic table. -/
def CamTable.y (t : CamTable) (i : Int) : Rat :=
  let n : Int := t.ys.length
  let rise : Int := t.ys.getD (n - 1).toNat 0 - t.ys.getD 0 0
  if i < 0 then ((t.ys.getD (n - 2).toNat 0 - rise : Int) : Rat)
  else if n ≤ i then ((t.ys.getD 1 0 + rise : Int) : Rat)
  else ((t.ys.getD i.toNat 0 : Int) : Rat)

/-- Tangent of point `i` (R176). -/
def CamTable.tangent (t : CamTable) (i : Int) : Rat :=
  let n : Int := t.ys.length
  if t.cyclic then (t.y (i + 1) - t.y (i - 1)) / 2
  else if i = 0 then t.y 1 - t.y 0
  else if i = n - 1 then t.y (n - 1) - t.y (n - 2)
  else (t.y (i + 1) - t.y (i - 1)) / 2

/-- Y at offset `x` within `[0, SPAN]` (R176). -/
def CamTable.inside (t : CamTable) (x : Rat) : Jet :=
  let n : Int := t.ys.length
  let step : Rat := (t.span : Rat) / (n - 1)
  let k := clampI 0 (n - 2) (rfloor (x / step))
  let f := x / step - k
  let y0 := t.y k
  let y1 := t.y (k + 1)
  let t0 := t.tangent k
  let t1 := t.tangent (k + 1)
  ⟨(2 * f ^ 3 - 3 * f ^ 2 + 1) * y0 + (f ^ 3 - 2 * f ^ 2 + f) * t0 + (-2 * f ^ 3 + 3 * f ^ 2) * y1 + (f ^ 3 - f ^ 2) * t1,
   ((6 * f ^ 2 - 6 * f) * y0 + (3 * f ^ 2 - 4 * f + 1) * t0 + (-6 * f ^ 2 + 6 * f) * y1 + (3 * f ^ 2 - 2 * f) * t1) / step,
   ((12 * f - 6) * y0 + (6 * f - 4) * t0 + (-12 * f + 6) * y1 + (6 * f - 2) * t1) / step ^ 2⟩

/-- Y at any offset (R176). -/
def CamTable.jet (t : CamTable) (x : Rat) : Jet :=
  let n := t.ys.length
  let rise : Int := t.ys.getD (n - 1) 0 - t.ys.getD 0 0
  if t.cyclic then
    let k := rfloor (x / t.span)
    let j := t.inside (x - k * t.span)
    { j with x := j.x + k * rise }
  else if x < 0 then ⟨((t.ys.getD 0 0 : Int) : Rat), 0, 0⟩
  else if (t.span : Rat) < x then ⟨((t.ys.getD (n - 1) 0 : Int) : Rat), 0, 0⟩
  else t.inside x

/-- A slave's set-point function at master position `m`. A ramp beyond its end goes on at its new ratio. -/
def SlaveFn.jet (cams : Nat → Option CamTable) (m : Rat) : SlaveFn → Jet
  | .standing p => ⟨p, 0, 0⟩
  | .line mL pL num den => ⟨pL + rnd (num * (m - mL) / den), (num : Rat) / den, 0⟩
  | .ramp mB pB r0 r1 b =>
    let e := m - mB
    let sg := signR e
    if b ≤ absR e then ⟨pB + r0 * sg * b + (r1 - r0) * sg * b / 2 + r1 * (e - sg * b), r1, 0⟩
    else
      let u := absR e / b
      let w := blendW u (sg / b)
      ⟨pB + r0 * e + (r1 - r0) * sg * b * blendInt u, r0 + (r1 - r0) * w.x, (r1 - r0) * w.d⟩
  | .cam table mOrg offset scale =>
    match cams table with
    | some t =>
      let j := t.jet (m - mOrg)
      ⟨offset + scale * j.x, scale * j.d, scale * j.dd⟩
    | none => ⟨offset, 0, 0⟩
  | .blend old new mB b =>
    let e := m - mB
    if b ≤ absR e then new.jet cams m
    else blendJets (blendW (absR e / b) (signR e / b)) (old.jet cams m) (new.jet cams m)

/-- The ramp or blend is complete: u = 1 (R170). -/
def SlaveFn.complete (m : Rat) : SlaveFn → Bool
  | .ramp mB _ _ _ b => decide (b ≤ absR (m - mB))
  | .blend _ _ mB b => decide (b ≤ absR (m - mB))
  | _ => true

/-- A change that is made at once: its master distance is zero (R170). -/
def SlaveFn.atOnce : SlaveFn → Bool
  | .blend _ _ _ b => decide (b = 0)
  | _ => false

/-- The first coupled cycle fixes where a ramp or blend begins (R170, R173): at `m`, from the old function. A change at once that
took effect in the same cycle before is made first (R190). -/
def SlaveFn.fix (cams : Nat → Option CamTable) (m : Rat) : SlaveFn → SlaveFn
  | .blend old (.ramp _ _ _ r b) _ _ =>
    let j := (if old.atOnce then old.fix cams m else old).jet cams m
    .ramp m j.x j.d r b
  | .blend old new _ b => .blend (if old.atOnce then old.fix cams m else old) new m b
  | f => f

/-- What a completed ramp or blend becomes: the exact line of R173, or the cam alone. -/
def SlaveFn.lock (m : Rat) (num den : Int) : SlaveFn → SlaveFn
  | .ramp mB pB r0 r1 b =>
    let sg := signR (m - mB)
    .line (mB + sg * b) (pB + r0 * sg * b + (r1 - r0) * sg * b / 2) num den
  | .blend _ new _ _ => new
  | f => f

/-- The function in force before one that has not yet begun; one that is made at once is in force (R190). -/
def Coupling.base (c : Coupling) : SlaveFn :=
  if c.started || c.fn.atOnce then c.fn
  else match c.fn with
    | .blend old _ _ _ => old
    | f => f

/-- The function stands still: the coupling has not yet followed its master. -/
def SlaveFn.isStanding : SlaveFn → Bool
  | .standing _ => true
  | .blend old _ _ _ => (match old with | .blend _ _ _ _ => old.atOnce | _ => true) && old.isStanding
  | _ => false

/-! ### Masters, chains and engine time (R163, R169) -/

/-- Position, velocity and acceleration of a master for the next cycle, in LSB (R169). A signal is taken as the profile engines have
read it in this cycle and in the two before. -/
def State.masterNow (s : State) (c : Coupling) : Rat × Rat × Rat :=
  if c.mkind = 0 then
    let y := s.axis c.master
    ((y.pNext : Rat), (y.vNext : Rat), (y.aNext : Rat))
  else if c.mkind = 1 then
    let y := s.axis c.master
    ((y.loop.p : Rat) + y.loop.vEst * s.tc, (y.loop.vEst : Rat), 0)
  else
    let w (m : SMap (BitVec 72)) : Rat := ((SMap.get 0 m c.master).toInt : Rat)
    let d := w s.sig.seen - w s.sig.seen1
    let d0 := w s.sig.seen1 - w s.sig.seen2
    (w s.sig.seen + d, d / s.tc, (d / s.tc - (if c.started then c.vLast else d0 / s.tc)) / s.tc)

/-- The axis an axis follows through an axis master. -/
def Axis.masterAxis (x : Axis) : Option Nat :=
  match x.coupling with
  | some c => if c.mkind ≤ 1 then some c.master else none
  | none => none

/-- Links of the chain above axis `a`, at most `fuel`. -/
def State.depthUp (s : State) : Nat → Nat → Nat
  | 0, _ => 0
  | fuel + 1, a =>
    if (s.axis a).coupling.isNone then 0
    else match (s.axis a).masterAxis with
      | some m => 1 + s.depthUp fuel m
      | none => 1

/-- Links of the longest chain of slaves below axis `a`, at most `fuel`. -/
def State.depthDown (s : State) : Nat → Nat → Nat
  | 0, _ => 0
  | fuel + 1, a =>
    ((s.axisNos.filter (fun b => decide ((s.axis b).masterAxis = some a))).map (fun b => 1 + s.depthDown fuel b)).foldl
      max 0

/-- Axis `b` is found on the chain above `a`, or is `a`. -/
def State.chainHolds (s : State) (b : Nat) : Nat → Nat → Bool
  | 0, a => decide (a = b)
  | fuel + 1, a =>
    decide (a = b) || (match (s.axis a).masterAxis with
      | some m => s.chainHolds b fuel m
      | none => false)

/-- The master an engage command names is invalid (R169). -/
def State.masterBad (s : State) (a mkind master : Nat) : Bool :=
  if mkind = 2 then decide (s.sigKind master ≠ some 3) || decide (4 < 1 + s.depthDown 5 a)
  else
    let y := s.axis master
    !y.enabled || decide (y.ctrlMode = 2) || s.chainHolds a 5 master ||
    decide (4 < s.depthUp 5 master + 1 + s.depthDown 5 a) ||
    (decide (mkind = 0) && decide (s.profEngine master ≠ s.profEngine a))

/-- Added cost of an axis's coupling and homing, in 10 ns, from the acceptance on (R163). -/
def Axis.peCost (x : Axis) : Nat :=
  let camDue := x.reqs.any (fun r => match r.what with | .camOn .. => true | _ => false)
  (match x.coupling with
   | some c => if c.kind = .cam ∨ camDue = true then 14 else 8
   | none => 0) + (if x.homing.isSome then 6 else 0)

/-- Profile engine time is short for axis `a` with added cost `cost` in place of its present one (R163). -/
def State.peShort (s : State) (a cost : Nat) : Bool :=
  let e := s.profEngine a
  let others := ((s.axisNos.filter (fun b => decide (b ≠ a) && decide (s.profEngine b = e))).map
    (fun b => (s.axis b).peCost)).sum
  !s.peFits e (others + cost)

/-- The axis has no move, remainder, queue, homing or identification. -/
def Axis.atRest (x : Axis) : Bool :=
  x.cur.isNone && x.queue.isEmpty && decide (x.prof = x.restState) && x.homing.isNone && x.ident.isNone &&
  x.uncoupling.isNone

/-- Speed of a master as it is now, for the limit test of R181. -/
def State.masterSense (s : State) (mkind master : Nat) : Rat :=
  if mkind = 0 then (s.axis master).vSet else (s.masterNow { mkind := mkind, master := master }).2.1

/-- Position of the master of an engage command: its travel in the coupling in force, or where it stands now. -/
def State.masterAt (s : State) (a mkind master : Nat) : Rat :=
  match (s.axis a).coupling with
  | some c => if c.started then c.m else (s.masterNow { mkind := mkind, master := master }).1
  | none => (s.masterNow { mkind := mkind, master := master }).1

/-- The master distance of a blend lies in 0 to 2^38 lines. -/
def blendOk (b : Int) : Bool := decide (0 ≤ b) && decide (b ≤ 2 ^ 70)

/-- Refusals that GEAR_ENGAGE and CAM_ENGAGE share before those of the coupling itself. -/
def State.slaveRefusals (s : State) (a : Nat) : List (Bool × Nat × Nat) :=
  let x := s.axis a
  [(decide (x.ctrlMode ≠ 0), St.wrongMode, 0), (x.streamed, St.streamActive, 0), (!x.enabled, St.axisDisabled, 0),
   x.reactionRefusal, (s.groupBusy a, St.coupled, 0)]

/-- The coupling of an axis follows the master named. -/
def Axis.follows (x : Axis) (mkind master : Nat) : Bool :=
  match x.coupling with
  | some c => decide (c.mkind = mkind) && decide (c.master = master)
  | none => false

def Axis.coupledBy (x : Axis) (k : CoupleKind) : Bool :=
  match x.coupling with
  | some c => decide (c.kind = k)
  | none => false

/-- A slave is taken at acceptance, standing until its plan is served. -/
def State.claimSlave (s : State) (a : Nat) (k : CoupleKind) (mkind master : Nat) : State :=
  s.modAxis a (fun x => { x with
    coupling := match x.coupling with
      | some c => some c
      | none => some { kind := k, mkind := mkind, master := master, fn := .standing x.pSet } })

/-! ### GEAR_ENGAGE (R172) -/

/-- GEAR_ENGAGE. It would move the axis in the sense of NUM times the present speed of the master, and not at all while the master is at
rest: how R181 judges the sense is left open (DESIGN CHOICE, log entry 199). -/
def gearEngageCmd (h : Hdr) (mkind master : Nat) (num den b : Int) (s : State) : State :=
  let x := s.axis h.subj
  let sense := signR ((num : Rat) * s.masterSense mkind master)
  let fmt := if mkind < 2 ∧ s.usable master = false then some St.axisRange
    else if 2 < mkind ∨ den < 1 ∨ 2 ^ 35 ≤ den ∨ num < -(2 ^ 35) ∨ 2 ^ 35 ≤ num ∨ blendOk b = false then
      some St.argument else none
  s.hostCmd h 0x0120 .long 0 .axis fmt none
    (firstRefusal (s.slaveRefusals h.subj ++ [
      (x.coupledBy .cam || (x.coupling.isSome && !x.follows mkind master), St.coupled, 0),
      (!x.atRest, St.notIdle, 0), (s.masterBad h.subj mkind master, St.masterInvalid, 0),
      (x.towardLimit (rnd sense), St.atLimit, 0), (s.peShort h.subj 8, St.peCapacity, 0)]))
    (fun s =>
      let own := s.openFor h 0x0120
      ((s.acceptLong h 0x0120 0 []).claimSlave h.subj .gear mkind master).request h.subj
        (.gear mkind master num den b own))

def execGearEngage (h : Hdr) (mkind master : Nat) (num den b : Int) (s : State) : Host.Outcome State Fault Refusal :=
  .next (gearEngageCmd h mkind master num den b s)

/-! ### CAM_ENGAGE (R177) -/

/-- The way from p* to p_cam at the master's position, which the step or the blend of a CAM_ENGAGE takes the axis (R177, R181). -/
def Axis.camGap (x : Axis) (t : CamTable) (m : Rat) (offset scale : Int) : Int :=
  reduceHalf (x.raw Pn.modulo) (rnd ((offset : Rat) + gVal scale * (t.jet m).x) - x.pSet)

/-- CAM_ENGAGE. It would move the axis to p_cam, and then in the sense of the cam's slope times SCALE times the present speed of the
master (log entry 199). -/
def camEngageCmd (h : Hdr) (mkind table master : Nat) (mOrg offset scale b : Int) (s : State) : State :=
  let x := s.axis h.subj
  let loaded := (SMap.get none s.stage.inForce.cams table).isSome
  let m := s.masterAt h.subj mkind master - (mOrg : Rat)
  let (slope, gap) := match SMap.get none s.stage.inForce.cams table with
    | some t => ((t.jet m).d * gVal scale * s.masterSense mkind master, x.camGap t m offset scale)
    | none => (0, 0)
  let fmt := if h.nslot = 1 then some St.lengthInvalid  -- SCALE lies partly beyond the image (R346)
    else if mkind < 2 ∧ s.usable master = false then some St.axisRange
    else if 2 < mkind ∨ 63 < table ∨ blendOk b = false then some St.argument else none
  s.hostCmd h 0x0121 .long 0 .axis fmt none
    (firstRefusal (s.slaveRefusals h.subj ++ [
      (x.coupling.isSome && !x.follows mkind master, St.notIdle, 0), (!x.atRest, St.notIdle, 0),
      (s.masterBad h.subj mkind master, St.masterInvalid, 0), (!loaded, St.camInvalid, 0),
      (x.towardLimit (rnd (signR slope)) || x.towardLimit gap, St.atLimit, 0), (s.peShort h.subj 14, St.peCapacity, 0)]))
    (fun s =>
      let own := s.openFor h 0x0121
      ((s.acceptLong h 0x0121 0 []).claimSlave h.subj .cam mkind master).request h.subj
        (.camOn mkind master table mOrg offset scale b own))

def execCamEngage (h : Hdr) (mkind table master : Nat) (mOrg offset scale b : Int) (s : State) :
    Host.Outcome State Fault Refusal := .next (camEngageCmd h mkind table master mOrg offset scale b s)

/-! ### DECOUPLE (R178) -/

/-- MODE 1, and STOP of a slave: the slave stops by a plan; its owner is paid at standstill. -/
def State.beginUncouple (s : State) (a : Nat) (own : Option Open) : State :=
  (s.modAxis a (fun x => { x with uncoupling := some own })).request a .uncouple

/-- DECOUPLE. -/
def decoupleCmd (h : Hdr) (mode : Nat) (b : Int) (s : State) : State :=
  let x := s.axis h.subj
  s.hostCmd h 0x0122 .long 0 .axis (if 1 < mode ∨ (mode = 0 ∧ blendOk b = false) then some St.argument else none) none
    (firstRefusal [
      (!x.enabled, St.axisDisabled, 0), x.reactionRefusal,
      (x.coupling.isNone || x.uncoupling.isSome || (decide (mode = 0) && x.coupledBy .cam), St.argument, 0)])
    (fun s =>
      let own := s.openFor h 0x0122
      let s := s.acceptLong h 0x0122 0 []
      if mode = 0 then s.request h.subj (.ungear b own) else s.beginUncouple h.subj (some own))

def execDecouple (h : Hdr) (mode : Nat) (b : Int) (s : State) : Host.Outcome State Fault Refusal :=
  .next (decoupleCmd h mode b s)

end Sys2Proof.Machine
end

