-- ==== Sys2Proof/Machine/Groups.lean ====
section
/-!
DEFINITION. The commands of an interpolation group (R164 to R168): GROUP_MOVE with its target list, GROUP_STOP,
GROUP_RESUME and GROUP_FLUSH. The straight line itself is planned and sampled by PROFILE_EVALUATION.
-/

namespace Sys2Proof.Machine

open Sys2Proof

/-- Position a new group move starts from for a member (R148, R168): its target in the last queued move, in the
present or suspended one, or p*. -/
def State.groupBase (s : State) (g a : Nat) : Int :=
  let x := s.group g
  let find (m : GroupMove) : Option Int := (m.targets.find? (fun t => decide (t.1 = a))).map (fun t => t.2)
  match (match x.queue.getLast? with | some m => some m | none => x.cur) with
  | some m => (find m).getD (s.axis a).pSet
  | none => (s.axis a).pSet

/-- A target list as R165 lays it out: COUNT, FLAGS, V, A, J and the targets. -/
structure TargetList where
  count : Nat
  flags : Nat
  v : Int
  a : Int
  j : Int
  targets : List Int
  deriving DecidableEq, Repr

/-- The target list at a host address, for `n` members; none where a read fails. -/
def State.readTargets (s : State) (addr n : Nat) : Option TargetList :=
  if alignedAddr addr = false then none
  else match s.memRd addr 64 with
    | none => none
    | some bs =>
      match (if Machine.field bs 0 8 = n then s.memRd (addr + 64) (16 * n) else some []) with
      | none => none
      | some ts => some { count := Machine.field bs 0 8, flags := Machine.field bs 8 8, v := field72 bs 16, a := field72 bs 32,
                          j := field72 bs 48, targets := (List.range n).map (fun i => field72 ts (16 * i)) }

/-- Targets of the members, resolved at acceptance (R148, R165). -/
def State.resolveTargets (s : State) (g : Nat) (l : TargetList) : List (Nat × Int) :=
  ((s.members g).zip l.targets).map (fun e =>
    let x := s.axis e.1
    let t := if l.flags % 2 = 1 then s.groupBase g e.1 + e.2 else e.2
    (e.1, if l.flags % 2 = 1 then reducePos (x.raw Pn.modulo) t else t))

/-- Distance of a member to its target, on a rotary axis the shorter way round (R166). -/
def State.memberTravel (s : State) (p : Int) (e : Nat × Int) : Int := reduceHalf ((s.axis e.1).raw Pn.modulo) (e.2 - p)

/-- The member with the largest distance; ties go to the lower number (R166). -/
def leadOf (ds : List (Nat × Int)) : Nat :=
  (ds.foldl (fun (best : Nat × Int) d => if |best.2| < |d.2| then d else best) (ds.headD (0, 0))).1

/-- A member that the group cannot move (R165). -/
def State.memberInvalid (s : State) (a : Nat) : Bool :=
  let x := s.axis a
  !x.enabled || decide (x.ctrlMode ≠ 0) || x.streamed || x.cur.isSome || !x.queue.isEmpty || x.slave ||
  x.homing.isSome || x.ident.isSome

/-- The range of R147 for a member's target. -/
def State.memberRangeBad (s : State) (flags : Nat) (raw : Int) (e : Nat × Int) : Bool :=
  let m := (s.axis e.1).raw Pn.modulo
  if m = 0 then decide (e.2 < -(2 ^ 70)) || decide (2 ^ 70 < e.2)
  else decide (flags % 2 = 0) && (decide (raw < 0) || decide (m ≤ raw))

/-- The refusals of GROUP_MOVE in order (R165, R147, R168, R181, R186). -/
def State.groupRefusal (s : State) (g : Nat) (l : TargetList) : Option (Nat × Nat) :=
  let x := s.group g
  let ms := s.members g
  let ts := s.resolveTargets g l
  let ds := ts.map (fun e => (e.1, s.memberTravel (s.groupBase g e.1) e))
  let lead := s.axis (leadOf ds)
  firstRefusal [
    (decide (l.count ≠ ms.length) || ms.isEmpty || ms.any s.memberInvalid, St.groupInvalid, 0),
    (ms.any (fun a => (s.axis a).inReaction), St.inReaction, 0), (decide (4 ≤ x.queue.length), St.queueFull, 0),
    ((decide (x.prof = .stopping) || decide (x.prof = .suspended)) && !x.queue.isEmpty, St.queueHeld, 0),
    ((ts.zip l.targets).any (fun e => s.memberRangeBad l.flags e.2 e.1), St.targetRange, 0),
    (limitBad l.v (lead.raw Pn.profV) || limitBad l.a (lead.raw Pn.profA) || limitBad l.j (lead.raw Pn.profJ),
      St.limitRange, 0),
    (decide (l.flags % 2 = 0) && ms.any (fun a => (s.axis a).unhomed), St.notHomed, 0),
    (ds.any (fun d => (s.axis d.1).towardLimit d.2), St.atLimit, 0)]

/-- A group move becomes the executing one; its plan is requested. -/
def State.startGroup (s : State) (g : Nat) (m : GroupMove) : State :=
  (s.setGroup g { s.group g with cur := some m, curOpen := true, prof := .moving, plan := none }).requestGroup g .start

/-- An accepted group move starts, or waits in the group's queue (R168). -/
def State.takeGroup (s : State) (g : Nat) (m : GroupMove) : State :=
  let x := s.group g
  if x.prof = .moving ∨ x.prof = .stopping then
    { (s.setGroup g { x with queue := x.queue ++ [{ m with no := s.planNo }] }) with planNo := s.planNo + 1 }
  else s.startGroup g m

/-- Replay data of a group move (R380): the group and its limits in the 36 bytes of the ACCEPT, then 5 targets per extension. -/
def groupBody (g : Nat) (m : GroupMove) (flags : Nat) : List Byte :=
  fitBytes 36 (moveBody g m.v m.a m.j flags) ++ m.targets.flatMap (fun t => leBytes 9 (tc 72 t.2))

/-- GROUP_MOVE (R165, R168). -/
def groupMoveCmd (h : Hdr) (list : Nat) (s : State) : State :=
  let n := (s.members h.subj).length
  match s.readTargets list n with
  | none => s.hostCmd h 0x0110 .long 0 .group (some St.hostAddress) none none (fun s => s)
  | some l =>
    let m : GroupMove := { targets := s.resolveTargets h.subj l, v := l.v, a := l.a, j := l.j }
    s.hostCmd h 0x0110 .long ((n + 4) / 5) .group (if 2 ≤ l.flags then some St.reservedNonzero else none) none
      (s.groupRefusal h.subj l) (fun s =>
        let own := s.openFor h 0x0110
        (s.acceptLong h 0x0110 ((n + 4) / 5) (groupBody h.subj m l.flags)).takeGroup h.subj { m with own := own })

def execGroupMove (h : Hdr) (list : Nat) (s : State) : Host.Outcome State Fault Refusal := .next (groupMoveCmd h list s)

/-- GROUP_STOP (R150, R168): on a group that does not move it does nothing. -/
def groupStopCmd (h : Hdr) (s : State) : State :=
  s.hostCmd h 0x0111 .imm 0 .group none none none (fun s =>
    let t := s.stopGroup h.subj
    t.acceptImm h 0x0111 (s.plannedIn t (s.groupEngine h.subj)) 0 none)

def execGroupStop (h : Hdr) (s : State) : Host.Outcome State Fault Refusal := .next (groupStopCmd h s)

/-- The refusals of GROUP_RESUME (R152, R168, R181). -/
def State.groupResumeRefusal (s : State) (g : Nat) : Option (Nat × Nat) :=
  let x := s.group g
  let ms := s.members g
  let ts := match x.cur with
    | some m => m.targets
    | none => (x.queue.headD {}).targets
  firstRefusal [
    (ms.any (fun a => !(s.axis a).enabled), St.axisDisabled, 0), (ms.any (fun a => (s.axis a).inReaction), St.inReaction, 0),
    (!(decide (x.prof = .suspended) && x.busy), St.nothingToResume, 0),
    (ts.any (fun e => (s.axis e.1).towardLimit (s.memberTravel (s.axis e.1).pSet e)), St.atLimit, 0)]

/-- GROUP_RESUME: a new straight line to the kept targets, or the head of the held queue (R168). -/
def State.resumeGroup (s : State) (g : Nat) (own : Open) : State :=
  let x := s.group g
  match x.cur with
  | some m => (s.setGroup g { x with cur := some { m with own := own }, curOpen := true, prof := .moving, plan := none }
      ).requestGroup g .start
  | none =>
    match x.queue with
    | m :: rest => ((s.setGroup g { x with queue := rest }).startGroup g m).finalMove own St.ok s.cycle 0
    | [] => s.finalMove own St.ok s.cycle 0

/-- GROUP_RESUME. Its replay data is that of the group move it goes on with. -/
def groupResumeCmd (h : Hdr) (s : State) : State :=
  let m := ((s.group h.subj).cur).getD {}
  let n := (m.targets.length + 4) / 5
  s.hostCmd h 0x0112 .long n .group none none (s.groupResumeRefusal h.subj) (fun s =>
    let own := s.openFor h 0x0112
    (s.acceptLong h 0x0112 n (groupBody h.subj m 0)).resumeGroup h.subj own)

def execGroupResume (h : Hdr) (s : State) : Host.Outcome State Fault Refusal := .next (groupResumeCmd h s)

/-- GROUP_FLUSH: queued group moves end, and where the group is suspended its remainder too (R152, R168). -/
def State.flushGroup (s : State) (g : Nat) : State :=
  let x := s.group g
  let remain (m : GroupMove) : Int :=
    match m.targets.find? (fun t => decide (t.1 = x.lead)) with
    | some t => satBits 72 (t.2 - (s.axis t.1).loop.p)
    | none => 0
  let s := x.queue.foldl (fun s m => s.finalMove m.own St.moveFlushed s.cycle (remain m)) s
  let x := { x with queue := [] }
  s.setGroup g (if x.prof = .suspended then { x with cur := none, curOpen := false, prof := .idle } else x)

def groupFlushCmd (h : Hdr) (s : State) : State :=
  s.hostCmd h 0x0113 .imm 0 .group none none
    (firstRefusal [((s.members h.subj).any (fun a => (s.axis a).inReaction), St.inReaction, 0)])
    (fun s => (s.flushGroup h.subj).acceptImm h 0x0113 s.cycle 0 none)

def execGroupFlush (h : Hdr) (s : State) : Host.Outcome State Fault Refusal := .next (groupFlushCmd h s)

end Sys2Proof.Machine
end

