-- ==== Sys2Proof/Machine/Homing.lean ====
section
/-!
DEFINITION. Homing and switch inputs (R180 to R186): HOME, the confirmed edges of limit and home switches, the stall of
method 4, and the phases a homing run goes through. A run's velocity transitions are planned by PROFILE_EVALUATION.
-/

namespace Sys2Proof.Machine

open Sys2Proof

/-- Switch of number `i`: 0 positive limit, 1 negative limit, 2 home. -/
def Axis.switch (x : Axis) (i : Nat) : Bool := x.sw.getD i false

/-- PN that names the source of switch `i`. -/
def switchPn (i : Nat) : Nat := [Pn.limPosSrc, Pn.limNegSrc, Pn.homeSrc].getD i Pn.homeSrc

/-- Limit switch in sense `d`. -/
def limitIn (d : Int) : Nat := if 0 < d then 0 else 1

/-- Direction of HOME_DIR. -/
def Axis.homeSense (x : Axis) : Int := if x.int Pn.homeDir = 0 then 1 else -1

/-- A method that ends on an index pulse. -/
def usesIndex (method : Nat) : Bool := decide (method = 2) || decide (method = 3) || decide (method = 7)

/-- A method that uses the home switch. -/
def usesHome (method : Nat) : Bool := decide (method = 1) || decide (method = 3) || decide (method = 6) || decide (method = 7)

/-- The far-edge methods go on in the same direction. -/
def farEdge (method : Nat) : Bool := decide (method = 6) || decide (method = 7)

/-- A method needs a switch that is not configured (R182). -/
def Axis.homeSwitchMissing (x : Axis) : Bool :=
  let m := (x.int Pn.homeMethod).toNat
  (decide (m = 0) && decide (x.int (switchPn (limitIn x.homeSense)) < 0)) || (usesHome m && decide (x.int Pn.homeSrc < 0))

/-- MODE of the feedback port of an axis: of its local port, or of its remote port's CFG; 0 where it has none. -/
def State.axisFbMode (s : State) (a : Nat) : Nat :=
  let x := s.axis a
  let src := x.int Pn.fbSrc
  if 0 ≤ src ∧ src ≤ 3 then s.fld (R.fbCfg src.toNat) 0 3
  else if src = 4 then
    let home := Config.remoteHome a
    match (s.remoteCfgs 1).find? (fun e => decide (e.1 = home.1) && decide (e.2.1 = home.2)) with
    | some e => bits e.2.2 0 3
    | none => 0
  else 0

/-- The feedback port provides an index pulse to the homing run: quadrature or sine/cosine on a local port. -/
def State.hasIndex (s : State) (a : Nat) : Bool :=
  decide ((s.axis a).int Pn.fbSrc ≤ 3) && (decide (s.axisFbMode a = 1) || decide (s.axisFbMode a = 2))

/-- Absolute feedback: an SSI port. -/
def State.absolute (s : State) (a : Nat) : Bool := decide (s.axisFbMode a = 3)

/-- Direction of the slow move of a method, and of its way on to the index: d for the far-edge methods, else -d, where d is what HOME_DIR
gives, also after a reversal (R182, R183; log entry 205). -/
def Homing.slowDir (h : Homing) : Int := if farEdge h.method then h.sense else -h.sense

/-- Speed of a homing phase in its direction. -/
def Axis.homeSpeed (x : Axis) (h : Homing) : Int :=
  match h.phase with
  | .search => h.dir * x.raw Pn.homeVFast
  | .backOff => h.slowDir * x.raw Pn.homeVSlow
  | .toIndex => (if h.method = 2 then h.dir else h.slowDir) * x.raw Pn.homeVSlow
  | .stallSearch => h.dir * x.raw Pn.homeVSlow
  | _ => 0

/-- A homing method that needs an index arms latch 0 of its port on the index itself (R207). -/
def State.armIndex (s : State) (a : Nat) : State :=
  let src := (s.axis a).int Pn.fbSrc
  if 0 ≤ src ∧ src ≤ 3 then (s.setReg (R.fbLatCtl src.toNat 0) 0x25).setFbp src.toNat ((s.fbp src.toNat).unwait 0) else s

/-- A homing run enters phase `p`: its velocity transition is requested. -/
def State.homePhase (s : State) (a : Nat) (h : Homing) (p : HomePhase) : State :=
  let h := { h with phase := p }
  let s := if p = .toIndex then s.armIndex a else s
  (s.modAxis a (fun x => { x with homing := some h })).request a (.toSpeed ((s.axis a).homeSpeed h))

/-- A homing run fails with a code: the axis stops, then the FINAL follows (R184). -/
def State.homeFail (s : State) (a : Nat) (h : Homing) (code : Nat) : State :=
  s.homePhase a { h with failCode := some code } .settle

/-- The reference is found: the axis stops, then the offset is added (R185). -/
def State.homeRef (s : State) (a : Nat) (h : Homing) (pRef : Int) : State :=
  s.homePhase a { h with pRef := some pRef } .settle

/-- The search of a method begins in direction `h.dir`: at a switch already active it begins with the slow move, but not back to the
limit at which it has reversed, and an active limit ahead is a reversal point (R183, R184; log entry 205). -/
def State.homeSearch (s : State) (a : Nat) (h0 : Homing) : State :=
  let x := s.axis a
  let h := { h0 with gone := 0 }
  if h.method = 0 then (if x.switch (limitIn h.dir) then s.homePhase a h .backOff else s.homePhase a h .search)
  else if usesHome h.method = true ∧ x.switch 2 = true ∧ (h.reversed = false ∨ h.slowDir = h.dir) then s.homePhase a h .backOff
  else if h.method = 2 then s.homePhase a h .toIndex
  else if h.method = 4 then s.homePhase a h .stallSearch
  else s.homePhase a h .search

/-- A reversal (R184): the axis, which moves in sense `d`, stops and repeats the search the other way; a second limit ends it with
code 1. -/
def State.homeReverse (s : State) (a : Nat) (h : Homing) (d : Int) : State :=
  if h.reversed then s.homeFail a h 1
  else (s.modAxis a (fun x => x.coordFlag fLimitReversed true)).homePhase a
    { h with reversed := true, ignoreLimit := true, dir := if 0 < d then -1 else 1 } .reversing

/-- The run begins (R183, R184). -/
def State.homeStart (s : State) (a : Nat) (own : Open) : State :=
  let x := s.axis a
  let h : Homing := { method := (x.int Pn.homeMethod).toNat, dir := x.homeSense, sense := x.homeSense, own := own }
  if x.switch 0 ∧ x.switch 1 then s.homeFail a h 1
  else if h.method = 5 then (if s.absolute a then s.homeRef a h x.loop.p else s.homeFail a h 4)
  else if usesIndex h.method ∧ s.hasIndex a = false then s.homeFail a h 3
  else if h.method ≠ 0 ∧ x.switch (limitIn h.dir) = true then
    (s.modAxis a (fun x => x.coordFlag fLimitReversed true)).homeSearch a
      { h with reversed := true, ignoreLimit := true, dir := -h.dir }
  else s.homeSearch a h

/-- HOME may run (R182, R387): no move of its own but one kept over a restart of an axis with HOME_REQ. A member of a busy group is
refused with COUPLED, which R168 names, before NOT_IDLE, which R182 names for it too: the spec gives no order between the two
(DESIGN CHOICE, log entry 168). -/
def State.homeRefusal (s : State) (a : Nat) : Option (Nat × Nat) :=
  let x := s.axis a
  let keptWork := x.kept && decide (x.prof = .suspended) && decide (x.int Pn.homeReq = 1)
  firstRefusal [
    x.reactionRefusal, (s.groupBusy a, St.coupled, 0),
    (!x.enabled || decide (x.ctrlMode ≠ 0) || x.streamed || x.slave || !(x.atRest || (keptWork && x.homing.isNone)),
      St.notIdle, 0),
    (x.homeSwitchMissing, St.groupInvalid, 0), (s.peShort a (x.peCost + 6), St.peCapacity, 0)]

/-- HOME (R182). -/
def homeCmd (h : Hdr) (s : State) : State :=
  s.hostCmd h 0x0130 .long 0 .axis none none (s.homeRefusal h.subj) (fun s =>
    let own := s.openFor h 0x0130
    (s.acceptLong h 0x0130 0 []).homeStart h.subj own)

def execHome (h : Hdr) (s : State) : Host.Outcome State Fault Refusal := .next (homeCmd h s)

/-! ### Confirmed edges (R180, R181, R183, R184) -/

/-- The state that the source of switch `i` shows now, by SW_POL (R180); none without a source. -/
def State.switchRaw (s : State) (x : Axis) (i : Nat) : Option Bool :=
  let c := x.int (switchPn i)
  if c < 0 then none
  else some ((if c < 16 then s.bit R.dioIn c.toNat else (s.sigWord (c - 16).toNat).getLsbD 0) != x.flag Pn.swPol i)

/-- One cycle of switch `i` of axis `a` (R180): a change from the confirmed state is counted, with p of the cycle in which it was
first seen; one that reverts sets CHATTER. -/
def State.switchOne (s : State) (a i : Nat) : State :=
  let x := s.axis a
  let seen := x.swSeen.getD i (0, 0)
  match s.switchRaw x i with
  | none => s.setAxis a { x with swSeen := x.swSeen.set i (0, 0) }
  | some v =>
    if v ≠ x.switch i then
      s.setAxis a { x with swSeen := x.swSeen.set i (seen.1 + 1, if seen.1 = 0 then x.loop.p else seen.2) }
    else if seen.1 = 0 then s
    else s.setAxis a (({ x with swSeen := x.swSeen.set i (0, 0) }).coordFlag fChatter true)

def State.switchStep (s : State) (a : Nat) : State := (List.range 3).foldl (fun s i => s.switchOne a i) s

/-- The change of switch `i` to `active` has held for HOME_CONFIRM consecutive cycles, and holds still (R180). -/
def State.switchHeld (s : State) (a i : Nat) (active : Bool) : Bool :=
  let x := s.axis a
  decide (s.switchRaw x i = some active) && decide (x.int Pn.homeConfirm ≤ (x.swSeen.getD i (0, 0)).1)

/-- Sense in which a homing run moves now. -/
def Axis.homeMoving (x : Axis) (h : Homing) : Int := x.homeSpeed h

/-- An active edge during homing. A limit that the axis moves to is a reversal point of methods 1 to 4, 6 and 7 in every step of the
run, the slow ones included; method 0 knows none, and fails with code 1 at one in its slow move, as a second limit does (DESIGN CHOICE,
log entry 200). -/
def State.homeActive (s : State) (a : Nat) (h : Homing) (sw : Nat) : State :=
  let x := s.axis a
  let d := x.homeMoving h
  if sw = 2 then
    if h.phase = .search ∧ usesHome h.method = true then
      s.homePhase a h (if farEdge h.method then .backOff else .stopAfterSearch)
    else s
  else if d = 0 ∨ sw ≠ limitIn d then s
  else
    match h.phase with
    | .search => if h.method = 0 then s.homePhase a h .stopAfterSearch else s.homeReverse a h d
    | .toIndex => s.homeReverse a h d
    | .stallSearch => s.homeReverse a h d
    | .backOff => if h.method = 0 then s.homeFail a h 1 else s.homeReverse a h d
    | _ => s

/-- An inactive edge during homing: the end of the slow move (R183). -/
def State.homeInactive (s : State) (a : Nat) (h : Homing) (sw : Nat) (pos : Int) : State :=
  let h' := if h.ignoreLimit ∧ sw ≠ 2 then { h with ignoreLimit := false } else h
  let s := s.modAxis a (fun x => { x with homing := some h' })
  if h.phase ≠ .backOff then s
  else if h.method = 0 then (if sw = limitIn h.dir then s.homeRef a h' pos else s)
  else if sw = 2 then
    if usesIndex h.method then s.homePhase a h' .toIndex else s.homeRef a h' pos
  else s

/-- The position of an axis at the stamp of the last edge of field channel `ch`, on the line through the port's samples at the φ0 before
and after it, as a field-input latch has it (R180, R207); none where the samples kept do not bracket it, or the axis has no local port. -/
def State.edgePos (s : State) (x : Axis) (ch : Nat) : Option Int :=
  if x.int Pn.fbSrc < 0 ∨ 3 < x.int Pn.fbSrc then none
  else
    let hist := (s.fbp (x.int Pn.fbSrc).toNat).hist
    let t := SMap.get 0 s.field.edgeAt ch
    let after := hist.takeWhile (fun y => decide (0 < t72Diff t y.t))
    match (hist.drop after.length).head?, after.getLast? with
    | some a, some b => some (satBits 72 (reducePos (x.raw Pn.modulo) (interpolate a b t (tcycT s.rung) + x.pOff)))
    | _, _ => none

/-- SWITCH_EDGE_CONFIRMED: switch `sw` of axis `a` has changed to `active` and the change has held for HOME_CONFIRM cycles. The edge
of a field channel lies where its time-stamp gives it, that of a signal at p of the cycle in which it was first seen. `pos` stands for
the time-stamp's position where the model keeps no samples about it: of a remote source, and of an edge older than the samples kept
(log entry 204). -/
def switchEdgeConfirmedCmd (a sw : Nat) (active : Bool) (pos : Int) (s : State) : State :=
  let x := s.axis a
  if s.usable a = false ∨ 3 ≤ sw ∨ s.live = false ∨ x.switch sw = active ∨ s.switchHeld a sw active = false then s
  else
    let src := x.int (switchPn sw)
    let pos := if src < 16 then (s.edgePos x src.toNat).getD pos else (x.swSeen.getD sw (0, 0)).2
    let s := s.setAxis a { x with sw := x.sw.set sw active, swSeen := x.swSeen.set sw (0, 0) }
    match x.homing with
    | some h => if active then s.homeActive a h sw else s.homeInactive a h sw pos
    | none => if active = true ∧ sw ≠ 2 ∧ x.enabled = true ∧ s.isRun = true then s.raiseSource a 16 0 true else s

def execSwitchEdgeConfirmed (a sw : Nat) (active : Bool) (pos : Int) (s : State) : Host.Outcome State Fault Refusal :=
  .next (switchEdgeConfirmedCmd a sw active pos s)

/-- HOMING_STALL_DETECTED: the stall condition of method 4 has held for HOME_STALL_TIME; p is the reference. -/
def homingStallDetectedCmd (a : Nat) (s : State) : State :=
  let x := s.axis a
  match x.homing with
  | some h =>
    if s.isRun = true ∧ s.usable a = true ∧ h.phase = .stallSearch ∧ |x.loop.vEst| ≤ x.raw Pn.stillV ∧
        95 * toHfs (x.g Pn.iFs) (x.g Pn.homeIlim) ≤ 100 * |x.loop.iqSet| then s.homeRef a h x.loop.p
    else s
  | none => s

def execHomingStallDetected (a : Nat) (s : State) : Host.Outcome State Fault Refusal := .next (homingStallDetectedCmd a s)

end Sys2Proof.Machine
end

