-- ==== Sys2Proof/Machine/ProfileEval.lean ====
section
/-!
DEFINITION. PROFILE_EVALUATION (R135 to R145, R149 to R157, R163, R166 to R173, R177 to R179, R183 to R185), the lost
stream (R157) and missing set-points (R137). In cycle n a profile engine ends what has ended at φ0 of n, serves up to four plan requests
from the set-points of n, and forms the set-points of n + 1.
-/

namespace Sys2Proof.Machine

open Sys2Proof

/-! ### Requests -/

/-- Cycle number before `n`. -/
def cycBack (n : Nat) : Nat := (n + (2 ^ 32 - 1)) % 2 ^ 32

/-- Every waiting request of axis `a` counts as accepted in the cycle before. -/
def State.ageReqs (s : State) (a : Nat) : State :=
  s.modAxis a (fun x => { x with reqs := x.reqs.map (fun r => { r with cycle := cycBack s.cycle }) })

/-- The plan of a move that leaves its queue in this evaluation; it stands in the order of its acceptance (R139). -/
def State.requestQueued (s : State) (a : Nat) (m : Move) : State :=
  s.modAxis a (fun x => { x with reqs := x.reqs ++ [⟨cycBack s.cycle, m.no, .move m⟩] })

/-- A request that this evaluation itself gives rise to. -/
def State.requestNow (s : State) (a : Nat) (w : PlanReq) : State :=
  { (s.modAxis a (fun x => { x with reqs := x.reqs ++ [⟨cycBack s.cycle, s.planNo, w⟩] })) with planNo := s.planNo + 1 }

/-- The same for a group move. -/
def State.requestGroupQueued (s : State) (g : Nat) (m : GroupMove) : State :=
  let x := s.group g
  s.setGroup g { x with reqs := x.reqs ++ [⟨cycBack s.cycle, m.no, .start⟩] }

/-- Kinematic state of the set-points of the present cycle, in lines. -/
def Axis.kin (x : Axis) : Kin := ⟨pVal x.pSet, pVal x.vSet, pVal x.aSet⟩

/-! ### Ends of moves and runs (R143, R149, R150, R178, R183 to R185) -/

/-- The next queued move starts, or the axis rests or stays suspended with its queue held. -/
def State.serveQueue (s : State) (a : Nat) (held : Bool) : State :=
  let x := s.axis a
  match x.queue with
  | m :: rest =>
    if held then s.setAxis a { x with prof := .suspended }
    else
      let m := { m with since := some s.cycle }
      (s.setAxis a { x with queue := rest, cur := some m, curOpen := true, prof := .moving, plan := none, heldQueue := false }
        ).requestQueued a m
  | [] => s.setAxis a { x with prof := x.restState }

/-- A stop has come to rest short of the target (R150): SUSPENDED, or the turn-round move. -/
def State.endStop (s : State) (a : Nat) (m : Move) : State :=
  let x := s.axis a
  if x.queue.isEmpty = false ∧ x.heldQueue = false then
    let s := if x.curOpen then s.finalMove m.own St.moveStopped s.cycle x.remainNow else s
    (s.setAxis a { x with cur := none, curOpen := false, plan := none, remain := x.remainNow }).serveQueue a false
  else s.suspendMove a x.remainNow

/-- The travel of a search goes on over the plans it is made of: that of plan `pl` up to `t` is added (R184). -/
def Homing.goOn (h : Homing) (pl : Plan) (t : Nat) : Homing := { h with gone := h.gone + ((pl.at t).x - pl.x0) }

/-- The present plan of a homing run gives way to another, or ends. -/
def Axis.leavePlan (x : Axis) (t : Nat) : Axis :=
  match x.plan with
  | some pl => { x with plan := none, homing := x.homing.map (fun h => h.goOn pl t) }
  | none => x

/-- FINAL of a homing run that ends by itself (R184, R185). -/
def State.endHome (s : State) (a : Nat) (status code : Nat) : State :=
  (s.endHoming a status code).modAxis a (fun x => { x with
    plan := none, prof := if x.holdsWork then .suspended else x.restState })

/-- The offset Δ is added to p and p* at one φ0 (R185). The position states of the plausibility model are not moved with them, of
which R185 says nothing (DESIGN CHOICE, log entry 169). -/
def Axis.homeShift (x : Axis) (pRef : Int) : Axis :=
  let d := x.raw Pn.homePos - pRef
  let m := x.raw Pn.modulo
  ({ x with
    pOff := x.pOff + d, homed := true, homeOffset := d, plan := none,
    pSet := reducePos m (satBits 72 (x.pSet + d)), pNext := reducePos m (satBits 72 (x.pNext + d)),
    loop := { x.loop with p := reducePos m (satBits 72 (x.loop.p + d)), pPrev := reducePos m (satBits 72 (x.loop.pPrev + d)) } }
  ).coordFlag fHomed true

/-- After the reference is set: back-off of method 4, then the move to HOME_POS, then the end (R183, R185). -/
def State.homeAfter (s : State) (a : Nat) (h : Homing) : State :=
  let x := s.axis a
  if h.method = 4 ∧ h.phase = .settle ∧ x.raw Pn.homeBackoff ≠ 0 then
    (s.setAxis a { x with homing := some { h with phase := .stallBackOff } }).requestNow a
      (.shift (-h.dir * x.raw Pn.homeBackoff) (x.raw Pn.homeVSlow))
  else if h.phase ≠ .goto ∧ x.int Pn.homeGoto = 1 then
    (s.setAxis a { x with homing := some { h with phase := .goto } }).requestNow a (.goto (x.raw Pn.homePos) (x.raw Pn.profV))
  else s.endHome a St.ok 0

/-- A homing run has come to rest: its next phase (R183, R184). -/
def State.homeNext (s : State) (a : Nat) (h : Homing) : State :=
  match h.phase with
  | .stopAfterSearch => (s.homePhase a h .backOff).ageReqs a
  | .reversing => (s.homeSearch a h).ageReqs a
  | .settle =>
    match h.failCode with
    | some c => s.endHome a St.homingFailed c
    | none => (s.modAxis a (fun x => x.homeShift (h.pRef.getD x.loop.p))).homeAfter a h
  | .stallBackOff => s.homeAfter a h
  | .goto => s.homeAfter a h
  | _ => s

/-- A stop of a slave has come to rest (R178). -/
def State.endUncouple (s : State) (a : Nat) (own : Option Open) : State :=
  (s.modAxis a (fun x => { x with uncoupling := none, plan := none, prof := x.restState })).finalOpt own St.ok

/-- What ends on axis `a` at φ0 of the present cycle. -/
def State.finishAxis (s : State) (a : Nat) : State :=
  let x := s.axis a
  match x.plan with
  | none => s
  | some pl =>
    if pl.ended s.phi0Now = false then s
    else
      match x.homing with
      | some h => (s.setAxis a (x.leavePlan s.phi0Now)).homeNext a (h.goOn pl s.phi0Now)
      | none =>
        if x.uncoupling.isSome ∧ x.coupling.isNone then s.endUncouple a (x.uncoupling.getD none)
        else
          match x.cur with
          | some m =>
            if x.prof = .suspended then s.setAxis a { x with plan := none }
            else if pl.target.isSome then
              let s := s.endMove a m
              if x.inReaction || x.ss1 then s
              else s.serveQueue a (decide (x.prof = .stopping) && x.heldQueue)
            else if x.inReaction || x.ss1 then s.setAxis a { x with plan := none }
            else s.endStop a m
          | none =>
            let s := s.setAxis a { x with plan := none }
            if x.prof = .stopping ∧ x.inReaction = false then s.serveQueue a x.heldQueue else s

/-- REMAIN PNs of the members at the end of a group move; a member that a reaction or a disable has taken off the line keeps the
one taken then (R128). -/
def State.setRemains (s : State) (m : GroupMove) (stopped : Bool) : State :=
  m.targets.foldl (fun s t =>
    s.modAxis t.1 (fun x => { x with remain := if stopped = false then 0
      else if x.enabled = false ∨ x.inReaction = true then x.remain else satBits 72 (t.2 - x.loop.p) })) s

/-- The next queued group move starts, or the group rests or stays suspended. -/
def State.serveGroupQueue (s : State) (g : Nat) (held : Bool) : State :=
  let x := s.group g
  match x.queue with
  | m :: rest =>
    if held then s.setGroup g { x with prof := .suspended }
    else
      let m := { m with since := some s.cycle }
      (s.setGroup g { x with queue := rest, cur := some m, curOpen := true, prof := .moving, plan := none,
                             heldQueue := false }).requestGroupQueued g m
  | [] => s.setGroup g { x with prof := if x.cur.isSome then .suspended else .idle }

/-- What ends on group `g` at φ0 of the present cycle (R143, R150, R168). -/
def State.finishGroup (s : State) (g : Nat) : State :=
  let x := s.group g
  match x.plan, x.cur with
  | some pl, some m =>
    if pl.ended s.phi0Now = false then s
    else
      let reached := pl.target.isSome
      let s := if x.curOpen then
          s.finalMove m.own (if reached then St.ok else St.moveStopped) s.cycle (if reached then 0 else s.groupRemain m x.lead)
        else s
      let s := s.setRemains m (!reached)
      let turn := !x.queue.isEmpty && !x.heldQueue
      let s := s.setGroup g { x with cur := if reached || turn then none else some m, curOpen := false, plan := none }
      if reached then s.serveGroupQueue g (decide (x.prof = .stopping) && x.heldQueue)
      else if turn then s.serveGroupQueue g false
      else s.setGroup g { s.group g with prof := .suspended }
  | _, _ => s

/-! ### Planning (R140, R142 to R144, R150, R153, R166, R167) -/

/-- A limit of a move, capped by the PN in force, zero being that PN (R140), in line units. -/
def capLn (v pn : Int) : Rat := pVal (min (orPn v pn) pn)

/-- A velocity transition; with a speed left it runs on. -/
def speedPlan (t0 : Nat) (k : Kin) (v : Int) (a j : Rat) : Plan :=
  let p := planSpeed t0 k (pVal v) a j
  if v = 0 then p else { p with segs := p.segs ++ [⟨0, 1000000000⟩] }

/-- A move from rest at p* with its own limits, capped by the PNs (R140, R148, R152). -/
def Axis.planMove (x : Axis) (t0 : Nat) (m : Move) : Axis :=
  let d := x.leftFrom m x.pSet
  { x with
    plan := some (planRest t0 x.pSet (x.pSet + d) (capLn m.v (x.raw Pn.profV)) (capLn m.a (x.raw Pn.profA))
      (capLn m.j (x.raw Pn.profJ))),
    cur := some { m with dist := if x.raw Pn.modulo = 0 then none else some d } }

/-- The limits in force of the executing move, with which it stops (R150): its own capped by the PNs (R140), or those it keeps (R153). -/
def Axis.stopLimits (x : Axis) (pl : Plan) : Rat × Rat :=
  match x.cur with
  | some m => if pl.deferred then (pl.la, pl.lj) else (capLn m.a (x.raw Pn.profA), capLn m.j (x.raw Pn.profJ))
  | none => (pl.la, pl.lj)

/-- A stop of the executing move (R150). A plan that reaches its target before the stop would end is kept. -/
def Axis.planStop (x : Axis) (t0 : Nat) : Axis :=
  match x.plan with
  | some pl =>
    let stop := planSpeed t0 x.kin 0 (x.stopLimits pl).1 (x.stopLimits pl).2
    if pl.target.isSome ∧ segsDur pl.segs - secs pl.t0 t0 ≤ segsDur stop.segs then x
    else { x with plan := some stop }
  | none => { x with plan := some { t0 := t0, x0 := pVal x.pSet } }

/-- A replan of the executing move with new limits (R153); none where the target would be passed. The target stands at the distance
still to travel from p*, which on a rotary axis may be turns away. -/
def Axis.replan (x : Axis) (t0 : Nat) : Option Plan :=
  match x.plan, x.cur with
  | some pl, some m =>
    if pl.target.isNone then none
    else planTarget t0 x.kin (x.pSet + x.leftFrom m x.pSet) (capLn m.v (x.raw Pn.profV)) (capLn m.a (x.raw Pn.profA))
      (capLn m.j (x.raw Pn.profJ))
  | _, _ => none

/-- New limits that the executing move cannot take: it keeps those it has to its end (R153). -/
def Axis.deferLimits (x : Axis) : Axis :=
  { x.profFlag fLimitDeferred true with plan := x.plan.map (fun pl => { pl with deferred := true }) }

/-- The executing move is not being stopped yet: a stop that waits for its plan comes after what was accepted before it (R145). -/
def Axis.runsOn (x : Axis) : Bool :=
  decide (x.prof = .moving) ||
    (decide (x.prof = .stopping) && x.reqs.any (fun r => match r.what with | .stop => true | _ => false))

/-- The PNs in force cap the executing move at other limits than those of its plan (R140), and no replan waits. -/
def Axis.capsMoved (x : Axis) : Bool :=
  match x.plan, x.cur with
  | some pl, some m =>
    x.runsOn && x.homing.isNone && pl.target.isSome && !pl.deferred &&
    decide ((capLn m.v (x.raw Pn.profV), capLn m.a (x.raw Pn.profA), capLn m.j (x.raw Pn.profJ)) ≠ (pl.lv, pl.la, pl.lj)) &&
    !x.reqs.any (fun r => match r.what with | .limits _ => true | .recap => true | _ => false)
  | _, _ => false

/-- A new function of master travel takes the place of the one in force. -/
def Coupling.replaceFn (c : Coupling) (new : SlaveFn) (b : Int) : Coupling :=
  { c with fn := .blend c.base new 0 (b : Rat), started := false, locked := false }

/-- The FINALs still owed for a ramp or blend that another takes the place of: of its engagement, or of its DECOUPLE. -/
def State.supersede (s : State) (a : Nat) : State :=
  match (s.axis a).coupling with
  | some c => (s.finalOpt c.own St.moveStopped).finalOpt c.ending St.moveStopped
  | none => s

/-- Change the coupling of an axis, where it still has one; else the owner is told that it was stopped. -/
def State.changeCoupling (s : State) (a : Nat) (own : Open) (f : Coupling → Coupling) : State :=
  match (s.axis a).coupling with
  | some c => (s.supersede a).modAxis a (fun x => { x with coupling := some (f c) })
  | none => s.finalPlain own St.moveStopped

/-- The ramp of QSTOP or SS1 (R122, R410). -/
def Axis.planQstop (x : Axis) (t0 : Nat) : Axis :=
  { x with plan := some (speedPlan t0 x.kin 0 (x.ln Pn.qsDec) (x.ln Pn.qsJerk)), coasting := none }

/-- One request of axis `a` is planned from the set-points of the present cycle. -/
def State.planAxis (s : State) (a : Nat) (w : PlanReq) : State :=
  let x := s.axis a
  let t0 := s.phi0Now
  let pa := x.ln Pn.profA
  let pj := x.ln Pn.profJ
  match w with
  | .move m => if x.prof = .moving ∨ x.prof = .stopping then s.setAxis a (x.planMove t0 m) else s
  | .resume => if x.prof = .moving ∨ x.prof = .stopping then (match x.cur with | some m => s.setAxis a (x.planMove t0 m) | none => s) else s
  | .stop => if x.prof = .stopping then s.setAxis a (x.planStop t0) else s
  | .limits own =>
    if x.runsOn = false ∨ x.plan.isNone = true then s.final own St.ok (cycAdd s.cycle 1) 0 none []
    else match x.replan t0 with
      | some pl => (s.setAxis a { x with plan := some pl }).final own St.ok (cycAdd s.cycle 1) 0 none []
      | none => (s.setAxis a x.deferLimits).final own St.limitDeferred (cycAdd s.cycle 1) 0 none []
  | .recap =>
    if x.runsOn = false ∨ x.plan.isNone = true then s
    else match x.replan t0 with
      | some pl => s.setAxis a { x with plan := some pl }
      | none => s.setAxis a x.deferLimits
  | .toSpeed v => s.setAxis a { x.leavePlan t0 with plan := some (speedPlan t0 x.kin v pa pj) }
  | .qstop =>
    if x.reaction = .qstop then s.setAxis a (x.planQstop t0) else s
  | .ss1 => if x.ss1 then s.setAxis a (x.planQstop t0) else s
  | .goto x1 v =>
    s.setAxis a { x with plan := some (planRest t0 x.pSet (x.pSet + x.travel x.pSet x1 0) (capLn v (x.raw Pn.profV)) pa pj) }
  | .shift d v =>
    s.setAxis a { x with plan := some (planRest t0 x.pSet (x.pSet + d) (capLn v (x.raw Pn.profV)) pa pj) }
  | .gear _ _ num den b own =>
    s.changeCoupling a own (fun c =>
      { c.replaceFn (.ramp 0 0 0 ((num : Rat) / den) (b : Rat)) b with kind := .gear, num := num, den := den, own := some own, ending := none })
  | .camOn _ _ table mOrg offset scale b own =>
    s.changeCoupling a own (fun c =>
      { c.replaceFn (.cam table (mOrg : Rat) (offset : Rat) (gVal scale)) b with kind := .cam, own := some own, ending := none })
  | .ungear b own =>
    s.changeCoupling a own (fun c =>
      { c.replaceFn (.ramp 0 0 0 0 (b : Rat)) b with num := 0, den := 1, own := none, ending := some own })
  | .uncouple =>
    if x.uncoupling.isNone then s
    else
      let s := match x.coupling with
        | some c => (s.finalOpt c.own St.moveStopped).finalOpt c.ending St.moveStopped
        | none => s
      s.modAxis a (fun y => { y with coupling := none, plan := some (speedPlan t0 x.kin 0 pa pj) })

/-- The smallest of a list of caps that scale with the members' distances (R167). -/
def scaledCap (dl : Int) (ds : List (Nat × Int)) (lim : Nat → Rat) (start : Rat) : Rat :=
  ds.foldl (fun c d => if d.2 = 0 then c else min c (lim d.1 * ((|dl| : Int) : Rat) / ((|d.2| : Int) : Rat))) start

/-- Limits V_g, A_g and J_g of a group move (R165, R167), and whether a member lowers them. -/
def State.groupLimits (s : State) (m : GroupMove) (lead : Nat) (dl : Int) (ds : List (Nat × Int)) : Rat × Rat × Rat × Bool :=
  let x := s.axis lead
  let one (v : Int) (pn : Nat) : Rat × Bool :=
    let v0 := pVal (orPn v (x.raw pn))
    let v1 := scaledCap dl ds (fun a => (s.axis a).ln pn) v0
    (v1, decide (v1 < v0))
  let v := one m.v Pn.profV
  let a := one m.a Pn.profA
  let j := one m.j Pn.profJ
  (v.1, a.1, j.1, v.2 || a.2 || j.2)

/-- One request of group `g` is planned. The plan runs along the lead's distance. -/
def State.planGroup (s : State) (g : Nat) (w : GroupReqKind) : State :=
  let x := s.group g
  let t0 := s.phi0Now
  match x.cur with
  | none => s
  | some m =>
    match w with
    | .start =>
      if x.prof ≠ .moving ∧ x.prof ≠ .stopping then s
      else
        let starts := m.targets.map (fun t => (t.1, (s.axis t.1).pSet))
        let ds := m.targets.map (fun t => (t.1, s.memberTravel (s.axis t.1).pSet t))
        let lead := leadOf ds
        let dl := |((ds.find? (fun d => decide (d.1 = lead))).map (fun d => d.2)).getD 0|
        let (v, a, j, slowed) := s.groupLimits m lead dl ds
        let s := s.setGroup g { x with starts := starts, dists := ds, lead := lead, plan := some (planRest t0 0 dl v a j) }
        if slowed then s.modAxis lead (fun y => y.coordFlag fGroupSlowed true) else s
    | _ =>
      if x.prof ≠ .stopping then s
      else
        let dl := |((x.dists.find? (fun d => decide (d.1 = x.lead))).map (fun d => d.2)).getD 0|
        match x.plan with
        | none => s.setGroup g { x with plan := some { t0 := t0 } }
        | some pl =>
          let lim (pn : Nat) (dflt : Rat) : Rat :=
            if w = .qstop then
              scaledCap dl x.dists (fun a => (s.axis a).ln pn) ((s.axis x.lead).ln pn)
            else dflt
          let stop := planSpeed t0 (pl.at t0) 0 (lim Pn.qsDec pl.la) (lim Pn.qsJerk pl.lj)
          if w ≠ .qstop ∧ pl.target.isSome ∧ segsDur pl.segs - secs pl.t0 t0 ≤ segsDur stop.segs then s
          else s.setGroup g { x with plan := some stop }

/-! ### Serving requests (R139, R163) -/

/-- Who waits for a plan slot: an axis or a group, with the order number of its first due request. -/
def State.waitingReqs (s : State) (pe : Nat) : List (Nat × Bool × Nat) :=
  ((s.peAxes pe).flatMap (fun a => ((s.axis a).reqs.filter (fun r => dueReq s.cycle r.cycle)).map (fun r => (r.no, false, a)))) ++
  ((s.peGroups pe).flatMap (fun g => ((s.group g).reqs.filter (fun r => dueReq s.cycle r.cycle)).map (fun r => (r.no, true, g))))

/-- The request that was accepted first. -/
def earliest : List (Nat × Bool × Nat) → Option (Nat × Bool × Nat)
  | [] => none
  | r :: rest => some (rest.foldl (fun b r => if r.1 < b.1 then r else b) r)

/-- The request with order number `no` of axis `a` is taken and planned; what ends at once ends now. -/
def State.serveAxis (s : State) (a no : Nat) : State :=
  let x := s.axis a
  match x.reqs.find? (fun r => decide (r.no = no)) with
  | some r =>
    (((s.setAxis a { x with reqs := x.reqs.filter (fun r => decide (r.no ≠ no)) }).planAxis a r.what)).finishAxis a
  | none => s

def State.serveGroup (s : State) (g no : Nat) : State :=
  let x := s.group g
  match x.reqs.find? (fun r => decide (r.no = no)) with
  | some r =>
    (((s.setGroup g { x with reqs := x.reqs.filter (fun r => decide (r.no ≠ no)) }).planGroup g r.what)).finishGroup g
  | none => s

/-- Up to `slots` plans in acceptance order; what then still waits is late (R139). -/
def State.serveSlots (s : State) (pe : Nat) : Nat → State
  | 0 => (s.waitingReqs pe).foldl (fun s r =>
      if r.2.1 then (s.members r.2.2).foldl (fun s a => s.modAxis a (fun x => x.profFlag fPlanLate true)) s
      else s.modAxis r.2.2 (fun x => x.profFlag fPlanLate true)) s
  | k + 1 =>
    match earliest (s.waitingReqs pe) with
    | none => s
    | some r => (if r.2.1 then s.serveGroup r.2.2 r.1 else s.serveAxis r.2.2 r.1).serveSlots pe k

/-! ### Masters (R169, R179) -/

/-- Whether the signal a master or a stream reads is valid now (R327). -/
def State.sigValid (s : State) (sg : Nat) : Bool := (s.blockStat (sg / 64)).valid

/-- Slaves of a lost master end their coupling and stop (R179). -/
def State.checkMaster (s : State) (a : Nat) : State :=
  let x := s.axis a
  match x.coupling with
  | none => s
  | some c =>
    if x.uncoupling.isSome then s
    else
      let inv := if c.mkind = 2 ∧ s.sigValid c.master = false then c.invalid + 1 else 0
      let lost := if c.mkind = 2 then decide (2 ≤ inv) else !(s.axis c.master).enabled
      let s := s.setAxis a { x with coupling := some { c with invalid := inv } }
      if lost then
        ((s.modAxis a (fun y => { (y.coordFlag fMasterLost true) with uncoupling := some none })).evFree 28 a).requestNow a .uncouple
      else s

/-! ### Set-points of the next cycle -/

/-- Set-points hold p* at rest. -/
def Axis.holdSet (x : Axis) : Axis := { x with pNext := x.pSet, vNext := 0, aNext := 0, nextReady := true }

/-- Set-points follow the axis. -/
def Axis.followSet (x : Axis) (v : Int) : Axis := { x with pNext := x.loop.p, vNext := v, aNext := 0, nextReady := true }

/-- Set-points of a plan at instant `t`; at its end the target exactly (R143). -/
def Axis.planSet (x : Axis) (pl : Plan) (t : Nat) : Axis :=
  let k := pl.at t
  let p := if pl.ended t then pl.endPos else toP k.x
  { x with pNext := reducePos (x.raw Pn.modulo) p, vNext := toP k.v, aNext := toP k.a, nextReady := true }

/-- Set-points of a group member (R166). -/
def Axis.groupSet (x : Axis) (g : Group) (pl : Plan) (a t : Nat) : Axis :=
  let find (l : List (Nat × Int)) (i : Nat) : Int := ((l.find? (fun e => decide (e.1 = i))).map (fun e => e.2)).getD 0
  let d := find g.dists a
  let dl : Rat := pVal |find g.dists g.lead|
  let k := pl.at t
  let q (v : Rat) : Rat := if dl = 0 then 0 else v / dl
  let p := if pl.ended t ∧ pl.target.isSome then find g.starts a + d else find g.starts a + rnd (d * q k.x)
  { x with pNext := reducePos (x.raw Pn.modulo) p, vNext := toP (pVal d * q k.v), aNext := toP (pVal d * q k.a), nextReady := true }

/-- Streamed position (R156): the clamp, and v*, a*. On a rotary axis s - p*_n is taken the shorter way round, which R156 leaves open
(DESIGN CHOICE, log entry 197). -/
def State.streamPos (s : State) (x : Axis) : Axis :=
  let tc := s.tc
  let m := x.raw Pn.modulo
  let v := (s.sigWord (x.int Pn.streamSig).toNat).toInt
  let d := reduceHalf m (v - x.pSet)
  let lim := toP (x.ln Pn.profV * tc)
  let step := clampI (-lim) lim d
  let vs := if 0 ≤ x.int Pn.streamVsig then (s.sigWord (x.int Pn.streamVsig).toNat).toInt else toP (pVal step / tc)
  ({ x with pNext := reducePos m (satBits 72 (x.pSet + step)), vNext := vs, aNext := toP (pVal (vs - x.vSet) / tc),
            nextReady := true }).profFlag fStreamClamp (decide (step ≠ d))

/-- Streamed speed (R156). -/
def State.streamVel (s : State) (x : Axis) : Axis :=
  let tc := s.tc
  let lim := x.raw Pn.profV
  let v := clampI (-lim) lim (s.sigWord (x.int Pn.streamSig).toNat).toInt
  let dv := toP (x.ln Pn.profA * tc)
  let vs := clampI (x.vSet - dv) (x.vSet + dv) v
  ({ x.followSet vs with aNext := toP (pVal (vs - x.vSet) / tc) }).profFlag fStreamClamp (decide (vs ≠ v))

/-- The targets whose cycle of effect is the next one: the last of them stands (R155). -/
def State.currentDue (s : State) (x : Axis) : Axis :=
  { x with iqTarget := ((x.iqNext.filter (fun e => dueReq s.cycle e.1)).map (fun e => e.2)).getLastD x.iqTarget,
           iqNext := x.iqNext.filter (fun e => !dueReq s.cycle e.1) }

/-- iq* moves toward its target at CUR_SLEW (R155, R156, R157); it goes to zero as the stream is left (R158; log entry 198). -/
def State.currentSet (s : State) (x : Axis) : Axis :=
  let x := s.currentDue x
  let target := if x.streamed then
      (if x.streamLost then 0 else sext 36 (Machine.tc 36 (s.sigWord (x.int Pn.streamSig).toNat).toInt))
    else if x.prof = .streaming then 0
    else x.iqTarget
  let step := toHfs (x.g Pn.iFs) (x.g Pn.curSlew * s.tc)
  let iq := if x.raw Pn.curSlew = 0 then target else clampI (x.iqSlew - step) (x.iqSlew + step) target
  { x.followSet x.loop.vEst with iqSlew := iq }

/-- STREAM_AGE counts the cycles since STREAM_SEQ_SIG last changed (R157, R162). -/
def State.streamCount (s : State) (x : Axis) : Axis :=
  if x.streamed = false ∨ x.int Pn.streamSeqSig < 0 ∨ x.int Pn.streamTmo = 0 then x
  else
    let w := s.sigWord (x.int Pn.streamSeqSig).toNat
    if w ≠ x.streamSeq then { x with streamSeq := w, streamAge := 0 }
    else if s.sigValid (x.int Pn.streamSig).toNat then { x with streamAge := min 65535 (x.streamAge + 1) }
    else x

/-- A coupling that only holds its slave until its plan is served. -/
def Coupling.waits (c : Coupling) : Bool :=
  match c.fn with
  | .standing _ => true
  | _ => false

/-- Set-points of a slave (R169 to R173, R177): the master's travel, the function at it, and lock. Answer: the axis with its
set-points, the coupling after the step, and whether a ramp or blend became complete in it. -/
def State.slaveStep (s : State) (x : Axis) (c : Coupling) : Axis × Coupling × Bool :=
  if c.waits then (x.holdSet, c, false)
  else
    let cams := fun t => SMap.get none s.stage.inForce.cams t
    let (mp, mv, ma) := s.masterNow c
    let modulo : Int := if c.mkind = 2 then 0 else (s.axis c.master).raw Pn.modulo
    let fresh := !c.started && c.fn.isStanding
    let travel : Rat := if modulo = 0 then mp - c.mLast else
      let d := mp - c.mLast
      d - modulo * (rfloor ((d + (modulo : Rat) / 2) / modulo))
    let m := if fresh then mp else c.m + travel
    let fn := if c.started then c.fn else c.fn.fix cams m
    let j := fn.jet cams m
    let done := fn.complete m && !c.locked
    let c1 := { c with m := m, mLast := mp, vLast := mv, started := true, fn := if done then fn.lock m c.num c.den else fn,
                       locked := c.locked || done }
    let p := rnd ((if done then c1.fn.jet cams m else j).x)
    let v := toP (pVal 1 * (j.d * mv))
    let acc := toP (pVal 1 * (j.dd * mv ^ 2 + j.d * ma))
    let beyond := decide (x.raw Pn.profV < |v|) || decide (x.raw Pn.profA < |acc|)
    (({ x with pNext := reducePos (x.raw Pn.modulo) (satBits 72 p), vNext := v, aNext := acc, nextReady := true
        }).coordFlag fCoupleOver beyond, c1, done)

/-- A slave follows its coupling: its set-points, and what the completion of a ramp or blend ends. -/
def State.slaveSet (s : State) (a : Nat) (c : Coupling) : State :=
  let (y, c1, done) := s.slaveStep (s.axis a) c
  let y := { y with coupling := some c1 }
  let s := s.setAxis a y
  if done = false then s
  else match c.ending with
    | some own =>
      (s.setAxis a { y with coupling := none, vNext := 0, aNext := 0, prof := y.restState }).final own St.ok (cycAdd s.cycle 1) 0 none []
    | none =>
      match c.own with
      | some own =>
        (s.setAxis a { y with coupling := some { c1 with own := none } }).final own St.ok (cycAdd s.cycle 1) 0 none []
      | none => s

/-- The coupling that a reaction has ended gives the set-points until the ramp's (R122). -/
def State.coastSet (s : State) (a : Nat) (c : Coupling) : State :=
  let (y, c1, _) := s.slaveStep (s.axis a) c
  s.setAxis a { y with coasting := some c1 }

/-- A homing search that is longer than HOME_MAXDIST fails with code 2; a latched index ends the move to it (R183, R184). -/
def State.homeWatch (s : State) (a : Nat) : State :=
  let x := s.axis a
  match x.homing, x.plan with
  | some h, some pl =>
    if h.phase = .toIndex ∧ h.pRef.isSome then ((s.homePhase a h .settle).ageReqs a)
    else if (h.phase = .search ∨ h.phase = .backOff ∨ h.phase = .toIndex ∨ h.phase = .stallSearch) ∧
        x.ln Pn.homeMaxdist < absR (h.goOn pl s.phi0Now).gone then (s.homeFail a h 2).ageReqs a
    else s
  | _, _ => s

/-- The group move that gives axis `a` its set-points now. -/
def State.groupPlan (s : State) (a : Nat) : Option (Group × Plan) :=
  match (s.axis a).groupNo with
  | some g =>
    let x := s.group g
    match x.plan with
    | some pl => if x.starts.any (fun e => decide (e.1 = a)) then some (x, pl) else none
    | none => none
  | none => none

/-- The ramp of QSTOP or SS1 has taken the set-points over; while its plan waits they go on as they were (R122, R139). -/
def Axis.ramps (x : Axis) : Bool :=
  x.inReaction && !x.reqs.any (fun r => match r.what with | .qstop => true | .ss1 => true | _ => false)

/-- The axis follows its stream: it is not lost, or the plan that ends it waits (R157). -/
def Axis.follows? (x : Axis) : Bool :=
  x.streamed && !x.ramps &&
    (!x.streamLost || x.reqs.any (fun r => match r.what with | .toSpeed _ => true | _ => false))

/-- An axis whose PROF_SRC goes to commanded in the next cycle is brought to rest from its present set-points (R158). -/
def Axis.leaveStream (x : Axis) (t0 : Nat) : Axis :=
  if x.prof = .streaming ∧ x.streamed = false ∧ x.plan.isNone = true then
    { x with plan := some (speedPlan t0 x.kin 0 (x.ln Pn.profA) (x.ln Pn.profJ)) }
  else x

/-- Set-points of axis `a` for the next cycle in position mode (R136, R156, R166, R169). -/
def State.samplePos (s : State) (a : Nat) (x : Axis) (t : Nat) : State :=
  let planned := s.setAxis a (match x.plan with
    | some pl => x.planSet pl t
    | none => x.holdSet)
  if x.ramps then planned
  else match s.groupPlan a, x.coupling, x.coasting with
    | some gp, _, _ => s.setAxis a (x.groupSet gp.1 gp.2 a t)
    | none, some c, _ => (s.setAxis a x).slaveSet a c
    | none, none, some c => if x.inReaction then (s.setAxis a x).coastSet a c else planned
    | none, none, none => if x.follows? then s.setAxis a (s.streamPos { x with plan := none }) else planned

/-- Set-points of axis `a` for the next cycle (R135, R136, R155 to R157). `rampNext` tells that those of an analogue-curve axis are the
ramp of a reaction (R122). -/
def State.sampleModes (s : State) (a : Nat) : State :=
  let x0 := s.axis a
  let tstop := decide (x0.reaction = .tstop) && !x0.still
  let x := { s.streamCount x0 with rampNext := x0.ramps || tstop }
  let t := s.phi0 (cycAdd s.cycle 1)
  if x.fly.on then s.setAxis a (x.followSet x.vSet)
  else if x.ident.isSome then
    s.setAxis a (match x.plan with
      | some pl => { x.planSet pl t with pNext := x.loop.p }
      | none => x.followSet x.vSet)
  else if tstop then s.setAxis a (x.followSet 0)
  else
    if x.ctrlMode = 2 then s.setAxis a (s.currentSet x)
    else if x.ctrlMode = 3 then
      match x.plan with
      | some pl => s.setAxis a { x.planSet pl t with pNext := x.loop.p }
      | none => s.setAxis a (x.followSet (if x.inReaction then x.vSet else x.curve.v))
    else
      let x := x.leaveStream s.phi0Now
      if x.ctrlMode = 1 then
        if x.follows? then s.setAxis a (s.streamVel { x with plan := none })
        else match x.plan with
          | some pl => s.setAxis a { x.planSet pl t with pNext := x.loop.p }
          | none => s.setAxis a (x.followSet x.vSet)
      else s.samplePos a x t

/-- A move after p* has gone `step` further. -/
def Move.goOn (m : Move) (step : Int) : Move := { m with dist := m.dist.map (fun d => d - step) }

/-- The distance still to travel on a rotary axis goes down by what p* travels (R148). -/
def Axis.trackLeft (x : Axis) : Axis :=
  let k := x.raw Pn.modulo
  if k = 0 then x
  else { x with cur := x.cur.map (fun m => m.goOn (reduceHalf k (x.pNext - x.pSet))) }

/-- What an evaluation gives axis `a` for the next cycle. -/
def State.sampleAxis (s : State) (a : Nat) : State := (s.sampleModes a).modAxis a Axis.trackLeft

/-- Axes of a list with masters before their slaves (R169). -/
def State.byDepth (s : State) (as : List Nat) : List Nat :=
  (List.range 6).flatMap (fun d => as.filter (fun a => decide (s.depthUp 5 a = d)))

/-- Items of the commit that applies at the next φ0. -/
def State.itemsNext (s : State) : List StageItem :=
  match s.stage.commit with
  | some k => if k.phase = .scheduled ∧ s.dueAtPhi0 k.cycle = true then (s.stageSet k.set).items else []
  | none => []

/-- Writes of PNs at the next φ0, in their order: the commit's, then the direct ones (R105, R375). -/
def State.pnsNext (s : State) : List (Nat × Nat × Int) :=
  (s.itemsNext.filter (fun it => decide (it.kind = 1))).map (fun it => (it.a, it.b, sext 72 it.value.toNat)) ++
    (s.stage.direct.filter (fun d => s.dueAtPhi0 d.1)).map (fun d => d.2)

/-- The axes with the PNs they will have at the next φ0, to which an evaluation belongs (R375). -/
def State.withNextPns (s : State) : State :=
  s.pnsNext.foldl (fun s w => s.modAxis w.1 (fun x => x.write w.2.1 w.2.2)) s

/-- The axes with their PNs in force again. -/
def State.withPnsOf (s t : State) : State :=
  t.pnsNext.foldl (fun s w => s.modAxis w.1 (fun x => { x with pn := (t.axis w.1).pn })) s

/-- The engines read the signal store at the scatter instant, once a cycle (R156, R169). -/
def State.readSignals (s : State) (pe : Nat) : State :=
  let s := if s.fab.peDone = 0 then
      { s with sig := { s.sig with seen := s.sig.words, seen1 := s.sig.seen, seen2 := s.sig.seen1 } } else s
  { s with fab := { s.fab with peDone := bvPut s.fab.peDone pe true } }

/-- What profile engine `pe` does in one evaluation. Switches concern every axis it holds, set-points the enabled ones. -/
def State.evaluate (s : State) (pe : Nat) : State :=
  let all := s.axisNos.filter (fun a => decide (s.profEngine a = pe))
  let s := all.foldl (fun s a => s.switchStep a) (s.readSignals pe)
  let as := s.peAxes pe
  let s := as.foldl (fun s a => (s.checkMaster a).homeWatch a) s
  let s := as.foldl (fun s a => s.finishAxis a) s
  let s := as.foldl (fun s a => if (s.axis a).capsMoved then s.requestNow a .recap else s) s
  let s := (s.peGroups pe).foldl (fun s g => s.finishGroup g) s
  let s := s.serveSlots pe 4
  (s.byDepth (s.peAxes pe)).foldl (fun s a => s.sampleAxis a) s

/-- PROFILE_EVALUATION of profile engine `pe` in the present cycle. -/
def profileEvaluationCmd (pe : Nat) (s : State) : State :=
  if 2 ≤ pe ∨ s.isRun = false ∨ s.engineRuns (4 + pe) = false then s
  else (s.withNextPns.evaluate pe).withPnsOf s

def execProfileEvaluation (pe : Nat) (s : State) : Host.Outcome State Fault Refusal := .next (profileEvaluationCmd pe s)

/-! ### Lost streams and missing set-points -/

/-- STREAM_LOST: STREAM_AGE has passed STREAM_TMO (R157). -/
def streamLostCmd (a : Nat) (s : State) : State :=
  let x := s.axis a
  if s.isRun = false ∨ s.usable a = false ∨ x.enabled = false ∨ x.streamed = false ∨ x.streamLost = true ∨
      x.int Pn.streamSeqSig < 0 ∨ x.int Pn.streamTmo ≤ 0 ∨ (x.streamAge : Int) ≤ x.int Pn.streamTmo then s
  else
    let s := (s.setAxis a { (x.profFlag fStreamLost true) with streamLost := true }).evFree 28 a
    if x.ctrlMode = 2 ∨ x.inReaction = true then s else s.request a (.toSpeed 0)

def execStreamLost (a : Nat) (s : State) : Host.Outcome State Fault Refusal := .next (streamLostCmd a s)

/-- PROFILE_MISS: the set-points of the present cycle were not written (R137). -/
def profileMissCmd (a : Nat) (s : State) : State :=
  let x := s.axis a
  if s.isRun = false ∨ s.usable a = false ∨ x.enabled = false ∨ x.missing = false then s
  else
    let p := reducePos (x.raw Pn.modulo) (satBits 72 (x.pSet + rnd (x.vSet * s.tc)))
    let s := s.setAxis a { (x.profFlag fSpStale true) with pSet := p, missing := false, misses := x.misses + 1 }
    let s := s.evEngine (4 + s.profEngine a) 5 (some a)
    if 1 ≤ x.misses then s.raiseSource a 3 0 true else s

def execProfileMiss (a : Nat) (s : State) : Host.Outcome State Fault Refusal := .next (profileMissCmd a s)

end Sys2Proof.Machine
end

