-- ==== Sys2Proof/Machine/Session.lean ====
section
/-!
DEFINITION. Debug (R518 to R524): what the matrix of R521 permits, halting and resuming engines (R522), and the end of a
session (R520).
-/

namespace Sys2Proof.Machine

open Sys2Proof

/-- A debug event (R519 to R522); its SUBJECT is the engine, 0xFFFF where none is named (log entry 11). -/
def State.evDebug (s : State) (engine : Option Nat) (code : Nat) : State := s.evC 61 (engine.getD 0xFFFF) code

/-! ### The matrix (R521) -/

/-- REQ of DBG_LAST and the engine a request names. -/
def dbgReq : DbgRequest → Nat × Option Nat
  | .idcode => (0, none)
  | .bypass => (0, none)
  | .sample => (1, none)
  | .extest => (2, none)
  | .readMem e _ => (3, some e)
  | .writeMem e _ _ => (4, some e)
  | .readReg _ => (3, none)
  | .writeReg _ _ => (4, none)
  | .halt e => (5, some e)
  | .resume e => (6, some e)
  | .channelB => (7, none)

/-- A request that FIELD never permits on SCA: a write of its memory, a halt of it. -/
def scaBarred : DbgRequest → Bool
  | .writeMem e _ _ => decide (e = 8)
  | .halt e => decide (e = 8)
  | _ => false

/-- A request that travels by DBG_ACCESS and opens a session in BLANK and OPEN (R519). -/
def byAccess : DbgRequest → Bool
  | .readMem _ _ => true
  | .writeMem _ _ _ => true
  | .readReg _ => true
  | .writeReg _ _ => true
  | .halt _ => true
  | .resume _ => true
  | _ => false

/-- REASON of DBG_LAST for which a request other than IDCODE and BYPASS is refused; none where it is permitted. The order of the
checks is the model's (log entry 42). -/
def State.dbgReason (s : State) (r : DbgRequest) : Option Nat :=
  if s.sec.lock then some 5
  else if s.sec.lcs = 3 ∨ r = .channelB then some 1
  else if s.live = false then some 3
  else if s.sec.lcs = 2 ∧ r = .extest then some 1
  else if s.sec.lcs = 2 ∧ scaBarred r = true then some 4
  else if s.sec.lcs = 2 ∧ (s.sec.session = false ∨ s.sec.auth = false) then some 2
  else if r = .extest ∧ s.isIdle = false then some 3
  else if r = .extest ∧ (List.range 4).any (fun k => s.bit (R.pwmCfg k) 0) = true then some 6
  else none

/-- A refusal: DBG_LAST and EV61 code 5. -/
def State.dbgRefuse (s : State) (req reason : Nat) (engine : Option Nat) : State :=
  (s.setReg R.dbgLast (BitVec.ofNat 32 (req + 16 * reason + 256 * (engine.getD 0 % 16)))).evDebug engine 5

/-! ### Halt and resume (R522) -/

/-- Engine `e` halts. -/
def State.haltEngine (s : State) (e : Nat) : State :=
  if 12 ≤ e ∨ s.sec.halted.getLsbD e = true then s
  else
    let s := { s with sec := { s.sec with halted := bvPut s.sec.halted e true, byDebug := bvPut s.sec.byDebug e true } }
    (s.haltAxes e).evDebug (some e) 6

/-- Armed pods end the pea they were recording when AE runs again. -/
def State.podsPartial (s : State) : State :=
  (List.range 8).foldl (fun s p =>
    match s.pod p with
    | some q => if q.ending || q.allRecorded then s else s.setPod p (some (q.cutPea s.now))
    | none => s) s

/-- The data words that a debugger wrote are the engine's own to change once it runs again. -/
def State.dropData (s : State) (e : Nat) : State :=
  { s with fab := { s.fab with mem := s.fab.mem.filter (fun w => !(decide (w.1 / 32768 = e) && decide (16384 ≤ w.1 % 32768))) } }

/-- Engine `e` runs again. -/
def State.resumeEngine (s : State) (e : Nat) : State :=
  if 12 ≤ e ∨ s.sec.halted.getLsbD e = false then s
  else
    let s := { s with sec := { s.sec with halted := bvPut s.sec.halted e false, byDebug := bvPut s.sec.byDebug e false } }
    (if e = 11 then s.podsPartial else s).dropData e |>.evDebug (some e) 7

/-- The session ends: the engines it halted resume (R520). -/
def State.endSession (s : State) : State :=
  if s.sec.session = false then s
  else
    let s := (List.range 12).foldl (fun s e => if s.sec.byDebug.getLsbD e then s.resumeEngine e else s) s
    { s with sec := { s.sec with session := false, auth := false } }.evDebug none 2

/-- The session opens at the first DBG_ACCESS of a VLN in BLANK or OPEN (R519). -/
def State.openByAccess (s : State) (r : DbgRequest) : State :=
  if s.sec.lcs < 2 ∧ byAccess r = true then { s with sec := { s.sec with session := true } } else s

/-- ENGINE_HALT: a halt that the matrix permits takes effect. -/
def engineHaltCmd (e : Nat) (s : State) : State :=
  if s.pw.boot ≠ .up ∨ s.dbgReason (.halt e) ≠ none then s else (s.openByAccess (.halt e)).haltEngine e

def execEngineHalt (e : Nat) (s : State) : Host.Outcome State Fault Refusal := .next (engineHaltCmd e s)

/-- ENGINE_RESUME: a resume that the matrix permits takes effect. -/
def engineResumeCmd (e : Nat) (s : State) : State :=
  if s.pw.boot ≠ .up ∨ s.dbgReason (.resume e) ≠ none then s else (s.openByAccess (.resume e)).resumeEngine e

def execEngineResume (e : Nat) (s : State) : Host.Outcome State Fault Refusal := .next (engineResumeCmd e s)

/-- TAP_RESET: TRST_N or TMS resets the TAP. -/
def tapResetCmd (s : State) : State := s.endSession

def execTapReset (s : State) : Host.Outcome State Fault Refusal := .next (tapResetCmd s)

/-- LOCK is set: it ends a session at once and stays until a power-on reset (R520, R523, R524). -/
def State.setLock (s : State) : State := { s with sec := { s.sec with lock := true } }.endSession

/-- DBG_CTL_WRITE: END ends the session, LOCK locks; a write of 0 to LOCK is ignored. The register takes host writes in RETIRED
too (R540). -/
def dbgCtlWriteCmd (v : Reg32) (s : State) : State :=
  if s.live = false ∨ s.conductor = false ∨ s.hostUp = false then s
  else
    let s := if v.getLsbD 0 then s.endSession else s
    if v.getLsbD 1 then s.setLock else s

def execDbgCtlWrite (v : Reg32) (s : State) : Host.Outcome State Fault Refusal := .next (dbgCtlWriteCmd v s)

/-- DBG_AUTH: with no answer a challenge is given out; an answer opens the session, or counts as wrong (R519). -/
def dbgAuthCmd (answer : Option (List Byte)) (late : Bool) (s : State) : State :=
  if s.live = false ∨ s.sec.lcs ≠ 2 ∨ s.sec.lockout = true then s
  else if s.sec.lock then
    let (w, s) := s.freeW
    s.dbgRefuse (w.toNat % 16) 5 none
  else
    match answer with
    | none => { s with sec := { s.sec with challenge := some s.sec.challenges, challenges := s.sec.challenges + 1 } }
    | some bs =>
      let good := match s.sec.challenge, s.sec.debugKey with
        | some n, some key => decide (bs.length = 64) &&
            Config.ecdsaVerifies key (Config.sha256 (Config.randomChallenge n ++ leBytes 8 s.uid)) bs
        | _, _ => false
      let s := { s with sec := { s.sec with challenge := none } }
      if late then s.evDebug none 3
      else if good then { s with sec := { s.sec with session := true, auth := true } }.evDebug none 1
      else
        let s := { s with sec := { s.sec with fails := min 3 (s.sec.fails + 1) } }.evDebug none 3
        if 3 ≤ s.sec.fails then { s with sec := { s.sec with lockout := true } }.evDebug none 4 else s

def execDbgAuth (answer : Option (List Byte)) (late : Bool) (s : State) : Host.Outcome State Fault Refusal :=
  .next (dbgAuthCmd answer late s)

end Sys2Proof.Machine
end

