-- ==== Sys2Proof/Machine/Sleep.lean ====
section
/-!
DEFINITION. The power states Run, Idle and Standby (R490 to R495): POWER_STATE, the entry to Standby and the wake from it.
-/

namespace Sys2Proof.Machine

open Sys2Proof

/-! ### POWER_STATE (R491) -/

/-- PWR_STATE: STATE, TRANSIT and WAKE_CAUSE. -/
def State.setPower (s : State) (v : Nat) : State := s.setFld R.pwrState 0 2 v
def State.setTransit (s : State) (b : Bool) : State := s.setBit R.pwrState 2 b
def State.setWakeCause (s : State) (c : Nat) : State := s.setFld R.pwrState 8 4 c

/-- An axis is enabled, or its enable is pending (R491, R564). -/
def State.anyEngaged (s : State) : Bool := s.axisNos.any (fun a => (s.axis a).enabled || !(s.axis a).enableAt.isEmpty)

def State.anyInjection (s : State) : Bool := s.axisNos.any (fun a => (s.axis a).inj.isSome)

/-- Something long runs that Standby may not interrupt (R491). -/
def State.busyForStandby (s : State) : Bool :=
  decide (0 < s.openCount) || (s.stage.sets.any (fun x => decide (x.state = .checking) || decide (x.state = .committing))) ||
  !s.armed.isEmpty

/-- The power state in force by its code. -/
def State.powerNow (s : State) : Nat := s.fld R.pwrState 0 2

/-- DETAIL with which a change to `target` is refused. -/
def State.powerRefusal (s : State) (target : Nat) : Option (Nat × Nat) :=
  if s.pw.req.isSome || s.pw.entering then some (St.wrongPower, 2)
  else if target = s.powerNow then none
  else if target = 1 then (if s.anyEngaged || s.anyInjection then some (St.wrongPower, 1) else none)
  else if target = 2 then
    (if s.anyEngaged then some (St.wrongPower, 1) else if s.busyForStandby then some (St.wrongPower, 2) else none)
  else none

/-- POWER_STATE. A change takes effect at φ0 of cycle m + 2; the FINAL to Standby is written before the entry. -/
def powerStateCmd (h : Hdr) (target : Nat) (s : State) : State :=
  s.hostCmd h 0x0602 .long 0 .none (if 2 < target then some St.argument else none) (s.powerRefusal target) none (fun s =>
    let own := s.openFor h 0x0602
    let s1 := s.acceptLong h 0x0602 0 []
    if target = s.powerNow then s1.final own St.ok s.cycle 0 none []
    else if target = 2 then
      let s2 := (s1.final own St.ok s.cycle 0 none []).setTransit true
      { s2 with pw := { s2.pw with entering := true } }
    else
      let s2 := s1.setTransit true
      { s2 with pw := { s2.pw with req := some { target := target, own := own, at_ := cycAdd s.cycle 2 } } })

def execPowerState (h : Hdr) (target : Nat) (s : State) : Host.Outcome State Fault Refusal := .next (powerStateCmd h target s)

/-- A change of R491 takes effect at φ0 of its cycle: STATE, FINAL and EV63. -/
def State.powerChange (s : State) : State :=
  match s.pw.req with
  | some r =>
    if cycDiff r.at_ s.cycle < 0 then s
    else
      let s := ({ s with pw := { s.pw with req := none } }.setPower r.target).setTransit false
      let s := if r.target = 1 then s.setWakeCause 1 else s
      (s.evC 63 r.target 1).final r.own St.ok s.cycle 0 none []
  | none => s

/-! ### Retained thermal state (R510) -/

/-- The retained thermal state is saved, while R41 permits writes. -/
def State.saveThermal (s : State) : State :=
  if s.mramOpen = false then s
  else
    { s with thermMram := some (s.pw.aonSeconds,
        s.axes.map (fun e => (e.1, e.2.therm.tw, e.2.therm.tb, e.2.therm.ts))) }

/-! ### Standby (R492, R494) -/

/-- The lanes fall silent and the nodes of the lanes are lost (R492). -/
def State.silenceLanes (s : State) : State :=
  let s := (List.range 4).foldl (fun s n => s.setFld (R.bbStat n) 0 3 0) s
  { s with bb := { s.bb with
      cold := .listen, extraListen := 0, heardLower := false, lantern := false, uplink := none, flashSeen := false,
      nodes := s.bb.nodes.map (fun e =>
        (e.1, if e.2.state = .member then { e.2 with state := .lost, slot := true } else e.2)) } }

/-- EV63 code and VALUE of a wake cause (R494). -/
def State.evWake (s : State) (c : WakeCause) : State :=
  match c with
  | .hifWake => s.evC 63 1 2
  | .can k cause => s.ev 63 1 (3 + k) cause
  | .field ch => s.ev 63 1 5 ch

def wakeCode : WakeCause → Nat
  | .hifWake => 2
  | .can k _ => 3 + k
  | .field _ => 5

/-- WAKE_N is asserted for 1 ms where the host has taken its link to L2 (R495). -/
def State.wakePin (s : State) (l2 : Bool) : State :=
  if l2 then { s with pw := { s.pw with wakeN := false, wakeEnd := some (t72Mod ((s.now : Int) + 1000000 * 2 ^ 16)) } } else s

/-- A wake from Standby to Idle, with the axis models started from their SRAM copy and no temperature of 100 ms back (R502, R508,
R511); the time that the always-on counter has counted and
the state of the host link are free (log entry 213). Outside Standby nothing happens. A cause that meets an entry is kept (R492). -/
def State.wakeUp (s : State) (c : WakeCause) : State :=
  if s.pw.entering then (if s.host.wakeKept.isNone then { s with host := { s.host with wakeKept := some c } } else s)
  else if s.mode ≠ .standby ∨ s.pw.shutCore ∨ s.pw.shutField then s
  else
    let (w, s) := s.freeW
    let (dt, s) := s.freeW
    let s := { s with pw := { s.pw with aonSeconds := s.pw.aonSeconds + dt.toNat % 2 ^ 32 } }.wakePin (dt.getLsbD 32)
    let s := ((s.setPower 1).setTransit false).setWakeCause (wakeCode c)
    let s := s.setFld R.clkStat 1 3 7
    let s := { s with die := { s.die with fast := true }, host := { s.host with pollSoon := true },
                      therm := { s.therm with started := false, woken := true }, bb := { s.bb with cold := .listen } }
    let s := s.axisNos.foldl (fun s a => s.modAxis a (fun x => { x with therm := { x.therm with pastW := [], pastS := [] } })) s
    let s := (s.setFld R.thmRetain 16 2 2).setFld R.thmRetain 0 16 (w.toNat % 2 ^ 16)
    s.evWake c

/-- STANDBY_ENTRY: after the FINAL of POWER_STATE has left (R492). -/
def standbyEntryCmd (s : State) : State :=
  if s.live = false ∨ s.pw.entering = false ∨ s.host.outbox ≠ [] then s
  else
    let s := s.endSession.saveThermal.silenceLanes.canStandby
    let s := (s.setFld R.clkStat 1 3 0)
    let s := { s with pins := s.pins.still, die := { s.die with fast := false }, pw := { s.pw with entering := false } }
    let s := ((s.setPower 2).setTransit false).evC 63 2 1
    match s.host.wakeKept with
    | some c => { s with host := { s.host with wakeKept := none } }.wakeUp c
    | none => s

def execStandbyEntry (s : State) : Host.Outcome State Fault Refusal := .next (standbyEntryCmd s)

/-- STANDBY_WAKE. -/
def standbyWakeCmd (c : WakeCause) (s : State) : State := s.wakeUp c

def execStandbyWake (c : WakeCause) (s : State) : Host.Outcome State Fault Refusal := .next (standbyWakeCmd c s)

end Sys2Proof.Machine
end

