-- ==== Sys2Proof/Machine/CanBus.lean ====
section
/-!
DEFINITION. The rows of the CAN FD controllers (chapter 18): start (R475, R476), errors and bus-off (R473, R477), transmission
and reception (R478, R481, R483, R484), sleep and wake (R485). Which frame is on the bus, and with which bits, is the row's.
-/

namespace Sys2Proof.Machine

open Sys2Proof

/-! ### Start (R475, R476) -/

/-- Quanta of f_can in a nominal and in a data bit. -/
def State.nomTicks (s : State) (k : Nat) : Nat :=
  (s.fld (R.canNbt k) 0 9 + 1) * (1 + (s.fld (R.canNbt k) 9 8 + 1) + (s.fld (R.canNbt k) 17 7 + 1))
def State.dataTicks (s : State) (k : Nat) : Nat :=
  (s.fld (R.canDbt k) 0 5 + 1) * (1 + (s.fld (R.canDbt k) 8 5 + 1) + (s.fld (R.canDbt k) 16 4 + 1))

/-- The conditions on the bit timing: rates, synchronisation jump widths, delay compensation. -/
def State.timingOk (s : State) (k : Nat) : Bool :=
  let n := s.nomTicks k
  let d := s.dataTicks k
  decide (200 ≤ n) && decide (25 ≤ d ∧ d ≤ n) && decide (s.fld (R.canNbt k) 24 7 ≤ s.fld (R.canNbt k) 17 7) &&
    decide (s.fld (R.canDbt k) 24 4 ≤ s.fld (R.canDbt k) 16 4) && (decide (100 ≤ d) || s.bit (R.canTdc k) 0)

/-- Images of two enabled buffers share a word. -/
def State.bufClash (s : State) (k b k2 b2 : Nat) : Bool :=
  !(decide (k = k2) && decide (b = b2)) && s.bufEn k2 b2 &&
    decide (s.bufSig k b < s.bufSig k2 b2 + 10) && decide (s.bufSig k2 b2 < s.bufSig k b + 10)

/-- Buffer `b` meets R480 where it is enabled. -/
def State.bufOk (s : State) (k b : Nat) : Bool :=
  if s.bufEn k b = false then true
  else
    (match s.blockDesc (s.fld (R.canBuf k b) 4 14) with
     | some d => decide (d.kind = 3) && decide (s.fld (R.canBuf k b) 18 6 + 10 ≤ d.count) &&
         decide (d.producer = 256 + s.bb.number)
     | none => false) &&
    !(List.range 64).any (fun b2 => s.bufClash k b 0 b2 || s.bufClash k b 1 b2)

/-- Filter `f` routes to an enabled receive buffer where it is enabled (R484). -/
def State.fltOk (s : State) (k f : Nat) : Bool :=
  !s.bit (R.canFltCfg k f) 8 ||
    (s.bufEn k (s.fld (R.canFltCfg k f) 0 6) && !s.bufTx k (s.fld (R.canFltCfg k f) 0 6))

/-- CFG_CAUSE and CFG_SUBJ of a start that is refused. -/
def State.startRefusal (s : State) (k : Nat) : Option (Nat × Nat) :=
  if s.timingOk k = false then some (1, 0)
  else
    match (List.range 64).find? (fun b => !s.bufOk k b) with
    | some b => some (2, b)
    | none =>
      match (List.range 32).find? (fun f => !s.fltOk k f) with
      | some f => some (3, f)
      | none => none

/-- CAN_INIT_WRITE: a write of CANk_CTL. FD_EN, LISTEN and LOOP change only while INIT is 1 (R488); clearing INIT starts the
controller or is refused; setting it stops the controller; setting SLEEP puts it to sleep. -/
def canInitWriteCmd (k : Nat) (v : Reg32) (s : State) : State :=
  if s.writable = false ∨ s.conductor = false ∨ 2 ≤ k then s
  else
    let old := s.fld (R.canCtl k) 1 3
    let new := bits v 1 3
    if s.canInit k = false ∧ new ≠ old then s.evBadReg
    else
      let s := s.setFld (R.canCtl k) 1 3 new
      let s :=
        if bits v 0 1 = 1 then (if s.canInit k then s else s.canStop k)
        else if s.canInit k = false then s
        else match s.startRefusal k with
          | some (cause, subj) =>
            ((s.setBit (R.canStat k) 9 true).setFld (R.canStat k) 16 2 cause).setFld (R.canStat k) 18 6 subj
          | none => (s.setBit (R.canCtl k) 0 false).canStart k
      if bits v 4 1 = 1 ∧ (s.canc k).asleep = false then s.canSleepNow k else s

def execCanInitWrite (k : Nat) (v : Reg32) (s : State) : Host.Outcome State Fault Refusal := .next (canInitWriteCmd k v s)

/-- CAN_BUS_JOIN: 11 recessive bits have passed since the start. -/
def canBusJoinCmd (k : Nat) (s : State) : State :=
  let x := s.canc k
  if s.live = false ∨ s.conductor = false ∨ 2 ≤ k ∨ s.canInit k ∨ x.joining = false then s
  else (s.setCanc k { x with joining := false, joined := true }).canShow k

def execCanBusJoin (k : Nat) (s : State) : Host.Outcome State Fault Refusal := .next (canBusJoinCmd k s)

/-! ### Errors (R473, R477) -/

/-- New error counts, with the events of a change between error-active and error-passive. -/
def State.canCounts (s : State) (k tec rec_ : Nat) : State :=
  let x := s.canc k
  let y := { x with tec := tec, rec_ := rec_ }
  let s := (s.setCanc k y).canShow k
  if x.passive = y.passive then s else s.canErrEv k (if y.passive then 1 else 4)

/-- CAN_BUS_ERROR. -/
def canBusErrorCmd (k : Nat) (e : CanError) (s : State) : State :=
  if 2 ≤ k ∨ s.canOn k = false then s
  else (s.setFld (R.canStat k) 4 3 e.lec).canCounts k ((s.canc k).tec + e.tecStep) ((s.canc k).rec_ + e.recStep)

def execCanBusError (k : Nat) (e : CanError) (s : State) : Host.Outcome State Fault Refusal := .next (canBusErrorCmd k e s)

/-- CAN_BUS_OFF: the transmit error count has passed 255; requests of one-shot buffers fail. -/
def canBusOffCmd (k : Nat) (s : State) : State :=
  let x := s.canc k
  if 2 ≤ k ∨ s.canOn k = false ∨ x.tec ≤ 255 then s
  else
    let s := (s.setCanc k { x with busOff := true, joined := false }).canShow k
    let s := ((s.setBit (R.canStat k) 8 true).bumpFld (R.canCnt k) 16 8 1).canErrEv k 2
    s.canFailAll k 3 true

def execCanBusOff (k : Nat) (s : State) : Host.Outcome State Fault Refusal := .next (canBusOffCmd k s)

/-- CAN_BUS_OFF_RECOVERY: 128 recessive sequences have passed. -/
def canBusOffRecoveryCmd (k : Nat) (s : State) : State :=
  let x := s.canc k
  if 2 ≤ k ∨ s.live = false ∨ s.conductor = false ∨ s.canInit k ∨ x.asleep ∨ x.busOff = false then s
  else
    ((s.setCanc k { x with busOff := false, joined := true, joining := false, tec := 0, rec_ := 0 }).canShow k).canErrEv k 3

def execCanBusOffRecovery (k : Nat) (s : State) : Host.Outcome State Fault Refusal := .next (canBusOffRecoveryCmd k s)

/-! ### Reception (R481, R484) -/

/-- The first enabled filter that accepts a frame. -/
def State.canFilter (s : State) (k : Nat) (f : CanFrame) : Option Nat :=
  (List.range 32).find? (fun i =>
    s.bit (R.canFltCfg k i) 8 && decide (s.bit (R.canFltId k i) 29 = f.ide) &&
      decide ((f.ident ^^^ s.fld (R.canFltId k i) 0 29) &&& s.fld (R.canFltMask k i) 0 29 = 0))

/-- Data bytes that a DLC stands for (ISO 11898-1). -/
def dlcBytes (fdf : Bool) (dlc : Nat) : Nat :=
  if dlc ≤ 8 then dlc else if fdf then [12, 16, 20, 24, 32, 48, 64].getD (dlc - 9) 64 else 8

/-- Word 0 of an image. -/
def canWord0 (f : CanFrame) (seq flt : Nat) (ovr : Bool) : BitVec 72 :=
  BitVec.ofNat 72 (f.ident % 2 ^ 29 + (if f.ide then 2 ^ 29 else 0) + (if f.rtr then 2 ^ 30 else 0) +
    (if f.fdf then 2 ^ 31 else 0) + (if f.brs then 2 ^ 32 else 0) + (if f.esi then 2 ^ 33 else 0) + f.dlc % 16 * 2 ^ 36 +
    seq % 256 * 2 ^ 40 + (if ovr then 2 ^ 48 else 0) + flt % 32 * 2 ^ 49)

/-- A frame enters buffer `b`: words 1 to 9, then word 0, then ND. -/
def State.canStore (s : State) (k b flt : Nat) (f : CanFrame) (t : Nat) : State :=
  let x := s.canc k
  let seq := (SMap.get 0 x.seqs b + 1) % 256
  let ovr := s.bit (R.canNdat k b) (b % 32)
  let w := s.bufSig k b
  let n := if f.rtr then 0 else dlcBytes f.fdf f.dlc
  let data := fitBytes 64 (f.data.take n)
  let s := s.setCanc k { x with seqs := x.seqs.set 0 b seq }
  let s := s.localSig (w + 1) (BitVec.ofNat 72 t)
  let s := (List.range 8).foldl (fun s j => s.localSig (w + 2 + j) (BitVec.ofNat 72 (leNat ((data.drop (8 * j)).take 8)))) s
  let s := (s.localSig w (canWord0 f seq flt ovr)).setBit (R.canNdat k b) (b % 32) true
  s.canTraffic k b (if ovr then 4 else 1)

/-- A frame on the bus reaches the filters. -/
def State.canTake (s : State) (k : Nat) (f : CanFrame) (t : Nat) : State :=
  match s.canFilter k f with
  | some i => s.canStore k (s.fld (R.canFltCfg k i) 0 6) i f t
  | none => s.bumpFld (R.canCnt k) 0 16 1

/-- Receive error count after a frame without error (ISO 11898-1). -/
def recAfter (r : Nat) : Nat := if 127 < r then 127 else r - 1

/-- CAN_FRAME_RECEIVED: stamped at its start of frame `t`. An FD frame without FD_EN is a form error. -/
def canFrameReceivedCmd (k : Nat) (f : CanFrame) (t : Nat) (s : State) : State :=
  if 2 ≤ k ∨ s.canOn k = false then s
  else if f.fdf ∧ s.canFd k = false then
    (s.setFld (R.canStat k) 4 3 2).canCounts k (s.canc k).tec ((s.canc k).rec_ + 1)
  else (s.canCounts k (s.canc k).tec (recAfter (s.canc k).rec_)).canTake k f t

def execCanFrameReceived (k : Nat) (f : CanFrame) (t : Nat) (s : State) : Host.Outcome State Fault Refusal :=
  .next (canFrameReceivedCmd k f t s)

/-! ### Transmission (R478, R483) -/

/-- CAN_TXREQ: a write of CANk_TXREQ_HI where `high`, else of _LO. -/
def canTxreqCmd (k : Nat) (high : Bool) (v : Reg32) (s : State) : State :=
  if s.writable = false ∨ s.conductor = false ∨ 2 ≤ k then s
  else (List.range 32).foldl (fun s i => if bits v i 1 = 1 then s.canRequest k (i + (if high then 32 else 0)) else s) s

def execCanTxreq (k : Nat) (high : Bool) (v : Reg32) (s : State) : Host.Outcome State Fault Refusal := .next (canTxreqCmd k high v s)

/-- Place of a frame in the order of identifiers, in which the bus itself orders the two formats (R483; DEDUCED, log entry 212). -/
def canOrder (f : CanFrame) : Nat := if f.ide then f.ident * 2 + 1 else f.ident * 2 ^ 18 * 2

/-- Another pending request goes out before that of buffer `b`, a frame `f` that starts at `t`: one copied by then, 2 µs after its
request, of a lower identifier, or of an equal one from a lower buffer (R483). -/
def State.canBefore (s : State) (k b t : Nat) (f : CanFrame) : Bool :=
  (s.canc k).pending.any (fun e =>
    match e.2 with
    | some g => decide (2000 * 2 ^ 16 ≤ t72Diff t (SMap.get 0 (s.canc k).reqAt e.1)) &&
        (decide (canOrder g < canOrder f) || (decide (canOrder g = canOrder f) && decide (e.1 < b)))
    | none => false)

/-- CAN_FRAME_SENT: the request of buffer `b` has succeeded, its start of frame at `t`; a row for a frame that another goes before
tells of nothing. A loop-back controller receives its own frame. -/
def canFrameSentCmd (k b t : Nat) (s : State) : State :=
  match SMap.get none (s.canc k).pending b with
  | none => s
  | some f =>
    if 2 ≤ k ∨ s.canOn k = false ∨ s.bit (R.canCtl k) 2 ∨ s.canBefore k b t f then s
    else
      let s := (s.setCanPending k b none).canCounts k ((s.canc k).tec - 1) (s.canc k).rec_
      let s := (s.localSig (s.bufSig k b + 1) (BitVec.ofNat 72 t)).setBit (R.canTxdone k b) (b % 32) true
      let s := s.canTraffic k b 2
      if s.bit (R.canCtl k) 3 then s.canTake k f t else s

def execCanFrameSent (k b t : Nat) (s : State) : Host.Outcome State Fault Refusal := .next (canFrameSentCmd k b t s)

/-- CAN_TX_FAIL: a transmission has lost arbitration (cause 1) or met an error (cause 2): a one-shot request fails, another
goes on. -/
def canTxFailCmd (k b cause lec : Nat) (s : State) : State :=
  if 2 ≤ k ∨ s.canOn k = false ∨ s.canPending k b = false then s
  else
    let s := if cause = 2 then s.setFld (R.canStat k) 4 3 lec else s
    if s.bufOneShot k b then s.canFail k b cause (if cause = 2 then lec else 0) else s

def execCanTxFail (k b cause lec : Nat) (s : State) : Host.Outcome State Fault Refusal := .next (canTxFailCmd k b cause lec s)

/-! ### Sleep and wake (R485) -/

/-- CAN_SLEEP: a write of 1 to CTL.SLEEP. -/
def canSleepCmd (k : Nat) (s : State) : State :=
  if s.live = false ∨ s.conductor = false ∨ 2 ≤ k ∨ (s.canc k).asleep then s else s.canSleepNow k

def execCanSleep (k : Nat) (s : State) : Host.Outcome State Fault Refusal := .next (canSleepCmd k s)

/-- The cause is one that WAKE_CFG.MODE watches for. -/
def State.canWakes (s : State) (k cause : Nat) : Bool :=
  (decide (s.canWakeMode k = 1) && decide (cause = 1)) || (decide (s.canWakeMode k = 2) && decide (cause = 2 ∨ cause = 3))

/-- Wake decode errors since they were last read, which a controller that watches for a wake-up frame counts: at least the 32 that
woke it where they did; their number is else free (log entry 7). -/
def State.canDecodeErrors (s : State) (k cause : Nat) : State :=
  if s.canWakeMode k = 2 then
    let (w, s) := s.freeW
    s.setFld (R.canCnt k) 24 8 (max (if cause = 3 then 32 else 0) (w.toNat % 256))
  else s

/-- CAN_WAKE: the controller clears SLEEP, raises its error event with code 5 and joins the bus; a VLN in Standby wakes. -/
def canWakeCmd (k cause : Nat) (s : State) : State :=
  if 2 ≤ k ∨ s.conductor = false ∨ s.mode = .notUp ∨ (s.canc k).asleep = false ∨ s.canWakes k cause = false then s
  else
    let s := (s.setBit (R.canCtl k) 4 false).canDecodeErrors k cause
    let s := s.setCanc k { s.canc k with asleep := false }
    let s := if s.canInit k then (s.setCanc k { s.canc k with stb := true }).canShow k else s.canStart k
    (s.ev (53 + 2 * k) 0xFFFF 5 cause).wakeUp (.can k cause)

def execCanWake (k cause : Nat) (s : State) : Host.Outcome State Fault Refusal := .next (canWakeCmd k cause s)

end Sys2Proof.Machine
end

