-- ==== Sys2Proof/Machine/Field.lean ====
section
/-!
DEFINITION. The sixteen 24 V field channels (R460 to R472): input changes, outputs with their enables, overload, read-back
and test, the field supply, and the claims of the safety set in force (R461).
-/

namespace Sys2Proof.Machine

open Sys2Proof

/-! ### Configuration in force (R460, R461) -/

/-- The set in force uses channel `c` as TP_OUT. -/
def State.claimedOut (s : State) (c : Nat) : Bool :=
  match s.setInForce with
  | some st => st.pairs.any (fun p => decide (p.type ≠ 0) && p.tp && decide (p.tpOut = c))
  | none => false

/-- DIO_CHc_CFG as it is in force and reads back: every field but EDGE is forced for a claimed channel. -/
def State.chCfg (s : State) (c : Nat) : Reg32 :=
  if s.claimed c then (if s.claimedOut c then 0x103 else 0x102) ||| (s.reg (R.dioCh c) &&& 0xC)
  else s.reg (R.dioCh c) &&& 0xFFFF00FF

/-- The channel is an output. -/
def State.chOut (s : State) (c : Nat) : Bool := (s.chCfg c).getLsbD 0

/-- The inputs are valid (R469). -/
def State.inValid (s : State) : Bool := s.bit R.dioStat 0

/-- An output that the core die may drive: an unclaimed output channel. -/
def State.coreOut (s : State) (c : Nat) : Bool := s.chOut c && !s.claimed c

/-- A channel that is dropped on a Foghorn. -/
def State.fogDrop (s : State) (c : Nat) : Bool := s.chOut c && (s.chCfg c).getLsbD 6

/-- EV49 (R469) with VFIELD in 10 mV; its SUBJECT is not stated (log entry 11). -/
def State.evSupply (s : State) (code mv10 : Nat) : State :=
  let (w, s) := s.freeW
  s.ev 49 (w.toNat % 2 ^ 16) code mv10

/-! ### Outputs (R465 to R468) -/

/-- Output `c` is off: its enable is clear, and it is not restored where `lasting` (R467, R470). -/
def State.outOff (s : State) (c : Nat) (lasting : Bool) : State :=
  let s := s.setBit R.dioOutEn c false
  if lasting then { s with field := { s.field with noRestore := bvPut s.field.noRestore c true } } else s

/-- An output begins to drive: a read-back check follows 500 µs later (R468). -/
def State.outCheck (s : State) (c code : Nat) : State :=
  { s with field := { s.field with checks := s.field.checks.set none c (some (code, s.bit R.dioOut c)) } }

/-- Enable output `c`: OVL clears, and the start-up or recovery check is due (R468, R472). -/
def State.outOn (s : State) (c : Nat) : State :=
  let code := if bvGet s.field.started c then 3 else 1
  let s := ((s.setBit R.dioOutEn c true).setBit R.dioFault c false).outCheck c code
  { s with field := { s.field with started := bvPut s.field.started c true,
                                   noRestore := bvPut s.field.noRestore c false } }

/-- A Foghorn drops the outputs marked for it (R467). -/
def State.fogOutputs (s : State) : State :=
  (List.range 16).foldl (fun s c => if s.fogDrop c then s.outOff c true else s)
    { s with field := { s.field with fogBlocked := true } }

/-- The Foghorn is cleared: outputs can be enabled again. -/
def State.fogRelease (s : State) : State := { s with field := { s.field with fogBlocked := false } }

/-- Enabled outputs that a claim has taken are switched off (R471); an output turned into an input too (R460). -/
def State.dropClaimed (s : State) : State :=
  (List.range 16).foldl (fun s c => if s.bit R.dioOutEn c && !s.coreOut c then s.outOff c true else s) s

/-- An enable bit can be set now (R467, R469, R471): an output of the core die, the supply up, the link up, no Foghorn. -/
def State.enableOk (s : State) (c : Nat) : Bool :=
  s.coreOut c && s.inValid && s.die.up && s.die.fieldEnd.up && !(s.field.fogBlocked && s.fogDrop c)

/-- The levels follow the signal block (R466). -/
def State.outBySig (s : State) (c : Nat) : Bool := s.bit R.dioGcfg 3 && s.coreOut c

/-- A write of DIO_OUT_EN where `enables`, else of DIO_OUT, as it reaches the field die. -/
def State.fieldWrite (s : State) (enables : Bool) (v : Reg32) : State :=
  if enables then
    (List.range 16).foldl (fun s c =>
      if bvGet v c = false then (if s.coreOut c then s.outOff c false else s)
      else if s.bit R.dioOutEn c || !s.enableOk c then s
      else s.outOn c) s
  else
    (List.range 16).foldl (fun s c => if s.outBySig c || s.claimed c then s else s.setBit R.dioOut c (bvGet v c)) s

/-- FIELD_OUTPUT_WRITE: the field die takes the write, or keeps its last command while IOE is halted (R522). -/
def fieldOutputWriteCmd (enables : Bool) (v : Reg32) (s : State) : State :=
  if s.writable = false then s
  else if s.engineRuns 10 then (s.wake 10).fieldWrite enables v
  else if enables then { s with field := { s.field with heldEn := some v } }
  else { s with field := { s.field with heldOut := some v } }

/-- Held writes reach the field die once IOE runs again. -/
def State.fieldDeliver (s : State) : State :=
  if s.engineRuns 10 = false then s
  else
    let o := s.field.heldOut
    let e := s.field.heldEn
    let s := { s with field := { s.field with heldOut := none, heldEn := none } }
    let s := match o with
      | some v => s.fieldWrite false v
      | none => s
    match e with
    | some v => s.fieldWrite true v
    | none => s

def execFieldOutputWrite (enables : Bool) (v : Reg32) (s : State) : Host.Outcome State Fault Refusal :=
  .next (fieldOutputWriteCmd enables v s)

/-- OUTPUT_OVERLOAD: 2 ms in current limit, or over-temperature (R465). -/
def outputOverloadCmd (ch : Nat) (overTemp : Bool) (s : State) : State :=
  if 16 ≤ ch ∨ (s.bit R.dioOutEn ch = false ∧ bvGet s.field.tripEn ch = false) then s
  else ((s.outOff ch true).setBit R.dioFault ch true).evC 50 ch (if overTemp then 2 else 1)

def execOutputOverload (ch : Nat) (overTemp : Bool) (s : State) : Host.Outcome State Fault Refusal :=
  .next (outputOverloadCmd ch overTemp s)

/-- DIO_TEST: a read-back test of the selected outputs; a mask that comes while a test runs is ignored (R468, R471). -/
def dioTestCmd (mask : Nat) (s : State) : State :=
  let chosen := (List.range 16).filter (fun c => decide (mask / 2 ^ c % 2 = 1) && s.coreOut c)
  if s.writable = false ∨ s.bit R.dioStat 4 = true ∨ chosen.isEmpty = true then s
  else
    let s := s.setBit R.dioStat 4 true
    chosen.foldl (fun s c =>
      { s with field := { s.field with testMask := bvPut s.field.testMask c true,
                                       testOff := bvPut s.field.testOff c (s.bit R.dioOutEn c && s.bit R.dioOut c),
                                       checks := s.field.checks.set none c (some (2, false)) } }) s

def execDioTest (mask : Nat) (s : State) : Host.Outcome State Fault Refusal := .next (dioTestCmd mask s)

/-- The level that a check of output `ch` compares with: that of the test's phase, else the one commanded now (R468). -/
def State.checkLevel (s : State) (ch code : Nat) (level : Bool) : Bool := if code = 2 then level else s.bit R.dioOut ch

/-- A check that is due is judged: a running link, and an output that still drives, or that a test finds off. -/
def State.checkJudged (s : State) (ch code : Nat) (level : Bool) : Bool :=
  s.die.up && (s.bit R.dioOutEn ch || (decide (code = 2) && !level))

/-- A check of output `ch` is done: the test goes on to its second reading where it held the output off, and otherwise ends with
its last check. -/
def State.checkDone (s : State) (ch code : Nat) (good : Bool) : State :=
  let again := decide (code = 2) && bvGet s.field.testOff ch && good
  let mask := if code = 2 ∧ again = false then bvPut s.field.testMask ch false else s.field.testMask
  let s := { s with field := { s.field with
    checks := s.field.checks.set none ch (if again then some (2, true) else none), testMask := mask,
    testOff := if code = 2 then bvPut s.field.testOff ch false else s.field.testOff } }
  s.setBit R.dioStat 4 (s.bit R.dioStat 4 && decide (mask ≠ 0))

/-- READBACK_CHECK: the read-back of output `ch` is compared with its commanded level (R468). Of a test, an output that was on is
read first while it is off, and again once it is on. -/
def readbackCheckCmd (ch : Nat) (rb : Bool) (s : State) : State :=
  match SMap.get none s.field.checks ch with
  | none => s
  | some (code, expect) =>
    let level := s.checkLevel ch code expect
    let bad := s.checkJudged ch code level && decide (rb ≠ level)
    let s := ({ s with field := { s.field with readback := bvPut s.field.readback ch rb } }.setBit R.dioIn (16 + ch) rb).checkDone ch
      code (!bad)
    if bad then ((s.outOff ch true).setBit R.dioFault (16 + ch) true).ev 51 ch code (if level then 1 else 0) else s

def execReadbackCheck (ch : Nat) (rb : Bool) (s : State) : Host.Outcome State Fault Refusal := .next (readbackCheckCmd ch rb s)

/-- Levels taken from OUT_BLOCK, and inputs published in IN_BLOCK, at φ0 (R466). -/
def State.fieldSignals (s : State) : State :=
  let s := s.fieldDeliver
  let s :=
    if s.bit R.dioGcfg 3 = false ∨ s.engineRuns 10 = false then s
    else
      let b := s.fld R.dioGcfg 18 14
      if (s.blockStat b).valid = false then s
      else (List.range 16).foldl (fun s c =>
        if s.coreOut c then s.setBit R.dioOut c ((s.sigWord (64 * b + c)).getLsbD 0) else s) s
  if s.bit R.dioGcfg 2 = false then s
  else
    let b := s.fld R.dioGcfg 4 14
    if s.inValid = false then s.setBlockStat b { s.blockStat b with valid := false }
    else
      let s := (List.range 16).foldl (fun s c =>
        s.setSigWord (64 * b + c) (if bvGet s.field.inputs c then 1 else 0)) s
      s.setBlockStat b { valid := true, bseq := ((s.blockStat b).bseq + 1) % 256, age := 0 }

/-! ### Inputs (R463, R464) -/

/-- A debounced change shows CHATTER on every axis whose switch it takes back before it was confirmed (R180). -/
def State.chatter (s : State) (ch : Nat) (level : Bool) : State :=
  s.axisNos.foldl (fun s a =>
    let x := s.axis a
    let hit := (List.range 3).any (fun i => decide (x.int (switchPn i) = (ch : Int)) &&
      decide (x.switch i = (level != x.flag Pn.swPol i)))
    if hit then s.setAxis a (x.coordFlag fChatter true) else s) s

/-- Latches that wait for the stamp of channel `ch` lose it (R463). -/
def State.stampLost (s : State) (ch : Nat) : State :=
  (List.range 8).foldl (fun s i =>
    let k := i / 2
    let j := i % 2
    if s.bit (R.fbLatCtl k j) 5 && decide (s.fld (R.fbLatCtl k j) 0 2 = 2) && decide (s.fld (R.fbLatCtl k j) 8 4 = ch) then
      s.setBit (R.fbLatStat k) (2 + j) true
    else s) s

/-- Latches whose source is field channel `ch` take the edge at its stamp, where LAT_OK lets them (R206, R207, R464). -/
def State.fieldLatches (s : State) (ch : Nat) (level : Bool) (t : Nat) : State :=
  if (s.chCfg ch).getLsbD 7 then s.latchesMeet 2 ch level t else s

/-- The input stage of an output is its read-back path: DIO_IN.RB shows it, unjudged (R460, R468). -/
def State.showReadback (s : State) (ch : Nat) (level : Bool) : State :=
  if s.chOut ch then { s with field := { s.field with readback := bvPut s.field.readback ch level } }.setBit R.dioIn (16 + ch) level
  else s

/-- FIELD_INPUT_CHANGE: the debounced level of channel `ch` is now `level`, with its edge at `t` (R463, R464). -/
def fieldInputChangeCmd (ch : Nat) (level : Bool) (t : Nat) (s : State) : State :=
  if 16 ≤ ch ∨ s.pw.boot ≠ .up ∨ s.inValid = false ∨ s.die.up = false ∨ bvGet s.field.inputs ch = level then s
  else
    let s := { s with field := { s.field with inputs := bvPut s.field.inputs ch level } }
    let s := (s.setBit R.dioIn ch level).showReadback ch level
    let s := if 16 ≤ s.field.stampQueue.length then (s.bumpFld R.dioCnt 0 16 1).stampLost ch
      else { s with field := { s.field with stampQueue := s.field.stampQueue ++ [(ch, t)], edgeAt := s.field.edgeAt.set 0 ch t } }.fieldLatches
        ch level t
    let s := s.chatter ch level
    let cfg := s.chCfg ch
    let seen := if level then cfg.getLsbD 2 else cfg.getLsbD 3
    let s := if seen then s.setBit R.dioCos ch true else s
    let woken := cfg.getLsbD 5 && decide (s.mode = .standby)
    let s := if cfg.getLsbD 5 then s.wakeUp (.field ch) else s
    if (seen && cfg.getLsbD 4) || woken then s.evFree 48 ch else s

def execFieldInputChange (ch : Nat) (level : Bool) (t : Nat) (s : State) : Host.Outcome State Fault Refusal :=
  .next (fieldInputChangeCmd ch level t s)

/-! ### The field supply (R469, R470) -/

/-- VFIELD as the link frames report it. -/
def State.setVf (s : State) (mv10 : Nat) : State := s.setFld R.dioStat 16 12 (min mv10 4095)

/-- Every output off, with the enables remembered for a restore after a field-supply trip. -/
def State.allOutputsOff (s : State) (lasting : Bool) : State :=
  (List.range 16).foldl (fun s c => if s.bit R.dioOutEn c then s.outOff c lasting else s) s

/-- The outputs of the groups with AUTO_RESTORE return to the enables they had at the trip (R470). -/
def State.autoRestore (s : State) : State :=
  let s := (List.range 16).foldl (fun s c =>
    if bvGet s.field.tripEn c && !bvGet s.field.noRestore c && s.bit R.dioGcfg (c / 8) && s.enableOk c then s.outOn c
    else s) s
  { s with field := { s.field with tripEn := 0 } }

/-- What the core die does with a supply report, EV49 code `code` (R469). -/
def State.supplySeen (s : State) (code mv10 : Nat) : State :=
  let s := s.setVf mv10
  if code = 1 then ((s.setBit R.dioStat 2 true).setBit R.dioStat 8 true).evSupply 1 mv10
  else if code = 4 then (s.setBit R.dioStat 2 false).evSupply 4 mv10
  else if code = 2 then
    (((((s.setBit R.dioStat 0 false).setBit R.dioStat 3 true).setBit R.dioStat 9 true).bumpFld R.dioCnt 16 16 1)).evSupply 2 mv10
  else if code = 3 then (((s.setBit R.dioStat 0 true).setBit R.dioStat 3 false).evSupply 3 mv10).autoRestore
  else s.evSupply code mv10

/-- A supply report reaches the core die by the link; without one it waits until the link is trained again (R471). -/
def State.supplyReport (s : State) (code mv10 : Nat) : State :=
  if s.pw.boot ≠ .up then s
  else if s.die.up then s.supplySeen code mv10
  else { s with field := { s.field with unseen := s.field.unseen ++ [(code, mv10)] } }

/-- The reports that waited, in their order. -/
def State.supplyLate (s : State) : State :=
  s.field.unseen.foldl (fun s e => s.supplySeen e.1 e.2) { s with field := { s.field with unseen := [] } }

/-- VFIELD_WARN: below 18.0 V for 1 ms. -/
def vfieldWarnCmd (mv10 : Nat) (s : State) : State :=
  if 1800 ≤ mv10 ∨ s.field.warn = true then s
  else { s with field := { s.field with warn := true } }.supplyReport 1 mv10

def execVfieldWarn (mv10 : Nat) (s : State) : Host.Outcome State Fault Refusal := .next (vfieldWarnCmd mv10 s)

/-- VFIELD_WARN_CLEAR: above 18.5 V for 1 ms after a warning. -/
def vfieldWarnClearCmd (mv10 : Nat) (s : State) : State :=
  if mv10 ≤ 1850 ∨ s.field.warn = false then s
  else { s with field := { s.field with warn := false } }.supplyReport 4 mv10

def execVfieldWarnClear (mv10 : Nat) (s : State) : Host.Outcome State Fault Refusal := .next (vfieldWarnClearCmd mv10 s)

/-- VFIELD_TRIP: every output off, inputs invalid (R469). After a link loss there is nothing to restore (R29, R470). -/
def vfieldTripCmd (mv10 : Nat) (s : State) : State :=
  if 1530 ≤ mv10 ∨ s.field.low = true then s
  else
    let en := (s.reg R.dioOutEn).setWidth 16
    ({ s with field := { s.field with supplyOk := false, low := true, tripEn := en } }.allOutputsOff false).supplyReport 2 mv10

def execVfieldTrip (mv10 : Nat) (s : State) : Host.Outcome State Fault Refusal := .next (vfieldTripCmd mv10 s)

/-- VFIELD_OVERVOLTAGE: a report only. -/
def vfieldOvervoltageCmd (mv10 : Nat) (s : State) : State := if mv10 ≤ 3200 then s else s.supplyReport 5 mv10

def execVfieldOvervoltage (mv10 : Nat) (s : State) : Host.Outcome State Fault Refusal := .next (vfieldOvervoltageCmd mv10 s)

/-- VFIELD_RECOVER: above 18.0 V for 10 ms: inputs valid again, and the groups with AUTO_RESTORE return to their enables (R469,
R470). -/
def vfieldRecoverCmd (mv10 : Nat) (s : State) : State :=
  if mv10 ≤ 1800 ∨ s.field.supplyOk = true then s
  else { s with field := { s.field with supplyOk := true, low := false } }.supplyReport 3 mv10

def execVfieldRecover (mv10 : Nat) (s : State) : Host.Outcome State Fault Refusal := .next (vfieldRecoverCmd mv10 s)

/-! ### The link and the field die (R27 to R29, R469, R471) -/

/-- The inputs as a link that has just been trained finds them: valid while the field supply holds (R469, R471). -/
def State.fieldFound (s : State) : State :=
  ((s.setBit R.dioStat 0 s.field.supplyOk).setBit R.dioStat 3 s.field.low).setBit R.dioStat 2 s.field.warn

/-- Outputs go off after a link loss, and nothing restores them, an enable that was held before the loss no more than a trip (R28, R29). -/
def State.outputsLost (s : State) : State :=
  let s := s.allOutputsOff true
  { s with field := { s.field with tripEn := 0, heldEn := none } }

/-- Both ends are trained: the link carries data again (R29). -/
def DieLink.trained (d : DieLink) : DieLink :=
  { d with up := true, lost := false, resync := true, missing := 0
           fieldEnd := { d.fieldEnd with up := true, lost := false, resync := true, missing := 0 } }

end Sys2Proof.Machine
end

