-- ==== Sys2Proof/Machine/SafetyOps.lean ====
section
/-!
DEFINITION. What every safety command shares (chapter 14): causes and global faults, what holds a safety axis in STO, its
release, the STO pins, and a change of the set in force (R393, R400, R404 to R410, R421, R425).
-/

namespace Sys2Proof.Machine

open Sys2Proof

/-! ### Global causes (R426) -/

namespace Glob

def linkLoss : Nat := 0
def xtalk : Nat := 1
def swMismatch : Nat := 2
def swChanged : Nat := 3
def stoARb : Nat := 4
def stoBRb : Nat := 5
def setInvalid : Nat := 6
def bSupply : Nat := 7
def rungMismatch : Nat := 8

end Glob

/-- The selected set is valid and confirmed but made for another rung (R400); not latched (R421). -/
def State.rungMismatch (s : State) : Bool :=
  match s.selectedSet with
  | some st => s.setGood s.saf.chA.sw st && decide (st.rung ≠ s.rung)
  | none => false

/-- SAF_FAULT. -/
def State.safFaultWord (s : State) : Nat := (bvPut s.saf.faults Glob.rungMismatch s.rungMismatch).toNat

/-- A latched global cause is present. -/
def State.anyGlobal (s : State) : Bool := decide (s.saf.faults ≠ 0)

/-- Latch a global cause, with EV60 code 7. -/
def State.latchGlobal (s : State) (i : Nat) : State :=
  if bvGet s.saf.faults i then s
  else
    let s := { s with saf := { s.saf with faults := bvPut s.saf.faults i true } }
    s.ev 60 0xFFFF 7 s.safFaultWord

/-- A global cause that puts every safety axis in STO in both channels. -/
def State.globalSto (s : State) (i : Nat) : State := ((s.latchGlobal i).stoAll .a).stoAll .b

/-! ### Guard pairs (R404, R406) -/

/-- The pairs of the selected set that are used. -/
def State.pair? (s : State) (j : Nat) : Option PairRec :=
  match s.selectedSet with
  | some st => match st.pairs[j]? with
    | some p => if p.type = 0 then none else some p
    | none => none
  | none => none

/-- Pair `j` reads closed in channel `c`. -/
def State.pairClosed (s : State) (c : Chan) (j : Nat) : Bool := bvGet (s.chan c).closed j

/-- A used pair of GMASK is open in channel `c`. -/
def State.guardOpen (s : State) (c : Chan) (gmask : BitVec 8) : Bool :=
  (List.range 8).any (fun j => bvGet gmask j && (s.pair? j).isSome && !s.pairClosed c j)

/-- The start-up test is demanded of every used pair with START_TEST (R406). -/
def State.demandTests (s : State) : State :=
  let mask := (List.range 8).foldl (fun (m : BitVec 8) j =>
    bvPut m j (match s.pair? j with | some p => p.startTest | none => false)) 0
  { s with saf := { s.saf with testPending := mask, testOpenA := 0, testOpenB := 0 } }

/-- No start-up test of the selected set is pending. -/
def State.testsDone (s : State) : Bool := decide (s.saf.testPending = 0)

/-! ### Release (R407, R409, R416) -/

/-- Limited mode is active in channel `c` (R411). -/
def State.limitedNow (s : State) (c : Chan) (r : SafAxisRec) : Bool :=
  bvGet r.func 3 || (decide (r.gmode = 2) && s.guardOpen c r.gmask)

/-- What keeps safety axis `sx` of the set in force in STO. -/
def State.stoHeld (s : State) (sx : Nat) (r : SafAxisRec) : Bool :=
  s.setInForce.isNone || s.anyGlobal || !s.saf.chA.running || !s.saf.chB.running ||
  decide (SMap.get 0 s.saf.causes sx ≠ 0) || s.guardTestPending r.gmask ||
  (decide (r.gmode ≠ 2) && (s.guardOpen .a r.gmask || s.guardOpen .b r.gmask)) ||
  (r.remote && !((s.saf.chA.view sx).synced && (s.saf.chB.view sx).synced))

/-- Safety axis `sx` is in STO in either channel. -/
def State.inSto (s : State) (sx : Nat) : Bool :=
  decide ((s.saf.chA.view sx).state = .sto) || decide ((s.saf.chB.view sx).state = .sto)

/-- Safety axis `sx` leaves STO in channel `c`. -/
def State.releaseChan (s : State) (c : Chan) (sx : Nat) (r : SafAxisRec) : State :=
  s.setChan c ((s.chan c).setView sx
    { (s.chan c).view sx with state := if s.limitedNow c r then .limited else .run })

/-- Safety axis `sx` leaves STO, with EV60 code 2. -/
def State.releaseOne (s : State) (sx : Nat) (r : SafAxisRec) : State :=
  if s.inSto sx then (((s.releaseChan .a sx r).releaseChan .b sx r).ev 60 sx 2 0).unack sx else s

/-- Acknowledged, and nothing else holds it. -/
def State.mayLeave (s : State) (sx : Nat) (r : SafAxisRec) : Bool := s.saf.acked.contains sx && !s.stoHeld sx r

/-- A global cause other than LINK_LOSS, on which each channel drops its pin by its own detection (R28). -/
def State.otherGlobal (s : State) : Bool := decide (bvPut s.saf.faults Glob.linkLoss false ≠ 0)

/-- The STO pins are high while their channel permits torque: a set in force, no global cause, no link loss of its own, and no
local safety axis in STO (R28, R393, R409). -/
def State.setPins (s : State) : State :=
  let level (c : Chan) : Bool :=
    match s.setInForce with
    | some st => (s.chan c).running && !s.otherGlobal && !(s.chan c).linkLoss &&
        st.locals.all (fun sx => decide (((s.chan c).view sx).state ≠ .sto))
    | none => false
  (s.setChan .a { s.saf.chA with sto := level .a }).setChan .b { s.saf.chB with sto := level .b }

/-- Every axis that may leave STO does; local axes leave together, because they share the pins (R409). -/
def State.tryRelease (s : State) : State :=
  match s.setInForce with
  | none => s.setPins
  | some st =>
    let recs := (List.range 32).filterMap (fun sx => (st.rec? sx).map (fun r => (sx, r)))
    let locals := recs.filter (fun e => !e.2.remote)
    let free := locals.all (fun e => s.mayLeave e.1 e.2 || !s.inSto e.1)
    let s := if free then locals.foldl (fun s e => s.releaseOne e.1 e.2) s else s
    let s := (recs.filter (fun e => e.2.remote)).foldl
      (fun s e => if s.mayLeave e.1 e.2 then s.releaseOne e.1 e.2 else s) s
    s.setPins

/-! ### The set in force (R400, R403, R421) -/

/-- Views of the axes of a newly selected or confirmed set: the axes it names are in STO, the others unused. -/
def State.nameAxes (s : State) : State :=
  let named (sx : Nat) : Bool := match s.selectedSet with | some st => (st.rec? sx).isSome | none => false
  let fix (x : SafChan) : SafChan := { x with axes := x.axes.zipIdx.map (fun e =>
    if named e.2 then (if e.1.state = .unused then { e.1 with state := .sto } else e.1) else { e.1 with state := .unused }) }
  (s.setChan .a (fix s.saf.chA)).setChan .b (fix s.saf.chB)

/-- Safety axes that are not in STO now. -/
def State.released (s : State) : List Nat :=
  (List.range 32).filter (fun sx =>
    !s.inSto sx && (decide ((s.saf.chA.view sx).state ≠ .unused) || decide ((s.saf.chB.view sx).state ≠ .unused)))

/-- EV60 code 11 for an axis that is a safety axis no longer. Its subject is the safety axis it was in the set in force before;
where none was in force the spec names no subject, and it is a free value (log entry 164). -/
def State.stoGone (s : State) (was : Option Nat) : State :=
  match was with
  | some sx => s.ev 60 sx 11 0
  | none => let (w, s) := s.freeW; s.ev 60 (w.toNat % 2 ^ 16) 11 0

/-- The set in force was that of `before` and is that of `s` now: EV60 code 8; STO while no set is in force, which needs no
acknowledgement when only the rung did not match (R421); and PINH in place of STO on an axis that is a safety axis no longer
(R134). -/
def State.forceChanged (before s : State) : State :=
  if before.setInForce = s.setInForce then s
  else
    let s := s.evC 60 0xFFFF 8
    let s := s.axisNos.foldl (fun s a =>
      if (s.axis a).reaction = .sto ∧ (s.safAxisOf a).isNone ∧ s.setInForce.isSome then
        (s.modAxis a (fun x => { x with reaction := .pinh })).stoGone (before.safAxisOf a)
      else s) s
    if s.setInForce.isNone then
      let back := if s.rungMismatch then s.released else []
      let s := (s.stoAll .a).stoAll .b
      { s with saf := { s.saf with acked := s.saf.acked ++ back } }
    else s.nameAxes.tryRelease

/-! ### SS1 (R410) -/

/-- SS1 of safety axis `sx` starts in channel `c`: its servo axis ramps to rest as under QSTOP, and EV60 code 3 is raised
once. -/
def State.startSs1 (s : State) (st : SafSet) (c : Chan) (sx : Nat) : State :=
  match st.rec? sx with
  | none => s
  | some r =>
    let v := (s.chan c).view sx
    if v.state ≠ .run ∧ v.state ≠ .limited then s
    else
      let other := (s.chan (match c with | .a => .b | .b => .a)).view sx
      let s := s.setChan c ((s.chan c).setView sx
        { v with state := .ss1, ss1Since := s.now, ss1V0 := v.v, stillSince := none })
      let s := if other.state = .ss1 then s else s.ev 60 sx 3 0
      let x := s.axis r.axis
      if x.enabled = false ∨ x.ss1 ∨ 2 ≤ x.reaction.rank then s
      else if x.ctrlMode = 2 then s.torqueOff r.axis
      else
        let s := (s.setAxis r.axis { x with ss1 := true, still := false }).beginQstop r.axis
        s.modAxis r.axis (fun x => { x with reqs := x.reqs.map (fun q =>
          if q.what = .qstop then { q with what := .ss1 } else q) })

/-- The reaction of a violation (R398, R412): STO or SS1. -/
def State.safReact (s : State) (st : SafSet) (c : Chan) (sx : Nat) (r : SafAxisRec) : State :=
  if r.react = 1 then s.startSs1 st c sx else s.stoEnter st c sx

/-- A violation: latched, EV60 code 4 with the bit of SAF_AXs_STAT, once. -/
def State.violate (s : State) (sx i : Nat) : State :=
  if bvGet (SMap.get 0 s.saf.causes sx) i then s else (s.latchCause sx i).ev 60 sx 4 (8 + i)

end Sys2Proof.Machine
end

