-- ==== Sys2Proof/Machine/Commit.lean ====
section
/-!
DEFINITION. The commit of a stage set (R375 to R377): what changes at φ0 of its cycle, and the write of the parameter
store that ends it.
-/

namespace Sys2Proof.Machine

open Sys2Proof

/-! ### COMMIT_APPLY (R375) -/

/-- One item as the commit applies it: a cam table as the check read it (R368). -/
def State.commitItem (s : State) (cams : List (Nat × Option CamTable)) (it : StageItem) : State :=
  if it.kind = 11 then
    match cams.find? (fun e => decide (e.1 = it.a)) with
    | some e => s.modSettings (fun c => { c with cams := c.cams.set none it.a e.2 })
    | none => s
  else s.withItem it

/-- A register of `offs` differs between two states. -/
def regsDiffer (s t : State) (offs : List Nat) : Bool := offs.any (fun o => decide (s.reg o ≠ t.reg o))

/-- Some PN of `pns` differs between two axes. -/
def pnsDiffer (x y : Axis) (pns : List Nat) : Bool := pns.any (fun pn => decide (x.raw pn ≠ y.raw pn))

/-- A switch whose source a commit changes or takes away starts inactive, and is confirmed anew (R180). -/
def Axis.switchesAfter (x y : Axis) : Axis :=
  (List.range 3).foldl (fun y i =>
    if x.raw (switchPn i) ≠ y.raw (switchPn i) then { y with sw := y.sw.set i false, swSeen := y.swSeen.set i (0, 0) } else y) y

/-- PROF_SRC or CTRL_MODE of an enabled axis has changed; `x` before. An axis whose PROF_SRC goes from streamed to commanded is brought to
rest before it is IDLE (R158): until then it is STOPPING in position mode, and shows the state of its mode in velocity mode; in current
mode iq* goes to zero at CUR_SLEW (DESIGN CHOICE, log entry 198). -/
def Axis.changeSource (x y : Axis) : Axis :=
  let ends := x.streamed && !y.streamed
  let y := { y.profFlag fStreamLost false with streamAge := 0, streamLost := false, prof := y.restState }
  if ends = false then y
  else if y.ctrlMode = 0 then { y with prof := .stopping, heldQueue := false }
  else if y.ctrlMode = 2 then { y with iqTarget := 0, iqNext := [] }
  else y

/-- What changed PNs do to an axis (R98, R100, R120, R158, R194, R507); `x` before, `y` after, `rung` tells a new T_cyc. -/
def Axis.afterCommit (x y : Axis) (tc : Rat) (rung : Bool) : Axis :=
  let y := if pnsDiffer x y ((List.range (Pn.fC + 1 - Pn.mM)).map (fun i => Pn.mM + i)) then
      { y with supv := { y.supv with ready := false } } else y
  let y := if rung || pnsDiffer x y [Pn.nv, Pn.np, Pn.interp, Pn.ctrlMode] then
      { y with loop := { y.loop with iqFirst := true, vFirst := true } } else y
  let y := if pnsDiffer x y [Pn.fbSrc] then y.feedbackRestart else y
  let y := if pnsDiffer x y [Pn.ctrlMode, Pn.profSrc] ∧ y.enabled = true ∧ y.holdsWork = false then
      x.changeSource y else y
  (x.switchesAfter y).design tc

/-- An axis whose PROF_SRC goes from streamed to commanded is brought to rest (R158), where the evaluation before has not begun it. -/
def State.streamEnds (s : State) (a : Nat) (x : Axis) : State :=
  let y := s.axis a
  if x.streamed = true ∧ y.streamed = false ∧ y.enabled = true ∧ y.ctrlMode ≠ 2 ∧ y.plan.isNone = true then s.request a (.toSpeed 0) else s

/-- Axes whose PNs or period change. -/
def State.axesAfter (s t : State) (rung : Bool) : State :=
  s.axisNos.foldl (fun u a =>
    let x := s.axis a
    if x.pn = (u.axis a).pn ∧ rung = false then u
    else (u.setAxis a (x.afterCommit (u.axis a) (tcycS t.rung) rung)).streamEnds a x) t

/-- Feedback ports and modulator channels whose registers change start again at cycle `c` (R194, R222). -/
def State.portsAfter (s t : State) (c : Nat) : State :=
  let t := (List.range 4).foldl (fun t k =>
    if regsDiffer s t (fbFields k ++ [R.fbEmuCfg k, R.fbEmuN k, R.fbEmuM k, R.fbEmuStep k]) then
      t.portStartAt k c
    else t) t
  let t := (List.range 16).foldl (fun t i => if s.fld (R.sdmCfg i) 0 4 ≠ t.fld (R.sdmCfg i) 0 4 then t.sdmSettle i else t) t
  (List.range 8).foldl (fun t i => if decide (bits (s.reg (R.auxCfg i)) 0 2 ≠ bits (t.reg (R.auxCfg i)) 0 2) then t.adcGainChange i
    else t) t

/-- Feedback configuration of the remote port that axis `a` reads, as in force. -/
def State.remoteFb (s : State) (a : Nat) : Option (Nat × Nat × Reg32) :=
  (s.remoteCfgs 1).find? (fun e => decide ((e.1, e.2.1) = Config.remoteHome a))

/-- A remote source whose configuration the commit changes starts again, and with it its axis (R186, R194). -/
def State.remotesAfter (s t : State) : State :=
  s.axisNos.foldl (fun t a =>
    if (t.axis a).int Pn.fbSrc = 4 ∧ s.remoteFb a ≠ t.remoteFb a then t.setAxis a (t.axis a).feedbackRestart else t) t

/-- The pins of buoys follow a commit (R74): a pulse or a level stands only while a buoy that drives the pin so has EN and PIN set. -/
def State.buoysAfter (t : State) : State :=
  let drives (b pin : Nat) (toggle : Bool) : Bool :=
    t.bit (R.byCfg b) 17 && t.bit (R.byCfg b) 26 && decide (t.fld (R.byCfg b) 27 2 = pin) &&
      decide ((t.fld (R.byWidth b) 0 16 = 0) = (toggle = true))
  let active := t.pins.buoyActive.zipIdx.map (fun e => e.1.filter (fun b => drives b e.2 false))
  let level := (List.range 4).foldl (fun v p => if (List.range 8).any (fun b => drives b p true) then v else bvPut v p false) t.pins.buoyLevel
  { t with pins := { t.pins with buoyActive := active, buoyLevel := level } }

/-- A lane that the commit takes out of use goes link-down. -/
def State.lanesAfter (t : State) : State :=
  (List.range 4).foldl (fun t n => if t.linkUp n && !t.laneOn n then t.linkDown n else t) t

/-- A node admitted by the commit becomes a member, one whose slot is removed no longer is one (R287, R290); one that has gone since it
announced is LOST from that φ0 (R293). -/
def State.admitNode (c : Nat) (t : State) (it : StageItem) : State :=
  let v := it.value.toNat % 2 ^ 64
  let x := t.noderec it.a
  if v = 0 ∧ (SMap.get none t.stage.inForce.nodes it.a).isSome = true then t
  else if v = 0 then
    let t' := t.setNoderec it.a { x with state := if x.state = .member ∨ x.state = .lost then .absent else x.state, slot := false }
    if x.state = .member then t'.atPhi0 c (fun t => (t.ev 24 it.a 0 x.reason).raiseNodeLost it.a) else t'
  else if x.state = .announced ∧ x.uid = some v then t.memberAgain it.a
  else if x.state = .absent ∧ x.uid = some v then (t.setNoderec it.a { x with slot := true }).atPhi0 c (fun t => t.markLost it.a)
  else t.setNoderec it.a { x with slot := true }

/-- Blocks whose descriptor changes start without a value (R327). -/
def State.blocksAfter (s t : State) (items : List StageItem) : State :=
  (items.filter (fun i => decide (i.kind = 7))).foldl (fun t i =>
    if s.blockDesc i.a = t.blockDesc i.a then t else t.setBlockStat i.a {}) t

/-- The default of a coefficient PN is computed (R106): where a commit sets RAW, the coefficients it does not write are those of the design
in force. -/
def State.designBefore (s : State) (items : List StageItem) : State :=
  items.foldl (fun s it => if it.kind = 1 ∧ it.b = Pn.filtMode then s.modAxis it.a (fun x => x.design s.tc) else s) s

/-- A write of TRACE_MASK restarts the trace of its axis, whatever it writes (R440). -/
def State.tracesAfter (t : State) (items : List StageItem) : State :=
  items.foldl (fun t it => if it.kind = 1 ∧ it.b = Pn.traceMask then t.modAxis it.a Axis.traceRestart else t) t

/-- The lanes that a new generation concerns hold it from its φ0 (R300, R313). -/
def State.lanesGen (t : State) (k : Commit) : State :=
  (List.range 4).foldl (fun t n =>
    if (t.lineNodes n).any (fun m => decide (m ∈ k.needs)) then t.setLane n { t.lane n with gen := k.gen } else t) t

/-- Conductors that a commit admits take the free numbers from 1 on in the order of their precedence (R280, R283; log entry 207). -/
def State.numberConductors (t : State) : State :=
  let conds := t.bb.nodes.filter (fun e => decide (e.2.state = .member) && t.isConductorNode e.1)
  let key (m : Nat) : Nat := match (t.noderec m).record with
    | some r => r.rank * 2 ^ 64 + r.uid
    | none => 0
  let waits := (conds.filter (fun e => decide (e.2.condNo = 0))).map (fun e => e.1)
  let order := waits.foldl (fun l m => l.takeWhile (fun x => decide (key x < key m)) ++ [m] ++ l.dropWhile (fun x => decide (key x < key m))) []
  order.foldl (fun t m =>
    let used := t.bb.nodes.filterMap (fun e => if e.2.state = .member then some e.2.condNo else none)
    match [1, 2, 3].find? (fun c => decide (c ∉ used)) with
    | some c => t.setNoderec m { t.noderec m with condNo := c }
    | none => t) t

/-- The configuration of a commit takes effect at φ0 of cycle `c`. -/
def State.applyCommit (s : State) (k : Commit) (c : Nat) : State :=
  let items := (s.stageSet k.set).items
  let t := items.foldl (fun t it => t.commitItem k.cams it) (s.designBefore items)
  let rung := decide (t.rung ≠ s.rung)
  let t := if rung then { t with epoch := s.phi0 c, nE := c, bb := { t.bb with elapsed := 0, anchor := c } }.podsNewRung else t
  let t := s.axesAfter t rung
  let t := s.remotesAfter (s.pinsAfter (s.portsAfter t c)).judgeCmps.choppersAfter.buoysAfter
  let t := t.lanesAfter
  let t := (s.blocksAfter t items).tracesAfter items
  let t := (items.filter (fun i => decide (i.kind = 9))).foldl (State.admitNode c) t
  let t := (s.forceChanged t.dropClaimed).numberConductors.lanesGen k
  { t with bb := { t.bb with nextRung := if rung then none else t.bb.nextRung },
           stage := { t.stage with gen := k.gen, commit := some { k with phase := .applied, cycle := c } } }

/-- An engine that is halted cannot report ready (R523). -/
def State.haltedEngine (s : State) : Option Nat := (List.range 12).find? (fun e => s.sec.halted.getLsbD e)

/-- COMMIT_APPLY: the pending commit whose cycle begins with this φ0 is applied everywhere at once, or, while an engine is
halted, nowhere (R376, R523). -/
def commitApplyCmd (s : State) : State :=
  match s.stage.commit with
  | some k =>
    if k.phase = .scheduled ∧ s.dueAtPhi0 k.cycle = true then
      match s.haltedEngine with
      | some e => s.commitNoAck k 10 e
      | none => s.applyCommit k k.cycle
    else s
  | none => s

def execCommitApply (s : State) : Host.Outcome State Fault Refusal := .next (commitApplyCmd s)

/-! ### PARAM_STORE_WRITE_DONE (R377) -/

/-- What a parameter-store copy holds: the settings, staged registers and PNs in force. -/
def State.storeImage (s : State) (gen : Nat) : StoreCopy :=
  { gen := gen, settings := s.stage.inForce, regs := s.regs.filter (fun e => (stagedMask e.1).isSome),
    pns := s.axes.filterMap (fun e => if e.2.pn.isEmpty then none else some (e.1, e.2.pn)) }

/-- The copy in force. -/
def State.storeNow (s : State) : StoreCopy := if s.stage.copyB then s.stage.storeB else s.stage.storeA

/-- Replay data of a commit's FINAL: the copy and its generation (R380). -/
def storeBody (copyB : Bool) (gen : Nat) : List Byte := leBytes 1 (if copyB then 1 else 0) ++ leBytes 8 gen

/-- PARAM_STORE_WRITE_DONE: the idle copy is written; the FINAL names it, the set closes and the next commit starts. -/
def paramStoreWriteDoneCmd (s : State) : State :=
  match s.stage.commit with
  | some k =>
    if k.phase = .applied ∧ s.mramOpen = true then
      let gen := s.storeNow.gen + 1
      let copy := s.storeImage gen
      let toB := !s.stage.copyB
      let s := { s with stage := { s.stage with
        storeA := if toB then s.stage.storeA else copy, storeB := if toB then copy else s.stage.storeB, copyB := toB } }
      ((s.setStage k.set {}).final k.own St.ok k.cycle 0 none (storeBody toB gen)).nextCommit
    else s
  | none => s

def execParamStoreWriteDone (s : State) : Host.Outcome State Fault Refusal := .next (paramStoreWriteDoneCmd s)

end Sys2Proof.Machine
end

