-- ==== Sys2Proof/Machine/Frames.lean ====
section
/-!
DEFINITION. Lane frames as the conductor sends and takes them (R296 to R334): gather, scatter and slow frames, the signal
blocks and management records they carry, acknowledgements of a generation, the relayed Flash, and the Foghorn.
-/

namespace Sys2Proof.Machine

open Sys2Proof

/-! ### What a conductor sends -/

/-- A frame can leave port `p`: it is link-up and no line end (R279). -/
def State.portSends (s : State) (p : Nat) : Bool := s.linkUp p && !(s.lane p).lineEnd

/-- A port of the lane's line can send, so that its frames reach a node. -/
def State.lineUp (s : State) (n : Nat) : Bool := (s.linePorts n).any s.portSends

/-- This VLN leads the line of lane `n`. -/
def State.leadsLine (s : State) (n : Nat) : Bool := decide (n < 4) && s.leads && s.ledLine n

/-- This VLN leads lane `n` and its frames can leave. -/
def State.sends (s : State) (n : Nat) : Bool := s.leadsLine n && s.lineUp n

/-- The copies of a frame of lane `n`, made by `f` from whether it is the odd lane's, leave through the ports that can send (R270, R279,
R323). -/
def State.eachCopy (s : State) (n : Nat) (f : Bool → Lane → Lane) : State :=
  (s.linePorts n).foldl (fun s p => if s.portSends p then s.setLane p (f (decide (p ≠ n)) (s.lane p)) else s) s

/-- Header of a frame of lane `n` (R300), the copy of the even lane. `len` is its length in bytes, `sig` and `mgmt` the lengths of its
areas. -/
def State.header (s : State) (n ftype len entries sig safe mgmt : Nat) (fog : Bool) : CycleHeader :=
  { ftype := ftype, ver := 1, len8 := len / 8, cycle := s.cycle, corr := 0, lane := n, oddCopy := false,
    conductor := s.bb.number, fog := fog, ring := decide (s.laneMode n = 2), turn := 0xFFFF, schedGen := (s.lane n).gen,
    entries := entries, sig8 := sig / 8, safe := safe, mgmt8 := mgmt / 8, condUid := s.uid, fogNode := 0xFFFF }

/-- Signals a descriptor's block names: two words per string (R326). -/
def BlockDesc.words (d : BlockDesc) : Nat := if d.kind = 4 then 2 * d.count else d.count

/-- A block as the conductor sends it to its producer: zeroed (R309). -/
def zeroBlock (e : Nat × BlockDesc) : SigBlock := ⟨e.1, e.2.kind, e.2.count, false, 0, List.replicate e.2.words 0⟩

/-- A block as the store holds it now (R327, R329). -/
def State.storedBlock (s : State) (e : Nat × BlockDesc) : SigBlock :=
  ⟨e.1, e.2.kind, e.2.count, (s.blockStat e.1).valid, (s.blockStat e.1).bseq,
   (List.range e.2.words).map (fun i => s.sigWord (64 * e.1 + i))⟩

/-- A frame as it leaves: its CRC is computed over its bytes (R297). -/
def sentGather (f : GatherFrame) : GatherFrame := { f with tail := ownTail (gatherBody f) }
def sentScatter (f : ScatterFrame) : ScatterFrame := { f with tail := ownTail (scatterBody f) }
def sentSlow (f : SlowFrame) : SlowFrame := { f with tail := ownTail (slowBody f) }

/-- A trailer before the CRC is known. -/
def noTail : Trailer := ⟨0, 0xFFFF, 0, false, 0⟩

def emptyPdu : SafetyPdu := ⟨0, 0, 0, 0, 0, 0, 0, 0, 0, false⟩
def emptyContainer : Container := ⟨0, 0, 0, emptyPdu⟩

/-- A Flash with VOID set (R303). -/
def State.voidFlash (s : State) : FlashIn :=
  { tx := 0, corr := 0, rx := 0, epoch := s.epoch, nE := s.nE, rung := s.rung, nextRung := 0, nextCycle := 0xFFFFFFFF,
    void := true, relayed := true, syncin := false, lanternUid := s.bb.lanternUid, conductor := s.bb.number, cycle := s.cycle, valid := false }

/-- The uplink's Flash as it leaves on a branch lane (R333): CORR grows by the residence; without one this cycle it is VOID.
CORR as taken already holds the uplink's link delay (R304). -/
def State.relayFlash (s : State) (residence : Int) : FlashIn :=
  match (if s.bb.flashSeen then s.bb.relay else none) with
  | some f => { f with corr := f.corr + residence, relayed := true }
  | none => s.voidFlash

/-- The Flash a gather frame carries that leaves at `tx` (R303, R333). -/
def State.flashFor (s : State) (tx : Nat) : FlashIn :=
  if s.bb.lantern then
    let next := s.bb.nextRung.getD (0xFFFFFFFF, s.rung)
    { tx := tx % 2 ^ 72, corr := 0, rx := 0, epoch := s.epoch, nE := s.nE, rung := s.rung, nextRung := next.2,
      nextCycle := next.1, void := false, relayed := false, syncin := s.disciplined, lanternUid := s.uid, conductor := s.bb.number,
      cycle := s.cycle, valid := true }
  else s.relayFlash (t72Diff ((s.bb.relay.map (fun f => f.rx)).getD 0) tx)

/-- The gather frame of lane `n` with its entries and blocks to be filled in, as the port of the even or the odd copy sends it with
Flash `flash` (R302, R303, R323). CORR is 0 at its start, on a branch lane that of the relayed Flash (R301, R333). -/
def State.gatherOut (s : State) (n : Nat) (flash : FlashIn) (odd : Bool) : GatherFrame :=
  let es := s.laneEntries n
  let bs := s.gatherBlocks n
  let conts := s.laneContainers n
  sentGather
    { hdr := { s.header n 0x10 (s.gatherLen n) es.length (blocksLen bs) conts 0 false with corr := flash.corr, oddCopy := odd }
      flash := flash
      entries := es.map (fun e => ⟨e.1, e.2, 0, 0, 0, 0, 0, 0⟩)
      blocks := bs.map zeroBlock, conts := List.replicate conts emptyContainer, join := .empty, tail := noTail }

/-- GATHER_DEPARTURE: the gather frame of lane `n` leaves at `tx`, on a ring from both its ports at the same instant (R270). -/
def gatherDepartureCmd (n tx : Nat) (s : State) : State :=
  if s.sends n = false ∨ s.laneServed n = false then s
  else s.eachCopy n (fun odd l => { l with gather := some (s.gatherOut n (s.flashFor tx) odd) })

def execGatherDeparture (n tx : Nat) (s : State) : Host.Outcome State Fault Refusal := .next (gatherDepartureCmd n tx s)

/-- FLASH_RELAY: the Flash in the gather of branch lane `n` as it leaves after `residence` (R333). -/
def flashRelayCmd (n : Nat) (residence : Int) (s : State) : State :=
  if s.sends n = false ∨ s.laneServed n = false ∨ s.bb.lantern = true then s
  else
    let flash := s.relayFlash residence
    s.eachCopy n (fun _ l => { l with gather := l.gather.map (fun f =>
      sentGather { f with flash := flash, hdr := { f.hdr with corr := flash.corr } }) })

def execFlashRelay (n : Nat) (residence : Int) (s : State) : Host.Outcome State Fault Refusal :=
  .next (flashRelayCmd n residence s)

/-! ### Scatter -/

/-- REACT for an axis: short circuit and pulse inhibit as R126 chooses, from the detection until the fault clear (R125, R308). -/
def Axis.reactCode (x : Axis) : Nat :=
  if x.ascShort then 2 else if 4 ≤ x.reaction.rank then 1 else 0

/-- EN for an axis: enabled, its gates not held off by a flying start, an idle observer or a debug stop, or a short circuit
that outlasts a disable (R126, R232, R233, R259). -/
def Axis.scatterEn (x : Axis) : Bool :=
  x.ascShort || (x.enabled && !x.haltSafe && (!x.fly.on || x.fly.window) && !x.obsIdle)

/-- A duty as it travels (R308): an unsigned fraction of the period in 2^-32. -/
def duty32 (d : Int) : Int := min (rnd ((d : Rat) / 8)) (2 ^ 32 - 1)

/-- The scatter entry of a remote axis: its triple, or its set-points under split closure (R308). SEQ names the cycle of the
samples: the last one whose sample was used (R53, R84, R102). -/
def State.axisEntry (s : State) (node ax : Nat) (x : Axis) : SEntry :=
  let stale := bvGet x.loopNow fStale
  let age := (if stale then max 1 (max x.loop.badSamples x.loop.staleRun) else 0) + (if x.split then 1 else 0)
  { node := node, axis := ax, en := s.isRun && x.scatterEn, split := x.split, react := x.reactCode, stale := stale,
    fly := x.fly.window, seq := (s.cycle + 2 ^ 32 - age) % 256,
    d := if x.split then [x.loop.idSet, x.loop.iqSet, 0] else [x.loop.du, x.loop.dv, x.loop.dw].map duty32 }

/-- The servo axis that runs as local axis `ax` of node `m`. -/
def State.axisOn (s : State) (m ax : Nat) : Option Nat :=
  (s.nodeAxes m).find? (fun a => decide ((Config.remoteHome a).2 = ax) && (s.axis a).inUse)

/-- Scatter entry for a place of the schedule; nothing is enabled where no axis runs. -/
def State.scatterEntry (s : State) (e : Nat × Nat) : SEntry :=
  match s.axisOn e.1 e.2 with
  | some a => s.axisEntry e.1 e.2 (s.axis a)
  | none => ⟨e.1, e.2, false, false, 0, false, false, s.cycle % 256, [0, 0, 0]⟩

/-- The acknowledgement that the next scatter of a lane carries (R287, R307): one of an earlier cycle that none has carried yet, else one
of a readmission, repeated until the φ0 that it leads to (log entry 183). -/
def State.ackDue (s : State) (l : Lane) : Option AckOut :=
  match l.acks.find? (fun a => !a.sent && decide (a.cycle ≠ s.cycle)) with
  | some a => some a
  | none => l.acks.find? (fun a => a.sent)

/-- The control area of the next scatter of a lane (R307). -/
def State.ctlOut (s : State) (l : Lane) : ControlArea :=
  let q := l.quars.head?.getD ⟨0, 0, 0⟩
  let a := (s.ackDue l).getD ⟨0, 0, 0, 0, false⟩
  { l.ctl with ackUid := a.uid, ackNode := a.node, ackCode := a.code, quarKind := q.kind, quarNode := q.node, quarUid := q.uid,
               fogClrSeq := s.bb.fogClrSeq }

/-- What a lane still has to say once a scatter has carried its control area: an acknowledgement without a date, a quarantine and a release
pass with the frame that carries them. -/
def State.afterSent (s : State) (l : Lane) : Lane :=
  let carried := s.ackDue l
  let acks := l.acks.map (fun a => if carried = some a then { a with sent := true } else a)
  { l with quars := l.quars.drop 1,
           acks := acks.filter (fun a => !a.sent || (decide (a.code = 1) && (s.noderec a.node).readmitAt.isSome)) }

/-- The scatter frame of lane `n` (R306 to R308, R310): the safety containers that were prepared for this cycle stand at the places of
their node. -/
def State.scatterOut (s : State) (n : Nat) (odd : Bool) : ScatterFrame :=
  let l := s.lane n
  let es := s.laneEntries n
  let bs := s.scatterBlocks n
  let made := if l.outCycle = s.cycle then l.outConts else []
  let cont (p : Nat × Nat) : Container := (made.find? (fun c => decide (c.saxis = p.1) && decide (c.chan = p.2))).getD emptyContainer
  sentScatter
    { hdr := { s.header n 0x20 (s.scatterLen n) es.length (blocksLen bs) (s.laneContainers n) 0 s.bb.fogLatched with oddCopy := odd }
      ctl := s.ctlOut l
      entries := es.map s.scatterEntry, blocks := bs.map s.storedBlock, conts := (s.contPlaces n).map cont, tail := noTail }

/-- SCATTER_DEPARTURE: the scatter frame of lane `n` leaves at the scatter instant, on a ring from both its ports (R58, R270, R306 to
R308). -/
def scatterDepartureCmd (n : Nat) (s : State) : State :=
  if s.sends n = false ∨ s.laneServed n = false then s
  else
    let t := s.eachCopy n (fun odd l => { l with scatter := some (s.scatterOut n odd) })
    t.setLane n (s.afterSent (t.lane n))

def execScatterDeparture (n : Nat) (s : State) : Host.Outcome State Fault Refusal := .next (scatterDepartureCmd n s)

/-! ### Gather frames that return -/

/-- Copies of a lane's gather frame that may be used: valid (R297), of the lane's length, this conductor's and of `cycle`. -/
def State.goodGathers (s : State) (n cycle : Nat) (copies : List GatherFrame) : List GatherFrame :=
  copies.filter (fun f => gatherOk f && decide (8 * f.hdr.len8 = s.gatherLen n) && decide (f.hdr.cycle = cycle) &&
    decide (f.hdr.condUid = s.uid))

/-- The entry of place `i` in the first copy that holds it valid (R270, R305, R337). -/
def findEntry (good : List GatherFrame) (e : Nat × Nat) : Option GEntry :=
  good.findSome? (fun f => f.entries.find? (fun g => decide (g.node = e.1) && decide (g.axis = e.2) && decide (g.eflags % 2 = 1)))

/-- The node is a member that this conductor knows. -/
def State.isMember (s : State) (m : Nat) : Bool := decide ((s.noderec m).state = .member)

/-- An entry reaches the axis that runs there: in the present cycle, or in the cycle before on a lane of split axes (R63). -/
def State.takeEntry (s : State) (present : Bool) (good : List GatherFrame) (e : Nat × Nat) : State :=
  match s.axisOn e.1 e.2 with
  | some a =>
    let g := if s.isMember e.1 then findEntry good e else none
    s.modAxis a (fun x => if present then { x with entry := g } else { x with entryPrev := g })
  | none => s

/-- Misses and LOCKED of a member after a gather frame (R285, R295); the entries of one that was quarantined count as missing (R289). -/
def State.judgeNode (s : State) (good : List GatherFrame) (m : Nat) : State :=
  let x := s.noderec m
  if x.state ≠ .member then
    (if x.dropped then s.setNoderec m { x with misses := x.misses + 1 } else s)
  else
    let es := (s.nodeEntries m).map (findEntry good)
    let locked := match es.getLast? with
      | some (some g) => decide (g.eflags / 2 % 2 = 0)
      | _ => x.locked
    s.setNoderec m { x with misses := if es.all (fun e => e.isSome) then 0 else x.misses + 1, locked := locked }

/-- A value enters the store: its words, VALID, BSEQ, and an AGE of 0 (R327). -/
def State.storeBlock (s : State) (b kind : Nat) (bseq : Nat) (payload : List (BitVec 72)) : State :=
  let s := payload.zipIdx.foldl (fun s w => s.setSigWord (64 * b + w.2) (storeForm kind w.1)) s
  s.setBlockStat b { valid := true, bseq := bseq % 256, age := 0 }

/-- A block that arrives from a producing member, or is invalid and leaves the store unchanged (R330). -/
def State.takeBlock (s : State) (found : Option SigBlock) (e : Nat × BlockDesc) : State :=
  match found with
  | some b =>
    if (s.carrier e.2.producer).any s.isMember then s.storeBlock e.1 e.2.kind b.bseq (b.payload.take e.2.words)
    else s.setBlockStat e.1 { s.blockStat e.1 with valid := false }
  | none => s.setBlockStat e.1 { s.blockStat e.1 with valid := false }

/-- The first valid copy of a block. -/
def findBlock (areas : List (List SigBlock)) (e : Nat × BlockDesc) : Option SigBlock :=
  areas.findSome? (fun bs => bs.find? (fun b => decide (b.block = e.1) && b.valid && decide (b.kind = e.2.kind) &&
    decide (b.count = e.2.count)))

/-- The port of the line of lane `n` at which a copy comes back: the one it left, or the other one of a ring where no node turned it. -/
def State.backPort (s : State) (n : Nat) (h : CycleHeader) : Nat :=
  if (s.ringOf n).isNone then n else if decide (h.turn = 0xFFFF) = h.oddCopy then n else n + 1

/-- The nodes that turned the copies of a ring (R271, R295). -/
def State.takeTurns (s : State) (n : Nat) (good : List GatherFrame) : State :=
  match s.ringOf n with
  | some e =>
    good.foldl (fun s f =>
      if f.hdr.turn = 0xFFFF then s
      else (s.openRing e).setFld (R.bbRing e) (if f.hdr.oddCopy then 8 else 0) 8 (f.hdr.turn % 256)) s
  | none => s

/-- A broken link between two nodes of an open ring is repaired: the nodes beside it still turn the frames, and by what the conductor
learns that both sides have been up for 1 ms is not stated, so that this is free (log entry 209). It then names the closing cycle (R272). -/
def State.noticeRepair (s : State) (n : Nat) : State :=
  match s.ringOf n with
  | some e =>
    if s.bit (R.bbStat e) 4 ∧ (s.lane e).ringCloseAt.isNone = true ∧ s.linkUp e ∧ s.linkUp (e + 1) then
      let (w, s) := s.freeW
      if w.toNat % 2 = 1 then s.nameClosing e else s
    else s
  | none => s

/-- Each container of a frame goes to the receiver of the channel that its CHAN names, and to no other (R310). -/
def State.handConts (s : State) (cs : List Container) : State :=
  [(Chan.a, 0x0A), (Chan.b, 0x0B)].foldl (fun s c =>
    let mine := cs.filter (fun k => decide (k.chan = c.2))
    if mine.isEmpty then s else s.setChan c.1 { s.chan c.1 with inbox := mine }) s

/-- GATHER_FRAME_RETURN: the copies of a lane's gather frame are back. Entries count for the cycle they were taken in; one
that comes after its deadline is a schedule miss (R58, R63, R305). Where no port of the lane can send there is no copy, and its members
are missing (R285). -/
def gatherFrameReturnCmd (n : Nat) (copies : List GatherFrame) (s : State) : State :=
  if s.leadsLine n = false then s
  else
    let s := copies.foldl (fun s f => s.countBad (s.backPort n f.hdr) f.tail) s
    let split := s.laneSplit n
    let copies := if s.laneServed n && s.lineUp n then copies else []
    let past := split && copies.any (fun f => decide (cycAdd f.hdr.cycle 1 = s.cycle))
    let cycle := if past then (s.cycle + 2 ^ 32 - 1) % 2 ^ 32 else s.cycle
    let deadline : Int := (s.phi0Now : Int) + gatherBackNs s.rung * 2 ^ 16 + (if split && !past then tcycT s.rung else 0)
    let late := decide (t72Diff (t72Mod deadline) s.now > 0)
    let s := if late then s.evC 26 n 1 else s
    let good := if late then [] else s.goodGathers n cycle copies
    let s := (s.laneEntries n).foldl (fun s e => s.takeEntry (!past) good e) s
    let s := (s.lineNodes n).foldl (fun s m => s.judgeNode good m) s
    let s := (s.gatherBlocks n).foldl (fun s e => s.takeBlock (findBlock (good.map (fun f => f.blocks)) e) e) s
    let s := s.handConts ((good.head?.map (fun f => f.conts)).getD [])
    (s.takeTurns n good).noticeRepair n

def execGatherFrameReturn (n : Nat) (copies : List GatherFrame) (s : State) : Host.Outcome State Fault Refusal :=
  .next (gatherFrameReturnCmd n copies s)

/-! ### Generations: SCHEDULE, CONFIG and their answers -/

/-- Place of the first element that satisfies `p`. -/
def firstIdx {α : Type} (l : List α) (p : α → Bool) : Nat := (l.findIdx? p).getD 0

/-- Offset in 8 bytes of block `b` among blocks that stand one behind another. -/
def offset8Of : List (Nat × BlockDesc) → Nat → Nat
  | [], _ => 0
  | e :: rest, b => if e.1 = b then 0 else e.2.bytes / 8 + offset8Of rest b

/-- Block assignments of node `m` on lane `n` (R313). -/
def State.blkAssigns (s : State) (n m : Nat) : List BlkAssign :=
  let mk (e : Nat × BlockDesc) (consumed : Bool) (off : Nat) : BlkAssign := ⟨e.1, consumed, e.2.cls, e.2.phase, off⟩
  let slow := slowPlaces (s.slowBlocks n)
  let slowOff (b : Nat) : Nat := ((slow.find? (fun t => decide (t.1 = b))).map (fun t => t.2.2 / 8)).getD 0
  let off (e : Nat × BlockDesc) (consumed : Bool) : Nat :=
    if e.2.cls ≠ 0 then slowOff e.1 else offset8Of (if consumed then s.scatterBlocks n else s.gatherBlocks n) e.1
  let made := (s.blocks.filter (fun e => decide (e.2.producer = m))).map (fun e => mk e false (off e false))
  let used := (s.blocks.filter (fun e => s.consumes m e.1)).map (fun e => mk e true (off e true))
  made ++ used

/-- A list in pieces of `k`. -/
def pieces {α : Type} (k fuel : Nat) (l : List α) : List (List α) :=
  match fuel with
  | 0 => []
  | f + 1 => if l.isEmpty then [] else l.take k :: pieces k f (l.drop k)

/-- SCHEDULE records of node `m` (R313): at least one part; 251 assignments fit in one. -/
def State.scheduleRecs (s : State) (n m gen : Nat) : List ScheduleRec :=
  let blks := s.blkAssigns n m
  let parts := pieces 251 (blks.length + 1) blks
  let parts := if parts.isEmpty then [[]] else parts
  let es := s.laneEntries n
  let first := firstIdx es (fun e => decide (e.1 = m))
  let before := ((s.lineNodes n).takeWhile (fun x => x != m)).flatMap s.nodeSafAxes
  parts.zipIdx.map (fun p =>
    { dest := m, gen := gen, part := p.2, parts := parts.length, gEntry := first, sEntry := first,
      nEntry := (s.nodeEntries m).length, nSafe := (s.nodeSafAxes m).length, gSafe := 2 * before.length,
      sSafe := 2 * before.length, sflags := if s.laneMode n = 2 then 1 else 0, blks := p.1 })

/-- Settings that node `m` receives (R314): its register images, and the PNs of R103 of its split axes. -/
def State.configItems (s : State) (m : Nat) : List ConfigItem :=
  let regs := s.stage.inForce.remote.filterMap (fun e => e.2.bind (fun v =>
    if e.1 / 2 ^ 26 = m then
      some ⟨1, e.1 / 2 ^ 18 % 256, e.1 / 4 % 2 ^ 16, e.1 % 4, (v.toNat : Int)⟩ else none))
  let pns := ((s.nodeAxes m).filter (fun a => (s.axis a).split)).flatMap (fun a =>
    ((List.range 16).filter (fun i => (pnDesc? (0x0110 + i)).isSome)).map (fun i =>
      (⟨2, (Config.remoteHome a).2, 0x0110 + i, 0, (s.axis a).raw (0x0110 + i)⟩ : ConfigItem)))
  regs ++ pns

/-- CONFIG records of node `m` (R314): 84 items fit in one; a node without settings gets one without items (log entry 210). -/
def State.configRecs (s : State) (m gen : Nat) : List ConfigRec :=
  let items := s.configItems m
  let parts := pieces 84 (items.length + 1) items
  let parts := if parts.isEmpty then [[]] else parts
  parts.zipIdx.map (fun p => ⟨m, gen, p.2, parts.length, p.1⟩)

/-- Nodes of lane `n`, those that the pending set admits among them, that have not answered the pending generation with RESULT 0. -/
def State.unanswered (s : State) (n : Nat) : List Nat :=
  match s.stage.commit with
  | some k =>
    if k.phase = .awaiting then
      ((s.withItems s.commitItems).lineNodes n).filter (fun m => decide (m ∈ k.needs) && decide (m ∉ k.answered))
    else []
  | none => []

/-- Bytes of management records. -/
def schedBytes (r : ScheduleRec) : Nat := 32 + 8 * r.blks.length
def confBytes (r : ConfigRec) : Nat := 16 + 24 * r.items.length

/-- The longest prefix of records that fits into `room` bytes. -/
def fitting {α : Type} (size : α → Nat) : List α → Nat → List α
  | [], _ => []
  | r :: rest, room => if size r ≤ room then r :: fitting size rest (room - size r) else []

/-- Rotate a list, so that records that do not fit in one frame go with a later one. -/
def rotate {α : Type} (k : Nat) (l : List α) : List α := l.drop (k % l.length) ++ l.take (k % l.length)

/-- Instant t_w after φ0 in ns (R324). -/
def State.slowNs (s : State) (n : Nat) : Rat := (scatterNs s.rung : Rat) + (wireLen (s.scatterLen n) : Rat) * 4 / 5 + 100

/-- Bytes that a slow frame may have on lane `n` (R324). -/
def State.slowRoom (s : State) (n : Nat) : Nat :=
  let hops := ((s.linePorts n).map (fun p => s.hopSum n p)).foldl max 0
  let t := (tcycNs s.rung : Rat) + 400 - s.slowNs n - 450 - 2 * hops - 2 * (s.fwdSum n : Rat)
  (rfloor (t * 5 / 4)).toNat - 8

/-- Blocks due in the slow frame of lane `n`, with their offsets, as they leave (R309, R328, R329): zeroed where a node of the lane fills
them. -/
def State.slowDue (s : State) (n : Nat) : List (Nat × SigBlock) :=
  let places := (slowPlaces (s.slowBlocks n)).filter (fun t => t.2.1.due s.cycle)
  let out (t : Nat × BlockDesc × Nat) : Nat × SigBlock :=
    (t.2.2 / 8, if (s.carrier t.2.1.producer).any (fun m => decide (m ∈ s.lineNodes n)) then zeroBlock (t.1, t.2.1) else s.storedBlock (t.1, t.2.1))
  (places.map out).foldl (fun l e => (l.takeWhile (fun x => decide (x.1 < e.1))) ++ [e] ++ l.dropWhile (fun x => decide (x.1 < e.1))) []

/-- Management records of the slow frame of lane `n` in `room` bytes (R311, R312, R324): reply slots for the nodes that have not answered,
then records of the pending generation. -/
def State.mgmtOut (s : State) (n room : Nat) : List MgmtRec :=
  let t := s.withItems s.commitItems
  let gen := (s.stage.commit.map (fun k => k.gen)).getD 0
  let slots := fitting (fun _ => 16) (rotate s.cycle (s.unanswered n)) room
  let room := room - 16 * slots.length
  let scheds := fitting schedBytes (rotate s.cycle ((s.unanswered n).flatMap (fun m => t.scheduleRecs n m gen))) room
  let used := (scheds.map schedBytes).sum
  let confs := fitting confBytes (rotate s.cycle ((s.unanswered n).flatMap (fun m => t.configRecs m gen))) (room - used)
  slots.map (fun m => .reply m gen) ++ scheds.map .schedule ++ confs.map .config

/-- The slow frame of lane `n` (R311): N = 56 + M + S_w. -/
def State.slowOut (s : State) (n : Nat) (odd : Bool) : SlowFrame :=
  let blocks := s.slowDue n
  let sig := (areaBytes 0 blocks).length
  let recs := s.mgmtOut n (s.slowRoom n - 56 - sig)
  let mgmt := (recs.flatMap mgmtBytes).length
  sentSlow { hdr := { s.header n 0x30 (56 + mgmt + sig) 0 sig 0 mgmt false with oddCopy := odd }
             recs := recs, blocks := blocks, tail := noTail }

/-- SLOW_FRAME_DEPARTURE: the slow frame of lane `n` leaves at t_w with the blocks due, and with reply slots and records of the
pending generation in the space that is left, on a ring from both its ports (R311, R323, R324, R329). -/
def slowFrameDepartureCmd (n : Nat) (s : State) : State :=
  if s.sends n = false ∨ s.laneServed n = false then s
  else s.eachCopy n (fun odd l => { l with slow := some (s.slowOut n odd) })

def execSlowFrameDeparture (n : Nat) (s : State) : Host.Outcome State Fault Refusal := .next (slowFrameDepartureCmd n s)

/-- An answer to the pending generation (R315, R373): when the last node concerned has answered with RESULT 0, the commit
is scheduled, for its named cycle or four cycles ahead, and named in the control areas (R316). An answer that comes less than 4 cycles
before a named cycle comes too late for it. -/
def State.takeAck (s : State) (r : AckRec) : State :=
  match s.stage.commit with
  | some k =>
    if k.phase = .awaiting ∧ r.gen = k.gen ∧ r.result = 0 ∧ r.node ∈ k.needs ∧ r.node ∉ k.answered then
      let answered := k.answered ++ [r.node]
      let c := k.named.getD (cycAdd s.cycle 4)
      if k.needs.all (fun m => decide (m ∈ answered)) && decide (4 ≤ cycDiff s.cycle c) then
        ({ s with stage := { s.stage with
            commit := some { k with answered := answered, phase := .scheduled, cycle := c } } }).nameCommit c k.gen s.commitItems
      else { s with stage := { s.stage with commit := some { k with answered := answered } } }
    else s
  | none => s

/-- The slow frame that lane `n` sent last, whichever port sent it. -/
def State.slowSent (s : State) (n : Nat) : Option SlowFrame := (s.linePorts n).findSome? (fun p => (s.lane p).slow)

/-- The ACK records in the reply slots of a management area (R312, R315). -/
def acksOf (recs : List MgmtRec) : List AckRec := recs.filterMap (fun r => match r with
  | .ack a => some a
  | _ => none)

/-- SLOW_FRAME_RETURN: the copies of a lane's slow frame are back with the blocks due in its cycle and the answers in its
reply slots (R323, R329, R330). Answers are taken from every valid copy, since a node behind a break fills the slot of one only. -/
def slowFrameReturnCmd (n : Nat) (copies : List SlowFrame) (s : State) : State :=
  if s.leadsLine n = false ∨ s.laneServed n = false then s
  else
    match s.slowSent n with
    | none => s
    | some out =>
      let s := copies.foldl (fun s f => s.countBad (s.backPort n f.hdr) f.tail) s
      let copies := if s.lineUp n then copies else []
      let good := copies.filter (fun f => slowOkF f && decide (f.hdr.cycle = out.hdr.cycle) && decide (f.hdr.condUid = s.uid))
      let due := (s.slowBlocks n).filter (fun e => e.2.due out.hdr.cycle &&
        (s.carrier e.2.producer).any (fun m => decide (m ∈ s.lineNodes n)))
      let s := due.foldl (fun s e => s.takeBlock (findBlock (good.map (fun f => f.blocks.map (fun b => b.2))) e) e) s
      (good.flatMap (fun f => acksOf f.recs)).foldl State.takeAck s

def execSlowFrameReturn (n : Nat) (copies : List SlowFrame) (s : State) : Host.Outcome State Fault Refusal :=
  .next (slowFrameReturnCmd n copies s)

/-! ### The Foghorn (R317 to R319) -/

/-- A Foghorn raised or received (R318). Only a new (ORIGIN_UID, FOG_SEQ) acts: source 18 in C1 of the next cycle, FOG in the
scatter headers, the frame on every lane but the one it came from, and the outputs marked for it (R467). -/
def State.takeFoghorn (s : State) (from_ : Option Nat) (origin seq reason cause cycle : Nat) : State :=
  if (origin, seq) ∈ s.bb.fogSeen then s
  else
    let s := { s with bb := { s.bb with fogSeen := (origin, seq) :: s.bb.fogSeen, fogLatched := true, fogReason := reason,
                                        fogCause := cause, fogLast := seq, fogDue := true } }
    let s := (List.range 4).foldl (fun s n =>
      if s.laneOn n && decide (from_ ≠ some n) then
        s.setLane n { s.lane n with fogPending := (s.lane n).fogPending ++ [sentFog cycle origin seq cause reason] }
      else s) s
    s.fogOutputs

/-- This conductor raises a Foghorn with its next sequence; a node requests one, in every frame it forwards until it receives it. -/
def State.raiseFoghorn (s : State) (reason cause : Nat) : State :=
  if s.conductor = false then { s with node := { s.node with fogRequest := true } }
  else
  let seq := (s.bb.fogSeq + 1) % 2 ^ 32
  ({ s with bb := { s.bb with fogSeq := seq } }).takeFoghorn none s.uid seq reason cause s.cycle

/-- BB_FOGHORN. -/
def bbFoghornCmd (h : Hdr) (reason : Nat) (s : State) : State :=
  s.hostCmd h 0x0303 .imm 0 .none none none none (fun s =>
    (s.raiseFoghorn (reason % 2 ^ 16) 0xFFFF).acceptImm h 0x0303 s.cycle 0 none)

def execBbFoghorn (h : Hdr) (reason : Nat) (s : State) : Host.Outcome State Fault Refusal := .next (bbFoghornCmd h reason s)

/-- BB_FOG_CLEAR: FOG_CLR_SEQ takes the last FOG_SEQ; what was raised before is cleared (R318, R337). -/
def bbFogClearCmd (h : Hdr) (s : State) : State :=
  s.hostCmd h 0x0304 .imm 0 .none none none none (fun s =>
    (({ s with bb := { s.bb with fogLatched := false, fogClrSeq := s.bb.fogLast } }).fogRelease).acceptImm
      h 0x0304 s.cycle 0 none)

def execBbFogClear (h : Hdr) (s : State) : Host.Outcome State Fault Refusal := .next (bbFogClearCmd h s)

/-- FOG_NODE_REQUEST: a valid frame names a requesting node. The same request, seen again while its Foghorn is latched, raises
no second one. -/
def fogNodeRequestCmd (m : Nat) (s : State) : State :=
  if s.leads = false ∨ 0xFFFF ≤ m then s
  else if s.bb.fogLatched ∧ s.bb.fogReason = 1 ∧ s.bb.fogCause = m then s
  else s.raiseFoghorn 1 m

def execFogNodeRequest (m : Nat) (s : State) : Host.Outcome State Fault Refusal := .next (fogNodeRequestCmd m s)

/-- A node latches the FOG_SEQ of a Foghorn and stops its own request (R318, R319, R337). -/
def State.latchFog (s : State) (seq : Nat) : State :=
  { s with node := { s.node with
      fogLatched := if seq ∈ s.node.fogLatched then s.node.fogLatched else s.node.fogLatched ++ [seq], fogRequest := false } }

/-- FOGHORN_FRAME: a Foghorn arrives at port `n`; `cycle` is its CYCLE with what stands around its content. A conductor takes a valid one
like one of its own; a node latches it (R297, R317 to R319). -/
def foghornFrameCmd (n origin seq cause reason : Nat) (cycle : Nat × Ends) (s0 : State) : State :=
  let s := s0.countBad n cycle.2.tail
  if 4 ≤ n ∨ s0.live = false ∨ s0.linkUp n = false then s0
  else if fogOk ⟨cycle.1, origin, seq, cause, reason, cycle.2⟩ = false then s
  else if s.conductor then
    s.takeFoghorn (some n) origin (seq % 2 ^ 32) (reason % 2 ^ 16) (cause % 2 ^ 16) (cycle.1 % 2 ^ 32)
  else s.latchFog (seq % 2 ^ 32)

def execFoghornFrame (n origin seq cause reason : Nat) (cycle : Nat × Ends) (s : State) : Host.Outcome State Fault Refusal :=
  .next (foghornFrameCmd n origin seq cause reason cycle s)

/-- A Foghorn that leaves lane `n` now is back before the lane's next cycle frame leaves (R318): the terms of R62 for its 32 bytes. Only
on a lane that this conductor leads do its cycle frames leave. -/
def State.fogFits (s : State) (n : Nat) : Bool :=
  if s.ledLine n = false then true
  else
    let at_ : Rat := (t72Diff s.phi0Now s.now : Rat) / 2 ^ 16
    let hops := ((s.linePorts n).map (fun p => s.hopSum n p)).foldl max 0
    let back := at_ + 450 + (wireLen 32 : Rat) * 4 / 5 + 2 * hops + 2 * (s.fwdSum n : Rat)
    [(s.departNs n : Rat), (scatterNs s.rung : Rat), s.slowNs n, (tcycNs s.rung : Rat) + s.departNs n].all (fun t =>
      decide (t < at_) || decide (back ≤ t))

/-- FOGHORN_SEND: the oldest latched Foghorn leaves on lane `n`, outside the link slot and where its round trip fits (R318, R321). -/
def foghornSendCmd (n : Nat) (s : State) : State :=
  let l := s.lane n
  let at_ := t72Diff s.phi0Now s.now
  if 4 ≤ n ∨ s.live = false ∨ s.conductor = false ∨ s.linkUp n = false ∨ l.lineEnd = true ∨
      (500 * 2 ^ 16 ≤ at_ ∧ at_ < 1500 * 2 ^ 16) ∨ s.fogFits n = false then s
  else
    match l.fogPending with
    | f :: rest => s.setLane n { l with fogPending := rest, fogOut := some f, sent := l.sent + 1 }
    | [] => s

def execFoghornSend (n : Nat) (s : State) : Host.Outcome State Fault Refusal := .next (foghornSendCmd n s)

end Sys2Proof.Machine
end

