-- ==== Sys2Proof/Machine/NodeRole.lean ====
section
/-!
DEFINITION. The member side of a lane (R284, R298 to R319, R323, R332, R335, R336): a VLN in the Node role, and a conductor
on its uplink, forwards frames with its own fields, takes scatter frames, and receives and adopts generations.
-/

namespace Sys2Proof.Machine

open Sys2Proof

/-- This VLN is a node of a lane: in the Node role, or a conductor that is not the Lantern on its uplink (R332). -/
def State.memberSide (s : State) (port : Nat) : Bool :=
  s.live && (if s.conductor then decide (s.bb.uplink = some port) && !s.bb.lantern &&
      (decide (s.bb.cold = .announce) || decide (s.bb.cold = .conductor))
    else decide (port < 2))

/-- The state of this VLN as a node of the lane (R284). A conductor's shows in BBN_GSTAT (R295). -/
def State.nodeState (s : State) : NodeState :=
  if s.conductor = false ∨ s.node.state = .wait ∨ s.node.state = .refused ∨ s.node.state = .quarantined then s.node.state
  else if s.bb.cold = .conductor then .member else .announce

/-- The VLN's own capability record (R286): VENDOR by R542, FWD_DLY by R268, the group delays of its channels, four axes with every format
and multiple in the Node role, split closure offered (R102). Log entry 17. -/
def State.ownRecord (s : State) (n : Nat) : CapRecord :=
  { rectype := 1, profile := 1, nodeNo := n, vendor := 1, uid := s.uid, fwdDly := 120,
    sincDly := ((List.range 12).map s.sincNs).foldl max 0, axes := if s.conductor then 0 else 4, rungs := 31,
    flags := if s.conductor then 0 else if s.grade = 2 then 5 else 1, oscPpm := 50,
    rank := if s.conductor then s.coldRank else 255, role := if s.conductor then 1 else 0,
    firmware := (s.reg R.secFwVer).toNat, axisFmt := if s.conductor then [] else List.replicate 4 (15, 7),
    zeroOk := true, crcOk := true }

/-! ### Forwarding (R298 to R301, R305, R318) -/

/-- Flags that every entry of this node carries (R305). -/
def State.nodeFlags (s : State) : Nat :=
  flagAt (!s.bit R.timStat 0) 1 + flagAt s.node.fogShown 6

/-- EFLAGS of local axis `i`. -/
def State.ownEflags (s : State) (i : Nat) : Nat :=
  let x := s.node.axes.getD i {}
  1 + s.nodeFlags + flagAt (!(s.fbp i).valid) 2 + flagAt (!(s.sdmValid (2 * i) && s.sdmValid (2 * i + 1))) 3 +
    flagAt (!s.sdmValid (8 + i)) 4 + flagAt x.stale 5 + flagAt (s.pwmp i).tripped 8 + flagAt x.held 9

/-- ESTAT of local axis `i`. -/
def State.ownEstat (s : State) (i : Nat) : Nat :=
  let x := s.node.axes.getD i {}
  s.fld (R.fbFault i) 0 6 + flagAt (s.chopper i).open_ 6 + flagAt (s.chopper i).ovl 7 + x.react % 4 * 2 ^ 8 +
    flagAt (s.bit (R.pwmStat i) 8) 10

/-- A channel sample less its offset, H36 of modulator full scale (R223). -/
def State.ownSample (s : State) (c : Nat) : Int := satBits 36 ((s.sdmc c).x - s.sdmOffs c)

/-- A gather entry of this node as it writes it. -/
def State.ownEntry (s : State) (e : GEntry) : GEntry :=
  if s.node.genMismatch then { e with eflags := e.eflags ||| 2 ^ 7 }
  else if s.conductor ∨ 4 ≤ e.axis then { e with eflags := 1 + s.nodeFlags }
  else
    { e with eflags := s.ownEflags e.axis, estat := s.ownEstat e.axis, pos := (s.fbp e.axis).pos,
             iu := s.ownSample (2 * e.axis), iv := s.ownSample (2 * e.axis + 1), udc := s.ownSample (8 + e.axis) }

/-- A frame that arrives bad leaves bad, with the first finder's number and a count; an invalid sync header leaves as an error block
(R298). -/
def State.markBad (s : State) (bad : Bool) (t : Trailer) : Trailer :=
  if bad then
    { t with errNode := if t.errNode = 0xFFFF then s.ownNo.getD 0xFFFF else t.errNode, errCnt := min 255 (t.errCnt + 1),
             errBlock := t.errBlock || decide (0 < t.badSync), badSync := 0 }
  else t

/-- The CRC that a node sends: over the bytes it sends, and inverted where the frame came bad (R298). -/
def sentCrc (bad : Bool) (body : List Byte) : Nat := if bad then crc32c body ^^^ 0xFFFFFFFF else crc32c body

/-- A block that this node produces, as its store holds it (R309, R329): BLOCK, KIND and COUNT are the conductor's. -/
def State.ownBlock (s : State) (b : SigBlock) : SigBlock :=
  if s.node.inForce.blks.any (fun a => !a.consumed && decide (a.block = b.block)) then
    { b with valid := (s.blockStat b.block).valid, bseq := (s.blockStat b.block).bseq,
             payload := (List.range (if b.kind = 4 then 2 * b.count else b.count)).map (fun i => s.sigWord (64 * b.block + i)) }
  else b

/-- The gather containers of this node, with the reports of its two channels (R310): two per safety axis, A first, from G_SAFE on. -/
def State.ownConts (s : State) (n : Nat) (ks : List Container) : List Container :=
  let first := match s.node.inForce.sched with
    | some r => r.gSafe
    | none => 0
  let place (r : Container) : Nat := first + 2 * ((s.nodeSafAxes n).findIdx (fun sx => decide (sx = r.saxis))) + (if r.chan = 0x0B then 1 else 0)
  ks.zipIdx.map (fun k => (s.node.reports.find? (fun r => decide (place r = k.2))).getD k.1)

/-- What a member writes into its places of a gather frame; with GEN_MISMATCH nothing but that flag (R305, R309, R310, R316). -/
def State.insertMember (s : State) (n : Nat) (f : GatherFrame) : GatherFrame :=
  let f := { f with entries := f.entries.map (fun e => if e.node = n then s.ownEntry e else e) }
  if s.node.genMismatch then f else { f with blocks := f.blocks.map s.ownBlock, conts := s.ownConts n f.conts }

/-- The fields this node writes into a gather frame on its first pass: its entries, blocks and containers, and its record in an empty join
slot of the copy on port A (R286, R301, R305, R309, R310). -/
def State.insertGather (s : State) (port n : Nat) (f : GatherFrame) : GatherFrame :=
  if f.hdr.turn ≠ 0xFFFF then f
  else
    let f := if s.nodeState = .member then s.insertMember n f else f
    if s.nodeState = .announce ∧ f.join = .empty ∧ (port = 0 ∨ s.conductor = true) then { f with join := .native (s.ownRecord n) } else f

/-- States in which a node takes management records: it forwards only while quarantined or refused (R284). -/
def State.takesRecords (s : State) : Bool :=
  s.live && (decide (s.nodeState = .announce) || decide (s.nodeState = .wait) || decide (s.nodeState = .member))

/-- Every CONFIG part of a generation has come (R314); there is at least one (log entry 210). -/
def Generation.cfgWhole (g : Generation) : Bool :=
  decide (0 < g.cfgTotal) && (List.range g.cfgTotal).all (fun i => (SMap.get none g.cfgParts i).isSome)

/-- Every part of a generation has come, and no item is refused (R313 to R315). -/
def Generation.complete (g : Generation) : Bool :=
  decide (0 < g.total) && (List.range g.total).all (fun i => decide (i ∈ g.parts)) && g.cfgWhole && g.refusedItem.isNone

/-- The answer to a pending generation (R315). -/
def Generation.answer (g : Generation) (node : Nat) : AckRec :=
  match g.refusedItem with
  | some i => ⟨node, g.gen, 2, i⟩
  | none => ⟨node, g.gen, if g.complete then 0 else 1, 0⟩

/-- The first reply slot addressed to this node takes its answer while a generation is pending of which a part has come (R312, R315); with
nothing pending it stays as it is (R337). -/
def fillSlot (n : Nat) (a : AckRec) : List MgmtRec → List MgmtRec
  | [] => []
  | .reply d g :: rest => if d = n then .ack a :: rest else .reply d g :: fillSlot n a rest
  | r :: rest => r :: fillSlot n a rest

/-- The fields this node writes into a slow frame on its first pass: its answer and the blocks it produces (R309, R312, R315). -/
def State.insertSlow (s : State) (n : Nat) (f : SlowFrame) : SlowFrame :=
  if f.hdr.turn ≠ 0xFFFF then f
  else
    let f := match (if s.takesRecords then s.node.pending else none) with
      | some g => { f with recs := fillSlot n (g.answer n) f.recs }
      | none => f
    if s.nodeState = .member ∧ s.node.genMismatch = false then { f with blocks := f.blocks.map (fun b => (b.1, s.ownBlock b.2)) } else f

/-- The header as this node sends it on (R271, R301, R318): CORR grows by the residence and the link's delay, a turned frame carries the
node's number, and a wanted Foghorn is requested. -/
def State.passHeader (s : State) (port : Nat) (residence : Int) (h : CycleHeader) : CycleHeader :=
  let no := s.ownNo.getD 0xFFFF
  let turned := match s.node.loopAt with
    | some p => decide (p ≠ port)
    | none => false
  { h with corr := h.corr + residence + s.linkDelay port,
           turn := if turned then no else h.turn,
           fogNode := if s.node.fogRequest ∧ h.fogNode = 0xFFFF then no else h.fogNode }

/-- A frame as this node sends it on from `port` (R298, R299, R301): only its own fields change, and the CRC is computed afresh. What it
writes it writes before the frame is found valid (R297). -/
def State.forward (s : State) (port : Nat) (residence : Int) (f : FwdFrame) : FwdFrame :=
  let n := s.ownNo
  let hdr := s.passHeader port residence
  match f with
  | .gather f =>
    let bad := !tailOk (gatherBody f) f.tail
    let g := match n with | some n => s.insertGather port n f | none => f
    let g := { g with hdr := hdr g.hdr, tail := s.markBad bad g.tail }
    .gather { g with tail := { g.tail with crc := sentCrc bad (gatherBody g) } }
  | .scatter f =>
    let bad := !tailOk (scatterBody f) f.tail
    let g := { f with hdr := hdr f.hdr, tail := s.markBad bad f.tail }
    .scatter { g with tail := { g.tail with crc := sentCrc bad (scatterBody g) } }
  | .slow f =>
    let bad := !tailOk (slowBody f) f.tail
    let g := match n with | some n => s.insertSlow n f | none => f
    let g := { g with hdr := hdr g.hdr, tail := s.markBad bad g.tail }
    .slow { g with tail := { g.tail with crc := sentCrc bad (slowBody g) } }
  | .foghorn f =>
    let bad := !tailOk (fogBody f) f.ends.tail
    .foghorn { f with ends := { f.ends with tail := { s.markBad bad f.ends.tail with crc := sentCrc bad (fogBody f) } } }
  | .coldstart f =>
    let bad := !tailOk (coldBody f) f.ends.tail
    .coldstart { f with ends := { f.ends with tail := { s.markBad bad f.ends.tail with crc := sentCrc bad (coldBody f) } } }
  | .link f => .link f
  | .other bs => .other bs

/-- The trailer of a frame, and the SCHED_GEN of a valid one with a cycle header (R316). -/
def fwdTail (f : FwdFrame) : Option Trailer :=
  match f with
  | .gather f => some f.tail
  | .scatter f => some f.tail
  | .slow f => some f.tail
  | .foghorn f => some f.ends.tail
  | .coldstart f => some f.ends.tail
  | .link f => some f.ends.tail
  | .other _ => none
def fwdGen (f : FwdFrame) : Option Nat :=
  match f with
  | .gather f => if gatherOk f then some f.hdr.schedGen else none
  | .scatter f => if scatterOkF f then some f.hdr.schedGen else none
  | .slow f => if slowOkF f then some f.hdr.schedGen else none
  | _ => none

/-- SCHED_GEN of a valid frame against the generation in force (R316). -/
def State.takeGen (s : State) (gen : Nat) : State :=
  if gen = s.node.inForce.gen then { s with node := { s.node with genMismatch := false } }
  else
    match s.node.pending with
    | some g =>
      if g.gen = gen ∧ g.complete = true then { s with node := { s.node with adoptNext := true, genMismatch := false } }
      else { s with node := { s.node with genMismatch := true } }
    | none => { s with node := { s.node with genMismatch := true } }

/-- Blocks that this node consumes, as they arrive (R309, R330). -/
def State.takeScatterBlock (s : State) (b : SigBlock) : State :=
  let wanted := if s.conductor then (s.blockDesc b.block).isSome
    else s.node.inForce.blks.any (fun a => a.consumed && decide (a.block = b.block))
  if wanted = false then s
  else if b.valid then s.storeBlock b.block b.kind b.bseq (b.payload.take 64)
  else s.setBlockStat b.block { s.blockStat b.block with valid := false }

/-- The consumed C1 to C4 blocks of the first valid copy of a slow frame (R323, R329, R332). -/
def State.takeSlowBlocks (s : State) (f : SlowFrame) : State :=
  if s.node.slowSeen ∨ s.nodeState ≠ .member ∨ s.node.genMismatch = true then s
  else (f.blocks.map (fun b => b.2)).foldl State.takeScatterBlock { s with node := { s.node with slowSeen := true } }

/-- NODE_FRAME_FORWARD: a frame that arrived at `port` is sent on (R298). Link frames are never forwarded (R299). Once the frame is found
valid, its SCHED_GEN is judged (R316), and a slow frame gives its blocks. -/
def nodeFrameForwardCmd (port : Nat) (f : FwdFrame) (residence : Int) (s : State) : State :=
  let link := match f with
    | .link _ => true
    | _ => false
  if s.memberSide port = false ∨ s.linkUp port = false ∨ s.laneServed port = false ∨ link = true ∨ (s.lane port).lineEnd = true then s
  else
    let t : State := { s with node := { s.node with forwarded := some (s.forward port residence f) } }
    let t := match fwdTail f with
      | some x => t.countBad port x
      | none => t
    let t := match fwdGen f with
      | some g => t.takeGen g
      | none => t
    match f with
    | .slow f => if slowOkF f then t.takeSlowBlocks f else t
    | _ => t

def execNodeFrameForward (port : Nat) (f : FwdFrame) (residence : Int) (s : State) : Host.Outcome State Fault Refusal :=
  .next (nodeFrameForwardCmd port f residence s)

/-! ### Scatter frames (R307, R308, R316, R319, R336) -/

/-- The control area (R287 to R290, R307): acknowledgement, quarantine and release, commit, ring closure. -/
def State.takeControl (s : State) (c : ControlArea) : State :=
  let st := s.nodeState
  let st1 :=
    if st = .announce ∧ c.ackUid = s.uid then (if c.ackCode = 0 ∨ c.ackCode = 1 then .wait else .refused)
    else st
  let mine := decide (s.ownNo = some c.quarNode)
  let st2 : NodeState :=
    if (c.quarKind = 1 ∧ mine = true) ∨ (c.quarKind = 2 ∧ c.quarUid = s.uid) then .quarantined
    else if c.quarKind = 3 ∧ mine = true ∧ st1 = .quarantined then .announce
    else st1
  let readmit := (decide (st = .announce) || decide (st = .wait)) && decide (c.ackUid = s.uid) && decide (c.ackCode = 1)
  { s with node := { s.node with
      state := st2
      memberAt := if readmit then some (cycAdd s.cycle 2) else s.node.memberAt
      commitCycle := c.commitCycle, commitGen := c.commitGen
      ringCloseAt := if c.ringCloseCycle = 0xFFFFFFFF then s.node.ringCloseAt else some c.ringCloseCycle } }

/-- FOG of the header and FOG_CLR_SEQ (R319). A scatter names no sequence: a latch set by it takes the one after the last
cleared. -/
def State.takeFog (s : State) (fog : Bool) (clr : Nat) : State :=
  let open_ (q : Nat) : Bool := decide (sext 32 ((clr + 2 ^ 32 - q % 2 ^ 32) % 2 ^ 32) < 0)
  if s.conductor then
    if s.bb.fogLatched ∧ open_ s.bb.fogLast = false then ({ s with bb := { s.bb with fogLatched := false } }).fogRelease else s
  else if s.node.fogLatched.isEmpty then (if fog then s.latchFog ((clr + 1) % 2 ^ 32) else s)
  else
    let left := s.node.fogLatched.filter open_
    let s := { s with node := { s.node with fogLatched := left, fogShown := s.node.fogShown && !left.isEmpty } }
    if left.isEmpty then s.fogRelease else s

/-- A valid entry for an axis (R308, R335, R336): with EN = 0 all gates are off and what was held ends; one whose SPLIT
differs from the configured closure is a miss; a reaction is left only through EN = 0. -/
def NodeAxis.take (x : NodeAxis) (e : SEntry) : NodeAxis :=
  if e.en = false then { x with enabled := false, held := false, react := 0, fly := false, misses := 0, stale := false, got := true }
  else if e.split ≠ x.split then x
  else if x.held then { x with got := true }
  else
    let x := { x with enabled := true, react := if e.react = 0 then x.react else e.react, fly := e.fly, misses := 0,
                      stale := false, got := true }
    if e.split then { x with idNext := e.d.getD 0 0, iqNext := e.d.getD 1 0 } else x

/-- Set the scatter state of local axis `i`. -/
def State.setNodeAxis (s : State) (i : Nat) (x : NodeAxis) : State :=
  { s with node := { s.node with axes := s.node.axes.set i x } }

/-- The hold of a debug halt ends when the axis is enabled again while its engine runs (R259). -/
def State.nodeLeaveHalt (s : State) (i : Nat) : State :=
  if (s.pwmp i).halt = false ∨ s.engineRuns (s.nodeEngine i) = false then s
  else (s.setPwmp i { s.pwmp i with halt := false }).setBit (R.pwmStat i) 2 false

/-- The first entry with EN set after one without (R104, R259): the hold of a halt ends, no old triple drives the port, and at a split axis
the integrators are zero and the velocity estimate starts again. -/
def State.nodeEnable (s : State) (i : Nat) : State :=
  let s := s.nodeLeaveHalt i
  let s := s.setPwmp i { s.pwmp i with active := [], shadow := [], late := none }
  s.modAxis i (fun x => { x with loop := { x.loop with xd := 0, xq := 0, vestCount := 0, vestValid := false } })

/-- Local axis `i` takes its entry; a triple goes into the shadow registers of its port (R250, R254). A reaction keeps the dead time of the
low sides (R335). -/
def State.takeScatterEntry (s : State) (late : Bool) (e : SEntry) : State :=
  let x0 := s.node.axes.getD e.axis {}
  let x := x0.take e
  let s := if x.react ≠ 0 ∨ x.enabled = false then s.highsOff e.axis false else s
  let s := s.setNodeAxis e.axis x
  let s := if x0.enabled = false ∧ x.enabled = true then s.nodeEnable e.axis else s
  if e.en && x.got && !x.held && !e.split then s.axisTriple e.axis (e.d.map (fun d => d * 8)) (s.sampledCurrents e.axis) late else s

/-- NODE_SCATTER_RECEIVED: the first valid scatter copy of a cycle (R323). -/
def nodeScatterReceivedCmd (port : Nat) (f : ScatterFrame) (late : Bool) (s : State) : State :=
  if s.memberSide port = false ∨ s.linkUp port = false ∨ s.laneServed port = false ∨ s.node.scatterSeen = true ∨ scatterOkF f = false then s
  else
    let s := { s with node := { s.node with scatterSeen := true } }
    let s := ((s.takeControl f.ctl).takeFog f.hdr.fog f.ctl.fogClrSeq).takeGen f.hdr.schedGen
    if s.nodeState ≠ .member ∨ s.node.genMismatch = true then s
    else
      let mine := if s.conductor then []
        else f.entries.filter (fun e => decide (s.ownNo = some e.node) && decide (e.axis < 4))
      let s := mine.foldl (fun s e => s.takeScatterEntry late e) s
      let s := f.blocks.foldl State.takeScatterBlock s
      if s.conductor then s else s.handConts (f.conts.filter (fun c => decide (s.ownNo = some c.node)))

def execNodeScatterReceived (port : Nat) (f : ScatterFrame) (late : Bool) (s : State) : Host.Outcome State Fault Refusal :=
  .next (nodeScatterReceivedCmd port f late s)

/-- NODE_SCATTER_MISS: an enabled axis without a valid entry by the reload (R336): the last triple once more, then off; outside membership
as well (R284). -/
def nodeScatterMissCmd (i : Nat) (s : State) : State :=
  let x := s.node.axes.getD i {}
  if s.live = false ∨ s.conductor = true ∨ 4 ≤ i ∨ x.enabled = false ∨ x.got = true then s
  else s.setNodeAxis i { x with misses := x.misses + 1, stale := true, held := x.held || decide (1 ≤ x.misses), got := true }

def execNodeScatterMiss (i : Nat) (s : State) : Host.Outcome State Fault Refusal := .next (nodeScatterMissCmd i s)

/-! ### Generations (R311 to R316) -/

/-- A record is addressed to this node (R311, R312). -/
def State.addressed (s : State) (dest : Nat) : Bool := decide (dest = 0xFFFF) || decide (s.ownNo = some dest)

/-- The generation that a record of GEN `gen` belongs to: the pending one, or a new one that replaces an older; none where
the record is of the generation in force or an older one (R316). -/
def State.generationFor (s : State) (gen : Nat) : Option Generation :=
  if gen = s.node.inForce.gen then none
  else
    match s.node.pending with
    | some g => if g.gen = gen then some g else if 0 < cycDiff g.gen gen then some { gen := gen } else none
    | none => some { gen := gen }

/-- SCHEDULE_RECORD: a part of the schedule of a pending generation (R313). A part that came before changes nothing. -/
def scheduleRecordCmd (r : ScheduleRec) (s : State) : State :=
  if s.takesRecords = false ∨ s.addressed r.dest = false then s
  else
    match s.generationFor r.gen with
    | some g =>
      let g := if r.part ∈ g.parts then g
        else { g with parts := g.parts ++ [r.part], total := r.parts, sched := some r, blks := g.blks ++ r.blks }
      { s with node := { s.node with pending := some g } }
    | none => s

def execScheduleRecord (r : ScheduleRec) (s : State) : Host.Outcome State Fault Refusal := .next (scheduleRecordCmd r s)

/-- Register that a CONFIG item of KIND 1 names. -/
def configReg? (i : ConfigItem) : Option Nat :=
  if i.kind ≠ 1 then none
  else
    match i.block with
    | 0 => if i.axis < 4 ∧ i.addr < R.pwmCfg 1 - R.pwmCfg 0 then some (R.pwmCfg i.axis + i.addr) else none
    | 1 => if i.axis < 4 ∧ i.addr < R.fbCfg 1 - R.fbCfg 0 then some (R.fbCfg i.axis + i.addr) else none
    | 2 => if i.axis < 16 ∧ i.addr < R.sdmCfg 1 - R.sdmCfg 0 then some (R.sdmCfg i.axis + i.addr) else none
    | _ => none

/-- One setting takes effect. -/
def State.applyConfig (s : State) (i : ConfigItem) : State :=
  match (configReg? i) with
  | some off => s.setReg off (BitVec.ofNat 32 (i.value % 2 ^ 32).toNat)
  | none => s.modAxis i.axis (fun x => x.write i.addr i.value)

/-- A register value that the register tables place out of range (R315): a bit no field holds, or a field outside its table. Two fields
that bound each other are judged with the generation's own, `t`. -/
def State.regRefused (t : State) (off v : Nat) : Bool :=
  let r := if off % 0x100 = R.fbEmuN 0 % 0x100 ∨ off % 0x100 = R.fbEmuM 0 % 0x100 then t else State.reset
  let r := r.setReg off (BitVec.ofNat 32 v)
  match stagedMask off with
  | none => true
  | some m =>
    decide (v &&& m ≠ v) ||
      (if off < R.fbCfg 0 then decide (off % 0x40 = 0) && decide (v / 4 % 4 = 3)
       else if off < R.sdmCfg 0 then r.fbRangeBad ((off - R.fbCfg 0) / 0x100)
       else decide (off % 0x20 = 0) && (decide (v / 4 % 4 = 3) || decide (24 < v / 2 ^ 8 % 2 ^ 5)))

/-- The value of a PN at local axis `a` as the generation's items leave it (R103). -/
def State.genRaw (s : State) (items : List ConfigItem) (a pn : Nat) : Int :=
  match items.reverse.find? (fun i => decide (i.kind = 2) && decide (i.axis = a) && decide (i.addr = pn)) with
  | some i => i.value
  | none => (s.axis a).raw pn

/-- An item that the node's record does not offer, or whose value the register tables or R106 place out of range, the other items of its
generation being in force (R103, R315). A register takes bits 31:0 of VALUE (R314). -/
def State.refusesItem (s : State) (items : List ConfigItem) (i : ConfigItem) : Bool :=
  match configReg? i with
  | some off => (items.foldl State.applyConfig s).regRefused off (i.value % 2 ^ 32).toNat
  | none =>
    if i.kind = 2 ∧ i.axis < 4 ∧ splitPn i.addr = true then
      match pnDesc? i.addr with
      | some d => !pnInRange (s.genRaw items i.axis) d i.value
      | none => true
    else true

/-- The items of a generation in the order of their parts (R315). -/
def Generation.ordered (g : Generation) : List ConfigItem :=
  (List.range g.cfgTotal).flatMap (fun p => (SMap.get none g.cfgParts p).getD [])

/-- CONFIG_RECORD: a part of the settings of a pending generation. Once every part has come the items are judged, counted across parts
(R314, R315). -/
def configRecordCmd (r : ConfigRec) (s : State) : State :=
  if s.takesRecords = false ∨ s.addressed r.dest = false then s
  else
    match s.generationFor r.gen with
    | some g =>
      let g := if (SMap.get none g.cfgParts r.part).isSome then g
        else { g with cfgParts := g.cfgParts.set none r.part (some r.items), cfgTotal := r.parts }
      let items := g.ordered
      let g := { g with items := items, refusedItem := if g.cfgWhole then items.findIdx? (s.refusesItem items) else none }
      { s with node := { s.node with pending := some g } }
    | none => s

def execConfigRecord (r : ConfigRec) (s : State) : Host.Outcome State Fault Refusal := .next (configRecordCmd r s)

/-- ACK_RECORD: a reply slot. A node writes its answer into one addressed to it, or leaves it as it is where nothing is
pending (R337); a conductor takes the answer it holds. -/
def ackRecordCmd (n : Nat) (r : AckRec) (s : State) : State :=
  if s.conductor ∧ (s.bb.uplink = some n → s.bb.lantern = true) then (if s.leads ∧ n < 4 then s.takeAck r else s)
  else if s.takesRecords = false ∨ s.ownNo ≠ some r.node then s
  else { s with node := { s.node with ack := s.node.pending.map (fun g => g.answer r.node) } }

def execAckRecord (n : Nat) (r : AckRec) (s : State) : Host.Outcome State Fault Refusal := .next (ackRecordCmd n r s)

/-- An axis that was left enabled when its membership ended waits for EN = 0 and then EN = 1 (R284, R336). -/
def NodeAxis.rest (x : NodeAxis) : NodeAxis := { x with held := x.held || x.enabled }

/-- The node becomes a member: a VLN in the Node role is in Run and releases ALERT_N (R493, R533); a conductor takes a
number, which follows from the other conductors' precedence and is free here (R280, log entry 7). -/
def State.becomeMember (s : State) : State :=
  if s.conductor then
    let (w, s) := s.freeW
    { s with bb := { s.bb with cold := .conductor, number := 1 + w.toNat % 3 },
             node := { s.node with state := .link, memberAt := none } }
  else
    let s := s.setFld R.pwrState 0 2 0
    { s with node := { s.node with state := .member, memberAt := none, axes := s.node.axes.map NodeAxis.rest },
             pw := { s.pw with alertN := true } }

/-- The node trace of every local axis whose settings change is armed again (R4, R440). -/
def State.traceAdopted (s t : State) : State :=
  [0, 1, 2, 3].foldl (fun t i => if (s.axis i).pn = (t.axis i).pn then t else t.modAxis i Axis.traceRestart) t

/-- The pending generation is adopted at φ0 of cycle `c` (R316). -/
def State.adopt (s : State) (g : Generation) (c : Nat) : State :=
  let t := g.items.foldl State.applyConfig s
  let t := if s.conductor then s else s.traceAdopted (s.portsAfter t c)
  let axes := t.node.axes.zipIdx.map (fun p =>
    { p.1 with split := g.items.any (fun i => decide (i.kind = 2) && decide (i.axis = p.2)) })
  let t := { t with node := { t.node with inForce := g, pending := none, adoptNext := false, genMismatch := false, axes := axes } }
  if s.nodeState = .wait ∧ s.node.memberAt.isNone = true then t.becomeMember else t

/-- GENERATION_ADOPT: at φ0 of COMMIT_CYCLE, or at the φ0 after a frame that names the complete pending generation. -/
def generationAdoptCmd (s : State) : State :=
  if s.takesRecords = false then s
  else
    match s.node.pending with
    | some g =>
      let named := decide (s.node.commitCycle ≠ 0xFFFFFFFF) && s.dueAtPhi0 s.node.commitCycle && decide (g.gen = s.node.commitGen)
      if g.complete = true ∧ (named = true ∨ s.node.adoptNext = true) then s.adopt g (cycAdd s.cycle 1) else s
    | none => s

def execGenerationAdopt (s : State) : Host.Outcome State Fault Refusal := .next (generationAdoptCmd s)

end Sys2Proof.Machine
end

