-- ==== Sys2Proof/Machine/HostIf.lean ====
section
/-!
DEFINITION. The host interface of chapter 12 beside the intake of commands: NOP, FENCE and QUERY (R351, R355, R356), the
event ring (R358, R359, R546), snapshots (R361, R362), the heartbeat (R345), HIF_WAKE (R344), the gates of R545 and the
PERST_N pin (R364).
-/

namespace Sys2Proof.Machine

open Sys2Proof

/-- NOP (R356). -/
def nopCmd (h : Hdr) (s : State) : State :=
  s.hostCmd h 0x0001 .imm 0 .none none none none (fun s => s.acceptImm h 0x0001 s.cycle 0 none)

def execNop (h : Hdr) (s : State) : Host.Outcome State Fault Refusal := .next (nopCmd h s)

/-! ### FENCE (R355) -/

/-- Host address of descriptor slot `i` of CQn. -/
def State.descAt (s : State) (n i : Nat) : Nat := s.base (R.cqLo n) (R.cqHi n) + 64 * (i % s.cqSize n)

/-- A command other than FENCE is still published on ring `n` between index `i` and `pi`. -/
def State.fenceLeft (s : State) (n pi : Nat) : Nat → Nat → Bool
  | 0, _ => false
  | fuel + 1, i =>
    if cycDiff i pi ≤ 0 then false
    else
      let bs := (List.range 4).map (fun o => s.memByte (s.descAt n i + o))
      let slots := Machine.field bs 2 1
      if Machine.field bs 0 2 = 0x0002 ∧ 1 ≤ slots ∧ slots ≤ 4 then s.fenceLeft n pi fuel ((i + slots) % 2 ^ 32) else true

/-- Sequence numbers of commands of ring `n` whose FINAL has not been written. -/
def State.unfinished (s : State) (n : Nat) : List Nat :=
  (s.ring n).opens.map (fun o => o.seq) ++
    (s.host.outbox.filter (fun r => decide (r.ring = n) && decide (r.kind = .final))).map (fun r => r.seq)

/-- An unfinished command other than FENCE was published up to index `pi`; one accepted before a restart always was. -/
def State.fenceOpen (s : State) (n pi : Nat) : Bool :=
  let own := (s.host.outbox.filter (fun r => decide (r.ring = n) && decide (r.opcode = 0x0002))).map (fun r => r.seq)
  ((s.unfinished n).filter (fun q => !own.contains q)).any (fun q =>
    match (s.ring n).longIdx.find? (fun e => decide (e.2 = q)) with
    | some e => decide (cycDiff pi e.1 ≤ 0)
    | none => true)

/-- The indices a FENCE of ring `n` stands for: those it recorded when it was first taken, else those of now. -/
def State.fenceRec (s : State) (n mask : Nat) : List (Nat × Nat) :=
  match (s.ring n).fence with
  | some l => l
  | none => ((List.range 16).filter (fun r => decide (r ≠ n) && decide (mask / 2 ^ r % 2 = 1))).map
      (fun r => (r, (s.ring r).cqPi))

/-- The condition of a FENCE. -/
def State.fenceMet (s : State) (n mask mode : Nat) : Bool :=
  (s.fenceRec n mask).all (fun e =>
    !s.fenceLeft e.1 e.2 4096 (s.ring e.1).cqCi && (decide (mode = 0) || !s.fenceOpen e.1 e.2))

def State.setFence (s : State) (n : Nat) (f : Option (List (Nat × Nat))) : State :=
  s.setRing n { s.ring n with fence := f }

def fenceFmt (mode : Nat) : Option Nat := if 1 < mode then some St.argument else none

/-- FENCE: while its condition is not met the ring stops at it (R353); then it completes. -/
def fenceCmd (h : Hdr) (mask mode : Nat) (s : State) : State :=
  if s.takesCommands ∧ s.preRefusal h 0x0002 .imm .none (fenceFmt mode) none = none ∧ s.fenceMet h.ring mask mode = false then
    s.setFence h.ring (some (s.fenceRec h.ring mask))
  else
    let s := if s.takesCommands then s.setFence h.ring none else s
    s.hostCmd h 0x0002 .imm 0 .none (fenceFmt mode) none none (fun s => s.acceptImm h 0x0002 s.cycle 0 none)

def execFence (h : Hdr) (mask mode : Nat) (s : State) : Host.Outcome State Fault Refusal := .next (fenceCmd h mask mode s)

/-! ### QUERY (R351) -/

/-- Ring and sequence of a handle. -/
def handleRing (hd : Nat) : Nat := hd / 2 ^ 60 % 16
def handleSeq (hd : Nat) : Nat := hd / 2 ^ 16 % 2 ^ 44

/-- The check field is right and the sequence has been assigned (R348). -/
def State.handleKnown (s : State) (hd : Nat) : Bool :=
  decide (hd < 2 ^ 64) && decide (handleSeq hd ≠ 0) && decide (handleSeq hd ≤ (s.ring (handleRing hd)).seq) &&
    decide (s.handle (handleRing hd) (handleSeq hd) = hd)

/-- Accepted, and the FINAL not yet written. -/
def State.handlePending (s : State) (hd : Nat) : Bool := (s.unfinished (handleRing hd)).contains (handleSeq hd)

/-- The extended result of a handle, while the pool holds it. -/
def State.extOf (s : State) (ring seq : Nat) : Option (List Byte) :=
  (s.host.extPool.find? (fun e => decide (e.1 = ring) && decide (e.2.1 = seq))).map (fun e => e.2.2)

/-- The FINAL record that the result cache rebuilds. -/
def FinalRec.bytes (f : FinalRec) (hd : Nat) : List Byte :=
  leBytes 8 hd ++ leBytes 8 f.tag ++ leBytes 2 f.status ++ leBytes 1 2 ++
    leBytes 1 ((if f.phase then 1 else 0) + (if f.ext then 2 else 0)) ++ leBytes 2 f.opcode ++ leBytes 2 0 ++
    leBytes 4 f.cycle ++ leBytes 4 f.detail

/-- The answer for a final handle, rebuilt from the journal where the cache has lost it. -/
def State.queryFinal (s : State) (h : Hdr) (hd buf : Nat) : State :=
  let ring := handleRing hd
  let seq := handleSeq hd
  let s := if (SMap.get none s.host.results (resKey ring seq)).isSome then s else s.rebuildResult ring seq
  match SMap.get none s.host.results (resKey ring seq) with
  | none => s.answer h 0x0003 St.resultLost hd s.cycle 0 none
  | some f =>
    if f.lost then s.answer h 0x0003 St.resultLost hd s.cycle 0 none
    else
      let ext := if f.ext then s.extOf ring seq else none
      let s := if buf = 0 then s else s.memWr buf (f.bytes hd ++ fitBytes 64 (ext.getD []))
      s.answer h 0x0003 f.status hd f.cycle f.detail ext

/-- QUERY. -/
def queryCmd (h : Hdr) (hd buf : Nat) (s : State) : State :=
  s.hostCmd h 0x0003 .read 0 .none (if alignedAddr buf then none else some St.hostAddress) none none (fun s =>
    if s.handleKnown hd = false then s.answer h 0x0003 St.handleUnknown hd s.cycle 0 none
    else if s.handlePending hd then s.answer h 0x0003 St.pending hd s.cycle 0 none
    else if handleSeq hd + 4096 ≤ (s.ring (handleRing hd)).seq then s.answer h 0x0003 St.resultExpired hd s.cycle 0 none
    else s.queryFinal h hd buf)

def execQuery (h : Hdr) (hd buf : Nat) (s : State) : Host.Outcome State Fault Refusal := .next (queryCmd h hd buf s)

/-! ### Heartbeat (R345) -/

/-- HOST_HEARTBEAT_LOST: HOST_HB has not changed for TMO ms; the check restarts when it changes. -/
def hostHeartbeatLostCmd (s : State) : State :=
  if s.takesCommands = false ∨ s.fld R.hbCfg 0 16 = 0 ∨ s.base R.dbLo R.dbHi = 0 ∨ s.host.hbLost then s
  else
    let s := { s with host := { s.host with hbLost := true } }.evC 62 0xFFFF 4
    if s.bit R.hbCfg 16 then s.raiseFoghorn 2 0xFFFF else s

def execHostHeartbeatLost (s : State) : Host.Outcome State Fault Refusal := .next (hostHeartbeatLostCmd s)

/-! ### Event ring (R358, R359, R546) -/

def State.erSize (s : State) : Nat := 2 ^ s.fld R.erCfg 4 4

/-- An event record's bytes (R358). -/
def Event.bytes (e : Event) (phase : Bool) (lost : Nat) : List Byte :=
  bytesT72 e.t72 ++ leBytes 4 e.cycle ++ leBytes 1 e.source ++
    leBytes 1 ((if phase then 1 else 0) + (if lost = 0 then 0 else 2)) ++ leBytes 2 (min lost 65535) ++
    leBytes 2 e.subject ++ leBytes 2 e.code ++ leBytes 4 e.value

/-- The event ring has a free slot and its writes can leave. -/
def State.erRoom (s : State) : Bool :=
  s.bit R.erCfg 0 && s.hostUp && decide (cycDiff s.host.erCi s.host.erPi < s.erSize)

/-- One event record is written. -/
def State.putEvent (s : State) (e : Event) : State :=
  let slot := s.host.erPi % s.erSize
  let s1 := s.memWr (s.base R.erLo R.erHi + 32 * slot) (e.bytes s.host.erPhase s.host.evLost)
  { s1 with host := { s1.host with
      erPi := (s.host.erPi + 1) % 2 ^ 32, evLost := 0,
      erPhase := if slot + 1 = s.erSize then !s.host.erPhase else s.host.erPhase } }

/-- Held event records leave in order while there is room. -/
def State.drainEvents (s : State) : List Event → State
  | [] => { s with host := { s.host with held := [] } }
  | e :: rest =>
    if s.erRoom then (s.putEvent e).drainEvents rest else { s with host := { s.host with held := e :: rest } }

/-- A record for an event: written, held, or dropped and counted. -/
def State.recordEvent (s : State) (e : Event) : State :=
  let s := s.drainEvents s.host.held
  if s.host.held = [] ∧ s.erRoom then s.putEvent e
  else if s.host.held.length < 64 then { s with host := { s.host with held := s.host.held ++ [e] } }
  else { s with host := { s.host with evLost := s.host.evLost + 1 } }

/-- EVENT_RECORD_WRITE: the oldest raised event sets its pending bit, signals the ring's vector where its bit in HIF_EV_IRQ is
set, and writes a record where it is enabled: the first of its source and subject in its cycle. -/
def eventRecordWriteCmd (s : State) : State :=
  match s.host.raised with
  | [] => s
  | e :: rest =>
    if s.live = false ∨ s.conductor = false then s
    else
      let s := { s with host := { s.host with raised := rest } }
      let s := s.setBit (R.evPend e.source) (e.source % 32) true
      let s := if s.bit (R.evIrq e.source) (e.source % 32) then s.signalVec (s.fld R.erCfg 8 4) else s
      let key := (e.cycle, e.source, e.subject)
      if s.bit (R.evEn e.source) (e.source % 32) = false ∨ s.bit R.erCfg 0 = false ∨ key ∈ s.host.evDone then s
      else
        { s with host := { s.host with
            evDone := key :: s.host.evDone.filter (fun k => decide (k.1 = e.cycle)) } }.recordEvent e

def execEventRecordWrite (s : State) : Host.Outcome State Fault Refusal := .next (eventRecordWriteCmd s)

/-! ### Snapshots (R361, R362) -/

/-- The 64 bytes of one axis. -/
def State.snapAxis (s : State) (a : Nat) : List Byte :=
  let x := s.axis a
  if s.usable a = false ∨ x.inUse = false then List.replicate 64 0
  else
    let g := s.groupMoves a
    bytes72 x.loop.p ++ bytes72 x.loop.vEst ++ bytes72 x.pSet ++ bytesH36 x.loop.iqSet ++
      leBytes 1 (profStateCode g.1 g.2 x) ++ leBytes 1 x.reactionCode ++
      leBytes 2 (x.loopStatus.toNat % 256 + (if x.enabled then 256 else 0) + (if x.homed then 512 else 0)) ++
      leBytes 4 x.faultActive.toNat

/-- SNAPSHOT_WRITE: the snapshot of the present cycle, where RATE selects it. -/
def snapshotWriteCmd (s : State) : State :=
  if s.live = false ∨ s.conductor = false ∨ s.bit R.snapCfg 0 = false ∨ s.hostUp = false ∨
      s.cycle % 2 ^ s.fld R.snapCfg 16 3 ≠ 0 then s
  else
    let g := s.host.snapGen + 1
    let n := s.fld R.snapCfg 8 8
    let head := leBytes 8 g ++ leBytes 4 s.cycle ++ leBytes 4 0 ++ bytesT72 s.phi0Now ++ List.replicate 32 0
    let body := (List.range n).flatMap s.snapAxis
    let tail := leBytes 8 g ++ List.replicate 56 0
    let s := { s with host := { s.host with snapGen := g } }
    s.memWr (s.base R.snapLo R.snapHi + g % 2 * (128 + 64 * n)) (head ++ body ++ tail.take 8)

def execSnapshotWrite (s : State) : Host.Outcome State Fault Refusal := .next (snapshotWriteCmd s)

/-! ### HIF_WAKE (R343, R344, R364) -/

/-- HIF_WAKE: a write of REQ wakes from Standby; in Idle any write brings the next poll forward. -/
def hifWakeCmd (v : Reg32) (s : State) : State :=
  if s.conductor = false ∨ s.mode = .notUp then s
  else
    let s := if s.isIdle then { s with host := { s.host with pollSoon := true } } else s
    if bits v 0 1 = 1 then s.wakeUp .hifWake else s

def execHifWake (v : Reg32) (s : State) : Host.Outcome State Fault Refusal := .next (hifWakeCmd v s)

/-! ### Set-up of the host structures (R341, R545) -/

/-- Host writes to BAR0 outside SYS reach their register (R514, R540, R364). -/
def State.hostWrites (s : State) : Bool := s.writable && s.conductor && s.hostUp

/-- A plain RW write: the bits of `mask` take the value written. -/
def merge (old v : Reg32) (mask : Nat) : Reg32 :=
  BitVec.ofNat 32 ((old.toNat &&& (0xFFFFFFFF - mask)) ||| (v.toNat &&& mask))

/-- A gated write, or a check that fails (R545). -/
def State.gated (s : State) (subj : Nat) : State := s.evC 62 subj 3

/-- The set-up record of a command ring, written when the window permits (R379, R390). -/
def State.journalSetup (s : State) (n : Nat) (en : Bool) : State :=
  let s := { s with jnl := { s.jnl with setupWaiting := s.jnl.setupWaiting ++ [(n, en)] } }
  if s.mramOpen then s.flushSetups else s

/-- What an enable of CQn requires. -/
def State.cqCheck (s : State) (n : Nat) (v : Reg32) : Bool :=
  let cq := bits v 4 4
  let cr := s.fld (R.crCfg n) 0 4
  decide (s.base R.dbLo R.dbHi ≠ 0) && decide (s.base (R.cqLo n) (R.cqHi n) ≠ 0) &&
    decide (s.base (R.crLo n) (R.crHi n) ≠ 0) && decide (6 ≤ cq ∧ cq ≤ 12) && decide (cq ≤ cr ∧ cr ≤ 13)

/-- A write of HIF_CQn_CFG: gated while EN is 1; an enable is checked, starts the ring with its indices at 0, and is journalled; a
disable stops intake and is journalled. -/
def State.writeCqCfg (s : State) (n : Nat) (v : Reg32) : State :=
  let old := s.reg (R.cqCfg n)
  let new := merge old v 0xFFF3
  let was := bits old 0 1
  let now := bits new 0 1
  if was = 1 ∧ (putBits new 0 1 1 ≠ old) then s.gated n
  else if was = now then s.setReg (R.cqCfg n) new
  else if now = 1 then
    if s.cqCheck n new = false then
      ((s.setReg (R.cqCfg n) (putBits new 0 1 0)).setBit (R.cqStat n) 8 true).gated n
    else
      let s := (s.setReg (R.cqCfg n) new).setFld (R.cqStat n) 1 2 0
      (s.setRing n { s.ring n with cqPi := 0, cqCi := 0, crPi := 0, crCi := 0, phase := true, fence := none,
                                   longIdx := [], unrec := [] }).journalSetup n true
  else
    ((s.setReg (R.cqCfg n) new).setFence n none).journalSetup n false

/-- HIF_CQ_CFG_WRITE. -/
def hifCqCfgWriteCmd (n : Nat) (v : Reg32) (s : State) : State :=
  if s.hostWrites = false ∨ 16 ≤ n then s else s.writeCqCfg n v

def execHifCqCfgWrite (n : Nat) (v : Reg32) (s : State) : Host.Outcome State Fault Refusal := .next (hifCqCfgWriteCmd n v s)

/-- The events raised so far meet the ring as it is: each is handled as by EVENT_RECORD_WRITE. -/
def State.flushRaised (s : State) : State := s.host.raised.foldl (fun s _ => eventRecordWriteCmd s) s

/-- A write of HIF_ER_CFG: what was raised before it meets the ring as it was; disabling discards and counts the held records (R359);
an enable starts the ring anew (R341). -/
def State.writeErCfg (s : State) (v : Reg32) : State :=
  let s := s.flushRaised
  let old := s.reg R.erCfg
  let new := merge old v 0xFF1
  let was := bits old 0 1
  let now := bits new 0 1
  if was = 1 ∧ (putBits new 0 1 1 ≠ old) then s.gated 0xFFFF
  else if was = now then s.setReg R.erCfg new
  else if now = 1 then
    let size := bits new 4 4
    if s.base R.dbLo R.dbHi = 0 ∨ s.base R.erLo R.erHi = 0 ∨ size < 6 ∨ 12 < size then
      (s.setReg R.erCfg (putBits new 0 1 0)).gated 0xFFFF
    else
      let s := s.setReg R.erCfg new
      { s with host := { s.host with erPi := 0, erCi := 0, erPhase := true } }
  else
    let s := s.setReg R.erCfg new
    { s with host := { s.host with evLost := s.host.evLost + s.host.held.length, held := [] } }

/-- HIF_ER_CFG_WRITE. -/
def hifErCfgWriteCmd (v : Reg32) (s : State) : State := if s.hostWrites = false then s else s.writeErCfg v

def execHifErCfgWrite (v : Reg32) (s : State) : Host.Outcome State Fault Refusal := .next (hifErCfgWriteCmd v s)

/-- A write of HIF_SNAP_CFG: AXES is gated while EN is 1; an enable is checked and starts the generations at 1 (R362). -/
def State.writeSnapCfg (s : State) (v : Reg32) : State :=
  let old := s.reg R.snapCfg
  let new := merge old v 0x7FF01
  let was := bits old 0 1
  let now := bits new 0 1
  if was = 1 ∧ bits new 8 8 ≠ bits old 8 8 then s.gated 0xFFFF
  else if was = 0 ∧ now = 1 then
    if s.base R.snapLo R.snapHi = 0 ∨ bits new 8 8 < 1 ∨ 128 < bits new 8 8 then
      (s.setReg R.snapCfg (putBits new 0 1 0)).gated 0xFFFF
    else
      let s := s.setReg R.snapCfg new
      { s with host := { s.host with snapGen := 0 } }
  else s.setReg R.snapCfg new

/-- HIF_SNAP_CFG_WRITE. -/
def hifSnapCfgWriteCmd (v : Reg32) (s : State) : State := if s.hostWrites = false then s else s.writeSnapCfg v

def execHifSnapCfgWrite (v : Reg32) (s : State) : Host.Outcome State Fault Refusal := .next (hifSnapCfgWriteCmd v s)

/-! ### PERST_N (R364) -/

/-- PERST_N_ASSERT: the PCIe link goes down; axes and backbone run on, and what is owed to the host waits. -/
def perstNAssertCmd (s : State) : State := { s with host := { s.host with perst := true } }

def execPerstNAssert (s : State) : Host.Outcome State Fault Refusal := .next (perstNAssertCmd s)

/-- PERST_N_RELEASE: the link comes back; what is owed leaves from the next poll on. -/
def perstNReleaseCmd (s : State) : State := { s with host := { s.host with perst := false } }

def execPerstNRelease (s : State) : Host.Outcome State Fault Refusal := .next (perstNReleaseCmd s)

end Sys2Proof.Machine
end

