-- ==== Sys2Proof/Machine/SafetyChan.lean ====
section
/-!
DEFINITION. Machine safety (chapter 14): the safety image and its confirmation (R397 to R403), acknowledgement (R407), the two
channels' checks of each other (R393, R394, R396), guard pairs (R404 to R406), the safety functions (R408 to R412), remote
safety axes (R413 to R416), and SAF_STATUS (R425, R426).
-/

namespace Sys2Proof.Machine

open Sys2Proof

def otherChan : Chan → Chan
  | .a => .b
  | .b => .a

/-- Records of the selected set that name a servo axis. -/
def SafSet.recs (st : SafSet) : List (Nat × SafAxisRec) :=
  (List.range 32).filterMap (fun sx => (st.rec? sx).map (fun r => (sx, r)))

/-! ### The image (R397 to R399) -/

def zeroRange (bs : List Byte) (o n : Nat) : Bool := ((bs.drop o).take n).all (fun b => decide (b = 0))

/-- A safety axis record of the image. -/
def parseSafAxis (bs : List Byte) : SafAxisRec :=
  let f (o n : Nat) : Nat := Machine.field bs o n
  { axis := f 0 2, remote := decide (f 2 1 = 1), react := f 3 1, gmask := BitVec.ofNat 8 (f 4 1), gmode := f 5 1,
    func := BitVec.ofNat 4 (f 6 1), bSrc := f 7 1, scaleB := f 8 4, slsV := f 12 4, slsT := f 16 2, ss1T := f 18 2,
    ss1Dec := f 20 4, slpMin := sext 64 (f 24 8), slpMax := sext 64 (f 32 8), sdiDir := f 40 1, wd := f 41 1,
    node := f 42 2, sdiTol := f 44 4, disc := f 48 4, connBase := f 52 4, stillS := f 56 4, spdWin := f 60 1,
    zeroOk := zeroRange bs 61 3 && decide (f 6 1 < 16) && decide (f 2 1 ≤ 1) }

/-- A guard pair record of the image. -/
def parsePair (bs : List Byte) : PairRec :=
  let f (o n : Nat) : Nat := Machine.field bs o n
  { ch1 := f 0 1, ch2 := f 1 1, type := f 2 1, startTest := decide (f 3 1 = 1), discT := f 4 2, tp := decide (f 6 1 = 1),
    tpOut := f 7 1, zeroOk := zeroRange bs 8 24 && decide (f 3 1 ≤ 1) && decide (f 6 1 ≤ 1) }

/-- A set of the image; none where every byte is zero. -/
def parseSet (bs : List Byte) : Option SafSet :=
  if zeroRange bs 0 4096 then none
  else
    let f (o n : Nat) : Nat := Machine.field bs o n
    let sum := crc32c (bs.take 4092)
    some {
      setNo := f 0 1, ver := f 1 1, rung := f 2 1, sp := f 3 1, ackSrc := f 4 1, rstIn := f 5 1,
      axes := (List.range 32).map (fun i => parseSafAxis ((bs.drop (64 + 64 * i)).take 64)),
      pairs := (List.range 8).map (fun j => parsePair ((bs.drop (2112 + 32 * j)).take 32)),
      check := BitVec.ofNat 32 (f 4092 4),
      checkOk := decide (sum = f 4092 4) && zeroRange bs 6 58 && zeroRange bs 2368 1724 }

/-- Sets 0 to 15 of a 65,536-byte image. -/
def parseSets (bs : List Byte) : SMap (Option SafSet) :=
  (List.range 16).filterMap (fun k => (parseSet ((bs.drop (4096 * k)).take 4096)).map (fun st => (k, some st)))

/-! ### SAF_LOAD, SAF_CONFIRM (R402, R403) -/

/-- SAF_LOAD: every confirmation is cleared, every safety axis goes to STO, and the image is being written. -/
def safLoadCmd (h : Hdr) (addr len : Nat) (s : State) : State :=
  let bs := s.memRd addr 65536
  s.hostCmd h 0x0501 .long 0 .none
    (if len ≠ 65536 then some St.argument
     else if alignedAddr addr = false ∨ bs.isNone then some St.hostAddress else none)
    none
    (firstRefusal [(decide (s.saf.chA.sw ≠ 0) || decide (s.saf.chB.sw ≠ 0), St.sealedInUse, 0), (s.mramHold, St.writeHold, 0)])
    (fun s =>
      let own := s.openFor h 0x0501
      let s1 := s.acceptLong h 0x0501 0 []
      let s2 := s.forceChanged { s1 with saf := { s1.saf with confirmed := [] } }
      let s3 := (s2.stoAll .a).stoAll .b
      let s4 := { s3 with saf := { s3.saf with sets := parseSets (bs.getD []), loadOwn := s3.saf.loadOwn ++ [own] } }
      s4.nameAxes)

def execSafLoad (h : Hdr) (addr len : Nat) (s : State) : Host.Outcome State Fault Refusal := .next (safLoadCmd h addr len s)

/-- The lowest non-empty set that fails R400. -/
def State.badSet (s : State) : Option Nat :=
  (List.range 16).find? (fun k => match SMap.get none s.saf.sets k with | some st => !st.valid k | none => false)

/-- SET_INVALID follows the selected set at a start and after a load (R426); an empty set is no set. -/
def State.judgeSet (s : State) : State :=
  match s.selectedSet with
  | some st => if st.valid s.saf.chA.sw then s else s.globalSto Glob.setInvalid
  | none => s

/-- SAFETY_IMAGE_WRITTEN: both copies are written and both channels have checked them; SAF_LOAD's FINAL. -/
def safetyImageWrittenCmd (s : State) : State :=
  match s.saf.loadOwn with
  | [] => s
  | own :: rest =>
    if s.live = false ∨ s.mramOpen = false then s
    else
      let s := ({ s with saf := { s.saf with loadOwn := rest } }).judgeSet
      match s.badSet with
      | some k => s.final own St.argument s.cycle k none []
      | none => s.final own St.ok s.cycle 0 none []

def execSafetyImageWritten (s : State) : Host.Outcome State Fault Refusal := .next (safetyImageWrittenCmd s)

/-- Channel `c` runs and finds `check` equal to its own computation over the set that its switches select (R403). -/
def State.checkAgrees (s : State) (c : Chan) (check : Nat) : Bool :=
  (s.chan c).running && (match SMap.get none s.saf.sets (s.chan c).sw with
    | some st => decide (st.check.toNat = check)
    | none => false)

/-- SAF_CONFIRM: the selected set is confirmed by its check value, on which both channels must agree. -/
def safConfirmCmd (h : Hdr) (check : Nat) (s : State) : State :=
  s.hostCmd h 0x0502 .long 0 .none none none none (fun s =>
    let own := s.openFor h 0x0502
    let s1 := s.acceptLong h 0x0502 0 []
    match s1.selectedSet with
    | none => s1.final own St.safetyDenied s1.cycle 0 none []
    | some st =>
      if st.valid s1.saf.chA.sw = false then s1.final own St.safetyDenied s1.cycle 0 none []
      else if (s1.checkAgrees .a check && s1.checkAgrees .b check) = false then s1.final own St.checkMismatch s1.cycle 0 none []
      else
        let s2 := { s1 with saf := { s1.saf with confirmed := s1.saf.confirmed.set none s1.saf.chA.sw (some st.check) } }
        (s1.forceChanged s2).final own St.ok s1.cycle 0 none [])

def execSafConfirm (h : Hdr) (check : Nat) (s : State) : Host.Outcome State Fault Refusal := .next (safConfirmCmd h check s)

/-! ### Views of a channel (R408, R411, R412) -/

/-- Whole lines of a P72 position. -/
def wholeLines (p : Int) : Int := p / 2 ^ 32

/-- Time between two positions of the speed window in s (R408). -/
def State.safStep (s : State) (st : SafSet) (r : SafAxisRec) : Rat := tcycS s.rung * (if r.remote then (st.sp : Rat) else 1)

/-- A new position enters the window; the speed in line/s. The window is full after SPD_WIN steps; before that the speed is
not formed. -/
def SafAxisView.move (v : SafAxisView) (p : Int) (win : Nat) (te : Rat) : SafAxisView :=
  let past := (p :: v.past).take (win + 1)
  { v with p := p, valid := true, past := past,
           v := if past.length = win + 1 then pVal (p - past.getD win 0) / (win * te) else 0 }

/-- Position of a local axis's feedback port in channel A (R392). -/
def State.safPosA (s : State) (r : SafAxisRec) : Bool × Int :=
  match (s.axis r.axis).int Pn.fbSrc with
  | .ofNat k => if k ≤ 3 then ((s.fbp k).valid, (s.fbp k).pos) else (false, 0)
  | .negSucc _ => (false, 0)

/-- SLS is violated now (R411, R412): its time to reach the speed has passed. -/
def State.slsBad (s : State) (v : SafAxisView) (r : SafAxisRec) : Bool :=
  bvGet r.func 0 && v.limitedOn && decide ((r.slsV : Rat) < absR v.v) &&
    decide ((r.slsT : Rat) * 1000000 < t72Ns (t72Diff v.limitedSince s.now))

def slpBad (v : SafAxisView) (r : SafAxisRec) : Bool :=
  bvGet r.func 1 && v.limitedOn && (decide (v.p < r.slpMin * 2 ^ 32) || decide (r.slpMax * 2 ^ 32 < v.p))

def sdiBad (v : SafAxisView) (r : SafAxisRec) : Bool :=
  bvGet r.func 2 && v.limitedOn &&
    decide ((r.sdiTol : Int) * 2 ^ 32 < (if r.sdiDir = 1 then v.sdiBest - v.p else v.p - v.sdiBest))

/-- The positions of both channels disagree by more than DISC, compared as cross-talk carries them (R394, R412). -/
def discBad (own other : Int) (r : SafAxisRec) : Bool :=
  decide ((r.disc : Int) < |sext 32 (tc 32 (wholeLines own - other))|)

/-- The furthest point in the permitted direction. -/
def SafAxisView.sdiMove (v : SafAxisView) (r : SafAxisRec) : SafAxisView :=
  { v with sdiBest := if r.sdiDir = 1 then max v.sdiBest v.p else min v.sdiBest v.p }

/-- Limited mode begins or ends in a channel's view, with EV60 codes 9 and 10 once for both channels. -/
def State.judgeLimited (s : State) (c : Chan) (sx : Nat) (r : SafAxisRec) : State :=
  let v := (s.chan c).view sx
  let other := (s.chan (otherChan c)).view sx
  let on := s.limitedNow c r
  if on = v.limitedOn then s
  else
    let v := { v with
      limitedOn := on, limitedSince := if on then s.now else v.limitedSince, sdiBest := if on then v.p else v.sdiBest,
      state := if on ∧ v.state = .run then .limited else if !on ∧ v.state = .limited then .run else v.state }
    let s := s.setChan c ((s.chan c).setView sx v)
    if other.limitedOn = on then s else s.ev 60 sx (if on then 9 else 10) 0

/-- One function's violation in channel `c` (R412). -/
def State.judgeOne (s : State) (st : SafSet) (c : Chan) (sx : Nat) (r : SafAxisRec) (bad : Bool) (i : Nat) : State :=
  if bad then (s.violate sx i).safReact st c sx r else s

/-- SLS, SLP and SDI of an axis that runs, in one channel's view. -/
def State.judgeMotion (s : State) (st : SafSet) (c : Chan) (sx : Nat) (r : SafAxisRec) : State :=
  let v := ((s.chan c).view sx).sdiMove r
  let s := s.setChan c ((s.chan c).setView sx v)
  if (v.state ≠ .run ∧ v.state ≠ .limited) ∨ v.valid = false then s
  else
    let s := s.judgeOne st c sx r (s.slsBad v r) 0
    let s := s.judgeOne st c sx r (slpBad v r) 1
    s.judgeOne st c sx r (sdiBad v r) 2

/-- The envelope of SS1 and its standstill (R410). -/
def State.judgeSs1 (s : State) (st : SafSet) (c : Chan) (sx : Nat) (r : SafAxisRec) : State :=
  let v := (s.chan c).view sx
  if v.state ≠ .ss1 then s
  else
    let ms : Rat := t72Ns (t72Diff v.ss1Since s.now) / 1000000
    let bound : Rat := 105 / 100 * absR v.ss1V0 - r.ss1Dec * (max 0 (ms - 20)) / 1000
    if bound < absR v.v then (s.violate sx 3).stoEnter st c sx
    else
      let still := if absR v.v ≤ r.stillS then (if v.stillSince.isSome then v.stillSince else some s.now) else none
      s.setChan c ((s.chan c).setView sx { v with stillSince := still })

/-- DISC latches, and the axis goes to STO (R412). -/
def State.disc (s : State) (st : SafSet) (c : Chan) (sx : Nat) : State := (s.violate sx 4).stoEnter st c sx

/-- The position of a local axis in channel A, from its feedback port; an invalid one latches DISC. -/
def State.moveA (s : State) (st : SafSet) (sx : Nat) (r : SafAxisRec) : State :=
  let v := s.saf.chA.view sx
  match s.safPosA r with
  | (true, p) => s.setChan .a (s.saf.chA.setView sx (v.move p r.spdWin (s.safStep st r)))
  | (false, _) => (s.setChan .a (s.saf.chA.setView sx { v with valid := false })).disc st .a sx

/-- The position of a local axis in channel B, from the counts of its pair since the last evaluation; an illegal transition
latches DISC. Before its origin has come by cross-talk there is no position. -/
def State.moveB (s : State) (st : SafSet) (sx : Nat) (r : SafAxisRec) (counts : List Int) (bad : List Nat) : State :=
  let v := s.saf.chB.view sx
  let s := if bad.contains r.bSrc then s.disc st .b sx else s
  let v' := (s.saf.chB.view sx)
  if v.valid = false then s
  else
    s.setChan .b (s.saf.chB.setView sx
      (v'.move (v.p + counts.getD r.bSrc 0 * (r.scaleB : Int) * 2 ^ 16) r.spdWin (s.safStep st r)))

/-- One axis in one channel's evaluation. -/
def State.judgeAxis (s : State) (st : SafSet) (c : Chan) (counts : List Int) (bad : List Nat) (e : Nat × SafAxisRec) : State :=
  let s :=
    if e.2.remote then s
    else match c with
      | .a => s.moveA st e.1 e.2
      | .b => s.moveB st e.1 e.2 counts bad
  let s := s.judgeLimited c e.1 e.2
  (s.judgeMotion st c e.1 e.2).judgeSs1 st c e.1 e.2

/-! ### Contacts (R404) -/

/-- Whether contact 1 or 2 of a pair reads closed, from the raw level of its channel. -/
def State.contact1 (s : State) (p : PairRec) : Bool := bvGet s.field.inputs p.ch1
def State.contact2 (s : State) (p : PairRec) : Bool :=
  if p.type = 2 then !bvGet s.field.inputs p.ch2 else bvGet s.field.inputs p.ch2

/-- PAIR_FAULT clears after both contacts have read open together and then closed together. -/
def State.clearPairs (s : State) : State :=
  (List.range 8).foldl (fun s j =>
    match s.pair? j with
    | none => s
    | some p =>
      if bvGet s.saf.pairFault j = false then s
      else if s.contact1 p = false ∧ s.contact2 p = false then
        { s with saf := { s.saf with pairOpenSeen := bvPut s.saf.pairOpenSeen j true } }
      else if s.contact1 p ∧ s.contact2 p ∧ bvGet s.saf.pairOpenSeen j then
        { s with saf := { s.saf with pairFault := bvPut s.saf.pairFault j false,
                                     pairOpenSeen := bvPut s.saf.pairOpenSeen j false } }
      else s) s

/-- Code of STATE_A (R426). -/
def SafState.code : SafState → Nat
  | .unused => 0
  | .sto => 1
  | .ss1 => 2
  | .run => 3
  | .limited => 4

/-- The message that channel `c` sends: its switch value, guard-pair states, axis states and positions (R394). -/
def State.crossTalk (s : State) (c : Chan) : CrossTalk :=
  let x := s.chan c
  { sw := x.sw, pairs := x.closed.toNat, states := (List.range 32).map (fun sx => (x.view sx).state.code),
    positions := (List.range 32).map (fun sx => ((Machine.tc 32 (wholeLines (x.view sx).p) : Nat) : Int)), seq := x.xtTx, crcOk := true }

/-- Channel `c` sends its message of the cycle. -/
def State.sendCrossTalk (s : State) (c : Chan) : State :=
  s.setChan c { s.chan c with xtSent := some (s.crossTalk c), xtTx := ((s.chan c).xtTx + 1) % 2 ^ 32 }

/-- The evaluation of channel `c`: positions, limited mode, violations, SS1, and the releases that have become due.
`counts` are channel B's net counts per field pair, `bad` the pairs with an illegal transition. -/
def State.safetyCycle (s : State) (c : Chan) (counts : List Int) (bad : List Nat) : State :=
  match s.setInForce with
  | none =>
    let back := if s.rungMismatch then s.released else []
    let s := if s.released.isEmpty then s else s.stoAll c
    { s with saf := { s.saf with acked := s.saf.acked ++ back } }
  | some st =>
    let s := st.recs.foldl (fun s e => s.judgeAxis st c counts bad e) s
    match c with
    | .a => s.clearPairs.tryRelease
    | .b => s.tryRelease

/-- SAFETY_EVALUATION of channel `c`, in every cycle; its cross-talk message follows (R394). -/
def safetyEvaluationCmd (c : Chan) (counts : List Int) (bad : List Nat) (s : State) : State :=
  if s.conductor = false ∨ s.chanRuns c = false then s else (s.safetyCycle c counts bad).sendCrossTalk c

def execSafetyEvaluation (c : Chan) (counts : List Int) (bad : List Nat) (s : State) : Host.Outcome State Fault Refusal :=
  .next (safetyEvaluationCmd c counts bad s)

/-- SS1_END: SS1_T has passed, or the axis has stood for 10 ms. -/
def safSs1Due (v : SafAxisView) (r : SafAxisRec) (now : Nat) : Bool :=
  decide (v.state = .ss1) &&
    (decide ((r.ss1T : Rat) * 1000000 ≤ t72Ns (t72Diff v.ss1Since now)) ||
     (match v.stillSince with
      | some t => decide (10000000 ≤ t72Ns (t72Diff t now))
      | none => false))

def ss1EndCmd (sx : Nat) (s : State) : State :=
  match s.setInForce with
  | none => s
  | some st =>
    match st.rec? sx with
    | none => s
    | some r =>
      let s := if safSs1Due (s.saf.chA.view sx) r s.now then s.stoEnter st .a sx else s
      let s := if safSs1Due (s.saf.chB.view sx) r s.now then s.stoEnter st .b sx else s
      s.setPins

def execSs1End (sx : Nat) (s : State) : Host.Outcome State Fault Refusal := .next (ss1EndCmd sx s)

/-! ### Cross-talk (R394) -/

/-- A missing or bad message: counted, and XTALK at the second in a row. -/
def State.xtalkMiss (s : State) (c : Chan) : State :=
  let x := s.chan c
  let s := (s.setChan c { x with xtMissed := x.xtMissed + 1 }).bumpFld R.safXt 0 16 1
  if 1 ≤ x.xtMissed then s.globalSto Glob.xtalk else s

/-- Channel `c` follows a STO or SS1 that the other channel has given (R412, R421). -/
def State.xtFollow (s : State) (st : SafSet) (c : Chan) (m : CrossTalk) (sx : Nat) : State :=
  let v := (s.chan c).view sx
  let o := m.states.getD sx 0
  if o = 1 ∧ v.state ≠ .sto ∧ v.state ≠ .unused then s.stoEnter st c sx
  else if o = 2 ∧ (v.state = .run ∨ v.state = .limited) then s.startSs1 st c sx
  else s

/-- Positions that the message brings: channel B's origin at first, and the comparison with DISC after. -/
def State.xtPosition (s : State) (st : SafSet) (c : Chan) (m : CrossTalk) (e : Nat × SafAxisRec) : State :=
  let v := (s.chan c).view e.1
  let o := m.positions.getD e.1 0
  if e.2.remote = false ∧ c = .b ∧ v.valid = false then
    if (s.saf.chA.view e.1).valid then
      s.setChan .b (s.saf.chB.setView e.1 { v with p := sext 32 (Machine.tc 32 o) * 2 ^ 32, valid := true, past := [] })
    else s
  else if v.valid ∧ ((s.chan (otherChan c)).view e.1).valid ∧ discBad v.p o e.2 then s.disc st c e.1
  else s

/-- Which guard pairs (0 to 7) and axis states (8 to 39) of the message differ from the channel's own. -/
def State.xtDiffers (s : State) (c : Chan) (m : CrossTalk) : List Bool :=
  (List.range 8).map (fun j => (s.pair? j).isSome && (decide (m.pairs / 2 ^ j % 2 = 1) != s.pairClosed c j)) ++
  (List.range 32).map (fun sx => decide (((s.chan c).view sx).state.code ≠ m.states.getD sx 0))

/-- Cycles in which each of them has now differed in a row. -/
def xtCount (old : List Nat) (differs : List Bool) : List Nat :=
  differs.zipIdx.map (fun e => if e.1 then old.getD e.2 0 + 1 else 0)

/-- One of them has differed for longer than 2 cycles. -/
def xtLate (n : List Nat) : Bool := n.any (fun k => decide (2 < k))

/-- A good message is compared with the channel's own view. -/
def State.xtCompare (s : State) (c : Chan) (m : CrossTalk) : State :=
  if m.sw ≠ (s.chan c).sw then s.globalSto Glob.xtalk
  else
    match s.setInForce with
    | none => s
    | some st =>
      let n := xtCount (s.chan c).xtDiff (s.xtDiffers c m)
      let s := s.setChan c { s.chan c with xtDiff := n }
      let s := (List.range 32).foldl (fun s sx => s.xtFollow st c m sx) s
      let s := st.recs.foldl (fun s e => s.xtPosition st c m e) s
      if xtLate n then s.globalSto Glob.xtalk else s

/-- CROSS_TALK_MESSAGE: channel `c` checks the message of the other channel. -/
def crossTalkMessageCmd (c : Chan) (m : CrossTalk) (s : State) : State :=
  let x := s.chan c
  if s.conductor = false ∨ s.chanRuns c = false then s
  else if m.crcOk = false ∨ (m.seq ≠ (x.xtSeq + 1) % 2 ^ 32 ∧ x.xtMissed = 0) then s.xtalkMiss c
  else (s.setChan c { x with xtSeq := m.seq, xtMissed := 0 }).xtCompare c m

def execCrossTalkMessage (c : Chan) (m : CrossTalk) (s : State) : Host.Outcome State Fault Refusal :=
  .next (crossTalkMessageCmd c m s)

/-- XTALK_FAULT: two cycles without a good message. -/
def xtalkFaultCmd (s : State) : State :=
  if s.conductor = false ∨ (s.saf.chA.running = false ∧ s.saf.chB.running = false) then s
  else
    let s := s.setChan .a { s.saf.chA with xtMissed := max 2 s.saf.chA.xtMissed }
    let s := s.setChan .b { s.saf.chB with xtMissed := max 2 s.saf.chB.xtMissed }
    s.globalSto Glob.xtalk

def execXtalkFault (s : State) : Host.Outcome State Fault Refusal := .next (xtalkFaultCmd s)

/-- STO_READBACK_FAULT: the pin of channel `c` has differed from its command for 10 µs; both pins drop (R393). -/
def stoReadbackFaultCmd (c : Chan) (s : State) : State :=
  if s.chanRuns c = false then s
  else s.globalSto (match c with | .a => Glob.stoARb | .b => Glob.stoBRb)

def execStoReadbackFault (c : Chan) (s : State) : Host.Outcome State Fault Refusal := .next (stoReadbackFaultCmd c s)

/-- SWITCH_READ: the switch values at a start, or in a cycle (R396). -/
def switchReadCmd (a b : Nat) (atStart : Bool) (s : State) : State :=
  if s.saf.chA.running = false ∧ s.saf.chB.running = false then s
  else
    let va := if s.saf.chA.running then a % 16 else s.saf.chA.sw
    let vb := if s.saf.chB.running then b % 16 else s.saf.chB.sw
    let changed := !atStart && (decide (va ≠ s.saf.chA.sw) || decide (vb ≠ s.saf.chB.sw))
    let t := if changed then s.globalSto Glob.swChanged else s
    let t := (t.setChan .a { t.saf.chA with sw := va }).setChan .b { t.saf.chB with sw := vb }
    let t := if atStart ∧ va ≠ vb then t.globalSto Glob.swMismatch else t
    if va = s.saf.chA.sw then t
    else
      let t := s.forceChanged t.nameAxes
      if atStart then (t.demandTests).judgeSet else t

def execSwitchRead (a b : Nat) (atStart : Bool) (s : State) : Host.Outcome State Fault Refusal :=
  .next (switchReadCmd a b atStart s)

/-! ### Guard pairs (R404 to R406) -/

/-- What an opened pair does to one axis in channel `c`: STO, SS1, or limited mode. -/
def State.guardAct (s : State) (st : SafSet) (c : Chan) (j : Nat) (e : Nat × SafAxisRec) : State :=
  let v := (s.chan c).view e.1
  if bvGet e.2.gmask j = false ∨ v.state = .sto ∨ v.state = .unused then s
  else if e.2.gmode = 0 then (s.latchCause e.1 7).stoEnter st c e.1
  else if e.2.gmode = 1 then (if v.state = .ss1 then s else (s.latchCause e.1 7).startSs1 st c e.1)
  else s.judgeLimited c e.1 e.2

/-- A start-up test goes on: open seen by both channels, then closed in both (R406). -/
def State.testStep (s : State) (c : Chan) (j : Nat) (closed : Bool) : State :=
  if bvGet s.saf.testPending j = false then s
  else if closed = false then
    match c with
    | .a => { s with saf := { s.saf with testOpenA := bvPut s.saf.testOpenA j true } }
    | .b => { s with saf := { s.saf with testOpenB := bvPut s.saf.testOpenB j true } }
  else if bvGet s.saf.testOpenA j ∧ bvGet s.saf.testOpenB j ∧ s.pairClosed .a j ∧ s.pairClosed .b j then
    { s with saf := { s.saf with testPending := bvPut s.saf.testPending j false } }
  else s

/-- GUARD_PAIR_CHANGE: the filtered state of pair `j` in channel `c`. -/
def guardPairChangeCmd (c : Chan) (j : Nat) (closed : Bool) (s : State) : State :=
  if s.conductor = false ∨ s.chanRuns c = false ∨ (s.pair? j).isNone ∨ s.pairClosed c j = closed then s
  else
    let s := s.setChan c { s.chan c with closed := bvPut (s.chan c).closed j closed }
    let s := s.testStep c j closed
    let s := if closed ∨ s.pairClosed (otherChan c) j = false then s else s.ev 60 0xFFFF 5 j
    if closed then s
    else
      match s.setInForce with
      | some st => (st.recs.foldl (fun s e => s.guardAct st c j e) s).setPins
      | none => s

def execGuardPairChange (c : Chan) (j : Nat) (closed : Bool) (s : State) : Host.Outcome State Fault Refusal :=
  .next (guardPairChangeCmd c j closed s)

/-- PAIR_FAULT latches, with EV60 code 6. -/
def State.pairFaultOne (s : State) (j : Nat) : State :=
  if bvGet s.saf.pairFault j then s
  else
    { s with saf := { s.saf with pairFault := bvPut s.saf.pairFault j true,
                                 pairOpenSeen := bvPut s.saf.pairOpenSeen j false } }.evC 60 0xFFFF 6

/-- PAIR_DISCREPANCY: the contacts of a used pair have disagreed for longer than DISC_T. -/
def pairDiscrepancyCmd (j : Nat) (s : State) : State :=
  if s.conductor = false ∨ (s.saf.chA.running = false ∧ s.saf.chB.running = false) ∨ (s.pair? j).isNone then s
  else s.pairFaultOne j

def execPairDiscrepancy (j : Nat) (s : State) : Host.Outcome State Fault Refusal := .next (pairDiscrepancyCmd j s)

/-- TEST_PULSE: the pulse of every TP_OUT; `missed` are the pairs whose contacts did not follow it (R405). -/
def testPulseCmd (missed : List Nat) (s : State) : State :=
  if s.conductor = false ∨ s.saf.chB.running = false then s
  else
    missed.foldl (fun s j =>
      match s.pair? j with
      | some p => if p.tp then s.pairFaultOne j else s
      | none => s) s

def execTestPulse (missed : List Nat) (s : State) : Host.Outcome State Fault Refusal := .next (testPulseCmd missed s)

/-! ### Acknowledgement (R407) -/

/-- XTALK is present: messages are missing, or the views differ for longer than 2 cycles. -/
def State.xtalkPresent (s : State) : Bool :=
  decide (2 ≤ s.saf.chA.xtMissed) || decide (2 ≤ s.saf.chB.xtMissed) ||
    xtLate s.saf.chA.xtDiff || xtLate s.saf.chB.xtDiff

/-- Both ends of the die-to-die link carry data. -/
def State.linkWhole (s : State) : Bool := s.die.up && s.die.fieldEnd.up

/-- Cause `i` of a safety axis is still present in channel `c`. -/
def State.causePresent (s : State) (c : Chan) (sx : Nat) (r : SafAxisRec) (i : Nat) : Bool :=
  let v := (s.chan c).view sx
  if i = 0 then s.slsBad v r
  else if i = 1 then slpBad v r
  else if i = 2 then sdiBad v r
  else if i = 4 then
    !v.valid || discBad v.p (wholeLines ((s.chan (otherChan c)).view sx).p) r
  else if i = 5 then r.remote && v.rxSeq.isNone && decide (c = .a)
  else if i = 6 then r.remote && v.rxSeq.isNone && decide (c = .b)
  else if i = 7 then decide (r.gmode ≠ 2) && s.guardOpen c r.gmask
  else if i = 8 then decide ((s.axis r.axis).reaction = .sto)
  else false

/-- Latched causes of a safety axis that are present in neither channel. -/
def State.goneCauses (s : State) (sx : Nat) (r : SafAxisRec) : BitVec 9 :=
  (List.range 9).foldl (fun (w : BitVec 9) i =>
    if s.causePresent .a sx r i || s.causePresent .b sx r i then w else bvPut w i false) (SMap.get 0 s.saf.causes sx)

/-- An acknowledgement of one safety axis. -/
def State.ackAxis (s : State) (sx : Nat) (r : SafAxisRec) : State :=
  let left := s.goneCauses sx r
  let s := { s with saf := { s.saf with causes := s.saf.causes.set 0 sx left } }
  if left = 0 ∧ sx ∉ s.saf.acked then { s with saf := { s.saf with acked := s.saf.acked ++ [sx] } } else s

/-- An acknowledgement of the global causes: LINK_LOSS and XTALK, where they are gone; the axes that no cause of their own
holds are acknowledged with them. -/
def State.ackGlobal (s : State) (st : SafSet) : State :=
  let up := s.linkWhole
  let f := if up then bvPut s.saf.faults Glob.linkLoss false else s.saf.faults
  let f := if s.xtalkPresent then f else bvPut f Glob.xtalk false
  let s := { s with saf := { s.saf with
    faults := f
    chA := { s.saf.chA with linkLoss := s.saf.chA.linkLoss && !up }
    chB := { s.saf.chB with linkLoss := s.saf.chB.linkLoss && !up } } }
  st.recs.foldl (fun s e => if SMap.get 0 s.saf.causes e.1 = 0 then s.ackAxis e.1 e.2 else s) s

/-- The start-up test that SAF_ACK meets: of the pairs of the axis named, or of any pair. -/
def State.ackTest (s : State) (st : SafSet) (subj : Nat) : Bool :=
  if subj = 0xFFFF then !s.testsDone
  else match st.rec? subj with
    | some r => s.guardTestPending r.gmask
    | none => false

/-- A cause that SAF_ACK names is still present. -/
def State.ackPresent (s : State) (st : SafSet) (subj : Nat) : Bool :=
  if subj = 0xFFFF then
    (bvGet s.saf.faults Glob.linkLoss && !s.linkWhole) || (bvGet s.saf.faults Glob.xtalk && s.xtalkPresent)
  else match st.rec? subj with
    | some r => decide (s.goneCauses subj r ≠ 0)
    | none => false

/-- SAF_ACK. Both channels must see it. -/
def safAckCmd (h : Hdr) (s : State) : State :=
  let st := s.selectedSet.getD {}
  s.hostCmd h 0x0503 .imm 0 .safAxis none none
    (firstRefusal [(s.ackTest st h.subj, St.guardTestPending, 0), (decide (st.ackSrc = 1), St.safetyDenied, 0),
                   (s.ackPresent st h.subj, St.safetyDenied, 0)])
    (fun s =>
      let s1 := s.acceptImm h 0x0503 s.cycle 0 none
      let s2 := if s1.saf.chA.running = false ∨ s1.saf.chB.running = false then s1
        else if h.subj = 0xFFFF then s1.ackGlobal st
        else match st.rec? h.subj with
          | some r => s1.ackAxis h.subj r
          | none => s1
      s2.tryRelease)

def execSafAck (h : Hdr) (s : State) : Host.Outcome State Fault Refusal := .next (safAckCmd h s)

/-- RST_IN_ACK: the reset input acknowledges every latched cause that is gone. -/
def rstInAckCmd (s : State) : State :=
  match s.selectedSet with
  | none => s
  | some st =>
    if s.conductor = false ∨ st.rstIn = 0xFF ∨ s.saf.chA.running = false ∨ s.saf.chB.running = false then s
    else (st.recs.foldl (fun s e => s.ackAxis e.1 e.2) (s.ackGlobal st)).tryRelease

def execRstInAck (s : State) : Host.Outcome State Fault Refusal := .next (rstInAckCmd s)

/-! ### Remote safety axes (R413 to R416) -/

/-- Code of CHAN (R310). -/
def chanCode : Chan → Nat
  | .a => 0x0A
  | .b => 0x0B

/-- The command PDU of channel `c` for a remote axis in its exchange. -/
def State.commandPdu (s : State) (c : Chan) (sx : Nat) (r : SafAxisRec) : SafetyPdu :=
  let v := (s.chan c).view sx
  { connId := r.connBase + chanIdx c, seq := v.txSeq, pkind := 1, len := 8,
    cmd := (if v.state = .sto then 1 else 0) + (if v.state = .ss1 then 2 else 0) + (if v.limitedOn then 4 else 0),
    echo := v.rxSeq.getD 0, cycle := s.cycle, pos := 0, state := 0, crcOk := true }

/-- This VLN takes part in the exchanges of a remote record: as a conductor, or as the node that it names (log entry 18). -/
def State.exchanges (s : State) (r : SafAxisRec) : Bool :=
  r.remote && (s.conductor || decide (s.node.nodeNo = some r.node))

/-- The report PDU of channel `c` at a node for its local axis. The source of channel B's position has no setting there: its
value `other` is free (log entry 18). -/
def State.reportPdu (s : State) (c : Chan) (sx : Nat) (r : SafAxisRec) (other : Int) : SafetyPdu :=
  let v := (s.chan c).view sx
  let p := s.fbp (Config.remoteHome r.axis).2
  { connId := r.connBase + 2 + chanIdx c, seq := v.txSeq, pkind := 2, len := 24, cmd := 0, echo := v.rxSeq.getD 0,
    cycle := s.cycle, pos := if c = .a then p.pos else other,
    state := (if v.pathOpen then 1 else 0) + 2 + (if r.wd ≤ v.silent then 4 else 0) + (if p.valid then 0 else 8),
    crcOk := true }

/-- One channel sends in an exchange: its sequence advances, and one more exchange has passed since its last accepted PDU. -/
def State.sentPdu (s : State) (c : Chan) (sx : Nat) : State :=
  let v := (s.chan c).view sx
  s.setChan c ((s.chan c).setView sx
    { v with txSeq := (v.txSeq + 1) % 2 ^ 16, silent := v.silent + 1,
             pathOpen := if s.conductor then decide (v.state = .sto) else v.pathOpen })

/-- A container is prepared for the scatter of the lane of its node in this cycle (R310). -/
def State.addContainer (s : State) (lane : Nat) (k : Container) : State :=
  let l := s.lane lane
  let kept := if l.outCycle = s.cycle then l.outConts else []
  s.setLane lane { l with outCycle := s.cycle, outConts := kept ++ [k] }

/-- The exchange of one remote axis: the command PDUs of both channels at a conductor, the report PDUs at its node. -/
def State.exchange (s : State) (sx : Nat) (r : SafAxisRec) : State :=
  [Chan.a, Chan.b].foldl (fun s c =>
    if s.chanRuns c = false then s
    else if s.conductor then
      let k : Container := ⟨chanCode c, r.node, sx, s.commandPdu c sx r⟩
      (s.addContainer (s.noderec r.node).lane k).sentPdu c sx
    else
      let (w, s) := s.freeW
      let k : Container := ⟨chanCode c, s.node.nodeNo.getD 0, sx, s.reportPdu c sx r (sext 72 w.toNat)⟩
      { s with node := { s.node with reports := s.node.reports ++ [k] } }.sentPdu c sx) s

/-- SAFETY_PDU_EXCHANGE: the axes whose exchange falls in the present cycle (R413). -/
def safetyPduExchangeCmd (s : State) : State :=
  match s.selectedSet with
  | none => s
  | some st =>
    if s.live = false then s
    else
      let s := { s with node := { s.node with reports := [] } }
      (st.recs.filter (fun e => s.exchanges e.2 && decide ((s.cycle + 32 - e.1) % st.sp = 0))).foldl
        (fun s e => s.exchange e.1 e.2) s

def execSafetyPduExchange (s : State) : Host.Outcome State Fault Refusal := .next (safetyPduExchangeCmd s)

/-- A PDU meets every condition of R414 but that on SEQ. -/
def State.pduOk (s : State) (c : Chan) (r : SafAxisRec) (p : SafetyPdu) : Bool :=
  let kind := if s.conductor then 2 else 1
  p.crcOk && decide (p.pkind = kind) && decide (p.len = if s.conductor then 24 else 8) &&
    decide (p.connId = r.connBase + chanIdx c + (if s.conductor then 2 else 0)) &&
    decide (p.cycle = s.cycle ∨ cycAdd p.cycle 1 = s.cycle)

/-- A synchronised report at the conductor: the position, and DISC for a source fault or a STO path that is not as the last
command said. -/
def State.useReport (s : State) (st : SafSet) (c : Chan) (sx : Nat) (r : SafAxisRec) (p : SafetyPdu) : State :=
  let v := (s.chan c).view sx
  let s := s.setChan c ((s.chan c).setView sx (v.move p.pos r.spdWin (s.safStep st r)))
  let answers := decide ((p.echo + 1) % 2 ^ 16 = v.txSeq)
  if p.state / 8 % 2 = 1 ∨ (answers ∧ decide (p.state % 2 = 1) ≠ v.pathOpen) then s.disc st c sx else s

/-- A command at a node: its channel's path follows it (R414, R415, R417). -/
def State.useCommand (s : State) (c : Chan) (sx : Nat) (p : SafetyPdu) : State :=
  let v := (s.chan c).view sx
  s.setChan c ((s.chan c).setView sx
    { v with pathOpen := decide (p.cmd % 2 = 1), state := if p.cmd % 2 = 1 then .sto else .run })

/-- The first PDU of an unsynchronised receiver: its SEQ is taken; a command counts as STO (R416). -/
def State.firstPdu (s : State) (c : Chan) (sx : Nat) (p : SafetyPdu) : State :=
  let v := { (s.chan c).view sx with rxSeq := some p.seq, synced := false, silent := 0 }
  s.setChan c ((s.chan c).setView sx (if s.conductor then v else { v with pathOpen := true, state := .sto }))

/-- SAFETY_PDU_RECEIVED by the receiver of channel `c` (R414, R416): a report at a conductor, a command at a node. -/
def safetyPduReceivedCmd (sx : Nat) (c : Chan) (p : SafetyPdu) (s : State) : State :=
  match s.selectedSet with
  | none => s
  | some st =>
    match st.rec? sx with
    | none => s
    | some r =>
      if s.live = false ∨ s.chanRuns c = false ∨ s.exchanges r = false then s
      else if p.crcOk = false then s.bumpFld (R.safAxPdu sx) (16 * chanIdx c) 8 1
      else if s.pduOk c r p = false then s
      else
        let v := (s.chan c).view sx
        match v.rxSeq with
        | none => s.firstPdu c sx p
        | some q =>
          let d := (p.seq + 2 ^ 16 - q % 2 ^ 16) % 2 ^ 16
          if d < 1 ∨ max 2 r.wd < d then s.bumpFld (R.safAxPdu sx) (16 * chanIdx c + 8) 8 1
          else if v.synced = false ∧ d ≠ 1 then s.firstPdu c sx p
          else
            let s := s.setChan c ((s.chan c).setView sx { v with rxSeq := some p.seq, synced := true, silent := 0 })
            if s.conductor then (s.useReport st c sx r p).tryRelease else s.useCommand c sx p

def execSafetyPduReceived (sx : Nat) (c : Chan) (p : SafetyPdu) (s : State) : Host.Outcome State Fault Refusal :=
  .next (safetyPduReceivedCmd sx c p s)

/-- SAFETY_WATCHDOG_TRIP: WD exchanges without an accepted PDU (R415). -/
def safetyWatchdogTripCmd (sx : Nat) (c : Chan) (s : State) : State :=
  match s.selectedSet with
  | none => s
  | some st =>
    match st.rec? sx with
    | none => s
    | some r =>
      let v := (s.chan c).view sx
      if s.live = false ∨ s.chanRuns c = false ∨ s.exchanges r = false ∨ v.silent < r.wd then s
      else
        if s.conductor then s.tripWatchdog st c sx r
        else
          let s := s.setChan c ((s.chan c).setView sx { v with rxSeq := none, synced := false, pathOpen := true, state := .sto })
          s.ev 27 sx (1 + chanIdx c) (s.node.nodeNo.getD 0)

def execSafetyWatchdogTrip (sx : Nat) (c : Chan) (s : State) : Host.Outcome State Fault Refusal :=
  .next (safetyWatchdogTripCmd sx c s)

/-! ### Starts and losses (R28, R29, R406, R421) -/

/-- A channel starts: its axes in STO, its receivers without a SEQ, its pairs not yet seen closed. -/
def State.startChan (s : State) (c : Chan) : State :=
  (s.setChan c { sw := (s.chan c).sw, running := true }).nameAxes

/-- Both channels start with a restart of the core die: the selected set is checked, and the guard test is demanded. Channel B
does not while its supply is down (R22). -/
def State.safetyStart (s : State) : State :=
  let s := { s with saf := { s.saf with
    causes := [], acked := [], pairFault := 0, pairOpenSeen := 0, loadOwn := []
    faults := bvPut 0 Glob.bSupply s.saf.bDown } }
  let s := s.startChan .a
  let s := if s.saf.bDown then s.nameAxes else s.startChan .b
  (s.demandTests.judgeSet).setPins

/-- CHANNEL_B_SUPPLY_LOSS: VFIELD has fallen below 14.0 V; channel B stops, STO_B drops, and the guard test is demanded. -/
def channelBSupplyLossCmd (s : State) : State :=
  if s.saf.bDown then s
  else
    let s := { s with saf := { s.saf with bDown := true } }
    let s := if s.pw.boot = .up then ((s.latchGlobal Glob.bSupply).stoAll .b).demandTests else s
    s.setChan .b { s.saf.chB with running := false, sto := false }

def execChannelBSupplyLoss (s : State) : Host.Outcome State Fault Refusal := .next (channelBSupplyLossCmd s)

/-- CHANNEL_B_SUPPLY_RETURN: channel B starts again, with or without the core die (R22, R406). -/
def channelBSupplyReturnCmd (s : State) : State :=
  if s.saf.bDown = false then s
  else
    let s := { s with saf := { s.saf with bDown := false }, field := { s.field with started := 0 } }.startChan .b
    if s.pw.boot = .up then s.demandTests.setPins else s

def execChannelBSupplyReturn (s : State) : Host.Outcome State Fault Refusal := .next (channelBSupplyReturnCmd s)

/-- A channel finds the link lost: it drops its STO pin and puts every safety axis in STO; LINK_LOSS is latched, with EV60
(R28, R421). The core die reports every loss, also where an earlier one is still latched. -/
def State.linkLostIn (s : State) (c : Chan) : State :=
  let s := s.setChan c { s.chan c with linkLoss := true, sto := false }
  let s := if c = .a ∧ bvGet s.saf.faults Glob.linkLoss = true then s.ev 60 0xFFFF 7 s.safFaultWord else s.latchGlobal Glob.linkLoss
  s.stoAll c

/-- The core die's end has had 8 frame periods in a row without a good frame: channel A drops STO_A, the outputs lose their enables
and the field inputs are invalid (R27, R28, R467). -/
def State.coreLosesLink (s : State) : State :=
  if s.die.up = false ∨ s.die.missing < 8 then s
  else
    let s := { s with die := { s.die with up := false, lost := true } }
    (s.outputsLost.setBit R.dioStat 0 false).linkLostIn .a

/-- The field die's end has: channel B drops STO_B, and the outputs go off (R27, R28). -/
def State.fieldLosesLink (s : State) : State :=
  if s.die.fieldEnd.up = false ∨ s.die.fieldEnd.missing < 8 then s
  else
    let s := { s with die := { s.die with fieldEnd := { s.die.fieldEnd with up := false, lost := true } } }
    s.outputsLost.linkLostIn .b

/-- DIE_LINK_LOSS: each end acts on its own detection, without regard to the other (R27, R28). -/
def dieLinkLossCmd (s : State) : State := s.coreLosesLink.fieldLosesLink

def execDieLinkLoss (s : State) : Host.Outcome State Fault Refusal := .next (dieLinkLossCmd s)

/-- DIE_LINK_RETRAIN: every 10 ms after a loss; a trained link carries data again, and the inputs are valid while the field supply
holds (R29, R471). Outputs stay off and STO holds. -/
def dieLinkRetrainCmd (trained : Bool) (s : State) : State :=
  if (s.die.lost = false ∧ s.die.fieldEnd.lost = false) ∨ trained = false ∨ s.pw.boot ≠ .up then s
  else
    let s := { s with die := s.die.trained }
    s.supplyLate.fieldFound

def execDieLinkRetrain (trained : Bool) (s : State) : Host.Outcome State Fault Refusal := .next (dieLinkRetrainCmd trained s)

/-! ### SAF_STATUS (R425, R426) -/

def bit01 (b : Bool) : Nat := if b then 1 else 0

/-- SAF registers by offset, derived from the channels' states. -/
def State.safWord (s : State) (off : Nat) : Nat :=
  let sw := s.saf.chA.sw
  if off = 0x000 then
    bit01 s.saf.chA.sto + 2 * bit01 s.saf.chB.sto +
      4 * bit01 (s.setInForce.isSome && s.testsDone && decide (s.safFaultWord = 0)) +
      8 * bit01 s.setInForce.isSome + 16 * bit01 s.testsDone +
      32 * bit01 (s.saf.chB.running && decide (s.saf.chA.xtMissed = 0))
  else if off = 0x004 then
    sw + 16 * s.saf.chB.sw + 256 * sw + 4096 * bit01 (decide (sw ≠ 0)) +
      8192 * bit01 (match s.selectedSet with | some st => s.setGood sw st | none => false)
  else if off = 0x008 then (match s.setInForce with | some st => st.check.toNat | none => 0)
  else if off = 0x00C then
    s.saf.chA.closed.toNat + 2 ^ 8 * s.saf.chB.closed.toNat + 2 ^ 16 * s.saf.pairFault.toNat + 2 ^ 24 * s.saf.testPending.toNat
  else if off = 0x010 then s.safFaultWord
  else if off = 0x014 then s.fld R.safXt 0 16 + 2 ^ 16 * min 65535 s.die.discards
  else if 0x100 ≤ off ∧ off < 0x180 ∧ off % 4 = 0 then
    let sx := (off - 0x100) / 4
    let a := s.saf.chA.view sx
    let b := s.saf.chB.view sx
    a.state.code + 8 * b.state.code + 64 * bit01 (a.limitedOn || b.limitedOn) + 256 * (SMap.get 0 s.saf.causes sx).toNat
  else if 0x180 ≤ off ∧ off < 0x200 ∧ off % 4 = 0 then (s.reg (R.safAxPdu ((off - 0x180) / 4))).toNat
  else 0

/-- SAF_STATUS. -/
def safStatusCmd (h : Hdr) (buf : Nat) (s : State) : State :=
  s.hostCmd h 0x0504 .read 0 .none (if alignedAddr buf then none else some St.hostAddress) none none (fun s =>
    let words := (List.range 6).map (fun i => s.safWord (4 * i)) ++ (List.range 32).map (fun i => s.safWord (0x100 + 4 * i))
    (s.memWr buf (fitBytes 256 (words.flatMap (fun w => leBytes 4 w)))).answerOk h 0x0504)

def execSafStatus (h : Hdr) (buf : Nat) (s : State) : Host.Outcome State Fault Refusal := .next (safStatusCmd h buf s)

end Sys2Proof.Machine
end

