-- ==== Sys2Proof/Machine/Cycle.lean ====
section
/-!
DEFINITION. CYCLE_PHI0 (R59): the cycle counter steps, power stages and feedback ports sample, the PWM reloads, and everything
that the spec places at φ0 takes effect. Rows that act at φ0 of a cycle (COMMIT_APPLY, AXIS_ENABLE_EFFECT, PARAM_WRITE_EFFECT,
GENERATION_ADOPT) come before the CYCLE_PHI0 of that cycle.
-/

namespace Sys2Proof.Machine

open Sys2Proof

/-- Do `f` for every axis that is not in its reset state. -/
def State.eachAxis (s : State) (f : Nat → Axis → Axis) : State :=
  (s.axes.map (fun e => e.1)).foldl (fun s a => s.setAxis a (f a (s.axis a))) s

/-- The short circuit of ASC is chosen anew (R126): it ends below ASC_SPEED / 2, and under ASC it begins again at ASC_SPEED. -/
def Axis.ascSwitch (x : Axis) : Axis :=
  if x.ascShort then
    { x with ascShort := !(x.loop.vestValid && decide (2 * |x.loop.vEst| < x.raw Pn.ascSpeed)) }
  else if x.reaction = .asc then { x with ascShort := x.ascStart }
  else x

/-- The set-points for the new cycle come into use, or are missing (R135, R137). -/
def Axis.nextSet (x : Axis) : Axis :=
  if x.nextReady then
    { x with pSet := x.pNext, vSet := x.vNext, aSet := x.aNext, rampSet := x.rampNext, nextReady := false,
             missing := false, misses := 0 }
  else { x with missing := x.enabled }

/-- What φ0 does to one axis: the flags of the cycle that ends are shown, and iq* moves on in the pipeline of the plausibility
model (R109, R115), as do the voltages of the observer (R231). -/
def Axis.phi0 (cycle : Nat) (x : Axis) : Axis :=
  let supv := { x.supv with u2 := x.supv.u1, u1 := x.loop.iqSet }
  let loop := { x.loop with done := false, ranC := false, ranV := false, ranP := false, bg := false }
  let acts := decide (x.reaction = Reaction.tstop)
  let x := { x.showFlagsOf with entryPrev := x.entry, entry := none, sampleBad := false, supv := supv, loop := loop,
                                tsActs := acts, tsRan := x.tsRan && acts }
  (((x.nextSet.dropWarns).ascSwitch).flyPhi0 cycle).voltPhi0 x.drives

/-- A rung change that begins with cycle `n` (R65, R303). -/
def State.rungPhi0 (s : State) (n : Nat) : State :=
  match s.bb.nextRung with
  | none => s
  | some (c, r) =>
    if c ≠ n then s
    else
      let t := { s with epoch := s.phi0 n, nE := n, bb := { s.bb with nextRung := none, elapsed := 0, anchor := n },
                        stage := { s.stage with inForce := { s.stage.inForce with rung := r } } }
      if r = s.rung then t else s.forceChanged (s.axesAfter t.podsNewRung true)

/-- A block in the new cycle: AGE advances (R327), and what a memory error made invalid for one cycle is valid again (R38). -/
def BlockStat.next (b : BlockStat) : BlockStat :=
  { b with age := min 65535 (b.age + 1), valid := b.valid || b.memErr, memErr := false }

/-- AGE of every block advances (R327). -/
def State.agePhi0 (s : State) : State :=
  (s.stage.inForce.blocks.map (fun e => e.1)).foldl (fun s b => s.setBlockStat b (s.blockStat b).next) s

/-- The node role at φ0 (R102, R288, R323). -/
def State.nodePhi0 (s : State) : State :=
  let s := { s with node := { s.node with
    scatterSeen := false, slowSeen := false, fogShown := !s.node.fogLatched.isEmpty,
    axes := s.node.axes.map (fun x => { x with got := false, idSet := x.idNext, iqSet := x.iqNext }) } }
  if s.node.memberAt = some s.cycle ∧ s.node.state = .wait then s.becomeMember else s

/-- A Foghorn's effects that wait for the next cycle (R318, R467). -/
def State.fogPhi0 (s : State) : State :=
  let s := if s.node.fogLatched.isEmpty = false ∧ s.field.fogBlocked = false then s.fogOutputs else s
  if s.bb.fogDue then
    (s.axisNos.filter (fun a => (s.axis a).enabled)).foldl (fun s a => s.raiseSource a 18 0 true)
      { s with bb := { s.bb with fogDue := false } }
  else s

/-- Samples of φ0 (R59, R195, R199, R217, R227). -/
def State.samplePhi0 (s : State) (x : Phi0Sample) : State :=
  let s := s.feedbackPhi0 x.sin x.cos
  let s := s.sdmPhi0 x.sdm
  let s := (List.range 4).foldl (fun s k => s.chopperPhi0 k (x.chopShare.getD k 0)) s
  (List.range 4).foldl (fun s k => adcInjectedTriggerCmd k .phi0 s) s

/-- The counters of the new cycle. The row comes as local time reaches φ0 of it, and the model puts the counter exactly there,
its 16 fraction bits zero: the ticks of 2 ns by which R64 has it arrive there, and the fraction of a TIM_INCR by which it may
overshoot, are not followed (DESIGN CHOICE, log entry 152). -/
def State.stepCycle (s : State) : State :=
  let n := s.nextCycle
  let s := s.burstsPhi0.rungPhi0 n
  let s := { s with bb := s.bb.anchorAt n, fab := { s.fab with peDone := 0 } }
  { s with
    cycle := n, time := s.phi0 n * 2 ^ 16, pins := { s.pins with fired := 0, tick := 0 },
    bb := { s.bb with flashSeen := false, firstPhi0 := false },
    host := { s.host with signalled := if s.isRun then [] else s.host.signalled } }

/-- WAKE_N is released 1 ms after the wake (R495). -/
def State.wakePinPhi0 (s : State) : State :=
  match s.pw.wakeEnd with
  | some e => if t72Diff s.now e < 0 then s else { s with pw := { s.pw with wakeN := true, wakeEnd := none } }
  | none => s

/-- CYCLE_PHI0. -/
def cyclePhi0Cmd (x : Phi0Sample) (s : State) : State :=
  if s.live = false ∨ s.hasCycle = false then s
  else
    let s := (s.pinsRun x.pins).stepCycle
    let s := s.eachAxis (fun _ a => a.phi0 s.cycle)
    let s := (List.range 4).foldl (fun s k => s.reload k) s
    let s := s.wakePinPhi0.powerChange.nodePhi0
    let s := s.samplePhi0 x
    let s := s.agePhi0.fieldSignals
    (s.fogPhi0.canCyclic s.cycle).syncOutPhi0

def execCyclePhi0 (x : Phi0Sample) (s : State) : Host.Outcome State Fault Refusal := .next (cyclePhi0Cmd x s)

end Sys2Proof.Machine
end

