-- ==== Sys2Proof/Machine/Thermal.lean ====
section
/-!
DEFINITION. Supply power and the thermal models (R457, R498 to R503, R507 to R511): the die with its diodes and thresholds, the
axes' windings and stages, and the retained thermal state.
-/

namespace Sys2Proof.Machine

open Sys2Proof

/-! ### Supply power (R498) -/

/-- Voltage of each rail in V, in the order of PWR_I_*: the SAR result for VDD_CORE, VDD_IO33 and VDD_ANA, else nominal. -/
def State.railVolts (s : State) : List Rat :=
  let sar (i : Nat) (d : Rat) : Rat := ((sbits (s.reg (R.intRes i)) 0 16 : Int) : Rat) * 5 / 4 / 32768 * d
  [sar 1 1, 17 / 20, 9 / 10, 9 / 10, sar 2 4, sar 3 2]

/-- Mean of rail `i` in mA over the windows of `ws`. -/
def railMean (ws : List (List Nat)) (i : Nat) : Rat :=
  if ws.isEmpty then 0 else (((ws.map (fun w => w.getD i 0)).sum : Nat) : Rat) / (ws.length : Rat)

/-- Power of each rail in W over the windows of `ws`. -/
def State.railPower (s : State) (ws : List (List Nat)) : List Rat :=
  s.railVolts.zipIdx.map (fun e => e.1 * railMean ws e.2 / 1000)

/-- The current and power registers after the windows of an update (R512). -/
def State.showPower (s : State) (ws : List (List Nat)) : State :=
  let s := { s with therm := { s.therm with rails := (ws.reverse ++ s.therm.rails).take 16 } }
  let total := (s.railPower ws).foldl (fun a b => a + b) 0
  let s := s.setFld R.pwrPower 0 16 (min 65535 (rnd (total * 100)).toNat)
  (List.range 6).foldl (fun s i =>
    let top := (ws.map (fun w => w.getD i 0)).foldl max (s.fld (R.pwrI i) 16 16)
    (s.setFld (R.pwrI i) 0 16 (min 65535 (rnd (railMean s.therm.rails i)).toNat)).setFld (R.pwrI i) 16 16 (min 65535 top)) s

/-! ### Readings (R499, R501) -/

/-- Degrees in units of 2^-48. -/
def degQ (d : Int) : Int := d * 2 ^ 48

/-- A reading in 1/128 °C as a temperature. -/
def codeQ (c : Int) : Int := c * 2 ^ 41

/-- T in 1/128 °C for a register or a VALUE. -/
def tempCode (t : Int) : Int := satBits 16 (rnd ((t : Rat) / 2 ^ 41))

/-- Diode `d` as its result word gives it; none where VALID is clear. -/
def State.diode (s : State) (d : Nat) : Option Int :=
  if s.bit (R.intRes (5 + d)) 16 then some (sbits (s.reg (R.intRes (5 + d))) 0 16) else none

/-- The field die's temperature code in 1/128 °C; none where it is out of its range. -/
def fieldCode (t : Int) : Option Int := if t < -55 ∨ 127 ≤ t then none else some (t * 128)

/-- Judge reading `i` (0 to 3 the diodes, 4 the field die) after `dt` ns: the new state, and whether it has just broken. -/
def DieThermal.judge (x : DieThermal) (i : Nat) (r : Option Int) (dt : Nat) : DieThermal × Bool :=
  let last := x.lastD.getD i none
  let bad := x.badFor.getD i none
  let plausible := match r, last with
    | some c, some l => decide ((c - l).natAbs ≤ 20 * 128)
    | some _, none => true
    | none, _ => false
  let bad' : Option Nat :=
    if !plausible then some 0
    else match bad with
      | some t => if 1000000000 ≤ t + dt then none else some (t + dt)
      | none => none
  ({ x with lastD := x.lastD.set i (if r.isSome then r else last), badFor := x.badFor.set i bad' },
   bad.isNone && bad'.isSome)

/-- What reading `i` enters T_die with: 125 °C where it is broken. -/
def DieThermal.counted (x : DieThermal) (i : Nat) : Int :=
  if (x.badFor.getD i none).isSome then degQ 125 else codeQ ((x.lastD.getD i none).getD 0)

/-- What the field die enters T_die with: 125 °C while the link is lost too (R28). -/
def State.fieldCounted (s : State) : Int := if s.die.up then s.therm.counted 4 else degQ 125

/-! ### Thresholds (R502, R503) -/

def State.thmWarn (s : State) : Int := degQ (s.fld R.thmCfg 0 8)
def State.thmLimit (s : State) : Int := degQ (s.fld R.thmCfg 8 8)

/-- THM_CFG is clamped when it takes effect (R512). -/
def State.clampThmCfg (s : State) : State :=
  let lim := max 60 (min 120 (s.fld R.thmCfg 8 8))
  let warn := min lim (max 60 (min 120 (s.fld R.thmCfg 0 8)))
  let rate := max 5 (min 500 (s.fld R.thmCfg 16 10))
  ((s.setFld R.thmCfg 0 8 warn).setFld R.thmCfg 8 8 lim).setFld R.thmCfg 16 10 rate

/-- Whether MRAM writes are forbidden by the present temperatures (R41, R502). -/
def State.holdNow (s : State) : Bool :=
  decide (degQ 110 ≤ s.therm.tdie) ||
  (List.range 4).any (fun i => decide (s.therm.counted i ≤ degQ (-30))) || decide (s.fieldCounted ≤ degQ (-30))

/-- HOLD follows the temperatures; `tell` raises EV59 code 7 on entering and leaving (R382). -/
def State.judgeHold (s : State) (tell : Bool) : State :=
  let h := s.holdNow
  if h = s.mramHold then s
  else
    let s := s.setBit R.thmStat 2 h
    if tell then s.evC 59 0xFFFF 7 else s

/-- Source 19 follows LIMIT on every enabled axis (R129, R502). -/
def State.limitSource (s : State) (on : Bool) : State :=
  s.axisNos.foldl (fun s a =>
    let x := s.axis a
    let here := on && x.enabled
    if here = x.causes.getLsbD 19 ∧ (here = false ∨ x.faultActive.getLsbD 19 = true) then s
    else
      let s := s.setAxis a (x.setCause 19 here)
      if here then s.raiseSource a 19 0 false else s) s

/-- WARN, LIMIT and the rate (R502). VALUE is T_die. -/
def State.judgeDie (s : State) (rate : Rat) : State :=
  let v := Machine.tc 32 (tempCode s.therm.tdie)
  let warn := decide (s.thmWarn ≤ s.therm.tdie)
  let s := if warn && !s.bit R.thmStat 0 then s.ev 58 0xFFFF 1 v else s
  let s := s.setBit R.thmStat 0 warn
  let lim := decide (s.thmLimit ≤ s.therm.tdie)
  let was := s.bit R.thmStat 1
  let s := s.setBit R.thmStat 1 lim
  let s := if lim && !was then s.ev 58 0xFFFF 2 v else if was && !lim then s.ev 58 0xFFFF 6 v else s
  let s := s.limitSource lim
  let hit := decide (((s.fld R.thmCfg 16 10 : Nat) : Rat) / 10 < rate)
  let s := if hit && !s.therm.rateHit then s.ev 58 0xFFFF 3 v else s
  let s := { s with therm := { s.therm with rateHit := hit } }
  if hit then
    s.axisNos.foldl (fun s a => if (s.axis a).enabled then s.raiseSource a 19 0 false else s) (s.setBit R.thmStat 9 true)
  else s

/-- A temperature lies within 10 °C of one of `limits` (R503). -/
def nearAny (t : Int) (limits : List Int) : Bool := limits.any (fun l => decide ((t - l).natAbs ≤ 10 * 2 ^ 48))

/-- The temperature 100 ms back, the youngest that is old enough (R502, R508), and the list with `now` entered. -/
def ageList {α : Type} (past : List (Nat × α)) (dt : Nat) (now : α) : Option α × List (Nat × α) :=
  let aged := past.map (fun e => (e.1 + dt, e.2))
  let young := aged.takeWhile (fun e => decide (e.1 < 100000000))
  let old := (aged.drop young.length).head?
  (old.map (fun e => e.2), (0, now) :: young ++ (aged.drop young.length).take 1)

/-! ### The die model (R499, R500) -/

/-- One update of the three nodes over `dt` ns; each assignment rounds to 2^-48. -/
def DieThermal.step (x : DieThermal) (dt : Nat) (p : List Rat) (tcase : Rat) : DieThermal :=
  let d : Rat := (dt : Rat) / 1000000000
  let p0 := p.getD 0 0
  let p1 := p.getD 2 0 + p.getD 3 0
  let p2 := p.getD 1 0 + p.getD 4 0 + p.getD 5 0
  let t0 := toG (gVal x.t0 + d * (p0 - (gVal x.t0 - gVal x.t2) / (4 / 5)) / (4 / 1000))
  let t1 := toG (gVal x.t1 + d * (p1 - (gVal x.t1 - gVal x.t2) / (6 / 5)) / (3 / 1000))
  let t2 := toG (gVal x.t2 + d * (p2 + (gVal t0 - gVal x.t2) / (4 / 5) + (gVal t1 - gVal x.t2) / (6 / 5) -
    (gVal x.t2 - tcase) / (15 / 100)) / (1 / 4))
  { x with t0 := t0, t1 := t1, t2 := t2 }

/-- Residuals beyond ±6 °C for 16 updates in a row (R500): counts, and the diodes whose count has just reached 16. -/
def DieThermal.residuals (x : DieThermal) : DieThermal × List Nat :=
  let one (d : Nat) : Nat :=
    if (x.badFor.getD d none).isSome then 0
    else
      let node := if d = 0 then x.t0 else if d = 1 then x.t1 else x.t2
      if 6 * 2 ^ 48 < (x.counted d - node).natAbs then min 17 (x.mismatch.getD d 0 + 1) else 0
  let cs := (List.range 4).map one
  ({ x with mismatch := cs }, (List.range 4).filter (fun d => decide (cs.getD d 0 = 16)))

/-- Readings of the present update judged; the numbers of those that have just broken. -/
def State.takeReadings (s : State) (fieldTemp : Int) (dt : Nat) : State × List Nat :=
  let s := s.setFld R.thmField 0 8 (Machine.tc 8 (clampI (-128) 127 fieldTemp))
  let one (a : DieThermal × List Nat) (i : Nat) : DieThermal × List Nat :=
    let (x, b) := a.1.judge i (s.diode i) dt
    (x, if b then a.2 ++ [i] else a.2)
  let (x, broke) := (List.range 4).foldl one (s.therm, [])
  let (x, broke) :=
    if s.die.up then
      let (y, b) := x.judge 4 (fieldCode fieldTemp) dt
      (y, if b then broke ++ [4] else broke)
    else (x, broke)
  let s := { s with therm := x }
  let s := (List.range 4).foldl (fun s d => s.setBit R.thmStat (4 + d) (s.therm.badFor.getD d none).isSome) s
  (s.setBit R.thmStat 11 (!s.die.up || (s.therm.badFor.getD 4 none).isSome), broke)

/-- T_die and the node registers. -/
def State.showDie (s : State) (rate : Rat) : State :=
  let s := (s.setFld R.thmDie 0 16 (Machine.tc 16 (tempCode s.therm.tdie))).setFld R.thmDie 16 16 (Machine.tc 16 (satBits 16 (rnd (rate * 128))))
  ((s.setFld (R.thmN 0) 0 16 (Machine.tc 16 (tempCode s.therm.t0))).setFld (R.thmN 1) 0 16 (Machine.tc 16 (tempCode s.therm.t1))).setFld
    (R.thmN 2) 0 16 (Machine.tc 16 (tempCode s.therm.t2))

/-- Highest of the counted diodes. -/
def State.topDiode (s : State) : Int := (List.range 4).foldl (fun m d => max m (s.therm.counted d)) (s.therm.counted 0)

/-- The nodes of an update: set at a start (R503, R511), else stepped. -/
def State.stepNodes (s : State) (ws : List (List Nat)) (dt : Nat) : State :=
  let x := s.therm
  if x.started = false then
    let t := if x.woken then x.tdie else s.topDiode
    { s with therm := { x with started := true, woken := false, t0 := t, t1 := t, t2 := t, past := [] } }
  else
    let p := s.railPower ws
    let total := p.foldl (fun a b => a + b) 0
    let ref := if (x.badFor.getD 2 none).isSome then x.counted 3 else x.counted 2
    { s with therm := x.step dt p (gVal ref - total * 15 / 100) }

/-- DIE_THERMAL_UPDATE in Run and Idle: `ws` are the 62.5 µs windows of the interval, oldest first. -/
def State.dieUpdate (s : State) (ws : List (List Nat)) (fieldTemp : Int) : State :=
  let dt := 62500 * max 1 ws.length
  let s := (s.clampThmCfg).showPower ws
  let (s, broke) := s.takeReadings fieldTemp dt
  let s := s.stepNodes ws dt
  let tdie := [s.therm.t0, s.therm.t1, s.therm.t2, s.topDiode, s.fieldCounted].foldl max s.therm.t0
  let (old, past) := ageList s.therm.past dt tdie
  let rate : Rat := match old with
    | some t => (gVal tdie - gVal t) * 10
    | none => 0
  let (x, missed) := { s.therm with tdie := tdie, past := past }.residuals
  let s := { s with therm := x }
  let v := Machine.tc 32 (tempCode tdie)
  let s := broke.foldl (fun s i => s.ev 58 i 4 v) s
  let s := missed.foldl (fun s d => (s.setBit R.thmStat 8 true).ev 58 d 5 v) s
  let s := ((s.showDie rate).judgeDie rate).judgeHold true
  s.setBit R.thmStat 3 (nearAny tdie [s.thmWarn, s.thmLimit, degQ 110, degQ (-30), degQ 125])

/-- The reduced model of Standby (R503): diode 0 and the field die, HOLD and no events. -/
def State.standbyDie (s : State) : State :=
  let s := { s with therm := { s.therm with tdie := max (s.therm.counted 0) s.fieldCounted } }
  let s := s.setFld R.thmDie 0 16 (Machine.tc 16 (tempCode s.therm.tdie))
  let h := decide (degQ 110 ≤ s.therm.tdie) || decide (s.therm.counted 0 ≤ degQ (-30)) || decide (s.fieldCounted ≤ degQ (-30))
  s.setBit R.thmStat 2 h

/-- DIE_THERMAL_UPDATE. In Standby it judges the field die's reading. -/
def dieThermalUpdateCmd (ws : List (List Nat)) (fieldTemp : Int) (s : State) : State :=
  if s.mode = .standby then
    let s := s.setFld R.thmField 0 8 (Machine.tc 8 (clampI (-128) 127 fieldTemp))
    { s with therm := if s.die.up then (s.therm.judge 4 (fieldCode fieldTemp) (62500 * max 1 ws.length)).1 else s.therm }.standbyDie
  else if s.live = false ∨ s.svRuns = false then s
  else s.dieUpdate ws fieldTemp

def execDieThermalUpdate (ws : List (List Nat)) (fieldTemp : Int) (s : State) : Host.Outcome State Fault Refusal :=
  .next (dieThermalUpdateCmd ws fieldTemp s)

/-- ADC_STANDBY_CONVERSION: ADC0 converts the reference and diode 0 for the reduced model (R457, R503). -/
def adcStandbyConversionCmd (ref diode : Int) (current : Bool) (s : State) : State :=
  if s.mode ≠ .standby then s
  else
    let s := (s.adcResult 0 4 ref false true false (s.adcv 0).round []).adcResult 0 6 diode false current false (s.adcv 0).round []
    { s with therm := (s.therm.judge 0 (s.diode 0) 10000000).1 }.standbyDie

def execAdcStandbyConversion (ref diode : Int) (current : Bool) (s : State) : Host.Outcome State Fault Refusal :=
  .next (adcStandbyConversionCmd ref diode current s)

/-! ### Axis models (R507, R508) -/

/-- k of the axis's power stage (R56): of its local port, or as staged for its node. -/
def State.axisK (s : State) (a : Nat) : Nat :=
  match (s.axis a).localPort with
  | some k => s.portK k
  | none =>
    match (s.remoteCfgs 0).find? (fun q => decide ((q.1, q.2.1) = Config.remoteHome a)) with
    | some q => kmul (bits q.2.2 2 2)
    | none => 1

/-- Mean of a sum of the interval. -/
def AxisThermal.mean (x : AxisThermal) (sum : Rat) : Rat := if x.samples = 0 then 0 else sum / x.samples

/-- The winding model (R507). -/
def Axis.stepMotor (x : Axis) (d : Rat) : Axis :=
  let t := x.therm
  let pcu := if x.enabled then
      3 / 2 * x.g Pn.rS * (1 + 393 / 100000 * (gVal t.tw - x.g Pn.motRTemp)) * t.mean t.sumIdq2 else 0
  let r1 := x.g Pn.motRth1
  let r2 := x.g Pn.motRth2
  let tw := toG (gVal t.tw + d * (pcu - (gVal t.tw - gVal t.tb) / r1) * r1 / x.g Pn.motTau1)
  let tb := toG (gVal t.tb + d * ((gVal tw - gVal t.tb) / r1 - (gVal t.tb - x.g Pn.motTAmb) / r2) * r2 / x.g Pn.motTau2)
  { x with therm := { t with tw := tw, tb := tb } }

/-- The power-stage model (R507): no loss under PINH, STO and disable, no switching term under ASC. -/
def Axis.stepStage (x : Axis) (d fpwm : Rat) : Axis :=
  let t := x.therm
  let cond := x.g Pn.stgRon * t.mean t.sumIph2
  let sw := if x.reaction = .asc then 0 else
    3 * fpwm * x.g Pn.stgEsw * (t.mean t.sumUdc / x.g Pn.stgURef) * (t.mean t.sumAbsI / 3 / x.g Pn.stgIRef)
  let pst := if x.enabled = false ∨ x.reaction = .pinh ∨ x.reaction = .sto then 0 else cond + sw
  let r := x.g Pn.stgRth
  { x with therm := { t with
      ts := toG (gVal t.ts + d * (pst - (gVal t.ts - x.g Pn.stgTAmb) / r) * r / x.g Pn.stgTau) } }

/-- A source of the thermal models: its cause follows `hot`, and a rate latches it without a cause (R508). -/
def State.thermSource (s : State) (a src : Nat) (hot rate : Bool) : State :=
  let x := s.axis a
  let was := x.causes.getLsbD src
  let s := s.setAxis a (x.setCause src hot)
  if (hot && !was) || rate then s.raiseSource a src 0 true else s

/-- One update of the models of axis `a`. A model whose bit of TM_EN is 0 does not run: it holds no cause and no flag, and has no
temperature of 100 ms back when it starts (R502, R507, R508). -/
def State.axisThermal (s : State) (a dtNs : Nat) : State :=
  let x := s.axis a
  let mot := x.flag Pn.tmEn 0
  let stg := x.flag Pn.tmEn 1
  let d : Rat := (dtNs : Rat) / 1000000000
  let x := if mot then x.stepMotor d else x
  let x := if stg then x.stepStage d ((s.axisK a : Nat) / tcycS s.rung) else x
  let t := x.therm
  let (oldW, pastW) := ageList t.pastW dtNs t.tw
  let (oldS, pastS) := ageList t.pastS dtNs t.ts
  let motRate := mot && (match oldW with
    | some o => decide (x.g Pn.motRate < (gVal t.tw - gVal o) * 10)
    | none => false)
  let stgRate := stg && (match oldS with
    | some o => decide (x.g Pn.stgRate < (gVal t.ts - gVal o) * 10)
    | none => false)
  let motOver := mot && decide (x.raw Pn.motLim ≤ t.tw)
  let stgOver := stg && decide (x.raw Pn.stgLim ≤ t.ts)
  let nearM := mot && nearAny t.tw [x.raw Pn.motLim]
  let nearS := stg && nearAny t.ts [x.raw Pn.stgLim]
  let word := [nearM, nearS, motOver, stgOver, motRate, stgRate].zipIdx.foldl (fun w f => setFlag w f.2 f.1) x.thmStatus
  let s := s.setAxis a { x with thmStatus := word, therm := { t with
    pastW := if mot then pastW else [], pastS := if stg then pastS else [], sumIdq2 := 0, sumIph2 := 0, sumAbsI := 0,
    sumUdc := 0, samples := 0, near := nearM || nearS } }
  (s.thermSource a 12 motOver motRate).thermSource a 13 stgOver stgRate

/-- AXIS_THERMAL_UPDATE. -/
def axisThermalUpdateCmd (a dtNs : Nat) (s : State) : State :=
  if s.live = false ∨ s.svRuns = false ∨ s.usable a = false then s else s.axisThermal a dtNs

def execAxisThermalUpdate (a dtNs : Nat) (s : State) : Host.Outcome State Fault Refusal := .next (axisThermalUpdateCmd a dtNs s)

/-! ### Retained state (R510, R511) -/

/-- THERMAL_STATE_SAVE: one second of the always-on counter, and the record of it. -/
def thermalStateSaveCmd (s : State) : State :=
  if s.live = false then s
  else
    let s := { s with pw := { s.pw with aonSeconds := s.pw.aonSeconds + 1 } }
    if s.svRuns then s.saveThermal else s

def execThermalStateSave (s : State) : Host.Outcome State Fault Refusal := .next (thermalStateSaveCmd s)

/-- Starting values: T_amb + 0.8 × (LIM - T_amb) at every node. -/
def Axis.thermDefault (x : Axis) : Int × Int × Int :=
  let m := toG (x.g Pn.motTAmb + 4 / 5 * (x.g Pn.motLim - x.g Pn.motTAmb))
  (m, m, toG (x.g Pn.stgTAmb + 4 / 5 * (x.g Pn.stgLim - x.g Pn.stgTAmb)))

/-- The axis models start, from the SRAM copy, a young MRAM record, or starting values (R511). -/
def State.thermStart (s : State) (sram : List (Nat × Int × Int × Int)) (kept : Bool) : State :=
  let age := match s.thermMram with
    | some (t, _) => s.pw.aonSeconds - t
    | none => 600
  let (source, list, shown) : Nat × List (Nat × Int × Int × Int) × Nat :=
    if kept then (2, sram, 0xFFFF)
    else match s.thermMram with
      | some (_, m) => if age < 600 then (1, m, age) else (0, [], 0xFFFF)
      | none => (0, [], 0xFFFF)
  let (w, s) := if source = 2 then s.freeW else (0, s)
  let s := (s.setFld R.thmRetain 16 2 source).setFld R.thmRetain 0 16 (if source = 2 then w.toNat % 2 ^ 16 else shown)
  s.axisNos.foldl (fun s a =>
    let x := s.axis a
    let v := match list.find? (fun e => decide (e.1 = a)) with
      | some e => e.2
      | none => x.thermDefault
    s.setAxis a { x with thmStatus := 0, therm := { tw := v.1, tb := v.2.1, ts := v.2.2 } }) s

end Sys2Proof.Machine
end

