-- ==== Sys2Proof/Machine/Boot.lean ====
section
/-!
DEFINITION. Power-up, boot and reset (R504 to R506, R515, R516, R525 to R538), and the clocks (R497): images and their check, what
a restart keeps, the kinds of restart, the configuration that comes up, and failing supplies.
-/

namespace Sys2Proof.Machine

open Sys2Proof

/-! ### Images (R515, R516, R528) -/

def allZero (bs : List Byte) : Bool := bs.all (fun b => b == 0)

/-- The sections of a body, from engine `e` on (R515). -/
def sectionsOk : Nat → Nat → List Byte → Bool
  | 0, _, bs => bs.isEmpty
  | k + 1, e, bs =>
    let il := Machine.field bs 8 4
    let dl := Machine.field bs 12 4
    decide (16 ≤ bs.length) && decide (Machine.field bs 0 1 = e) && allZero ((bs.drop 1).take 7) &&
      decide (il ≤ 131072) && decide (il % 8 = 0) && decide (dl ≤ 131072) && decide (dl % 8 = 0) &&
      decide (16 + il + dl ≤ bs.length) && sectionsOk k (e + 1) (bs.drop (16 + il + dl))

/-- Why an image fails R516, in the codes of SYS_BOOT_STAT.CAUSE: 2 magic or layout, 3 key hash, 4 signature, 5 body hash,
6 security version; none where it passes. -/
def imageCause (secCnt : Nat) (im : Image) : Option Nat :=
  let h := im.header
  let key := (h.drop 64).take 64
  let len := Machine.field h 12 4
  if h.length ≠ 256 ∨ Machine.field h 0 4 ≠ 0x564C4E46 ∨ allZero ((h.drop 16).take 16) = false ∨ allZero (h.drop 192) = false ∨
      63 < Machine.field h 8 4 ∨ len % 8 ≠ 0 ∨ 3 * 2 ^ 20 + 192 < len then some 2
  else if Config.sha256 key ≠ Config.romKeyHash then some 3
  else if Config.ecdsaVerifies key (Config.sha256 (h.take 128)) ((h.drop 128).take 64) = false then some 4
  else if im.body.length ≠ len ∨ Config.sha256 im.body ≠ (h.drop 32).take 32 then some 5
  else if sectionsOk 12 0 im.body = false then some 2
  else if Machine.field h 8 4 < secCnt then some 6
  else none

/-- A copy of the boot record with this SEQ and SLOT (R528). -/
def bootRecBytes (seq slot : Nat) : List Byte :=
  let b := leBytes 4 0x564C4E42 ++ leBytes 4 seq ++ leBytes 1 slot ++ List.replicate 3 0
  b ++ leBytes 4 (crc32c b)

/-- SEQ and SLOT of a copy of the boot record; none where it is not valid. -/
def bootRec (bs : List Byte) : Option (Nat × Nat) :=
  if bs.length = 16 ∧ Machine.field bs 0 4 = 0x564C4E42 ∧ Machine.field bs 8 1 ≤ 1 ∧ allZero ((bs.drop 9).take 3) = true ∧
      Machine.field bs 12 4 = crc32c (bs.take 12) then some (Machine.field bs 4 4, Machine.field bs 8 1)
  else none

/-- NODE_NO, SERDES_A and SERDES_B of the node configuration block (R530); none where it is not valid. -/
def nodeBlockOf (bs : List Byte) : Option (Nat × Reg32 × Reg32) :=
  if bs.length = 64 ∧ Machine.field bs 0 4 = 0x564C4E4E ∧ Machine.field bs 4 2 ≤ 255 ∧ Machine.field bs 6 2 = 0 ∧
      allZero ((bs.drop 16).take 44) = true ∧ Machine.field bs 60 4 = crc32c (bs.take 60) then
    some (Machine.field bs 4 2, BitVec.ofNat 32 (Machine.field bs 8 4), BitVec.ofNat 32 (Machine.field bs 12 4))
  else none

/-- The slot that the boot record names (R528). -/
def Flash.named (f : Flash) : Nat :=
  match bootRec f.rec0, bootRec f.rec1 with
  | some a, some b => if 0 < cycDiff a.1 b.1 then b.2 else a.2
  | some a, none => a.2
  | none, some b => b.2
  | none, none => 0

def Flash.slot (f : Flash) (n : Nat) : Option Image := if n = 0 then f.slot0 else f.slot1

/-- The image of slot `n`, where it passes its check. -/
def State.bootable (s : State) (n : Nat) : Option Image :=
  match s.flash.slot n with
  | some im => if imageCause s.sec.secCnt im = none then some im else none
  | none => none

/-! ### What a restart keeps (R534, R535) -/

/-- SRAM keeps the thermal copy of every axis across the restart, where no restart before it has lost the copy (R511, R534). -/
def State.sramRetained (s : State) (cause : Nat) : Bool :=
  decide (cause = 3 ∨ cause = 5 ∨ cause = 6) && (decide (s.pw.boot = .up) || s.pw.sramKept)

/-- The trip counts and the debug record outlive the restart. -/
def recordsKept (cause : Nat) : Bool := decide (3 ≤ cause ∧ cause ≤ 6)

/-- Axes with nothing but their thermal copy. -/
def State.thermCopies (s : State) : SMap Axis :=
  s.axes.foldl (fun m e => SMap.set {} m e.1 { therm := { tw := e.2.therm.tw, tb := e.2.therm.tb, ts := e.2.therm.ts } }) []

/-- The pins that feed the PWM ports keep their levels; one that is active at the reset polarity latches (R257). -/
def State.pinLevels (s : State) : SMap PwmPort :=
  (List.range 4).foldl (fun m k =>
    let on := (s.pwmp k).pinActive != s.bit R.tripCfg k
    SMap.set {} m k { pinActive := on, tripped := on }) []

/-- The field die after the core die's restart: it runs on, with its outputs off (R28, R535). -/
def FieldDie.coreGone (f : FieldDie) : FieldDie :=
  { f with readback := 0, tripEn := 0, noRestore := BitVec.allOnes 16, checks := [], testMask := 0, testOff := 0, stampQueue := [],
           fogBlocked := false, heldOut := none, heldEn := none, unseen := [] }

/-- Channel B while the core die is gone: it works on, with STO_B low and every safety axis in STO by its own detection of the
link loss (R22, R28). -/
def SafChan.coreGone (x : SafChan) : SafChan :=
  { x with sto := false, linkLoss := x.running || x.linkLoss
           axes := x.axes.map (fun v => if v.state = .unused then v else { v with state := .sto }) }

/-- The link while the core die is gone: both ends have lost it, with the field die's counts kept. -/
def DieLink.coreGone (d : DieLink) : DieLink := { lost := true, fieldEnd := { d.fieldEnd with up := false, lost := true } }

/-- A restart of kind `cause` that leaves the VLN in `boot`: what lies in MRAM, fuses and flash stays, and what R534 names
besides. The cause detected first is kept. The time the restart takes is not known, so the always-on counter moves on by a free
number of seconds (log entry 43). -/
def State.restart (s : State) (cause : Nat) (boot : Boot) : State :=
  let (w, s) := s.freeW
  let kept := recordsKept cause
  let regs : SMap Reg32 := if kept then SMap.set (regReset R.thmShut) [] R.thmShut (s.reg R.thmShut) else []
  { pending := s.pending, grade := s.grade, conductor := s.conductor, bootsel := s.bootsel, uid := s.uid,
    regs := regs, axes := if s.sramRetained cause then s.thermCopies else [],
    host := { mem := s.host.mem, memBad := s.host.memBad, perst := s.host.perst },
    stage := { storeA := s.stage.storeA, storeB := s.stage.storeB, copyB := s.stage.namedB, namedB := s.stage.namedB },
    jnl := { bank0 := s.jnl.bank0, bank1 := s.jnl.bank1, next0 := s.jnl.next0, next1 := s.jnl.next1,
             nextBank := s.jnl.nextBank, wseq := s.jnl.wseq, writes0 := s.jnl.writes0, writes1 := s.jnl.writes1 },
    pwm := s.pinLevels, die := s.die.coreGone, field := s.field.coreGone,
    saf := { sets := s.saf.sets, confirmed := s.saf.confirmed, bDown := s.saf.bDown, chB := s.saf.chB.coreGone },
    thermMram := s.thermMram,
    sec := { lcs := s.sec.lcs, debugKey := s.sec.debugKey, secCnt := s.sec.secCnt, challenges := s.sec.challenges,
             fails := if kept then s.sec.fails else 0, lockout := kept && s.sec.lockout, lock := kept && s.sec.lock },
    flash := { s.flash with download := [], running := none, updating := [] },
    pw := { boot := boot, heldCause := some (s.pw.heldCause.getD cause), pfail := s.pw.pfail, lowRail := s.pw.lowRail,
            alertN := s.pw.alertN, sramKept := s.sramRetained cause, aonSeconds := s.pw.aonSeconds + w.toNat % 2 ^ 32 },
    eventLog := s.eventLog, free := s.free }

/-- ALERT_N is asserted. -/
def State.alert (s : State) : State := { s with pw := { s.pw with alertN := false } }

/-- The slow clock runs and PLL_SYS locks (R531). -/
def State.clocksUp (s : State) : State := (s.setBit R.clkStat 0 true).setBit R.clkStat 1 true

/-- A debug session ends (R520), and the order of R531 begins, from the image check on. -/
def State.bootFrom (s : State) (cause : Nat) : State := (s.endSession.restart cause .image).clocksUp

/-! ### The straps (R5, R526) -/

/-- Straps are sampled and boot begins. -/
def State.sampleStraps (s : State) (role : Bool) (bootsel : Nat) : State :=
  ({ s with conductor := role, bootsel := bootsel % 4, pw := { s.pw with boot := .image }, pwm := s.pinLevels }).clocksUp

/-- PORST_N_RISE. -/
def porstNRiseCmd (role : Bool) (bootsel : Nat) (s : State) : State :=
  if s.pw.boot = .low then s.sampleStraps role bootsel else s

def execPorstNRise (role : Bool) (bootsel : Nat) (s : State) : Host.Outcome State Fault Refusal :=
  .next (porstNRiseCmd role bootsel s)

/-- PORST_N_LOW for 1 µs or longer: a power-on reset. -/
def porstNLowCmd (s : State) : State := s.restart 1 .low

def execPorstNLow (s : State) : Host.Outcome State Fault Refusal := .next (porstNLowCmd s)

/-! ### The image check (R516, R529, R531) -/

/-- A node takes its settings from its configuration block (R295, R530). -/
def State.nodeConfig (s : State) : State :=
  let s := (s.setBit R.bbGcfg 0 false).setFld (R.bbCfg 0) 0 2 1
  let s := s.setFld (R.bbCfg 1) 0 2 1
  match nodeBlockOf s.flash.nodeBlock with
  | some (n, a, b) =>
    { (s.setReg (R.bbSerdes 0) a).setReg (R.bbSerdes 1) b with node := { s.node with nodeNo := some n } }
  | none => s.alert

/-- The configuration that a restart comes up with (R377, R532): the copy in force, with no port enabled. The BBN settings of a
Node-role VLN are not staged (R295). The traces that it asks for record from now on (R440). -/
def State.loadStore (s : State) : State :=
  let c := s.storeNow
  let s := { s with stage := { s.stage with inForce := c.settings } }
  let regs := if s.conductor then c.regs else c.regs.filter (fun e => !(decide (0x2000 ≤ e.1) && decide (e.1 < 0x3000)))
  let s := s.pinsLoaded (regs.foldl (fun s e => s.setReg e.1 e.2) s)
  let s := (List.range 4).foldl (fun s k => (s.setBit (R.pwmCfg k) 0 false).setBit (R.chCfg k) 0 false) s
  let s := c.pns.foldl (fun s e => s.modAxis e.1 (fun x => { x with pn := e.2 })) s
  let s := s.axisNos.foldl (fun s a =>
    let x := s.axis a
    if x.pn.isEmpty then s else s.setAxis a ((x.design (tcycS s.rung)).traceRestart)) s
  let s := (List.range 4).foldl (fun s k => if s.fld (R.fbCfg k) 0 3 = 0 then s else s.portStart k) s
  (List.range 16).foldl (fun s c => if s.bit (R.sdmCfg c) 0 then s.sdmSettle c else s) s

/-- The engines are loaded with an image and started; BOOT_FAIL keeps telling that no slot passed. A conductor then replays its journal;
a node has none. -/
def State.startImage (s : State) (im : Image) (slot : Nat) (fallback : Bool) : State :=
  let s := (s.setBit R.secStat 3 (decide (slot = 1))).setBit R.secStat 4 fallback
  let s := s.setReg R.secFwVer (BitVec.ofNat 32 (Machine.field im.header 4 4))
  let s := { s with flash := { s.flash with running := some im }, fab := { s.fab with started := BitVec.allOnes 12 } }
  let s := if fallback then s.evDebug none 9 else s
  if s.conductor then { s with pw := { s.pw with boot := .replay } }
  else
    let s := s.loadStore
    { s with pw := { s.pw with boot := .replayed }, jnl := { s.jnl with restartCause := s.pw.heldCause.getD 1 } }

/-- The boot ROM waits for a host download. -/
def State.awaitDownload (s : State) : State :=
  { (s.setReg R.sysBootStat 1) with pw := { s.pw with boot := .waitDownload } }

/-- No slot passes (R516, R527). -/
def State.noSlot (s : State) : State :=
  let s := (s.setBit R.secStat 5 true).alert.evDebug none 8
  if s.conductor ∧ s.bootsel ≠ 2 then s.awaitDownload else { s with pw := { s.pw with boot := .failed } }

/-- The download as an image of `len` bytes. -/
def State.downloaded (s : State) (len : Nat) : Image :=
  let b (i : Nat) : Byte := SMap.get 0 s.flash.download i
  ⟨(List.range 256).map b, (List.range (len - 256)).map (fun i => b (256 + i))⟩

/-- The check of a downloaded image ends (R529, R543). -/
def State.checkDownload (s : State) : State :=
  let len := s.fld R.sysBootLen 0 23
  let im := s.downloaded len
  let cause := if len ≠ 256 + Machine.field im.header 12 4 then some 1 else imageCause s.sec.secCnt im
  match cause with
  | some c => s.setReg R.sysBootStat (BitVec.ofNat 32 (3 + 256 * c))
  | none => (s.setReg R.sysBootStat 0).startImage im 0 false

/-- IMAGE_CHECK: the named slot, then the other; or the download that GO has handed over. -/
def imageCheckCmd (s : State) : State :=
  if s.pw.boot = .image then
    if s.conductor ∧ s.bootsel = 1 then s.awaitDownload
    else
      let n := s.flash.named
      match s.bootable n with
      | some im => s.startImage im n false
      | none =>
        match s.bootable (1 - n) with
        | some im => s.startImage im (1 - n) true
        | none => s.noSlot
  else if s.pw.boot = .waitDownload ∧ s.bit R.sysBootStat 2 then s.checkDownload
  else s

def execImageCheck (s : State) : Host.Outcome State Fault Refusal := .next (imageCheckCmd s)

/-- SYS_BOOT_GO: GO is written (R543). -/
def sysBootGoCmd (s : State) : State :=
  let len := s.fld R.sysBootLen 0 23
  if s.pw.boot ≠ .waitDownload ∨ s.bit R.sysBootStat 2 = true ∨ s.hostUp = false then s
  else if len < 256 ∨ 4 * 2 ^ 20 < len then s.setReg R.sysBootStat 0x103
  else s.setReg R.sysBootStat 5

def execSysBootGo (s : State) : Host.Outcome State Fault Refusal := .next (sysBootGoCmd s)

/-! ### Idle is reached (R531, R533) -/

/-- CNT of the running image, with which SEC_CNT rises (R516). -/
def Flash.runningCnt (f : Flash) : Nat :=
  match f.running with
  | some im => Machine.field im.header 8 4
  | none => 0

/-- BOOT_COMPLETE: the VLN reaches Idle. -/
def bootCompleteCmd (s : State) : State :=
  if s.pw.boot ≠ .replayed then s
  else
    let sram := s.axes.map (fun e => (e.1, e.2.therm.tw, e.2.therm.tb, e.2.therm.ts))
    let s := s.thermStart sram s.pw.sramKept
    let s := { s with
      pw := { s.pw with boot := .up, rstoutN := true, alertN := s.conductor || s.pw.alertN, heldCause := none, sramKept := false }
      die := { s.die.trained with fast := true }
      host := { s.host with pollSoon := true }
      therm := { s.therm with started := false }
      sec := { s.sec with secCnt := max s.sec.secCnt s.flash.runningCnt } }
    let s := (((s.setPower 1).setTransit false).setWakeCause 7).setFld R.clkStat 0 4 15
    let s := (if s.conductor then s else s.nodeConfig).fieldFound
    let s := (s.adcStart).safetyStart.raiseTrips
    s.ev 63 1 7 s.jnl.restartCause

def execBootComplete (s : State) : Host.Outcome State Fault Refusal := .next (bootCompleteCmd s)

/-! ### Kinds of restart (R497, R534, R543) -/

/-- The core die stops with its registers still driving the ports' safe states: choppers off, STO low, the link down, the field
outputs off, RSTOUT_N low (R28, R259, R504, R533). -/
def State.coreStop (s : State) (cause : Nat) (boot : Boot) : State :=
  let s := (s.clockLoss).allOutputsOff true
  { (s.setBit R.clkStat 1 false) with
    pw := { s.pw with boot := boot, heldCause := some (s.pw.heldCause.getD cause), rstoutN := false, sramKept := s.sramRetained cause }
    pins := s.pins.still
    die := s.die.coreGone
    field := s.field.coreGone
    saf := { s.saf with chA := { s.saf.chA with running := false, sto := false }, chB := s.saf.chB.coreGone } }

/-- SYS_RESTART: RESTART written with its key in Run or Idle; another key is reported (R543). -/
def sysRestartCmd (v : Reg32) (s : State) : State :=
  if s.live = false ∨ s.conductor = false ∨ s.hostUp = false ∨ s.sec.lcs = 3 ∨ v.getLsbD 0 = false then s
  else if bits v 16 16 = 0xA5C3 then s.bootFrom 6
  else s.evBadReg

def execSysRestart (v : Reg32) (s : State) : Host.Outcome State Fault Refusal := .next (sysRestartCmd v s)

/-- SUPERVISOR_RESTART: SV has failed (R388, R534). -/
def supervisorRestartCmd (s : State) : State :=
  if s.live ∨ s.pw.boot = .replay ∨ s.pw.boot = .replayed then s.bootFrom 5 else s

def execSupervisorRestart (s : State) : Host.Outcome State Fault Refusal := .next (supervisorRestartCmd s)

/-- The core die runs on its clocks: it has begun to boot, or is up. -/
def State.powered (s : State) : Bool := decide (s.pw.boot ≠ .low ∧ s.pw.boot ≠ .brownOut)

/-- SLOW_CLOCK_LOSS: torque off as on clock loss, then held in reset until the crystal is back (R259, R497). -/
def slowClockLossCmd (s : State) : State :=
  if s.powered = false ∨ s.pw.boot = .clockLost then s
  else (s.endSession.coreStop 4 .clockLost).setBit R.clkStat 0 false

def execSlowClockLoss (s : State) : Host.Outcome State Fault Refusal := .next (slowClockLossCmd s)

/-- SLOW_CLOCK_RESTORED: the crystal has run again for 10 ms. -/
def slowClockRestoredCmd (s : State) : State := if s.pw.boot = .clockLost then s.bootFrom 4 else s

def execSlowClockRestored (s : State) : Host.Outcome State Fault Refusal := .next (slowClockRestoredCmd s)

/-- PLL_SYS_UNLOCK in Run or Idle: the VLN acts as its clock monitor does, and restarts (R497). -/
def pllSysUnlockCmd (s : State) : State := if s.live then (s.clockLoss).bootFrom 4 else s

def execPllSysUnlock (s : State) : Host.Outcome State Fault Refusal := .next (pllSysUnlockCmd s)

/-- BACKBONE_PLL_UNLOCK: every lane goes link-down (R497). -/
def backbonePllUnlockCmd (s : State) : State :=
  if s.live = false ∨ s.bit R.clkStat 2 = false then s
  else
    let s := (List.range 4).foldl (fun s n => s.linkDown n) s
    (s.setBit R.clkStat 2 false).setBit R.clkStat 8 true

def execBackbonePllUnlock (s : State) : Host.Outcome State Fault Refusal := .next (backbonePllUnlockCmd s)

/-- BACKBONE_PLL_RELOCK. -/
def backbonePllRelockCmd (s : State) : State := if s.live then s.setBit R.clkStat 2 true else s

def execBackbonePllRelock (s : State) : Host.Outcome State Fault Refusal := .next (backbonePllRelockCmd s)

/-- PCIE_PLL_UNLOCK: the host link fails (R364, R497). -/
def pciePllUnlockCmd (s : State) : State :=
  if s.live = false ∨ s.bit R.clkStat 3 = false then s else (s.setBit R.clkStat 3 false).setBit R.clkStat 9 true

def execPciePllUnlock (s : State) : Host.Outcome State Fault Refusal := .next (pciePllUnlockCmd s)

/-- PCIE_PLL_RELOCK. -/
def pciePllRelockCmd (s : State) : State := if s.live then s.setBit R.clkStat 3 true else s

def execPciePllRelock (s : State) : Host.Outcome State Fault Refusal := .next (pciePllRelockCmd s)

/-! ### Hardware thermal shutdown (R504 to R506) -/

/-- HARDWARE_THERMAL_SHUTDOWN: the comparators named trip. A field-die trip reaches the core die only by the link. -/
def hardwareThermalShutdownCmd (core field : Bool) (s : State) : State :=
  if s.powered = false ∨ (core = false ∧ field = false) then s
  else
    let s := { s with pw := { s.pw with shutCore := s.pw.shutCore || core, shutField := s.pw.shutField || field } }
    if s.pw.boot = .hotStop then s
    else if core || s.die.up then (s.endSession.coreStop 3 .hotStop).setFld R.clkStat 1 3 0
    else (s.allOutputsOff true).stoAll .b

def execHardwareThermalShutdown (core field : Bool) (s : State) : Host.Outcome State Fault Refusal :=
  .next (hardwareThermalShutdownCmd core field s)

/-- THERMAL_RESTART: both sensors below 100 °C for 1 s. The trips are counted and reported (R505, R512). -/
def thermalRestartCmd (s : State) : State :=
  if s.pw.boot ≠ .hotStop then s
  else
    let c := s.pw.shutCore
    let f := s.pw.shutField
    let s := s.bootFrom 3
    let s := (s.setBit R.thmStat 10 true).bumpFld R.thmShut 0 8 (if c then 1 else 0)
    let s := s.bumpFld R.thmShut 8 8 (if f then 1 else 0)
    let s := if c then s.ev 58 0xFFFF 7 1 else s
    let s := if f then s.ev 58 0xFFFF 7 2 else s
    s.evC 63 1 6

def execThermalRestart (s : State) : Host.Outcome State Fault Refusal := .next (thermalRestartCmd s)

/-! ### Failing supplies (R383, R536, R537) -/

/-- SUPPLY_LOW_WARNING: a rail below 95 %: no further MRAM write begins. -/
def supplyLowWarningCmd (s : State) : State := { s with pw := { s.pw with lowRail := true } }

def execSupplyLowWarning (s : State) : Host.Outcome State Fault Refusal := .next (supplyLowWarningCmd s)

/-- SUPPLY_LOW_WARNING_END: back within tolerance without a brown-out. -/
def supplyLowWarningEndCmd (s : State) : State :=
  if s.pw.boot = .brownOut then s else { s with pw := { s.pw with lowRail := false } }

def execSupplyLowWarningEnd (s : State) : Host.Outcome State Fault Refusal := .next (supplyLowWarningEndCmd s)

/-- BROWN_OUT: a rail below 92.5 %. -/
def brownOutCmd (s : State) : State :=
  if s.pw.boot = .low then s
  else { s.restart 2 .brownOut with pw := { (s.restart 2 .brownOut).pw with lowRail := true } }

def execBrownOut (s : State) : Host.Outcome State Fault Refusal := .next (brownOutCmd s)

/-- BROWN_OUT_END: every rail back for 10 ms; the straps are sampled again (R534). -/
def brownOutEndCmd (role : Bool) (bootsel : Nat) (s : State) : State :=
  if s.pw.boot ≠ .brownOut then s
  else { s with pw := { s.pw with lowRail := false, pfail := false } }.sampleStraps role bootsel

def execBrownOutEnd (role : Bool) (bootsel : Nat) (s : State) : Host.Outcome State Fault Refusal :=
  .next (brownOutEndCmd role bootsel s)

/-- PFAIL_N_ASSERT: no further MRAM write begins, and journalled commands are refused. SUBJECT is the present power state. -/
def pfailNAssertCmd (s : State) : State :=
  if s.pw.pfail then s
  else
    let s := { s with pw := { s.pw with pfail := true } }
    if s.pw.boot = .up then s.evC 63 s.powerNow 8 else s

def execPfailNAssert (s : State) : Host.Outcome State Fault Refusal := .next (pfailNAssertCmd s)

/-- PFAIL_N_RELEASE: high for 1 ms without a brown-out. -/
def pfailNReleaseCmd (s : State) : State :=
  if s.pw.pfail = false ∨ s.pw.boot = .brownOut then s
  else
    let s := { s with pw := { s.pw with pfail := false } }
    if s.pw.boot = .up then s.evC 63 s.powerNow 9 else s

def execPfailNRelease (s : State) : Host.Outcome State Fault Refusal := .next (pfailNReleaseCmd s)

end Sys2Proof.Machine
end

