-- ==== Sys2Proof/Machine/Tuning.lean ====
section
/-!
DEFINITION. Test-signal injection as the host commands it (R436, R438, R439): INJECT, INJECT_STOP and the end of an injection.
The updates themselves stand with the loops.
-/

namespace Sys2Proof.Machine

open Sys2Proof

/-- An injection as its 128-byte buffer spells it (R436). -/
def parseInject (bs : List Byte) : Injection :=
  let point := Machine.field bs 0 1
  let order := Machine.field bs 2 1
  { point := point, wave := Machine.field bs 1 1, order := order, hold := Machine.field bs 4 4,
    duration := Machine.field bs 8 8, amp := if point = 0 then fieldH36 bs 16 else field72 bs 16,
    f0 := field72 bs 32, f1 := field72 bs 48, lfsr := 2 ^ order - 1 }

/-- The buffer's reserved bytes are zero. -/
def injectZero (bs : List Byte) : Bool :=
  decide (Machine.field bs 3 1 = 0) && (bs.drop 64).all (fun b => b == 0)

/-- T_u of a point in s (R436). -/
def State.injPeriod (s : State) (x : Axis) (point : Nat) : Rat :=
  tcycS s.rung * (if point = 0 then 1 else if point = 1 then x.int Pn.nv else x.int Pn.nv * x.int Pn.np)

/-- A field is out of range, a frequency too high, or the amplitude too large (R439). The PRBS fields and the frequencies are
judged where the waveform uses them (log entry 40). -/
def State.injectBad (s : State) (x : Axis) (i : Injection) : Bool :=
  let fast := fun f => decide (9 / 20 / s.injPeriod x i.point < absR (gVal f))
  let lim := if i.point = 0 then x.iqLim else if i.point = 1 then x.raw Pn.vMax else x.raw Pn.feLim
  decide (2 < i.point) || decide (3 < i.wave) || decide (i.duration = 0) || decide (2 ^ 32 ≤ i.duration) ||
  (decide (i.wave = 3) &&
    (decide (i.order < 7) || decide (16 < i.order) || decide (i.hold = 0) || decide (65535 < i.hold))) ||
  (decide (i.wave = 1 ∨ i.wave = 2) && fast i.f0) || (decide (i.wave = 2) && fast i.f1) ||
  decide (lim < i.amp.natAbs)

/-- Injections that run. -/
def State.injections (s : State) : Nat := (s.axisNos.filter (fun a => (s.axis a).inj.isSome)).length

/-- The point's loop does not act in the axis's mode (R439). -/
def Axis.injectMode (x : Axis) (point : Nat) : Bool :=
  if point = 0 then decide (x.ctrlMode = 3) else if point = 1 then decide (x.ctrlMode ≠ 0 ∧ x.ctrlMode ≠ 1)
  else decide (point = 2 ∧ x.ctrlMode ≠ 0)

/-- INJECT: updates begin in cycle m + 2. -/
def injectCmd (h : Hdr) (cfg : Nat) (s : State) : State :=
  let (bad, bs) := s.argBuf cfg 128
  let x := s.axis h.subj
  let i := parseInject bs
  let fmt := match bad with
    | some st => some st
    | none => if injectZero bs then none else some St.reservedNonzero
  s.hostCmd h 0x0410 .long 0 .axis fmt (if s.isRun ∧ s.leavingRun = false then none else some (St.wrongPower, 0))
    (firstRefusal [(!x.enabled, St.axisDisabled, 0), (x.injectMode i.point, St.wrongMode, 0), x.reactionRefusal,
      (x.inj.isSome, St.notIdle, 0), (s.injectBad x i || decide (8 ≤ s.injections), St.argument, 0)])
    (fun s =>
      let own := s.openFor h 0x0410
      let s := s.acceptLong h 0x0410 0 []
      s.modAxis h.subj (fun x => { x with inj := some { i with
        startCycle := cycAdd s.cycle 2, lastCycle := s.cycle, own := own } }))

def execInject (h : Hdr) (cfg : Nat) (s : State) : Host.Outcome State Fault Refusal := .next (injectCmd h cfg s)

/-- INJECT_STOP: the injection ends at its next update; without one the command changes nothing (log entry 40). -/
def injectStopCmd (h : Hdr) (s : State) : State :=
  s.hostCmd h 0x0411 .imm 0 .axis none none none (fun s =>
    (s.modAxis h.subj (fun x => { x with inj := x.inj.map (fun i => { i with stopping := true }) })).acceptImm h 0x0411
      s.cycle 0 none)

def execInjectStop (h : Hdr) (s : State) : Host.Outcome State Fault Refusal := .next (injectStopCmd h s)

/-- INJECTION_END: all D updates have been made, or the injection was stopped and its next update has come: its FINAL. -/
def injectionEndCmd (a : Nat) (s : State) : State :=
  match (s.axis a).inj with
  | some i => if i.duration ≤ i.j then s.endInjection a St.ok i.lastCycle else s
  | none => s

def execInjectionEnd (a : Nat) (s : State) : Host.Outcome State Fault Refusal := .next (injectionEndCmd a s)

end Sys2Proof.Machine
end

