-- ==== Sys2Proof/Machine/Views.lean ====
section
/-!
DEFINITION. What BAR0 reads (R14, R17 to R19, R344, R540): the fields that show the state of a block rather than a held value,
the latches of the wide registers, and what a read clears.
-/

namespace Sys2Proof.Machine

open Sys2Proof

/-! ### Fields that follow the state -/

/-- Word `i` of a wide value as its _LO, _MID and _HI show it (R13). -/
def wideWord (i n : Nat) : Nat := n / 2 ^ (32 * i) % 2 ^ 32

/-- SYS (R542). -/
def State.viewSys (s : State) (off : Nat) : Nat :=
  if off = 0x004 then Config.dieStepping.toNat
  else if off = 0x008 then
    s.grade % 4 + 4 * bit01 s.conductor + 8 * (s.bootsel % 4) + 32 * bit01 (decide (s.grade = 2))
  else if off = 0x00C ∨ off = 0x018 then 0
  else if off = 0x01C then
    (s.fab.started &&& ~~~s.fab.stopped &&& ~~~s.sec.halted).toNat + 2 ^ 16 * s.fab.stopped.toNat
  else if 0x020 ≤ off ∧ off < 0x050 then s.fab.idle ((off - 0x020) / 4)
  else (s.reg off).toNat

/-- HIF (R544). -/
def State.viewHif (s : State) (off : Nat) : Nat :=
  if off = R.hifWake then 0
  else if R.cqStat 0 ≤ off ∧ off < R.cqStat 16 then
    let n := (off - R.cqStat 0) / 4
    bit01 (s.bit (R.cqCfg n) 0) + 2 * s.fld off 1 2 + 2 ^ 8 * s.fld off 8 1 + 2 ^ 16 * min 255 (s.ring n).opens.length
  else (s.reg off).toNat

/-- TIM (R77). -/
def State.viewTim (s : State) (off : Nat) : Nat :=
  if off < 0x80C then wideWord ((off - 0x800) / 4) s.now
  else if off = R.timCycle then s.cycle % 2 ^ 32
  else if off = R.timCfg then s.rung % 8
  else if R.timEpoch ≤ off ∧ off < R.timEpochCyc then wideWord ((off - R.timEpoch) / 4) (s.epoch % 2 ^ 72)
  else if off = R.timEpochCyc then s.nE % 2 ^ 32
  else if off = R.timStat then (putBits (s.reg off) 2 1 (bit01 s.bb.lantern)).toNat
  else (s.reg off).toNat

/-- SEC_STAT as it reads (R524). -/
def State.secStat (s : State) : Nat :=
  s.sec.lcs % 4 + 4 * bit01 s.sec.debugKey.isSome + 8 * s.fld R.secStat 3 3 + 2 ^ 8 * (s.sec.secCnt % 64)

/-- SEC and DBG (R524). -/
def State.viewSec (s : State) (off : Nat) : Nat :=
  if off = R.secStat then s.secStat
  else if 0x1010 ≤ off ∧ off < 0x1030 then
    match s.sec.debugKey with
    | some key => if s.sec.lcs = 0 then 0 else Machine.field (Config.sha256 key) (off - 0x1010) 4
    | none => 0
  else if off = R.dbgStat then
    bit01 s.sec.session + 2 * bit01 s.sec.auth + 4 * min 3 s.sec.fails + 16 * bit01 s.sec.lockout + 2 ^ 16 * s.sec.halted.toNat
  else if off = R.dbgCtl then 2 * bit01 s.sec.lock
  else (s.reg off).toNat

/-- Code of a stage set's state (R391). -/
def SetState.code : SetState → Nat
  | .closed => 0
  | .opened => 1
  | .checking => 2
  | .committing => 3

/-- Live records of the journal, a mirrored one counted once. -/
def State.liveRecords (s : State) : Nat :=
  s.liveCount 0 + (s.jnl.bank1.filter (fun e => match e.2 with
    | some r => s.recLive 1 r && !s.jnl.bank0.any (fun q => match q.2 with | some x => decide (x.wseq = r.wseq) | none => false)
    | none => false)).length

/-- JNL (R391). FULL shows the run of refusals of which EV59 code 3 reports the first. -/
def State.viewJnl (s : State) (off : Nat) : Nat :=
  if off = R.jnlStat then
    s.fld off 0 2 + 4 * bit01 s.mramHold + 8 * bit01 s.jnl.fullRun + 16 * bit01 (decide (s.pw.boot = .replay)) +
      2 ^ 8 * s.fld off 8 3
  else if off = 0x1404 then (16384 - s.liveCount 0) + 2 ^ 16 * (16384 - s.liveCount 1)
  else if off = 0x1408 then min 65535 s.liveRecords + 2 ^ 16 * min 65535 s.openCount
  else if off = 0x140C then s.jnl.wseq % 2 ^ 32
  else if off = 0x1410 then s.jnl.writes0 % 2 ^ 32
  else if off = 0x1414 then s.jnl.writes0 / 2 ^ 32 % 2 ^ 16
  else if off = 0x1418 then s.jnl.writes1 % 2 ^ 32
  else if off = 0x141C then s.jnl.writes1 / 2 ^ 32 % 2 ^ 16
  else if off = 0x142C then s.jnl.restartCause % 2 ^ 8
  else if off = 0x1430 then
    ((List.range 4).map (fun i => (s.stageSet i).state.code * 2 ^ (4 * i))).sum + 2 ^ 16 * (4096 - s.itemsUsed)
  else if off = 0x1434 then
    match s.stage.commit with
    | some k => if k.phase = .awaiting ∧ k.named = none then 0xFFFFFFFF else k.cycle % 2 ^ 32
    | none => 0xFFFFFFFF
  else if off = 0x1438 then bit01 s.stage.copyB + 2 ^ 8 * (s.storeNow.gen % 2 ^ 24)
  else (s.reg off).toNat

/-- STATE of BBN_GSTAT. -/
def ColdState.code : ColdState → Nat
  | .listen => 1
  | .coldstart => 2
  | .lead => 3
  | .integrate => 4
  | .announce => 5
  | .conductor => 6

/-- Numbers of the nodes whose record on lane `n` has state `st`. -/
def State.laneCount (s : State) (n : Nat) (st : RecState) : Nat :=
  (s.bb.nodes.filter (fun e => decide (s.lineOf e.2.lane = n) && decide (e.2.state = st))).length

/-- Delay of the hop into node `m`, LSB 2^-8 ns: the first hop's is measured at the lane's own port, that of a hop beyond it at the
node's (log entry 45). -/
def State.nodeDly (s : State) (m : Nat) : Nat :=
  let x := s.noderec m
  if x.state ≠ .absent ∧ x.position = 1 then s.fld (R.bbDly x.lane) 0 24 else x.dly % 2 ^ 24

/-- BBN (R295). -/
def State.viewBbn (s : State) (off : Nat) : Nat :=
  let sel := s.fld R.bbNodeSel 0 8
  let x := s.noderec sel
  if off < 0x2400 ∧ off % 0x100 = 0x1C then
    let n := (off - 0x2000) / 0x100
    s.laneCount n .member % 256 + 2 ^ 8 * (s.laneCount n .announced % 256) + 2 ^ 16 * (s.laneCount n .quarantined % 256) +
      2 ^ 24 * s.fld off 24 8
  else if off < 0x2400 ∧ off % 0x100 = 0x14 then s.firstLen ((off - 0x2000) / 0x100)
  else if off = 0x2404 then
    s.bb.cold.code + 8 * (s.bb.number % 4) + 2 ^ 8 * min 255 s.bb.handovers +
      2 ^ 16 * ((s.bb.nodes.filter (fun e => decide (e.2.state = .member))).length % 512)
  else if off = 0x2408 then s.uid % 2 ^ 32
  else if off = 0x240C then s.uid / 2 ^ 32 % 2 ^ 32
  else if off = 0x2414 then
    x.state.code + 8 * (x.reason % 8) + 2 ^ 6 * (s.lineOf x.lane % 4) + 2 ^ 8 * (x.position % 256) + 2 ^ 16 * bit01 x.locked +
      2 ^ 17 * bit01 x.skegil
  else if off = 0x2418 then s.nodeDly sel
  else if off = 0x241C then
    let prop := s.fld (R.bbCfg x.lane) 16 16
    if prop = 0 then 0 else min 65535 (rnd ((s.nodeDly sel : Rat) / 256 * 1000 / prop)).toNat
  else (s.reg off).toNat

/-- PWM_Pk_CNT: live count, down phase and m (R249, R251, R264). -/
def State.pwmCount (s : State) (k : Nat) : Nat :=
  let p := s.pwmp k
  let ticks := s.periodTicks k p.period
  let t := s.periodTick k
  let up := (ticks + 1) / 2
  let (c, down) := if s.bit (R.pwmCfg k) 1 = false ∧ up ≤ t then (2 * up - t, 1) else (t, 0)
  c % 2 ^ 17 + 2 ^ 17 * down + 2 ^ 18 * (if s.bit (R.pwmCfg k) 0 then (p.m + 15) % 16 else 0)

/-- PWM (R264). -/
def State.viewPwm (s : State) (off : Nat) : Nat :=
  if off < 0x3100 then
    let k := (off - 0x3000) / 0x40
    let o := off % 0x40
    if o = 0x10 then s.pwmCount k
    else if o = 0x2C then s.fld off 0 3 + 8 * bit01 (s.override k).isSome + 2 ^ 8 * s.fld off 8 2
    else if o = 0x30 then 0
    else (s.reg off).toNat
  else if 0x3200 ≤ off ∧ off < 0x3280 ∧ off % 0x20 = 0x14 then
    let x := s.chopper ((off - 0x3200) / 0x20)
    bit01 x.on + 2 * s.fld off 1 1 + 4 * bit01 (x.open_ || x.ovl)
  else (s.reg off).toNat

/-- FBK (R216): PIN_BUSY is live. -/
def State.viewFbk (s : State) (off : Nat) : Nat :=
  let k := (off - 0x3800) / 0x100
  let o := off % 0x100
  if o = 0xA4 ∨ o = 0xE4 then
    let j := (o - 0xA4) / 0x40
    s.fld off 0 2 + 4 * bit01 (s.cmpPinBusy k (s.fld (R.cmpCtl k j) 2 2))
  else (s.reg off).toNat

/-- ADC (R459). A converter runs while IOE does (R522). -/
def State.viewAdc (s : State) (off : Nat) : Nat :=
  if off = R.adcStat then
    ((List.range 4).map (fun k => bit01 (s.live && s.engineRuns 10) * 2 ^ k + bit01 (s.adcForced k) * 2 ^ (4 + k))).sum +
      2 ^ 8 * s.fld off 8 1
  else if 0x4100 ≤ off ∧ off < 0x4200 ∧ off % 0x40 = 0x08 then
    let k := (off - 0x4100) / 0x40
    bit01 (s.adcv k).busy + 2 * bit01 (s.adcForced k) + 2 ^ 8 * s.fld off 8 2
  else (s.reg off).toNat

/-- SDM (R246). -/
def State.viewSdm (s : State) (off : Nat) : Nat :=
  if off = 0x4804 then
    ((List.range 16).map (fun c => s.fld (R.sdmStat c) 0 1 * 2 ^ c + s.fld (R.sdmStat c) 1 1 * 2 ^ (16 + c))).sum
  else if off = 0x4808 then
    ((List.range 4).map (fun c => let x := s.chopper c
      bit01 x.on * 2 ^ c + bit01 x.open_ * 2 ^ (4 + c) + bit01 x.ovl * 2 ^ (8 + c))).sum
  else (s.reg off).toNat

/-- DIO (R472). -/
def State.viewDio (s : State) (off : Nat) : Nat :=
  if off = R.dioStat then (putBits (s.reg off) 1 1 (bit01 s.die.up)).toNat
  else if off = R.dioTest then 0
  else if 0x5100 ≤ off ∧ off < 0x5140 then (s.chCfg ((off - 0x5100) / 4)).toNat
  else (s.reg off).toNat

/-- CAN (R488). Whether a frame is on the bus between two rows, and the loop delay TDCV, are free values (log entry 46). -/
def State.viewCan (s : State) (off : Nat) : Nat :=
  let k := (off - 0x5800) / 0x400
  let w := (Config.freeWord s.free).toNat
  if off = R.canStat k then (putBits (s.reg off) 2 1 (if s.canOn k then w else 0)).toNat
  else if off = R.canTdc k then (putBits (s.reg off) 16 7 (if s.canOn k ∧ s.bit off 0 = true then w else 0)).toNat
  else (s.reg off).toNat

/-- Largest free area of the capture region (R427). -/
def State.largestFree (s : State) : Nat :=
  let ends := 0 :: s.armed.map (fun q => q.base + q.size)
  ends.foldl (fun m b =>
    if s.armed.any (fun q => decide (q.base ≤ b) && decide (b < q.base + q.size)) then m
    else
      let top := (s.armed.filter (fun q => decide (b ≤ q.base))).foldl (fun t q => min t q.base) 2048
      max m (top - b)) 0

/-- STATE of ACQ_Pp_STAT (R443). -/
def Pod.stat (q : Pod) (now : Nat) : Nat :=
  if q.ending || q.allRecorded || (decide (0 < q.pea.index) && decide (0 < t72Diff now q.pea.startAt)) then 3
  else if q.pea.trig.isSome then 2
  else 1

/-- ACQ (R443). -/
def State.viewAcq (s : State) (off : Nat) : Nat :=
  if off = 0x6000 then
    ((List.range 8).map (fun p => bit01 (s.pod p).isSome * 2 ^ p)).sum + 2 ^ 8 * (s.injections % 16)
  else if off = 0x6004 then s.largestFree
  else if off = 0x600C then
    if s.grade = 2 then (s.axisNos.filter (fun a => decide ((s.axis a).trace.state = 3))).length else 0
  else if 0x6100 ≤ off ∧ off < 0x6200 ∧ off % 0x20 = 0 then
    (match s.pod ((off - 0x6100) / 0x20) with
     | some q => q.stat s.now + 4 * bit01 q.cont + 8 * bit01 q.fast
     | none => 0) + 2 ^ 8 * s.fld off 8 2
  else if 0x6100 ≤ off ∧ off < 0x6200 ∧ off % 0x20 = 0x10 then
    match s.pod ((off - 0x6100) / 0x20) with
    | some q => q.base % 4096 + 2 ^ 16 * (q.size % 4096)
    | none => 0
  else (s.reg off).toNat

/-- A register as an aligned read shows it live, by the blocks of R539; zero at a reserved address (R18). -/
def State.live32 (s : State) (off : Nat) : Reg32 :=
  if (regDesc? off).isNone then 0
  else BitVec.ofNat 32
    (if off < 0x400 then s.viewSys off
     else if off < 0x800 then s.viewHif off
     else if off < 0xC00 then s.viewTim off
     else if off < 0x1000 then (s.reg off).toNat
     else if off < 0x1400 then s.viewSec off
     else if off < 0x2000 then s.viewJnl off
     else if off < 0x3000 then s.viewBbn off
     else if off < 0x3800 then s.viewPwm off
     else if off < 0x4000 then s.viewFbk off
     else if off < 0x4800 then s.viewAdc off
     else if off < 0x5000 then s.viewSdm off
     else if off < 0x5800 then s.viewDio off
     else if off < 0x6000 then s.viewCan off
     else if off < 0x7000 then s.viewAcq off
     else s.safWord (off - 0x7000))

/-! ### Where BAR0 answers (R344, R540) -/

/-- SYS_ID, SYS_REV and SYS_CONF. -/
def idReg (off : Nat) : Bool := decide (off < 0x00C)

/-- How an offset answers in the present state: its register, all ones, or zero. -/
inductive Answers where
  | register
  | ones
  | zero
  deriving DecidableEq, Repr

def State.answers (s : State) (off : Nat) : Answers :=
  let sec := decide (0x1000 ≤ off ∧ off < 0x1400)
  if s.sec.lcs = 3 then
    if s.mode = .standby then (if idReg off || decide (off = R.hifWake) then .register else .ones)
    else if idReg off || sec then .register else .zero
  else if s.mode = .standby then (if idReg off || decide (off = R.hifWake) then .register else .ones)
  else if s.mode = .notUp then (if decide (off < 0x400) || sec then .register else .zero)
  else .register

/-- What part of which wide value an offset shows: the offset of its _LO. -/
def wideLo (d : RegDesc) (off : Nat) : Nat :=
  match d.part with
  | .plain => off
  | .lo _ => off
  | .mid => off - 4
  | .hi w => if w = 72 then off - 8 else off - 4

/-- TIM_PTM_HOST as the last read of TIM_PTM_T72_LO latched it with the T72 of the pair (R70). -/
def State.ptmHeld (s : State) : Reg32 × Reg32 := SMap.get ((0 : Reg32), (0 : Reg32)) s.latches R.timPtmHost

/-- The value an aligned read returns: the copy latched by the last read of _LO for _MID and _HI (R14). -/
def State.readValue (s : State) (off : Nat) : Reg32 :=
  match s.answers off with
  | .ones => 0xFFFFFFFF
  | .zero => 0
  | .register =>
    match regDesc? off with
    | none => 0
    | some d =>
      match d.part with
      | .mid => (SMap.get ((0 : Reg32), (0 : Reg32)) s.latches (wideLo d off)).1
      | .hi _ => (SMap.get ((0 : Reg32), (0 : Reg32)) s.latches (wideLo d off)).2
      | _ =>
        if off = R.timPtmHost then s.ptmHeld.1
        else if off = R.timPtmHost + 4 then s.ptmHeld.2
        else s.live32 off

/-- What an aligned read of a register does beside answering: _LO latches the whole value (R14), and TIM_PTM_T72_LO both values of
the PTM pair (R70); RC fields clear (R17). A free
value it showed is used up. -/
def State.readEffect (s : State) (off : Nat) : State :=
  if s.answers off ≠ .register then s
  else
    match regDesc? off with
    | none => s
    | some d =>
      let t := { s with free := s.free + 1 }
      match d.part with
      | .lo w =>
        let mid : Reg32 := if w = 72 then s.live32 (off + 4) else 0
        let hi : Reg32 := if w = 72 then s.live32 (off + 8) else s.live32 (off + 4)
        let l := t.latches.set ((0 : Reg32), (0 : Reg32)) off (mid, hi)
        { t with latches := if off = R.timPtmT72 then
            l.set ((0 : Reg32), (0 : Reg32)) R.timPtmHost (s.live32 R.timPtmHost, s.live32 (R.timPtmHost + 4)) else l }
      | _ => if d.rc = 0 then t else t.setReg off (s.reg off &&& ~~~(BitVec.ofNat 32 d.rc))

/-- An aligned 32-bit read: the value on the bus, and its effects. -/
def State.readReg (s : State) (off : Nat) : State :=
  let v := s.readValue off
  let t := s.readEffect off
  { t with host := { t.host with busRead := v.zeroExtend 64 } }

/-- PCIe carries reads to the VLN: a conductor whose host link is up (R5, R364). -/
def State.hostReads (s : State) : Bool := s.conductor && s.hostUp

/-- LO_REGISTER_READ. -/
def loRegisterReadCmd (off : Nat) (s : State) : State := if s.hostReads then s.readReg off else s

def execLoRegisterRead (off : Nat) (s : State) : Host.Outcome State Fault Refusal := .next (loRegisterReadCmd off s)

/-- RC_REGISTER_READ. -/
def rcRegisterReadCmd (off : Nat) (s : State) : State := if s.hostReads then s.readReg off else s

def execRcRegisterRead (off : Nat) (s : State) : Host.Outcome State Fault Refusal := .next (rcRegisterReadCmd off s)

/-- The bytes that a read of `size` bytes from `off` returns (R19): those of the register that holds its first byte, then zeros.
Bytes of a _LO register are live (R14). -/
def State.badReadValue (s : State) (off size : Nat) : Nat :=
  (s.readValue (off / 4 * 4)).toNat / 2 ^ (8 * (off % 4)) % 2 ^ (8 * size)

/-- BAD_REGISTER_ACCESS: an access that is not an aligned 32-bit one (R19). -/
def badRegisterAccessCmd (write : Bool) (off size v : Nat) (s : State) : State :=
  let _ := v
  if s.hostReads = false ∨ (off % 4 = 0 ∧ size = 4) then s
  else if write then s.evBadReg
  else { s with host := { s.host with busRead := BitVec.ofNat 64 (s.badReadValue off size) } }

def execBadRegisterAccess (write : Bool) (off size v : Nat) (s : State) : Host.Outcome State Fault Refusal :=
  .next (badRegisterAccessCmd write off size v s)

end Sys2Proof.Machine
end

