-- ==== Sys2Proof/Machine/Lifecycle.lean ====
section
/-!
DEFINITION. The commands that change flash and fuses: FW_UPDATE with the write of its slot (R516, R517, R528), LIFECYCLE_SET
with the write of its fuses (R513, R520).
-/

namespace Sys2Proof.Machine

open Sys2Proof

/-! ### FW_UPDATE (R517) -/

/-- The image at `addr`: its header and, as far as the bounds of R515 let it be read, its body. -/
def State.imageAt (s : State) (addr len : Nat) : Option Image :=
  match s.memRd addr (min len 256) with
  | none => none
  | some head =>
    if len < 256 ∨ 256 + (3 * 2 ^ 20 + 192) < len then some ⟨head, []⟩
    else (s.memRd (addr + 256) (len - 256)).map (fun body => ⟨head, body⟩)

/-- Status with which FW_UPDATE fails, by the table of R517. -/
def State.updateStatus (s : State) (im : Image) (len : Nat) : Option Nat :=
  if len < 256 ∨ len ≠ 256 + Machine.field im.header 12 4 then some St.argument
  else
    match imageCause s.sec.secCnt im with
    | some c => some (if c = 6 then St.version else St.signature)
    | none => none

/-- FW_UPDATE: the image is checked; one that passes is written, unless boot by host download is selected. -/
def fwUpdateCmd (h : Hdr) (addr len : Nat) (s : State) : State :=
  let im := s.imageAt addr len
  s.hostCmd h 0x0601 .long 0 .none (if alignedAddr addr && im.isSome then none else some St.hostAddress) none none (fun s =>
    let own := s.openFor h 0x0601
    let s := s.acceptLong h 0x0601 0 []
    let im := im.getD ⟨[], []⟩
    match s.updateStatus im len with
    | some st => s.finalPlain own st
    | none =>
      if s.bootsel = 1 then s.final own St.ok s.cycle 1 none []
      else { s with flash := { s.flash with updating := s.flash.updating ++ [(own, im)] } })

def execFwUpdate (h : Hdr) (addr len : Nat) (s : State) : Host.Outcome State Fault Refusal :=
  .next (fwUpdateCmd h addr len s)

/-- The slot in use: the one that SEC_STAT names (R517, R524). -/
def State.slotInUse (s : State) : Nat := s.fld R.secStat 3 1

/-- SEQ of the boot record copies, the newer of them. -/
def Flash.newestSeq (f : Flash) : Nat :=
  match bootRec f.rec0, bootRec f.rec1 with
  | some a, some b => if 0 < cycDiff a.1 b.1 then b.1 else a.1
  | some a, none => a.1
  | none, some b => b.1
  | none, none => 0

/-- The older copy is copy 0 (a copy that is not valid counts as the older). -/
def Flash.olderIs0 (f : Flash) : Bool :=
  match bootRec f.rec0, bootRec f.rec1 with
  | some a, some b => decide (0 < cycDiff a.1 b.1)
  | some _, none => false
  | none, _ => true

/-- An image stands in `slot` and the boot record names it: the older copy is rewritten with the next SEQ (R528). -/
def Flash.nameSlot (f : Flash) (slot : Nat) (im : Image) : Flash :=
  let r := bootRecBytes ((f.newestSeq + 1) % 2 ^ 32) slot
  let f := if slot = 0 then { f with slot0 := some im } else { f with slot1 := some im }
  if f.olderIs0 then { f with rec0 := r } else { f with rec1 := r }

/-- IMAGE_SLOT_WRITTEN: the oldest update ends. Of an image that reads back wrong the spec gives no status: it is a free value, and
the boot record stays (log entry 49). -/
def imageSlotWrittenCmd (readBackOk : Bool) (s : State) : State :=
  match s.flash.updating with
  | [] => s
  | (own, im) :: rest =>
    if s.live = false ∨ s.svRuns = false then s
    else
      let s := { s with flash := { s.flash with updating := rest } }
      let slot := 1 - s.slotInUse
      if readBackOk then { s with flash := s.flash.nameSlot slot im }.finalPlain own St.ok
      else
        let (w, s) := s.freeW
        let bad : Image := ⟨[], []⟩
        let f := if slot = 0 then { s.flash with slot0 := some bad } else { s.flash with slot1 := some bad }
        { s with flash := f }.finalPlain own (w.toNat % 2 ^ 16)

def execImageSlotWritten (readBackOk : Bool) (s : State) : Host.Outcome State Fault Refusal :=
  .next (imageSlotWrittenCmd readBackOk s)

/-! ### LIFECYCLE_SET (R513) -/

/-- The 64 bytes of the AUTH buffer, which OPEN → FIELD does not read. -/
def State.authBytes (s : State) (state auth : Nat) : Option (List Byte) :=
  if state = 2 ∧ s.sec.lcs = 1 then some []
  else if alignedAddr auth then s.memRd auth 64
  else none

/-- What the debug key signs for retirement: SEC_STAT and the UID. -/
def State.retireDigest (s : State) : List Byte := Config.sha256 (leBytes 4 s.secStat ++ leBytes 8 s.uid)

/-- A transition of the table, with its key on the curve or its signature right; one that waits for its fuses bars others. -/
def State.lifecycleOk (s : State) (state : Nat) (bs : List Byte) : Bool :=
  s.sec.setOwn.isNone &&
  (match s.sec.lcs, state with
   | 0, 1 => Config.onP256 bs
   | 1, 2 => true
   | 1, 3 => Config.ecdsaVerifies (s.sec.debugKey.getD []) s.retireDigest bs
   | 2, 3 => Config.ecdsaVerifies (s.sec.debugKey.getD []) s.retireDigest bs
   | _, _ => false)

/-- LIFECYCLE_SET: the fuses are being written until LIFECYCLE_FUSES_WRITTEN. -/
def lifecycleSetCmd (h : Hdr) (state auth : Nat) (s : State) : State :=
  let bs := s.authBytes state auth
  let fmt : Option Nat :=
    if state < 1 ∨ 3 < state then some St.argument
    else if state = 2 ∧ s.sec.lcs = 1 ∧ auth ≠ 0 then some St.argument
    else if bs.isNone then some St.hostAddress
    else none
  s.hostCmd h 0x0605 .long 0 .none fmt (if s.isIdle then none else some (St.wrongPower, 0))
    (if s.lifecycleOk state (bs.getD []) then none else some (St.lifecycle, 0)) (fun s =>
      let own := s.openFor h 0x0605
      let s := s.acceptLong h 0x0605 0 []
      { s with sec := { s.sec with setOwn := some (own, state, bs.getD []) } })

def execLifecycleSet (h : Hdr) (state auth : Nat) (s : State) : Host.Outcome State Fault Refusal :=
  .next (lifecycleSetCmd h state auth s)

/-- What retirement erases: the parameter store, the safety image and the journal; the debug key fuses become all ones. -/
def State.erase (s : State) : State :=
  { s with
    stage := { s.stage with storeA := {}, storeB := {}, copyB := false, namedB := false }
    saf := { s.saf with sets := [], confirmed := [] }
    jnl := { s.jnl with bank0 := [], bank1 := [], next0 := 0, next1 := 0 }
    sec := { s.sec with debugKey := some (List.replicate 64 0xFF) } }

/-- Records that still wait leave without a journal record: the journal is erased, and the restart follows at once. -/
def State.leaveAll (s : State) : State :=
  State.drain { s with host := { s.host with outbox := s.host.outbox.map (fun r => { r with journal := 0 }) } }

/-- LIFECYCLE_FUSES_WRITTEN: the new state takes effect, a session ends, and the FINAL follows. Fuses that do not verify leave
everything as it is. Into RETIRED the stores in MRAM are erased, which waits until MRAM takes writes (R41). -/
def lifecycleFusesWrittenCmd (verified : Bool) (s : State) : State :=
  match s.sec.setOwn with
  | none => s
  | some (own, state, bs) =>
    if s.live = false ∨ s.svRuns = false ∨ verified = false ∨ (state = 3 ∧ s.mramOpen = false) then s
    else
      let key := if state = 1 then some bs else s.sec.debugKey
      let s := { s with sec := { s.sec with setOwn := none, lcs := state, debugKey := key } }
      let s := (s.endSession.evDebug none 10).finalPlain own St.ok
      if state = 3 then s.leaveAll.erase.bootFrom 7 else s

def execLifecycleFusesWritten (verified : Bool) (s : State) : Host.Outcome State Fault Refusal :=
  .next (lifecycleFusesWrittenCmd verified s)

end Sys2Proof.Machine
end

