-- ==== Sys2Proof/Machine/Replay.lean ====
section
/-!
DEFINITION. Replay of the journal after a restart (R385 to R387, R563): rings and sequence numbers restored, owed records
rewritten, and open long commands ended or kept.
-/

namespace Sys2Proof.Machine

open Sys2Proof

/-! ### The records in order -/

/-- `r` in front of the records written after it. -/
def insertRec (r : JRec) : List JRec → List JRec
  | [] => [r]
  | q :: rest => if 0 < cycDiff r.wseq q.wseq then r :: q :: rest else q :: insertRec r rest

/-- Records of a bank. -/
def bankRecs (m : SMap (Option JRec)) : List JRec := m.filterMap (fun e => e.2)

/-- Mirror copies merged by WSEQ, in the order of writing. -/
def State.journalRecs (s : State) : List JRec :=
  let a := (bankRecs s.jnl.bank0).filter (fun r => r.crcOk)
  let b := (bankRecs s.jnl.bank1).filter (fun r => r.crcOk && !a.any (fun q => decide (q.wseq = r.wseq)))
  (a ++ b).foldl (fun l r => insertRec r l) []

/-- Records that fail their CRC. -/
def State.badRecs (s : State) (b : Nat) : Nat := ((bankRecs (s.bank b)).filter (fun r => !r.crcOk)).length

/-- Records that fail their CRC are discarded; a bank that holds one is retired (R385, R388). -/
def State.dropBad (s : State) (b : Nat) : State :=
  let n := s.badRecs b
  if n = 0 then s
  else
    let keep (e : Nat × Option JRec) : Bool := match e.2 with
      | some r => r.crcOk
      | none => false
    ((s.setBank b ((s.bank b).filter keep)).bumpFld R.jnlReplay 16 16 n).bankFault b

/-! ### Rings -/

/-- The registers of ring `n` from its set-up record (R379, log entry 41). -/
def State.restoreSetup (s : State) (n : Nat) (r : JRec) : State :=
  let w (o k : Nat) : Reg32 := BitVec.ofNat 32 (Machine.field r.body o k)
  let s := (s.setReg (R.cqLo n) (w 0 4)).setReg (R.cqHi n) (w 4 4)
  let s := (s.setReg (R.crLo n) (w 8 4)).setReg (R.crHi n) (w 12 4)
  let s := (s.setReg (R.cqCfg n) (putBits (w 16 2) 0 1 (Machine.field r.body 19 1))).setReg (R.crCfg n) (w 18 1)
  (s.setReg R.dbLo (BitVec.ofNat 32 r.tag)).setReg R.dbHi (BitVec.ofNat 32 (r.tag / 2 ^ 32))

/-- The FINALs of ring `n` with a place in its present completion ring. -/
def ringFinals (j : List JRec) (n : Nat) : List JRec :=
  j.filter (fun r => decide (r.ring = n) && (decide (r.rtype = 1) || decide (r.rtype = 3)) && !j.any (fun q => q.restarts r))

/-- The highest, or with `low` the lowest, of `i` and the indices of `rs`. -/
def boundIdx (low : Bool) (i : Nat) (rs : List JRec) : Nat :=
  rs.foldl (fun i r => if (if low then 0 < cycDiff r.crIdx i else 0 < cycDiff i r.crIdx) then r.crIdx else i) i

/-- An owed record as it waits while the host link is down. An extended result that its record does not hold is lost (R563): EXT is set,
and there are no bytes of it. -/
def State.owedRec (s : State) (r : JRec) : OutRec :=
  { ring := r.ring, handle := s.handle r.ring r.seq, tag := r.tag, status := r.status, kind := .final,
    ext := if r.ext then some (r.extBytes.getD []) else none, opcode := r.opcode, cycle := r.cycle,
    detail := r.detail, irq := r.irq, subj := r.subj, seq := r.seq, journal := 0, extra := 0, body := [] }

/-- An owed record is rewritten into its slot, byte for byte, and its cache entry rebuilt (R385, R563). -/
def State.rewriteOwed (s : State) (r : JRec) : State :=
  let n := r.ring
  let s := s.memWr (s.base (R.crLo n) (R.crHi n) + 32 * (r.crIdx % s.crSize n)) ((s.owedRec r).bytes (s.crPhase n r.crIdx))
  s.rebuildResult n r.seq

/-- `r` in its place by CR index. -/
def insertIdx (r : JRec) : List JRec → List JRec
  | [] => [r]
  | q :: rest => if 0 < cycDiff r.crIdx q.crIdx then r :: q :: rest else q :: insertIdx r rest

/-- Ring `n` comes up: sequence number, which goes on from the highest that a record has carried (R348), indices and phase, and its owed
records. `db` is the doorbell block, none where it could
not be read: the owed records then wait. -/
def State.restoreRing (s : State) (j : List JRec) (db : Option (List Byte)) (n : Nat) : State :=
  let seq := (j.filter (fun r => decide (r.ring = n) && decide (r.rtype ≤ 4))).foldl (fun m r => max m r.seq) (SMap.get 0 s.jnl.lastSeq n)
  let fins := ringFinals j n
  match j.filter (fun r => decide (r.rtype = 5) && decide (r.ring = n)), db with
  | [], _ => s.setRing n { s.ring n with seq := seq }
  | _, some bs =>
    let crCi := Machine.field bs (64 + 4 * n) 4
    let crPi := boundIdx false crCi (fins.map (fun r => { r with crIdx := (r.crIdx + 1) % 2 ^ 32 }))
    let cqCi := (j.filter (fun r => decide (r.ring = n) && (decide (r.rtype = 1) || decide (r.rtype = 2)) && !j.any (fun q => q.restarts r))).foldl
      (fun i r => if 0 < cycDiff i r.cqIdx then r.cqIdx else i) (Machine.field bs (192 + 4 * n) 4)
    let s := s.setRing n { s.ring n with seq := seq, cqCi := cqCi, cqPi := cqCi, crCi := crCi, crPi := crPi, phase := s.crPhase n crPi }
    let owed := fins.filter (fun r => decide (0 ≤ cycDiff crCi r.crIdx))
    (owed.foldl (fun l r => insertIdx r l) []).foldl (fun s r => s.rewriteOwed r) s
  | _, none =>
    let first := boundIdx true ((fins.head?.map (fun r => r.crIdx)).getD 0) fins
    let s := s.setRing n { s.ring n with seq := seq, crCi := first, crPi := first, phase := s.crPhase n first }
    { s with host := { s.host with outbox := s.host.outbox ++ (fins.foldl (fun l r => insertIdx r l) []).map s.owedRec } }

/-! ### Open long commands (R386) -/

/-- Long commands with an ACCEPT and no FINAL, in the order of acceptance. -/
def openRecs (j : List JRec) : List JRec :=
  j.filter (fun r => decide (r.rtype = 2) && !j.any (fun q => decide (q.rtype = 3) && decide (q.ring = r.ring) && decide (q.seq = r.seq)))

/-- What an ACCEPT record says of its command. -/
def JRec.own (r : JRec) : Open :=
  { ring := r.ring, seq := r.seq, tag := r.tag, opcode := r.opcode, irq := r.irq, accepted := r.cycle, subj := r.subj }

def isMove (op : Nat) : Bool := decide (op = 0x0101 ∨ op = 0x0103)
def isGroupMove (op : Nat) : Bool := decide (op = 0x0110 ∨ op = 0x0112)

/-- The move of an ACCEPT record (R380): limits with LSB 2^-16. -/
def JRec.move (r : JRec) : Move :=
  let lim (o : Nat) : Int := sext 56 (Machine.field r.body o 7) * 2 ^ 16
  { target := field72 r.body 0, v := lim 9, a := lim 16, j := lim 23, dir := fDir (Machine.field r.body 30 1), own := r.own }

/-- The group move of an ACCEPT record and its extensions. -/
def State.groupMoveOf (s : State) (j : List JRec) (r : JRec) : GroupMove :=
  let ext := (j.filter (fun q => decide (q.rtype = 4) && decide (q.ring = r.ring) && decide (q.seq = r.seq))).flatMap (fun q => q.body)
  let m := r.move
  { targets := (s.members r.subj).zipIdx.map (fun e => (e.1, field72 ext (9 * e.2))), v := m.v, a := m.a, j := m.j, own := r.own }

/-- Of the open moves of one axis or group, in order of acceptance, the one that was executing or stopping: a RESUME always, a
MOVE with REPLACE, and otherwise the first, unless the newest FINAL of a move shows that a stop held the queue (log entry 50). -/
def executing (kind : Nat → Bool) (j : List JRec) (subj : Nat) (os : List JRec) : Option JRec :=
  match os.find? (fun r => decide (r.opcode = 0x0103 ∨ r.opcode = 0x0112) ||
      (decide (r.opcode = 0x0101) && fReplace (Machine.field r.body 30 1))) with
  | some r => some r
  | none =>
    match (j.filter (fun r => decide (r.rtype = 3) && kind r.opcode && decide (r.subj = subj))).getLast? with
    | some f => if f.status = St.moveStopped then none else os.head?
    | none => os.head?

/-- The FINAL that replay owes an open command. -/
def State.replayFinal (s : State) (r : JRec) : OutRec :=
  let o := r.own
  { ring := o.ring, handle := s.handle o.ring o.seq, tag := o.tag, status := St.abortedReset, kind := .final, ext := none,
    opcode := o.opcode, cycle := s.cycle, detail := 0, irq := o.irq, subj := o.subj, seq := o.seq, journal := 2, extra := 0,
    body := if isMove r.opcode then r.body.take 9 else [] }

/-- The kept moves of axis `a`: the interrupted one, and those that stay queued. -/
def State.keepMoves (s : State) (j : List JRec) (a : Nat) : State :=
  let os := (openRecs j).filter (fun r => isMove r.opcode && decide (r.subj = a))
  if os.isEmpty then s
  else
    let ex := executing isMove j a os
    let queue := (os.filter (fun r => decide (some r ≠ ex))).map JRec.move
    let s := { s with planNo := s.planNo + 1 }
    s.modAxis a (fun x => { x with
      cur := ex.map JRec.move, curOpen := false, queue := queue.map (fun m => { m with no := s.planNo - 1 }), kept := true,
      prof := .suspended })

/-- The kept moves of group `g`. -/
def State.keepGroup (s : State) (j : List JRec) (g : Nat) : State :=
  let os := (openRecs j).filter (fun r => isGroupMove r.opcode && decide (r.subj = g))
  if os.isEmpty then s
  else
    let ex := executing isGroupMove j g os
    let queue := (os.filter (fun r => decide (some r ≠ ex))).map (s.groupMoveOf j)
    let t := { s with planNo := s.planNo + 1 }
    t.setGroup g { s.group g with
      cur := ex.map (s.groupMoveOf j), curOpen := false, queue := queue.map (fun m => { m with no := s.planNo }), prof := .suspended }

/-- An open command that replay ends: all but moves that stay queued. -/
def endsAtReplay (j : List JRec) (r : JRec) : Bool :=
  let os (kind : Nat → Bool) : List JRec := (openRecs j).filter (fun q => kind q.opcode && decide (q.subj = r.subj))
  if isMove r.opcode then decide (executing isMove j r.subj (os isMove) = some r)
  else if isGroupMove r.opcode then decide (executing isGroupMove j r.subj (os isGroupMove) = some r)
  else true

/-- A FINAL that waits for p, or that follows one of its ring that does. -/
def State.mustHold (s : State) (r : OutRec) : Bool :=
  isMove r.opcode || isGroupMove r.opcode || s.jnl.replayHeld.any (fun q => decide (q.ring = r.ring))

/-- One open command, in ring order. -/
def State.replayOpen (s : State) (j : List JRec) (r : JRec) : State :=
  let g := s.ring r.ring
  let s := s.setRing r.ring { g with opens := g.opens ++ [r.own] }
  if endsAtReplay j r = false then s
  else
    let f := s.replayFinal r
    if s.mustHold f then { s with jnl := { s.jnl with replayHeld := s.jnl.replayHeld ++ [f] } }
    else (s.post f).bumpFld R.jnlReplay 0 16 1

/-- Open commands ring by ring, each ring's by sequence number. -/
def opensInOrder (j : List JRec) : List JRec :=
  (List.range 16).flatMap (fun n => (openRecs j).filter (fun r => decide (r.ring = n)))

/-- The restart record (R379): its cause stands in the first byte of BODY (log entry 51). -/
def State.restartRec (s : State) (cause : Nat) : JRec :=
  { rtype := 6, ring := 0, opcode := 0, wseq := 0, seq := 0, tag := 0, crIdx := 0, status := 0, subj := 0xFFFF, cycle := s.cycle,
    detail := 0, ext := false, irq := false, body := leBytes 1 cause, crcOk := true }

/-- JOURNAL_REPLAY. It waits while no MRAM write may begin. -/
def journalReplayCmd (s : State) : State :=
  if s.pw.boot ≠ .replay ∨ s.mramStop = true ∨ s.svRuns = false then s
  else
    let s := s.loadStore
    let j := s.journalRecs
    let s := (j.filter (fun r => decide (r.rtype = 5))).foldl (fun s r => s.restoreSetup r.ring r) s
    let base := s.base R.dbLo R.dbHi
    let db := if s.hostUp then s.memRd base 256 else none
    -- a doorbell block that cannot be read is reported (R340)
    let s := if s.hostUp = true ∧ db.isNone = true then s.evC 62 0xFFFF 2 else s
    let s := (List.range 16).foldl (fun s n => s.restoreRing j db n) s
    let s := (s.dropBad 0).dropBad 1
    let s := s.axisNos.foldl (fun s a => s.keepMoves j a) s
    let s := (List.range 16).foldl (fun s g => s.keepGroup j g) s
    let s := (opensInOrder j).foldl (fun s r => s.replayOpen j r) s
    let cause := s.pw.heldCause.getD 1
    let s := s.writeRecord (s.restartRec cause) none
    let s := { s with jnl := { s.jnl with restartCause := cause }, pw := { s.pw with boot := .replayed } }
    (s.evC 59 0xFFFF 5).ev 59 0xFFFF 4 (s.fld R.jnlReplay 0 16)

def execJournalReplay (s : State) : Host.Outcome State Fault Refusal := .next (journalReplayCmd s)

/-! ### Held FINALs (R386) -/

/-- p of an axis, where it is valid. -/
def State.validP (s : State) (a : Nat) : Option Int :=
  let x := s.axis a
  let (ok, p) := s.posSample x x.entry
  if ok ∧ 0 ≤ x.int Pn.fbSrc then some (reducePos (x.raw Pn.modulo) p) else none

/-- Axis and target that a held FINAL's REMAIN is taken from: the axis, or of a group the member with the longest way to go
(log entry 52). -/
def State.heldTarget (s : State) (r : OutRec) : Nat × Int :=
  if isMove r.opcode then (r.subj, field72 r.body 0)
  else
    let ts := match (s.group r.subj).cur with
      | some m => m.targets
      | none => []
    let lead := leadOf (ts.map (fun t => (t.1, t.2 - (s.validP t.1).getD t.2)))
    (lead, ((ts.find? (fun t => decide (t.1 = lead))).map (fun t => t.2)).getD 0)

/-- A held FINAL of a move as it is posted: with REMAIN, or after 2 s without p with the target. -/
def State.releasedFinal (s : State) (r : OutRec) : OutRec :=
  let (a, target) := s.heldTarget r
  match s.validP a with
  | some p =>
    let remain := satBits 72 (target - p)
    { r with detail := remainDetail remain, ext := some (fitBytes 64 (bytes72 remain)), body := leBytes 9 (Machine.tc 72 remain), cycle := s.cycle }
  | none =>
    { r with detail := 0x80000000, ext := some (fitBytes 64 (leBytes 16 0 ++ bytes72 target)), body := [], cycle := s.cycle }

/-- FINALs of `ring` leave the hold up to the next one of a move. -/
def State.releaseRest (s : State) (ring : Nat) (kept : List OutRec) : List OutRec → State
  | [] => { s with jnl := { s.jnl with replayHeld := kept.reverse } }
  | r :: rest =>
    if r.ring ≠ ring then s.releaseRest ring (r :: kept) rest
    else if isMove r.opcode || isGroupMove r.opcode then { s with jnl := { s.jnl with replayHeld := kept.reverse ++ r :: rest } }
    else ((s.post r).bumpFld R.jnlReplay 0 16 1).releaseRest ring kept rest

/-- REPLAY_FINAL_RELEASE: the first held FINAL of the ring is posted, and those after it that wait for no p of their own. -/
def replayFinalReleaseCmd (ring : Nat) (s : State) : State :=
  if s.pw.boot ≠ .replayed ∧ s.live = false then s
  else
    match s.jnl.replayHeld.find? (fun r => decide (r.ring = ring)) with
    | none => s
    | some r =>
      let f := s.releasedFinal r
      let s := (s.post f).bumpFld R.jnlReplay 0 16 1
      let s := if isMove r.opcode then s.modAxis r.subj (fun x => { x with remain := sext 72 (Machine.field f.body 0 9) }) else s
      s.releaseRest ring [] (s.jnl.replayHeld.erase r)

def execReplayFinalRelease (ring : Nat) (s : State) : Host.Outcome State Fault Refusal := .next (replayFinalReleaseCmd ring s)

end Sys2Proof.Machine
end

