-- ==== Sys2Proof/Machine/Poll.lean ====
section
/-!
DEFINITION. DOORBELL_POLL (R340 to R356): the doorbell block is fetched, what is owed leaves, commands are taken from the rings by
class and in turn, and the consumer indices are written back.
-/

namespace Sys2Proof.Machine

open Sys2Proof

/-! ### The command image (R346, R356) -/

/-- The header of an image on ring `n`. -/
def parseHdr (n : Nat) (bs : List Byte) : Hdr :=
  { ring := n, nslot := Machine.field bs 2 1, dflags := Machine.field bs 3 1, subj := Machine.field bs 4 2,
    zero := Machine.field bs 6 2, tag := Machine.field bs 8 8 }

/-- Signed integer of 8 bytes. -/
def fieldS64 (bs : List Byte) (o : Nat) : Int := sext 64 (Machine.field bs o 8)

/-- The (PN, VALUE) pairs of PARAM_WRITE. -/
def parseWrites (bs : List Byte) (count : Nat) : List (Nat × Int) :=
  (List.range (min count 9)).map (fun i => (Machine.field bs (24 + 24 * i) 8, field72 bs (32 + 24 * i)))

/-- The meaning of the command in an image, by its opcode; none where the table lists no such opcode. -/
def hostRun (h : Hdr) (op : Nat) (b : List Byte) : Option (State → State) :=
  let f := Machine.field b
  let q := field72 b
  match op with
  | 0x0001 => some (nopCmd h)
  | 0x0002 => some (fenceCmd h (f 16 2) (f 18 1))
  | 0x0003 => some (queryCmd h (f 16 8) (f 24 8))
  | 0x0101 => some (moveCmd h (f 16 8) (q 32) (q 48) (q 64) (q 80))
  | 0x0102 => some (stopCmd h)
  | 0x0103 => some (resumeCmd h)
  | 0x0104 => some (flushCmd h)
  | 0x0105 => some (setLimitsCmd h (q 16) (q 32) (q 48))
  | 0x0106 => some (setVelocityCmd h (q 16))
  | 0x0107 => some (setCurrentCmd h (sext 36 (f 16 8)))
  | 0x0108 => some (axisEnableCmd h)
  | 0x0109 => some (axisDisableCmd h)
  | 0x010A => some (faultClearCmd h)
  | 0x0110 => some (groupMoveCmd h (f 16 8))
  | 0x0111 => some (groupStopCmd h)
  | 0x0112 => some (groupResumeCmd h)
  | 0x0113 => some (groupFlushCmd h)
  | 0x0120 => some (gearEngageCmd h (f 16 1) (f 20 4) (fieldS64 b 24) (fieldS64 b 32) (q 48))
  | 0x0121 => some (camEngageCmd h (f 16 1) (f 17 1) (f 20 4) (q 24) (q 40) (q 56) (q 72))
  | 0x0122 => some (decoupleCmd h (f 16 1) (q 24))
  | 0x0130 => some (homeCmd h)
  | 0x0201 => some (stageWriteCmd h (f 16 1) (f 24 8) (f 32 8))
  | 0x0202 => some (stageCheckCmd h (f 16 1))
  | 0x0203 => some (stageCommitCmd h (f 16 1) (f 20 4))
  | 0x0204 => some (stageDiscardCmd h (f 16 1))
  | 0x0210 => some (paramWriteCmd h (f 16 8) (parseWrites b (f 16 8)))
  | 0x0211 => some (paramReadCmd h (f 16 8) (f 24 8) (f 32 8))
  | 0x0212 => some (sigStatusCmd h (f 16 8) (f 24 8) (f 32 8))
  | 0x0301 => some (bbNodeInfoCmd h (f 24 8))
  | 0x0302 => some (bbReleaseCmd h)
  | 0x0303 => some (bbFoghornCmd h (f 16 2))
  | 0x0304 => some (bbFogClearCmd h)
  | 0x0401 => some (acqArmCmd h (f 24 8))
  | 0x0402 => some (acqDisarmCmd h)
  | 0x0410 => some (injectCmd h (f 24 8))
  | 0x0411 => some (injectStopCmd h)
  | 0x0420 => some (traceFreezeCmd h)
  | 0x0421 => some (traceReadCmd h (f 24 8) (f 32 8))
  | 0x0440 => some (loadIdentCmd h (f 16 8) (q 24) (q 40))
  | 0x0501 => some (safLoadCmd h (f 24 8) (f 32 8))
  | 0x0502 => some (safConfirmCmd h (f 16 4))
  | 0x0503 => some (safAckCmd h)
  | 0x0504 => some (safStatusCmd h (f 24 8))
  | 0x0601 => some (fwUpdateCmd h (f 24 8) (f 32 8))
  | 0x0602 => some (powerStateCmd h (f 16 1))
  | 0x0603 => some (jnlStatusCmd h (f 24 8))
  | 0x0604 => some (logReadCmd h (f 16 8) (f 24 8) (f 32 8))
  | 0x0605 => some (lifecycleSetCmd h (f 16 1) (f 24 8))
  | _ => none

/-- Read commands (R356): they take no journalled slots. -/
def readOp (op : Nat) : Bool := decide (op ∈ [0x0003, 0x0211, 0x0212, 0x0421, 0x0504, 0x0603, 0x0604])

/-! ### One command (R343, R353) -/

/-- What is left of a poll (R352): journalled slots, those kept for class 1, and read commands. -/
structure Budget where
  slots : Nat
  reserve : Nat
  reads : Nat
  deriving DecidableEq, Repr

/-- What came of a ring's turn: its next command was taken, or the ring stops for this poll. -/
inductive Turn where
  | taken (s : State) (b : Budget)
  | stopped (s : State)

/-- The ring stops under R353: PASSED. -/
def State.passed (s : State) (n : Nat) : Turn := .stopped (s.setBit (R.cqStat n) 2 true)

/-- Records that will still go into CRn beside the FINALs of its open commands. -/
def State.crPending (s : State) (n : Nat) : Nat :=
  (s.host.outbox.filter (fun r => decide (r.ring = n) &&
    !(decide (r.kind = .final) && (s.ring n).opens.any (fun o => decide (o.seq = r.seq))))).length

/-- CRn has room for the next command's records and every FINAL owed (R353). -/
def State.crRoom (s : State) (n : Nat) : Bool :=
  let g := s.ring n
  decide (cycDiff g.crCi g.crPi + s.crPending n + 2 + g.opens.length ≤ s.crSize n)

/-- Bytes of `k` slots of CQn from index `i`, across the ring's end (R346); none where a read fails. -/
def State.slotBytes (s : State) (n i : Nat) : Nat → Option (List Byte)
  | 0 => some []
  | k + 1 =>
    match s.memRd (s.descAt n i) 64, s.slotBytes n (i + 1) k with
    | some a, some b => some (a ++ b)
    | _, _ => none

/-- The command's slots are consumed. An accepted command is remembered with the index behind it, for FENCE and its record, and with
that of its first descriptor until its record is written. -/
def State.advance (s : State) (n k : Nat) (wasSeq : Nat) : State :=
  let g := s.ring n
  let ci := (g.cqCi + k) % 2 ^ 32
  let idx := if g.seq = wasSeq then g.longIdx else g.longIdx ++ [(ci, g.seq)]
  let un := if g.seq = wasSeq then g.unrec else g.unrec ++ [(g.cqCi, g.seq)]
  s.setRing n { g with cqCi := ci, longIdx := idx.filter (fun e => (s.unfinished n).contains e.2),
                       unrec := un.filter (fun e => s.unrecorded n e.2) }

/-- Budget after a command of `k` slots. -/
def Budget.use (b : Budget) (read : Bool) (k : Nat) : Budget :=
  if read then { b with reads := b.reads - 1 } else { b with slots := b.slots - k }

/-- A descriptor whose NSLOT is out of range or whose opcode the table does not list is refused; the others act. -/
def State.runDesc (s : State) (h : Hdr) (op : Nat) (bad : Bool) (img : List Byte) : State :=
  if bad then s.refuse h op St.lengthInvalid 0
  else
    match hostRun h op img with
    | some run => run s
    | none => s.refuse h op St.opcodeUnknown 0

/-- Ring `n` takes its next command: the descriptor is published in full, CRn has room, the poll has slots left, and a long
command finds a credit. -/
def State.turn (s : State) (n cls : Nat) (b : Budget) : Turn :=
  let g := s.ring n
  let avail := (cycDiff g.cqCi g.cqPi).toNat
  if avail = 0 then .stopped s
  else
    match s.slotBytes n g.cqCi 1 with
    | none => .stopped (s.evC 62 n 2)
    | some head =>
      let k := Machine.field head 2 1
      let op := Machine.field head 0 2
      let bad := decide (k < 1 ∨ 4 < k)
      let k := if bad then 1 else k
      let read := readOp op && !bad
      if avail < k ∨ s.crRoom n = false then s.passed n
      else if (if read then b.reads = 0 else b.slots < k + (if cls = 0 then b.reserve else 0)) then .stopped s
      else
        match s.slotBytes n g.cqCi k with
        | none => .stopped (s.evC 62 n 2)
        | some img =>
          let t := s.runDesc (parseHdr n img) op bad img
          if (t.ring n).fence.isSome then t.passed n
          else if g.opens.length < (t.ring n).opens.length ∧ s.fld (R.cqCfg n) 8 8 ≤ g.opens.length then s.passed n
          else .taken (t.advance n k g.seq) (b.use read k)

/-! ### Round robin (R352) -/

/-- CQn takes part: enabled, and no index was out of range. -/
def State.cqRuns (s : State) (n : Nat) : Bool := s.bit (R.cqCfg n) 0 && !s.bit (R.cqStat n) 1

def State.cqClass (s : State) (n : Nat) : Nat := s.fld (R.cqCfg n) 1 1

/-- Rings of class `cls`, in turn from the one after the ring last served. -/
def State.order (s : State) (cls : Nat) : List Nat :=
  let last := s.host.lastServed.getD cls 15
  ((List.range 16).map (fun i => (last + 1 + i) % 16)).filter (fun n => s.cqRuns n && decide (s.cqClass n = cls))

/-- The rings of `queue` are served one command per turn until each has stopped; a ring that took one goes to the end. -/
def serve (cls : Nat) : Nat → List Nat → State → Budget → State × Budget
  | 0, _, s, b => (s, b)
  | _, [], s, b => (s, b)
  | fuel + 1, n :: rest, s, b =>
    match s.turn n cls b with
    | .stopped s => serve cls fuel rest s b
    | .taken s b =>
      serve cls fuel (rest ++ [n]) { s with host := { s.host with lastServed := s.host.lastServed.set cls n } } b

/-- Journalled slots of a poll (R352). -/
def State.pollSlots (s : State) : Nat := if s.isRun then [6, 12, 25, 50, 100].getD s.rung 0 else 384

/-- A ring of class 1 has a command waiting. -/
def State.class1Waits (s : State) : Bool :=
  (List.range 16).any (fun n => s.cqRuns n && decide (s.cqClass n = 1) && decide (0 < cycDiff (s.ring n).cqCi (s.ring n).cqPi))

/-- The intake of a poll: class 0 leaves class 1 its share. -/
def State.intake (s : State) : State :=
  let k := s.pollSlots
  let b : Budget := ⟨k, if s.class1Waits then max 1 (k / 4) else 0, 64⟩
  let (s, b) := serve 0 512 (s.order 0) s b
  (serve 1 512 (s.order 1) s b).1

/-! ### The poll (R342, R343, R345) -/

/-- The indices of ring `n` as the block gives them. A producer index out of range stops the ring. -/
def State.ringIndices (s : State) (bs : List Byte) (n : Nat) : State :=
  if s.bit (R.cqCfg n) 0 = false then
    s.setRing n { s.ring n with crCi := Machine.field bs (64 + 4 * n) 4 }
  else
    let pi := Machine.field bs (4 * n) 4
    let s := (s.setRing n { s.ring n with cqPi := pi, crCi := Machine.field bs (64 + 4 * n) 4 }).setBit (R.cqStat n) 2 false
    if s.bit (R.cqStat n) 1 = false ∧ s.cqSize n < (pi + 2 ^ 32 - (s.ring n).cqCi) % 2 ^ 32 then
      (s.setBit (R.cqStat n) 1 true).evC 62 n 1
    else s

/-- ER_CI and the heartbeat; the check restarts when HOST_HB has changed. -/
def State.eventIndices (s : State) (bs : List Byte) : State :=
  let hb := Machine.field bs 132 4
  { s with host := { s.host with erCi := Machine.field bs 128 4, hb := hb,
                                 hbLost := s.host.hbLost && decide (hb = s.host.hb) } }

/-- Consumer indices as they are written back. -/
def State.consumed (s : State) : List Byte := (List.range 16).flatMap (fun n => leBytes 4 (s.cqOnRecord n))

/-- DOORBELL_POLL. -/
def doorbellPollCmd (s : State) : State :=
  let base := s.base R.dbLo R.dbHi
  if s.takesCommands = false ∨ s.hostUp = false ∨ base = 0 then s
  else
    let s := { s with host := { s.host with pollSoon := false, signalled := if s.isIdle then [] else s.host.signalled } }
    match s.memRd base 256 with
    | none => s.evC 62 0xFFFF 2
    | some bs =>
      let s := (List.range 16).foldl (fun s n => s.ringIndices bs n) s
      let s := (s.eventIndices bs).drain
      let s := s.drainEvents s.host.held
      let s := s.intake
      s.memWr (base + 192) s.consumed

def execDoorbellPoll (s : State) : Host.Outcome State Fault Refusal := .next (doorbellPollCmd s)

end Sys2Proof.Machine
end

