-- ==== Sys2Proof/Machine/Registers.lean ====
section
/-!
DEFINITION. Writes to BAR0 (R13, R15, R17 to R19, R540, R541, R545), the signal store through BAR2 (R363), and the debug port
(R518 to R521), which reaches the same registers.
-/

namespace Sys2Proof.Machine

open Sys2Proof

/-! ### Plain writes (R15, R17) -/

/-- A write to a register with no behaviour of its own: RW bits take it, W1C bits clear where it is 1, and a staged register
ignores it (R17, R541). -/
def State.writePlain (s : State) (off : Nat) (v : Reg32) : State :=
  match regDesc? off with
  | some d => if d.staged then s else
      s.setReg off (merge (s.reg off) v d.rw &&& ~~~(v &&& BitVec.ofNat 32 d.w1c))
  | none => s

/-- The holding copy of the wide value whose _LO lies at `lo` (R15). -/
def State.holdOf (s : State) (lo : Nat) : Reg32 × Reg32 := SMap.get ((0 : Reg32), (0 : Reg32)) s.holds lo

def State.setHold (s : State) (lo : Nat) (h : Reg32 × Reg32) : State :=
  { s with holds := s.holds.set ((0 : Reg32), (0 : Reg32)) lo h }

/-- A write of a _HI register (R15). A compare value commits against the compare position of the tick that the history of the pins
has reached; a STEP waits for the next hit (R210). -/
def State.commitHi (s : State) (lo w : Nat) (v : Reg32) : State :=
  if lo < 0x3800 ∨ 0x3C00 ≤ lo then s
  else
    let k := (lo - 0x3800) / 0x100
    let o := (lo - 0x3800) % 0x100
    if o = 0x84 ∨ o = 0xC4 then
      compareValCommitCmd k ((o - 0x84) / 0x40) v { edges := [], quiet := 0 } s
    else if o = 0x90 ∨ o = 0xD0 then (s.holdStep k ((o - 0x90) / 0x40)).commitWide lo w v
    else s.commitWide lo w v

/-- A write of part of a wide value that can be written: _LO and _MID are held, _HI commits. -/
def State.writeWide (s : State) (d : RegDesc) (off : Nat) (v : Reg32) : State :=
  let lo := wideLo d off
  match d.part with
  | .plain => s
  | .lo _ => s.setHold lo (v, (s.holdOf lo).2)
  | .mid => s.setHold lo ((s.holdOf lo).1, v)
  | .hi w => s.commitHi lo w v

/-! ### HIF (R544, R545) -/

/-- EN of some command ring is 1. -/
def State.anyRing (s : State) : Bool := (List.range 16).any (fun n => s.bit (R.cqCfg n) 0)

/-- A write to a register that may change only while `free` holds; `subj` is the ring it belongs to. -/
def State.writeGated (s : State) (off : Nat) (v : Reg32) (free : Bool) (subj : Nat) : State :=
  let t := s.writePlain off v
  if free || decide (t.reg off = s.reg off) then t else s.gated subj

/-- MSI-X vector control: unmasking a vector whose pending bit is set signals it (R544). -/
def State.writeMsixCtl (s : State) (n : Nat) (v : Reg32) : State :=
  let s := s.writePlain (R.msixCtl n) v
  if s.bit (R.msixCtl n) 0 = false ∧ s.bit R.msixPba n = true then (s.setBit R.msixPba n false).signalVec n else s

def State.writeHif (s : State) (off : Nat) (v : Reg32) : State :=
  if off = R.hifWake then hifWakeCmd v s
  else if off = R.dbLo ∨ off = R.dbHi then s.writeGated off v (!s.anyRing && !s.bit R.erCfg 0) 0xFFFF
  else if off = R.erLo ∨ off = R.erHi then s.writeGated off v (!s.bit R.erCfg 0) 0xFFFF
  else if off = R.erCfg then s.writeErCfg v
  else if off = R.snapLo ∨ off = R.snapHi then s.writeGated off v (!s.bit R.snapCfg 0) 0xFFFF
  else if off = R.snapCfg then s.writeSnapCfg v
  else if R.cqLo 0 ≤ off ∧ off < R.cqLo 16 then
    let n := (off - R.cqLo 0) / 8
    s.writeGated off v (!s.bit (R.cqCfg n) 0) n
  else if R.cqCfg 0 ≤ off ∧ off < R.cqCfg 16 then s.writeCqCfg ((off - R.cqCfg 0) / 4) v
  else if R.crLo 0 ≤ off ∧ off < R.crLo 16 then
    let n := (off - R.crLo 0) / 8
    s.writeGated off v (!s.bit (R.cqCfg n) 0 && (s.ring n).opens.isEmpty) n
  else if R.crCfg 0 ≤ off ∧ off < R.crCfg 16 then
    let n := (off - R.crCfg 0) / 4
    s.writeGated off v (!s.bit (R.cqCfg n) 0 && (s.ring n).opens.isEmpty) n
  else if R.msixCtl 0 ≤ off ∧ off < R.msixCtl 16 ∧ off % 16 = 0xC then s.writeMsixCtl ((off - R.msixCtl 0) / 16) v
  else s.writePlain off v

/-! ### The other blocks -/

/-- The Lantern takes up SYNC_IN discipline, or leaves it (R69): its servo starts anew, with LOCKED to be earned; a Lantern that
runs free has TIM_INCR 2^33, LOCKED 1 and HOLDOVER 0. -/
def State.disciplineChange (before s : State) : State :=
  if s.bb.lantern = false ∨ before.disciplined = s.disciplined then s
  else
    let t := ({ s with servo := {} }.setBit R.timStat 0 (!s.disciplined)).setBit R.timStat 1 false
    if s.disciplined then t else t.setTimIncr (2 ^ 33)

/-- TIM (R69, R77): a write of 0b11 to IN_MODE leaves the field as it is. -/
def State.writeTim (s : State) (off : Nat) (v : Reg32) : State :=
  if off = R.timSyncCfg then
    let v := if bits v 0 2 = 3 then putBits v 0 2 (s.fld off 0 2) else v
    s.disciplineChange (s.writePlain off v)
  else s.writePlain off v

/-- PWM (R255, R256, R258, R264). -/
def State.writePwm (s : State) (off : Nat) (v : Reg32) : State :=
  if off < 0x3100 then
    let k := (off - 0x3000) / 0x40
    if off % 0x40 = 0x1C then manualTripleWriteCmd k v s
    else if off % 0x40 = 0x30 then (if v.getLsbD 0 then tripClearCmd k s else s)
    else s.writePlain off v
  else if 0x3200 ≤ off ∧ off < 0x3280 ∧ off % 0x20 = 0x10 then (s.writePlain off v).chopFollow ((off - 0x3200) / 0x20)
  else s.writePlain off v

/-- FBK latches (R206). -/
def State.writeFbk (s : State) (off : Nat) (v : Reg32) : State :=
  let o := off % 0x100
  if o = 0x40 ∨ o = 0x44 then latchArmCmd ((off - 0x3800) / 0x100) ((o - 0x40) / 4) v s else s.writePlain off v

/-- An encoding of ADC_Ck_INJ that is ignored (R459). -/
def injIgnored (k : Nat) (v : Reg32) : Bool :=
  (List.range 4).any (fun j =>
    let c := bits v (3 * j) 3
    decide (c = 7) || (decide (c = 5) && decide (k ≠ 2)) || (decide (c = 1) && decide (j ≠ 0)))

/-- ADC (R454, R459). -/
def State.writeAdc (s : State) (off : Nat) (v : Reg32) : State :=
  if 0x4100 ≤ off ∧ off < 0x4200 ∧ off % 0x40 = 4 then
    if injIgnored ((off - 0x4100) / 0x40) v then s.evBadReg else s.writePlain off v
  else if 0x4200 ≤ off ∧ off < 0x4280 ∧ off % 0x10 = 0 then
    if bits v 0 2 = 3 then s.evBadReg
    else if bits v 0 2 = s.fld off 0 2 then s.writePlain off v
    else (s.adcGainChange ((off - 0x4200) / 0x10)).writePlain off v
  else s.writePlain off v

/-- DIO (R466 to R468). -/
def State.writeDio (s : State) (off : Nat) (v : Reg32) : State :=
  if off = R.dioOut then fieldOutputWriteCmd false v s
  else if off = R.dioOutEn then fieldOutputWriteCmd true v s
  else if off = R.dioTest then dioTestCmd (bits v 0 16) s
  else s.writePlain off v

/-- CAN (R474, R475, R488): bit timing, buffers and filters only while INIT is 1, the WAKE registers only while SLEEP is 0. -/
def State.writeCan (s : State) (off : Nat) (v : Reg32) : State :=
  let k := (off - 0x5800) / 0x400
  let o := (off - 0x5800) % 0x400
  if s.conductor = false then s
  else if o = 0 then canInitWriteCmd k v s
  else if o = 0x24 ∨ o = 0x28 then canTxreqCmd k (decide (o = 0x28)) v s
  else if (0x4 ≤ o ∧ o ≤ 0xC) ∨ 0x100 ≤ o then (if s.canInit k then s.writePlain off v else s.evBadReg)
  else if 0x3C ≤ o ∧ o ≤ 0x4C then (if s.bit (R.canCtl k) 4 then s else s.writePlain off v)
  else s.writePlain off v

/-- An aligned write to a register while BAR0 takes writes. -/
def State.writeOpen (s : State) (off : Nat) (v : Reg32) : State :=
  match regDesc? off with
  | none => s
  | some d =>
    if d.staged then s
    else if d.part ≠ .plain then (if d.rw = 0 then s else s.writeWide d off v)
    else if off = R.sysCtl then sysRestartCmd v s
    else if off < 0x400 then s.writePlain off v
    else if off < 0x800 then s.writeHif off v
    else if off < 0xC00 then s.writeTim off v
    else if off = R.dbgCtl then dbgCtlWriteCmd v s
    else if off < 0x3000 then s.writePlain off v
    else if off < 0x3800 then s.writePwm off v
    else if off < 0x4000 then s.writeFbk off v
    else if off < 0x4800 then s.writeAdc off v
    else if off < 0x5000 then s.writePlain off v
    else if off < 0x5800 then s.writeDio off v
    else if off < 0x6000 then s.writeCan off v
    else if off < 0x7000 then s.writePlain off v
    else s

/-- An aligned write by the state of the VLN (R344, R540): in Standby only HIF_WAKE, in RETIRED only DBG_CTL, before Idle only
SYS. -/
def State.writeReg (s : State) (off : Nat) (v : Reg32) : State :=
  if s.writable then s.writeOpen off v
  else if s.sec.lcs = 3 then (if off = R.dbgCtl then dbgCtlWriteCmd v s else s)
  else if s.mode = .standby then (if off = R.hifWake then hifWakeCmd v s else s)
  else if off = R.sysBootCtl then (if v.getLsbD 0 then sysBootGoCmd s else s)
  else if off < 0x400 then s.writePlain off v
  else s

/-- REGISTER_WRITE: an aligned 32-bit host write. -/
def registerWriteCmd (off : Nat) (v : Reg32) (s : State) : State :=
  if s.hostReads = false ∨ off % 4 ≠ 0 then s else s.writeReg off v

def execRegisterWrite (off : Nat) (v : Reg32) (s : State) : Host.Outcome State Fault Refusal :=
  .next (registerWriteCmd off v s)

/-- HI_REGISTER_WRITE: a host write of a _HI register. -/
def hiRegisterWriteCmd (off : Nat) (v : Reg32) (s : State) : State :=
  if s.hostReads = false ∨ s.writable = false ∨ off % 4 ≠ 0 then s
  else
    match regDesc? off with
    | some d =>
      (match d.part with
       | .hi _ => if d.rw = 0 then s else s.writeWide d off v
       | _ => s)
    | none => s

def execHiRegisterWrite (off : Nat) (v : Reg32) (s : State) : Host.Outcome State Fault Refusal :=
  .next (hiRegisterWriteCmd off v s)

/-! ### BAR2 (R363, R529) -/

/-- What BAR2 shows now: the signal store, the download buffer, ones in Standby, or nothing. -/
inductive Bar2 where
  | store
  | buffer
  | ones
  | closed
  deriving DecidableEq, Repr

def State.bar2 (s : State) : Bar2 :=
  if s.mode = .standby then .ones
  else if s.pw.boot = .waitDownload then .buffer
  else if s.writable then .store
  else .closed

/-- The high half of word `w` as a read finds it: the latch (R14). -/
def State.bar2Byte (s : State) (b : Nat) : Byte :=
  match s.bar2 with
  | .ones => 0xFF
  | .closed => 0
  | .buffer => if b < 2 ^ 22 then SMap.get 0 s.flash.download b else 0
  | .store =>
    if 2 ^ 24 ≤ b then 0
    else
      let v := if b % 16 < 8 then s.sigWord (b / 16) else SMap.get 0 s.sig.latch (b / 16)
      (bytes72 (sext 72 v.toNat)).getD (b % 16) 0

/-- Words whose first byte a range of BAR2 covers. -/
def firstBytes (off size : Nat) : List Nat :=
  ((List.range size).filter (fun i => decide ((off + i) % 16 = 0))).map (fun i => (off + i) / 16)

/-- BAR2_READ: a read that covers the first byte of a word latches it. -/
def bar2ReadCmd (off size : Nat) (s : State) : State :=
  if s.hostReads = false then s
  else
    let t := if s.bar2 = .store then
        (firstBytes off size).foldl (fun s w =>
          { s with sig := { s.sig with latch := s.sig.latch.set 0 w (s.sigWord w) } }) s
      else s
    { t with host := { t.host with busRead := BitVec.ofNat 64 (leNat ((List.range size).map (fun i => t.bar2Byte (off + i)))) } }

def execBar2Read (off size : Nat) (s : State) : Host.Outcome State Fault Refusal := .next (bar2ReadCmd off size s)

/-- Bytes 16 s to 16 s + 7 of `old` with those that the access writes: `b i` is the byte it writes at BAR2 offset `i`. -/
def mergeLow (w : Nat) (old : BitVec 72) (b : Nat → Option Byte) : BitVec 72 :=
  BitVec.ofNat 72 (leNat ((List.range 8).map (fun i => (b (16 * w + i)).getD (BitVec.ofNat 8 (old.toNat / 2 ^ (8 * i))))) +
    2 ^ 64 * (old.toNat / 2 ^ 64))

/-- The part of a BAR2 write that falls on word `w`. -/
def State.bar2Word (s : State) (w : Nat) (b : Nat → Option Byte) : State :=
  match s.sigBlock w with
  | some d =>
    if d.producer ≠ 256 + s.bb.number then s.evBadReg
    else
      let low := (List.range 8).any (fun i => (b (16 * w + i)).isSome)
      if d.kind = 3 then
        let s := if low then
            { s with sig := { s.sig with hold := s.sig.hold.set 0 w (mergeLow w (SMap.get 0 s.sig.hold w) b) } }
          else s
        match b (16 * w + 8) with
        | some top => s.localSig w (BitVec.ofNat 72 ((SMap.get 0 s.sig.hold w).toNat % 2 ^ 64 + 2 ^ 64 * top.toNat))
        | none => s
      else if low then s.localSig w (storeForm d.kind (mergeLow w (s.sigWord w) b))
      else s
  | none => s.evBadReg

/-- Words that a range of BAR2 touches. -/
def touched (off size : Nat) : List Nat :=
  if size = 0 then [] else (List.range ((off + size - 1) / 16 - off / 16 + 1)).map (fun i => off / 16 + i)

/-- BAR2_WRITE. -/
def bar2WriteCmd (off size v : Nat) (s : State) : State :=
  if s.hostReads = false then s
  else
    let b (i : Nat) : Option Byte := if off ≤ i ∧ i < off + size then some (BitVec.ofNat 8 (v / 2 ^ (8 * (i - off)))) else none
    match s.bar2 with
    | .store => (touched off size).foldl (fun s w => s.bar2Word w b) s
    | .buffer =>
      let m := (List.range size).foldl (fun m i =>
        if off + i < 2 ^ 22 then SMap.set 0 m (off + i) ((b (off + i)).getD 0) else m) s.flash.download
      { s with flash := { s.flash with download := m } }
    | _ => s

def execBar2Write (off size v : Nat) (s : State) : Host.Outcome State Fault Refusal := .next (bar2WriteCmd off size v s)

/-! ### DBG_ACCESS (R518, R521) -/

/-- TDO drives data: not for IDCODE and BYPASS in RETIRED. -/
def State.tdoData (s : State) (on : Bool) : State :=
  let (w, s) := s.freeW
  { s with sec := { s.sec with tdo := on, dataOut := w } }

/-- Instruction and data bytes of engine `e` in the body of an image (R515). -/
def engineSection : Nat → List Byte → List Byte × List Byte
  | 0, bs =>
    let il := Machine.field bs 8 4
    ((bs.drop 16).take il, (bs.drop (16 + il)).take (Machine.field bs 12 4))
  | e + 1, bs => engineSection e (bs.drop (16 + Machine.field bs 8 4 + Machine.field bs 12 4))

/-- Word `w` of engine `e`'s memories where the model knows it: as a debugger wrote it, or, of the instruction memory, as the
running image loaded it, bytes in bits 63:0 (R31, R35, R36). -/
def State.engineWord (s : State) (e w : Nat) : Option (BitVec 72) :=
  match SMap.get none s.fab.mem (32768 * e + w) with
  | some v => some v
  | none =>
    match s.flash.running with
    | some im =>
      let code := (engineSection e im.body).1
      if w < 16384 ∧ 8 * w + 8 ≤ code.length then some (BitVec.ofNat 72 (Machine.field code (8 * w) 8)) else none
    | none => none

/-- A word of an engine memory is shifted out; one that the model does not know is free (log entry 48). -/
def State.readEngine (s : State) (e w : Nat) : State :=
  match s.engineWord e w with
  | some v => { s with sec := { s.sec with tdo := true, dataOut := v } }
  | none => s.tdoData true

/-- A word of an engine memory is written. What a running engine does to a data word afterwards is not known. -/
def State.writeEngine (s : State) (e w : Nat) (v : BitVec 72) : State :=
  if 12 ≤ e ∨ 32768 ≤ w then s
  else
    let known := decide (w < 16384) || !s.engineRuns e
    { s with fab := { s.fab with mem := s.fab.mem.set none (32768 * e + w) (if known then some v else none) } }

/-- A permitted request. Data shifted out of the boundary cells is a free value (log entry 48). -/
def State.dbgServe (s : State) (r : DbgRequest) : State :=
  match r with
  | .idcode => s.tdoData true
  | .bypass => s.tdoData true
  | .sample => s.tdoData true
  | .extest => s.tdoData true
  | .readMem e w => s.readEngine e w
  | .writeMem e w v => s.writeEngine e w v
  | .readReg off =>
    let t := s.readEffect off
    { t with sec := { t.sec with tdo := true, dataOut := (s.readValue off).zeroExtend 72 } }
  | .writeReg off v => s.writeReg off v
  | .halt e => s.haltEngine e
  | .resume e => s.resumeEngine e
  | .channelB => s

/-- IDCODE and BYPASS, which LOCK does not refuse. -/
def dbgIdent : DbgRequest → Bool
  | .idcode => true
  | .bypass => true
  | _ => false

/-- DBG_ACCESS: the matrix permits or refuses the request. Off, the TAP does not answer. -/
def dbgAccessCmd (r : DbgRequest) (s : State) : State :=
  if s.pw.boot ≠ .up then s
  else if dbgIdent r then (if s.sec.lcs = 3 then { s with sec := { s.sec with tdo := false } } else s.dbgServe r)
  else
    match s.dbgReason r with
    | some reason => s.dbgRefuse (dbgReq r).1 reason (dbgReq r).2
    | none => (s.openByAccess r).dbgServe r

def execDbgAccess (r : DbgRequest) (s : State) : Host.Outcome State Fault Refusal := .next (dbgAccessCmd r s)

end Sys2Proof.Machine
end

