-- ==== Sys2Proof/Machine/Dispatch.lean ====
section
/-! DEFINITION. One arm per command of spec/opcode_table.json: a direct call of the command's meaning. -/

namespace Sys2Proof.Machine

def exec (i : Instr) (s : State) : Host.Outcome State Fault Refusal :=
  match i with
  | .nop h => Sys2Proof.Machine.execNop h s
  | .fence h mask mode => Sys2Proof.Machine.execFence h mask mode s
  | .query h handle buf => Sys2Proof.Machine.execQuery h handle buf s
  | .move h flags target v a j => Sys2Proof.Machine.execMove h flags target v a j s
  | .stop h => Sys2Proof.Machine.execStop h s
  | .resume h => Sys2Proof.Machine.execResume h s
  | .flush h => Sys2Proof.Machine.execFlush h s
  | .setLimits h v a j => Sys2Proof.Machine.execSetLimits h v a j s
  | .setVelocity h v => Sys2Proof.Machine.execSetVelocity h v s
  | .setCurrent h iq => Sys2Proof.Machine.execSetCurrent h iq s
  | .axisEnable h => Sys2Proof.Machine.execAxisEnable h s
  | .axisEnableEffect axis => Sys2Proof.Machine.execAxisEnableEffect axis s
  | .axisDisable h => Sys2Proof.Machine.execAxisDisable h s
  | .faultClear h => Sys2Proof.Machine.execFaultClear h s
  | .groupMove h list => Sys2Proof.Machine.execGroupMove h list s
  | .groupStop h => Sys2Proof.Machine.execGroupStop h s
  | .groupResume h => Sys2Proof.Machine.execGroupResume h s
  | .groupFlush h => Sys2Proof.Machine.execGroupFlush h s
  | .gearEngage h mkind master num den b => Sys2Proof.Machine.execGearEngage h mkind master num den b s
  | .camEngage h mkind table master mOrg offset scale b => Sys2Proof.Machine.execCamEngage h mkind table master mOrg offset scale b s
  | .decouple h mode b => Sys2Proof.Machine.execDecouple h mode b s
  | .home h => Sys2Proof.Machine.execHome h s
  | .stageWrite h set addr len => Sys2Proof.Machine.execStageWrite h set addr len s
  | .stageCheck h set => Sys2Proof.Machine.execStageCheck h set s
  | .stageCommit h set cycle => Sys2Proof.Machine.execStageCommit h set cycle s
  | .stageDiscard h set => Sys2Proof.Machine.execStageDiscard h set s
  | .paramWrite h count writes => Sys2Proof.Machine.execParamWrite h count writes s
  | .paramWriteEffect => Sys2Proof.Machine.execParamWriteEffect s
  | .paramRead h pn count buf => Sys2Proof.Machine.execParamRead h pn count buf s
  | .sigStatus h block count buf => Sys2Proof.Machine.execSigStatus h block count buf s
  | .bbNodeInfo h buf => Sys2Proof.Machine.execBbNodeInfo h buf s
  | .bbRelease h => Sys2Proof.Machine.execBbRelease h s
  | .bbFoghorn h reason => Sys2Proof.Machine.execBbFoghorn h reason s
  | .bbFogClear h => Sys2Proof.Machine.execBbFogClear h s
  | .acqArm h cfg => Sys2Proof.Machine.execAcqArm h cfg s
  | .acqDisarm h => Sys2Proof.Machine.execAcqDisarm h s
  | .inject h cfg => Sys2Proof.Machine.execInject h cfg s
  | .injectStop h => Sys2Proof.Machine.execInjectStop h s
  | .traceFreeze h => Sys2Proof.Machine.execTraceFreeze h s
  | .traceRead h buf len => Sys2Proof.Machine.execTraceRead h buf len s
  | .loadIdent h steps iTest vTest => Sys2Proof.Machine.execLoadIdent h steps iTest vTest s
  | .loadIdentStepEnd axis short slopes => Sys2Proof.Machine.execLoadIdentStepEnd axis short slopes s
  | .safLoad h addr len => Sys2Proof.Machine.execSafLoad h addr len s
  | .safConfirm h check => Sys2Proof.Machine.execSafConfirm h check s
  | .safAck h => Sys2Proof.Machine.execSafAck h s
  | .safStatus h buf => Sys2Proof.Machine.execSafStatus h buf s
  | .fwUpdate h addr len => Sys2Proof.Machine.execFwUpdate h addr len s
  | .powerState h state => Sys2Proof.Machine.execPowerState h state s
  | .jnlStatus h buf => Sys2Proof.Machine.execJnlStatus h buf s
  | .logRead h start count buf => Sys2Proof.Machine.execLogRead h start count buf s
  | .lifecycleSet h state auth => Sys2Proof.Machine.execLifecycleSet h state auth s
  | .doorbellPoll => Sys2Proof.Machine.execDoorbellPoll s
  | .hostHeartbeatLost => Sys2Proof.Machine.execHostHeartbeatLost s
  | .journalRecordWrite badBank => Sys2Proof.Machine.execJournalRecordWrite badBank s
  | .eventRecordWrite => Sys2Proof.Machine.execEventRecordWrite s
  | .snapshotWrite => Sys2Proof.Machine.execSnapshotWrite s
  | .hifWake v => Sys2Proof.Machine.execHifWake v s
  | .hifCqCfgWrite n v => Sys2Proof.Machine.execHifCqCfgWrite n v s
  | .hifErCfgWrite v => Sys2Proof.Machine.execHifErCfgWrite v s
  | .hifSnapCfgWrite v => Sys2Proof.Machine.execHifSnapCfgWrite v s
  | .registerWrite off v => Sys2Proof.Machine.execRegisterWrite off v s
  | .badRegisterAccess write off size v => Sys2Proof.Machine.execBadRegisterAccess write off size v s
  | .loRegisterRead off => Sys2Proof.Machine.execLoRegisterRead off s
  | .hiRegisterWrite off v => Sys2Proof.Machine.execHiRegisterWrite off v s
  | .rcRegisterRead off => Sys2Proof.Machine.execRcRegisterRead off s
  | .bar2Read off size => Sys2Proof.Machine.execBar2Read off size s
  | .bar2Write off size v => Sys2Proof.Machine.execBar2Write off size v s
  | .perstNAssert => Sys2Proof.Machine.execPerstNAssert s
  | .ptmDialogue pair => Sys2Proof.Machine.execPtmDialogue pair s
  | .cyclePhi0 smp => Sys2Proof.Machine.execCyclePhi0 smp s
  | .budgetWindow w => Sys2Proof.Machine.execBudgetWindow w s
  | .scrubPass errs => Sys2Proof.Machine.execScrubPass errs s
  | .gatherDeparture lane tx => Sys2Proof.Machine.execGatherDeparture lane tx s
  | .gatherFrameReturn lane copies => Sys2Proof.Machine.execGatherFrameReturn lane copies s
  | .memberLost node => Sys2Proof.Machine.execMemberLost node s
  | .loopCriticalPart axis => Sys2Proof.Machine.execLoopCriticalPart axis s
  | .criticalPartOverrun axis => Sys2Proof.Machine.execCriticalPartOverrun axis s
  | .loopBackgroundPart axis => Sys2Proof.Machine.execLoopBackgroundPart axis s
  | .traceAutoFreeze axis => Sys2Proof.Machine.execTraceAutoFreeze axis s
  | .standstillReached axis => Sys2Proof.Machine.execStandstillReached axis s
  | .qstopTimeout axis => Sys2Proof.Machine.execQstopTimeout axis s
  | .tstopTimeout axis => Sys2Proof.Machine.execTstopTimeout axis s
  | .scatterDeparture lane => Sys2Proof.Machine.execScatterDeparture lane s
  | .profileEvaluation pe => Sys2Proof.Machine.execProfileEvaluation pe s
  | .streamLost axis => Sys2Proof.Machine.execStreamLost axis s
  | .profileMiss axis => Sys2Proof.Machine.execProfileMiss axis s
  | .switchEdgeConfirmed axis sw active pos => Sys2Proof.Machine.execSwitchEdgeConfirmed axis sw active pos s
  | .homingStallDetected axis => Sys2Proof.Machine.execHomingStallDetected axis s
  | .slowFrameDeparture lane => Sys2Proof.Machine.execSlowFrameDeparture lane s
  | .slowFrameReturn lane copies => Sys2Proof.Machine.execSlowFrameReturn lane copies s
  | .flashReceived lane f => Sys2Proof.Machine.execFlashReceived lane f s
  | .flashMissed => Sys2Proof.Machine.execFlashMissed s
  | .lanternTakeover => Sys2Proof.Machine.execLanternTakeover s
  | .syncInEdge stamp => Sys2Proof.Machine.execSyncInEdge stamp s
  | .syncinMiss => Sys2Proof.Machine.execSyncinMiss s
  | .buoyFire x => Sys2Proof.Machine.execBuoyFire x s
  | .buoyPinEnd b => Sys2Proof.Machine.execBuoyPinEnd b s
  | .linkFrameReceived x => Sys2Proof.Machine.execLinkFrameReceived x s
  | .dieLinkLoss => Sys2Proof.Machine.execDieLinkLoss s
  | .dieLinkRetrain trained => Sys2Proof.Machine.execDieLinkRetrain trained s
  | .laneLinkUp lane => Sys2Proof.Machine.execLaneLinkUp lane s
  | .laneLinkDown lane => Sys2Proof.Machine.execLaneLinkDown lane s
  | .ringClose lane => Sys2Proof.Machine.execRingClose lane s
  | .linkDelayRequest lane => Sys2Proof.Machine.execLinkDelayRequest lane s
  | .linkFrame lane response seq node uid t1 t2 t3 t4 => Sys2Proof.Machine.execLinkFrame lane response seq node uid t1 t2 t3 t4 s
  | .coldListenEnd => Sys2Proof.Machine.execColdListenEnd s
  | .coldstartSend => Sys2Proof.Machine.execColdstartSend s
  | .coldstartFrame lane rank uid => Sys2Proof.Machine.execColdstartFrame lane rank uid s
  | .contentionWindowEnd => Sys2Proof.Machine.execContentionWindowEnd s
  | .integrateTimeout => Sys2Proof.Machine.execIntegrateTimeout s
  | .capabilityRecordReceived lane position r => Sys2Proof.Machine.execCapabilityRecordReceived lane position r s
  | .readmission node => Sys2Proof.Machine.execReadmission node s
  | .skegilIdentityRecord lane position r => Sys2Proof.Machine.execSkegilIdentityRecord lane position r s
  | .nodeFrameForward port f residence => Sys2Proof.Machine.execNodeFrameForward port f residence s
  | .nodeScatterReceived port f late => Sys2Proof.Machine.execNodeScatterReceived port f late s
  | .nodeScatterMiss axis => Sys2Proof.Machine.execNodeScatterMiss axis s
  | .nodeFlashTimeout => Sys2Proof.Machine.execNodeFlashTimeout s
  | .scheduleRecord r => Sys2Proof.Machine.execScheduleRecord r s
  | .configRecord r => Sys2Proof.Machine.execConfigRecord r s
  | .ackRecord lane r => Sys2Proof.Machine.execAckRecord lane r s
  | .generationAdopt => Sys2Proof.Machine.execGenerationAdopt s
  | .fogNodeRequest node => Sys2Proof.Machine.execFogNodeRequest node s
  | .foghornFrame lane originUid seq causeNode reason cycle => Sys2Proof.Machine.execFoghornFrame lane originUid seq causeNode reason cycle s
  | .flashRelay lane residence => Sys2Proof.Machine.execFlashRelay lane residence s
  | .commitApply => Sys2Proof.Machine.execCommitApply s
  | .commitReadyMiss isNode subject => Sys2Proof.Machine.execCommitReadyMiss isNode subject s
  | .commitAnswerTimeout => Sys2Proof.Machine.execCommitAnswerTimeout s
  | .paramStoreWriteDone => Sys2Proof.Machine.execParamStoreWriteDone s
  | .journalReplay => Sys2Proof.Machine.execJournalReplay s
  | .replayFinalRelease ring => Sys2Proof.Machine.execReplayFinalRelease ring s
  | .journalRecordScrub badBank => Sys2Proof.Machine.execJournalRecordScrub badBank s
  | .jnlRateUpdate => Sys2Proof.Machine.execJnlRateUpdate s
  | .crossTalkMessage c m => Sys2Proof.Machine.execCrossTalkMessage c m s
  | .xtalkFault => Sys2Proof.Machine.execXtalkFault s
  | .stoReadbackFault c => Sys2Proof.Machine.execStoReadbackFault c s
  | .switchRead a b atStart => Sys2Proof.Machine.execSwitchRead a b atStart s
  | .guardPairChange c pair closed => Sys2Proof.Machine.execGuardPairChange c pair closed s
  | .pairDiscrepancy pair => Sys2Proof.Machine.execPairDiscrepancy pair s
  | .testPulse missed => Sys2Proof.Machine.execTestPulse missed s
  | .rstInAck => Sys2Proof.Machine.execRstInAck s
  | .safetyEvaluation c counts bad => Sys2Proof.Machine.execSafetyEvaluation c counts bad s
  | .ss1End saxis => Sys2Proof.Machine.execSs1End saxis s
  | .safetyPduReceived saxis c p => Sys2Proof.Machine.execSafetyPduReceived saxis c p s
  | .safetyPduExchange => Sys2Proof.Machine.execSafetyPduExchange s
  | .safetyWatchdogTrip saxis c => Sys2Proof.Machine.execSafetyWatchdogTrip saxis c s
  | .captureSample pod => Sys2Proof.Machine.execCaptureSample pod s
  | .peaCopyDone pod => Sys2Proof.Machine.execPeaCopyDone pod s
  | .injectionEnd axis => Sys2Proof.Machine.execInjectionEnd axis s
  | .adcRegularConversion k code sat current => Sys2Proof.Machine.execAdcRegularConversion k code sat current s
  | .adcInjectedTrigger k src => Sys2Proof.Machine.execAdcInjectedTrigger k src s
  | .adcInjectedEnd k codes => Sys2Proof.Machine.execAdcInjectedEnd k codes s
  | .adcStandbyConversion ref diode current => Sys2Proof.Machine.execAdcStandbyConversion ref diode current s
  | .illegalTransition x => Sys2Proof.Machine.execIllegalTransition x s
  | .indexPulse port run => Sys2Proof.Machine.execIndexPulse port run s
  | .ssiFrame port bits stopBit => Sys2Proof.Machine.execSsiFrame port bits stopBit s
  | .ssiLoopMeasurement port delays => Sys2Proof.Machine.execSsiLoopMeasurement port delays s
  | .latchArm port j v => Sys2Proof.Machine.execLatchArm port j v s
  | .latchTrigger port j run t rise => Sys2Proof.Machine.execLatchTrigger port j run t rise s
  | .compareHit port j run => Sys2Proof.Machine.execCompareHit port j run s
  | .compareValCommit port j hi run => Sys2Proof.Machine.execCompareValCommit port j hi run s
  | .emulationBacklogOverflow port => Sys2Proof.Machine.execEmulationBacklogOverflow port s
  | .sdmStuck ch => Sys2Proof.Machine.execSdmStuck ch s
  | .fastComparatorCrossing ch x => Sys2Proof.Machine.execFastComparatorCrossing ch x s
  | .chopperThreshold port udc => Sys2Proof.Machine.execChopperThreshold port udc s
  | .chopperOpenDetect port uStart uEnd => Sys2Proof.Machine.execChopperOpenDetect port uStart uEnd s
  | .flyingStartWindowEnd axis us vs atLimit ns => Sys2Proof.Machine.execFlyingStartWindowEnd axis us vs atLimit ns s
  | .flyingStartTakeover axis => Sys2Proof.Machine.execFlyingStartTakeover axis s
  | .tripInput port => Sys2Proof.Machine.execTripInput port s
  | .tripClear port => Sys2Proof.Machine.execTripClear port s
  | .clockMonitorFail => Sys2Proof.Machine.execClockMonitorFail s
  | .manualTripleWrite port w => Sys2Proof.Machine.execManualTripleWrite port w s
  | .chopperPulseEnd c byComparator => Sys2Proof.Machine.execChopperPulseEnd c byComparator s
  | .fieldInputChange ch level t => Sys2Proof.Machine.execFieldInputChange ch level t s
  | .fieldOutputWrite enables v => Sys2Proof.Machine.execFieldOutputWrite enables v s
  | .outputOverload ch overTemp => Sys2Proof.Machine.execOutputOverload ch overTemp s
  | .dioTest mask => Sys2Proof.Machine.execDioTest mask s
  | .readbackCheck ch rb => Sys2Proof.Machine.execReadbackCheck ch rb s
  | .vfieldWarn mv10 => Sys2Proof.Machine.execVfieldWarn mv10 s
  | .vfieldWarnClear mv10 => Sys2Proof.Machine.execVfieldWarnClear mv10 s
  | .vfieldTrip mv10 => Sys2Proof.Machine.execVfieldTrip mv10 s
  | .vfieldOvervoltage mv10 => Sys2Proof.Machine.execVfieldOvervoltage mv10 s
  | .vfieldRecover mv10 => Sys2Proof.Machine.execVfieldRecover mv10 s
  | .channelBSupplyLoss => Sys2Proof.Machine.execChannelBSupplyLoss s
  | .canInitWrite k v => Sys2Proof.Machine.execCanInitWrite k v s
  | .canBusJoin k => Sys2Proof.Machine.execCanBusJoin k s
  | .canFrameReceived k f t => Sys2Proof.Machine.execCanFrameReceived k f t s
  | .canTxreq k high v => Sys2Proof.Machine.execCanTxreq k high v s
  | .canFrameSent k b t => Sys2Proof.Machine.execCanFrameSent k b t s
  | .canTxFail k b cause lec => Sys2Proof.Machine.execCanTxFail k b cause lec s
  | .canBusOff k => Sys2Proof.Machine.execCanBusOff k s
  | .canBusOffRecovery k => Sys2Proof.Machine.execCanBusOffRecovery k s
  | .canSleep k => Sys2Proof.Machine.execCanSleep k s
  | .canWake k cause => Sys2Proof.Machine.execCanWake k cause s
  | .standbyEntry => Sys2Proof.Machine.execStandbyEntry s
  | .standbyWake c => Sys2Proof.Machine.execStandbyWake c s
  | .slowClockLoss => Sys2Proof.Machine.execSlowClockLoss s
  | .pllSysUnlock => Sys2Proof.Machine.execPllSysUnlock s
  | .backbonePllUnlock => Sys2Proof.Machine.execBackbonePllUnlock s
  | .pciePllUnlock => Sys2Proof.Machine.execPciePllUnlock s
  | .dieThermalUpdate windows fieldTemp => Sys2Proof.Machine.execDieThermalUpdate windows fieldTemp s
  | .hardwareThermalShutdown core field => Sys2Proof.Machine.execHardwareThermalShutdown core field s
  | .thermalRestart => Sys2Proof.Machine.execThermalRestart s
  | .axisThermalUpdate axis dtNs => Sys2Proof.Machine.execAxisThermalUpdate axis dtNs s
  | .thermalStateSave => Sys2Proof.Machine.execThermalStateSave s
  | .dbgAuth answer late => Sys2Proof.Machine.execDbgAuth answer late s
  | .dbgAccess r => Sys2Proof.Machine.execDbgAccess r s
  | .engineHalt e => Sys2Proof.Machine.execEngineHalt e s
  | .engineResume e => Sys2Proof.Machine.execEngineResume e s
  | .dbgCtlWrite v => Sys2Proof.Machine.execDbgCtlWrite v s
  | .tapReset => Sys2Proof.Machine.execTapReset s
  | .porstNRise role bootsel => Sys2Proof.Machine.execPorstNRise role bootsel s
  | .porstNLow => Sys2Proof.Machine.execPorstNLow s
  | .imageCheck => Sys2Proof.Machine.execImageCheck s
  | .sysBootGo => Sys2Proof.Machine.execSysBootGo s
  | .sysRestart v => Sys2Proof.Machine.execSysRestart v s
  | .bootComplete => Sys2Proof.Machine.execBootComplete s
  | .supervisorRestart => Sys2Proof.Machine.execSupervisorRestart s
  | .supplyLowWarning => Sys2Proof.Machine.execSupplyLowWarning s
  | .brownOut => Sys2Proof.Machine.execBrownOut s
  | .brownOutEnd role bootsel => Sys2Proof.Machine.execBrownOutEnd role bootsel s
  | .pfailNAssert => Sys2Proof.Machine.execPfailNAssert s
  | .pfailNRelease => Sys2Proof.Machine.execPfailNRelease s
  | .canBusError k e => Sys2Proof.Machine.execCanBusError k e s
  | .tripInputInactive port => Sys2Proof.Machine.execTripInputInactive port s
  | .comparePulseEnd port j => Sys2Proof.Machine.execComparePulseEnd port j s
  | .syncOutPulseEnd => Sys2Proof.Machine.execSyncOutPulseEnd s
  | .pwmPeriodStart port => Sys2Proof.Machine.execPwmPeriodStart port s
  | .channelBSupplyReturn => Sys2Proof.Machine.execChannelBSupplyReturn s
  | .slowClockRestored => Sys2Proof.Machine.execSlowClockRestored s
  | .backbonePllRelock => Sys2Proof.Machine.execBackbonePllRelock s
  | .pciePllRelock => Sys2Proof.Machine.execPciePllRelock s
  | .perstNRelease => Sys2Proof.Machine.execPerstNRelease s
  | .stageCheckComplete => Sys2Proof.Machine.execStageCheckComplete s
  | .safetyImageWritten => Sys2Proof.Machine.execSafetyImageWritten s
  | .imageSlotWritten readBackOk => Sys2Proof.Machine.execImageSlotWritten readBackOk s
  | .lifecycleFusesWritten verified => Sys2Proof.Machine.execLifecycleFusesWritten verified s
  | .supplyLowWarningEnd => Sys2Proof.Machine.execSupplyLowWarningEnd s
  | .foghornSend lane => Sys2Proof.Machine.execFoghornSend lane s

end Sys2Proof.Machine
end

