-- ==== Sys2Proof/Safety.lean ====
section
/-!
DEFINITION. What counts as a safe step: one that answers a next state.
-/

namespace Sys2Proof.Machine

open Sys2Proof

/-- The step at `s` answers a next state: neither a fault nor a refusal. -/
def State.stepsOn (s : State) : Prop := ∃ t, step s = .next t

/-- No gate of a port is driven active while its pins are high-impedance (R260 source 1). -/
def State.outputsOff (s : State) (k : Nat) : Prop := s.bit (R.pwmCfg k) 0 = false

/-- The VLN takes a host command of this opcode: R347's checks before those of the command's own chapter find nothing to refuse
(header, SUBJ, lifecycle, power), and the journal has room for its records (R382). -/
abbrev State.admits (s : State) (h : Hdr) (op : Nat) (k : CmdKind) (extra : Nat) (subj : SubjKind) : Prop :=
  s.takesCommands = true ∧ hdrCheck h = none ∧ s.subjOk subj h = true ∧
    (k ≠ .read → (s.sec.lcs ≠ 3 ∨ op = 0x0001) ∧ s.pw.pfail = false ∧ s.pw.lowRail = false ∧ s.mramHold = false ∧
      s.journalFull k.journal extra = false)

/-- The state in which an admitted command has its effect: a run of JOURNAL_FULL refusals is over (R382). -/
def State.taken (s : State) (k : CmdKind) : State :=
  if k = .read then s else { s with jnl := { s.jnl with fullRun := false } }

/-- Every addressed store that the host sees as memory is in its canonical form: host memory and the registers of BAR0. -/
def State.canonical (s : State) : Bool := SMap.wf (fun _ => 0) s.host.mem && SMap.wf regReset s.regs

/-- A lifecycle state and the transition whose fuses are being written: one of R513's table. -/
def lcLegal (lcs : Nat) (o : Option (Open × Nat × List Byte)) : Bool :=
  decide (lcs ≤ 3) && (match o with
    | none => true
    | some (_, st, _) => decide ((lcs, st) ∈ [(0, 1), (1, 2), (1, 3), (2, 3)]))

/-- What a command of the host rings shows to the checks that all of them share (R346, R347, R356): its header, its opcode,
whether it is a read, and what its SUBJ must name. -/
structure HostForm where
  hdr : Hdr
  op : Nat
  reads : Bool
  subj : SubjKind
  deriving DecidableEq, Repr

/-- The host commands (R356); every other row of the table is an event, a frame or a bus access. -/
def hostForm : Instr → Option HostForm
  | .nop h => some ⟨h, 0x0001, false, .none⟩
  | .fence h _ _ => some ⟨h, 0x0002, false, .none⟩
  | .query h _ _ => some ⟨h, 0x0003, true, .none⟩
  | .move h _ _ _ _ _ => some ⟨h, 0x0101, false, .axis⟩
  | .stop h => some ⟨h, 0x0102, false, .axis⟩
  | .resume h => some ⟨h, 0x0103, false, .axis⟩
  | .flush h => some ⟨h, 0x0104, false, .axis⟩
  | .setLimits h _ _ _ => some ⟨h, 0x0105, false, .axis⟩
  | .setVelocity h _ => some ⟨h, 0x0106, false, .axis⟩
  | .setCurrent h _ => some ⟨h, 0x0107, false, .axis⟩
  | .axisEnable h => some ⟨h, 0x0108, false, .axis⟩
  | .axisDisable h => some ⟨h, 0x0109, false, .axis⟩
  | .faultClear h => some ⟨h, 0x010A, false, .axis⟩
  | .groupMove h _ => some ⟨h, 0x0110, false, .group⟩
  | .groupStop h => some ⟨h, 0x0111, false, .group⟩
  | .groupResume h => some ⟨h, 0x0112, false, .group⟩
  | .groupFlush h => some ⟨h, 0x0113, false, .group⟩
  | .gearEngage h _ _ _ _ _ => some ⟨h, 0x0120, false, .axis⟩
  | .camEngage h _ _ _ _ _ _ _ => some ⟨h, 0x0121, false, .axis⟩
  | .decouple h _ _ => some ⟨h, 0x0122, false, .axis⟩
  | .home h => some ⟨h, 0x0130, false, .axis⟩
  | .stageWrite h _ _ _ => some ⟨h, 0x0201, false, .none⟩
  | .stageCheck h _ => some ⟨h, 0x0202, false, .none⟩
  | .stageCommit h _ _ => some ⟨h, 0x0203, false, .none⟩
  | .stageDiscard h _ => some ⟨h, 0x0204, false, .none⟩
  | .paramWrite h _ _ => some ⟨h, 0x0210, false, .axis⟩
  | .paramRead h _ _ _ => some ⟨h, 0x0211, true, .axis⟩
  | .sigStatus h _ _ _ => some ⟨h, 0x0212, true, .none⟩
  | .bbNodeInfo h _ => some ⟨h, 0x0301, false, .node⟩
  | .bbRelease h => some ⟨h, 0x0302, false, .node⟩
  | .bbFoghorn h _ => some ⟨h, 0x0303, false, .none⟩
  | .bbFogClear h => some ⟨h, 0x0304, false, .none⟩
  | .acqArm h _ => some ⟨h, 0x0401, false, .pod⟩
  | .acqDisarm h => some ⟨h, 0x0402, false, .pod⟩
  | .inject h _ => some ⟨h, 0x0410, false, .axis⟩
  | .injectStop h => some ⟨h, 0x0411, false, .axis⟩
  | .traceFreeze h => some ⟨h, 0x0420, false, .axis⟩
  | .traceRead h _ _ => some ⟨h, 0x0421, true, .axis⟩
  | .loadIdent h _ _ _ => some ⟨h, 0x0440, false, .axis⟩
  | .safLoad h _ _ => some ⟨h, 0x0501, false, .none⟩
  | .safConfirm h _ => some ⟨h, 0x0502, false, .none⟩
  | .safAck h => some ⟨h, 0x0503, false, .safAxis⟩
  | .safStatus h _ => some ⟨h, 0x0504, true, .none⟩
  | .fwUpdate h _ _ => some ⟨h, 0x0601, false, .none⟩
  | .powerState h _ => some ⟨h, 0x0602, false, .none⟩
  | .jnlStatus h _ => some ⟨h, 0x0603, true, .none⟩
  | .logRead h _ _ _ => some ⟨h, 0x0604, true, .none⟩
  | .lifecycleSet h _ _ => some ⟨h, 0x0605, false, .none⟩
  | _ => none

/-! ### What acceptance leaves (R348 to R350) -/

/-- The FINAL record of an immediate command that is accepted in `s` (R349, R350). -/
def State.finalRec (s : State) (h : Hdr) (op cycle : Nat) : OutRec :=
  { ring := h.ring, handle := s.handle h.ring (s.nextSeq h.ring), tag := h.tag, status := 0x0000, kind := .final, ext := none,
    opcode := op, cycle := cycle, detail := 0, irq := decide (h.dflags % 2 = 1), subj := h.subj, seq := s.nextSeq h.ring,
    journal := 1, extra := 0, body := [] }

/-- The ACCEPT record of a long command that is accepted in `s`, with what its mirrored journal record keeps (R349, R350, R379). -/
def State.acceptRec (s : State) (h : Hdr) (op extra : Nat) (body : List Byte) : OutRec :=
  { ring := h.ring, handle := s.handle h.ring (s.nextSeq h.ring), tag := h.tag, status := 0x0001, kind := .accept, ext := none,
    opcode := op, cycle := s.cycle, detail := 0, irq := decide (h.dflags % 2 = 1), subj := h.subj, seq := s.nextSeq h.ring,
    journal := 2, extra := extra, body := body }

/-- `t` is `s` but for the host interface and the registers, and the record `r` of a command that ring `n` has just accepted
waits there last in line for its journal record: the ring's sequence number has risen by one. -/
def State.took (s : State) (n : Nat) (r : OutRec) (t : State) : Prop :=
  (∃ host regs, t = { s with host := host, regs := regs }) ∧ (t.ring n).seq = (s.ring n).seq + 1 ∧
    ∃ before, t.host.outbox = before ++ [r]

/-- `t` is `s` with the immediate command of header `h` accepted and its FINAL, which names `cycle`, on its way. -/
def State.tookImm (s : State) (h : Hdr) (op cycle : Nat) (t : State) : Prop := s.took h.ring (s.finalRec h op cycle) t

/-- `t` is `s` with the long command of header `h` accepted and its ACCEPT on its way. -/
def State.tookLong (s : State) (h : Hdr) (op extra : Nat) (body : List Byte) (t : State) : Prop :=
  s.took h.ring (s.acceptRec h op extra body) t

end Sys2Proof.Machine
end

