-- ==== Sys2Proof/Certificates/Slice0/Obligations.lean ====
section
/-!
DEFINITION. The statements about the block, for the provers: what each command does where the spec lets it act, what every step keeps,
and the rules of the spec that are stated whole.
-/

open Sys2Proof Sys2Proof.Machine

/-! ## Host commands: motion of one axis (R145 to R157) -/

/-- MOVE, STOP, RESUME, FLUSH, SET_LIMITS, SET_VELOCITY and SET_CURRENT, where no check of R347 refuses them: each answers the next state
that its clause writes out, acceptance records included. MOVE is accepted and starts, or waits in the queue; STOP is accepted in every
form, and a move in position mode is given its stopping plan; RESUME takes up a lost stream, a suspended move or a held queue; FLUSH
empties the queue with a FINAL for each move; SET_LIMITS writes its three PNs two cycles ahead; SET_VELOCITY asks for a transition and
SET_CURRENT for a target. The cycle that a FINAL of STOP and of SET_VELOCITY names is that of the plan (R139). That the RESUME of a queue
alone ends at once with no REMAIN is log entry 21, how a relative MOVE meets DIR log entry 167. -/
def Obligations.AxisMotionCommandsTakeEffect : Prop :=
  -- MOVE: it starts, or it waits in the queue (R148, R149)
  (∀ (s : State) (h : Hdr) (flags : Nat) (target v a j : Int), flags < 16 → s.admits h 0x0101 .long 0 .axis →
    s.moveRefusal h.subj flags target v a j = none →
    let x := s.axis h.subj
    let m := { x.resolveMove flags target v a j {} with own := s.openFor h 0x0101 }
    let u := (s.taken .long).acceptLong h 0x0101 0 (x.bodyOf m flags)
    exec (.move h flags target v a j) s = .next
      (if x.prof = .moving ∨ x.prof = .stopping then
        { u.setAxis h.subj { x with queue := x.queue ++ [{ m with no := u.planNo }] } with planNo := u.planNo + 1 }
       else (u.setAxis h.subj { x with cur := some m, curOpen := true, prof := .moving, plan := none, kept := false }).request h.subj
        (.move m))) ∧
  -- STOP of a moving axis in position mode: its move stops by a plan (R150)
  (∀ (s : State) (h : Hdr), s.admits h 0x0102 .imm 0 .axis →
    let x := s.axis h.subj
    x.enabled = true → x.inReaction = false → s.groupBusy h.subj = false → x.ident = none → x.coupling = none →
    x.homing = none → x.ctrlMode = 0 → x.prof = .moving →
    exec (.stop h) s = .next ((((s.taken .imm).setAxis h.subj { x with
      prof := .stopping, heldQueue := !x.queue.isEmpty, reqs := dropMoveReq s.cycle x.reqs }).request h.subj .stop).acceptImm h 0x0102
        (s.planCycle (s.profEngine h.subj)) 0 none)) ∧
  -- STOP in every form: accepted, with the effect that the axis's mode gives it, and none on an axis that is disabled or in a reaction
  (∀ (s : State) (h : Hdr), s.admits h 0x0102 .imm 0 .axis →
    let u := s.taken .imm
    let t := if (s.axis h.subj).enabled = true ∧ (s.axis h.subj).inReaction = false then u.stopAxis h.subj else u
    exec (.stop h) s = .next (t.acceptImm h 0x0102 (u.plannedIn t (s.profEngine h.subj)) 0 none)) ∧
  -- RESUME on a lost stream is immediate and has the axis follow its stream again (R157)
  (∀ (s : State) (h : Hdr), s.admits h 0x0103 .imm 0 .axis → s.resumeRefusal h.subj = none → (s.axis h.subj).streamLost = true →
    let x := s.axis h.subj
    exec (.resume h) s = .next (((s.taken .imm).setAxis h.subj { (x.profFlag fStreamLost false) with
      streamLost := false, streamAge := 0, plan := none, reqs := [] }).acceptImm h 0x0103 (cycAdd s.cycle 1) 0 none)) ∧
  -- RESUME of a suspended move goes on with it under its own handle (R152)
  (∀ (s : State) (h : Hdr) (m : Move), s.admits h 0x0103 .long 0 .axis → s.resumeRefusal h.subj = none →
    (s.axis h.subj).streamLost = false → (s.axis h.subj).cur = some m →
    let x := s.axis h.subj
    exec (.resume h) s = .next ((((s.taken .long).acceptLong h 0x0103 0 (x.bodyOf m (4 * m.dir))).setAxis h.subj { x with
      cur := some { m with own := s.openFor h 0x0103 }, curOpen := true, prof := .moving, plan := none, kept := false }).request h.subj
        .resume)) ∧
  -- RESUME of a held queue alone starts its first move and ends (R152)
  (∀ (s : State) (h : Hdr) (m : Move) (rest : List Move), s.admits h 0x0103 .long 0 .axis → s.resumeRefusal h.subj = none →
    (s.axis h.subj).streamLost = false → (s.axis h.subj).cur = none → (s.axis h.subj).queue = m :: rest →
    let u := (s.taken .long).acceptLong h 0x0103 0 []
    exec (.resume h) s = .next (((u.setAxis h.subj { s.axis h.subj with queue := rest }).startMove h.subj m).finalPlain
      (s.openFor h 0x0103) 0x0000)) ∧
  -- FLUSH empties the queue with a FINAL for each move in it, and drops a suspended remainder (R152)
  (∀ (s : State) (h : Hdr), s.admits h 0x0104 .imm 0 .axis → (s.axis h.subj).inReaction = false → s.groupBusy h.subj = false →
    let x := s.axis h.subj
    exec (.flush h) s = .next (((x.queue.foldl (fun u m => u.finalMove m.own 0x030A u.cycle (satBits 72 (x.leftFrom m x.loop.p)))
      (s.taken .imm)).setAxis h.subj
        (if x.prof = .suspended then { x with
            queue := [], cur := none, curOpen := false, kept := false,
            prof := if x.enabled then x.restState else .disabled }
         else { x with queue := [] })).acceptImm h 0x0104 s.cycle 0 none)) ∧
  -- SET_LIMITS writes the three PNs as a direct write; with an executing move it is long and asks for a plan of its own (R153)
  (∀ (s : State) (h : Hdr) (v a j : Int),
    let x := s.axis h.subj
    let ws := [(Pn.profV, v), (Pn.profA, a), (Pn.profJ, j)]
    x.inReaction = false → ws.any (fun w => s.commitHoldsPn h.subj w.1) = false → s.directFails h.subj ws = none →
    ((x.prof = .moving ∧ x.cur.isSome = true) → s.admits h 0x0105 .long 0 .axis →
      exec (.setLimits h v a j) s = .next ((((s.taken .long).acceptLong h 0x0105 0 []).addDirect h.subj ws).request h.subj
        (.limits (s.openFor h 0x0105)))) ∧
    (¬(x.prof = .moving ∧ x.cur.isSome = true) → s.admits h 0x0105 .imm 0 .axis →
      exec (.setLimits h v a j) s = .next (((s.taken .imm).addDirect h.subj ws).acceptImm h 0x0105 (cycAdd s.cycle 2) 0 none))) ∧
  -- SET_VELOCITY asks for a velocity transition (R154)
  (∀ (s : State) (h : Hdr) (v : Int), s.admits h 0x0106 .imm 0 .axis →
    let x := s.axis h.subj
    x.ctrlMode = 1 → x.streamed = false → x.enabled = true → x.inReaction = false → s.groupBusy h.subj = false → x.ident = none →
    |v| ≤ x.raw Pn.profV → x.towardLimit v = false →
    exec (.setVelocity h v) s = .next (((s.taken .imm).request h.subj (.toSpeed v)).acceptImm h 0x0106
      (s.planCycle (s.profEngine h.subj)) 0 none)) ∧
  -- SET_CURRENT sets the target of the current mode (R155)
  (∀ (s : State) (h : Hdr) (iq : Int), s.admits h 0x0107 .imm 0 .axis →
    let x := s.axis h.subj
    x.ctrlMode = 2 → x.streamed = false → x.enabled = true → x.inReaction = false →
    exec (.setCurrent h iq) s = .next (((s.taken .imm).setAxis h.subj { x with
      iqNext := x.iqNext ++ [(s.cycle, sext 36 (tc 36 iq))] }).acceptImm h 0x0107 (cycAdd s.cycle 2) 0 none))

/-- AXIS_ENABLE, AXIS_DISABLE and FAULT_CLEAR, taken when no check refuses them, and AXIS_ENABLE_EFFECT at its cycle. An enable acts
two cycles after its acceptance, at the φ0 that AXIS_ENABLE_EFFECT stands for; a disable acts at acceptance (log entry 22). -/
def Obligations.AxisEnableCommandsTakeEffect : Prop :=
  (∀ (s : State) (h : Hdr), s.admits h 0x0108 .imm 0 .axis →
    let x := s.axis h.subj
    x.inUse = true → s.isRun = true → s.leavingRun = false → x.ident = none → x.inReaction = false → x.ascShort = false →
    s.stoRefusal h.subj = none → s.commitHoldsAxis h.subj = false →
    ∃ t, exec (.axisEnable h) s = .next t ∧ State.tookImm
      ((s.taken .imm).setAxis h.subj { x with enableAt := x.enableAt ++ [cycAdd s.cycle 2] }) h 0x0108 (cycAdd s.cycle 2) t) ∧
  -- the pending enable of an axis takes effect at its φ0 and is pending no more (R104, R564)
  (∀ (s : State) (a c : Nat), s.usable a = true → (s.axis a).enableAt = [c] → s.dueAtPhi0 c = true →
    let x : Axis := { s.axis a with enableAt := [] }
    x.inUse = true → x.inReaction = false → x.ascShort = false → x.enabled = false →
    exec (.axisEnableEffect a) s = .next ((s.setAxis a x).atPhi0 c (fun u => u.applyEnable a true c))) ∧
  -- or is dropped there with EV28, CODE 0x0101 and the cause in VALUE, the first that holds (R564)
  (∀ (s : State) (a c : Nat), s.usable a = true → (s.axis a).enableAt = [c] → s.dueAtPhi0 c = true →
    let x : Axis := { s.axis a with enableAt := [] }
    let cause : Nat := if x.inUse = false then 1 else if x.inReaction = true ∨ x.ascShort = true then 2 else 3
    (x.inUse = false ∨ x.inReaction = true ∨ x.ascShort = true ∨ x.enabled = true) →
    exec (.axisEnableEffect a) s = .next ((s.setAxis a x).atPhi0 c (fun u => u.ev 28 a 0x0101 cause))) ∧
  -- AXIS_DISABLE: the axis is disabled and the enables accepted before it are gone (R151, R354)
  (∀ (s : State) (h : Hdr), s.admits h 0x0109 .imm 0 .axis →
    let d := (s.taken .imm).disableAxis h.subj
    ∃ t, exec (.axisDisable h) s = .next t ∧ State.tookImm (d.setAxis h.subj { d.axis h.subj with enableAt := [] }) h 0x0109 s.cycle t ∧
      (t.axis h.subj).enabled = false ∧ (t.axis h.subj).enableAt = [] ∧ (t.axis h.subj).plan = none) ∧
  -- FAULT_CLEAR: every latched bit clears and the reaction ends (R131)
  (∀ (s : State) (h : Hdr), s.admits h 0x010A .imm 0 .axis → s.presentCause h.subj = none → (s.axis h.subj).notStill = false →
    let u := (s.taken .imm).clearUnits (s.axis h.subj)
    let y := u.axis h.subj
    ∃ t, exec (.faultClear h) s = .next t ∧ State.tookImm
      (u.setAxis h.subj { y with
        faultActive := 0, faultWarn := 0, reaction := .none, still := false,
        prof := if y.enabled = true ∧ y.holdsWork = false ∧ y.inReaction = true then y.restState else y.prof })
      h 0x010A s.cycle t)

/-! ## Host commands: groups, couplings and homing (R164 to R186) -/

/-- GROUP_MOVE, GROUP_STOP, GROUP_RESUME and GROUP_FLUSH, where no check of R347 and no refusal of R152, R165 and R168 stands against
them: each answers the next state that its clause writes out. GROUP_MOVE is accepted and starts, or waits in the group's queue;
GROUP_STOP has a moving group stop by a plan, and is accepted without effect on one that does not move; GROUP_RESUME goes on to the kept
targets, or takes up a held queue and ends; GROUP_FLUSH empties the queue with a FINAL 0x030A for each move, and drops a suspended
remainder. -/
def Obligations.GroupCommandsTakeEffect : Prop :=
  (∀ (s : State) (h : Hdr) (list : Nat) (l : TargetList),
    let n := (s.members h.subj).length
    s.admits h 0x0110 .long ((n + 4) / 5) .group → s.readTargets list n = some l → l.flags < 2 →
    s.groupRefusal h.subj l = none →
    let x := s.group h.subj
    let m : GroupMove := { targets := s.resolveTargets h.subj l, v := l.v, a := l.a, j := l.j, own := s.openFor h 0x0110 }
    let u := (s.taken .long).acceptLong h 0x0110 ((n + 4) / 5) (groupBody h.subj m l.flags)
    exec (.groupMove h list) s = .next
      (if x.prof = .moving ∨ x.prof = .stopping then u.setGroup h.subj { x with queue := x.queue ++ [m] }
       else (u.setGroup h.subj { x with cur := some m, curOpen := true, prof := .moving, plan := none }).requestGroup h.subj .start)) ∧
  -- GROUP_STOP of a moving group: its FINAL names the cycle of the stopping plan (R139, R150)
  (∀ (s : State) (h : Hdr), s.admits h 0x0111 .imm 0 .group → (s.group h.subj).prof = .moving →
    let x := s.group h.subj
    exec (.groupStop h) s = .next ((((s.taken .imm).setGroup h.subj { x with
      prof := .stopping, heldQueue := !x.queue.isEmpty }).requestGroup h.subj .stop).acceptImm h 0x0111
        (s.planCycle (s.groupEngine h.subj)) 0 none)) ∧
  (∀ (s : State) (h : Hdr), s.admits h 0x0111 .imm 0 .group → (s.group h.subj).prof ≠ .moving →
    exec (.groupStop h) s = .next ((s.taken .imm).acceptImm h 0x0111 (cycAdd s.cycle 2) 0 none)) ∧
  -- GROUP_RESUME: a new straight line to the kept targets
  (∀ (s : State) (h : Hdr) (m : GroupMove), (s.group h.subj).cur = some m →
    s.admits h 0x0112 .long ((m.targets.length + 4) / 5) .group → s.groupResumeRefusal h.subj = none →
    let x := s.group h.subj
    let u := (s.taken .long).acceptLong h 0x0112 ((m.targets.length + 4) / 5) (groupBody h.subj m 0)
    exec (.groupResume h) s = .next ((u.setGroup h.subj { x with
      cur := some { m with own := s.openFor h 0x0112 }, curOpen := true, prof := .moving, plan := none }).requestGroup h.subj .start)) ∧
  -- or the head of the held queue; the RESUME itself ends at once
  (∀ (s : State) (h : Hdr) (m : GroupMove) (rest : List GroupMove), (s.group h.subj).cur = none → (s.group h.subj).queue = m :: rest →
    s.admits h 0x0112 .long 0 .group → s.groupResumeRefusal h.subj = none →
    let u := (s.taken .long).acceptLong h 0x0112 0 (groupBody h.subj {} 0)
    exec (.groupResume h) s = .next (((u.setGroup h.subj { s.group h.subj with queue := rest }).startGroup h.subj m).finalMove
      (s.openFor h 0x0112) 0x0000 s.cycle 0)) ∧
  -- GROUP_FLUSH: a FINAL 0x030A for each queued move, and a suspended remainder is dropped
  (∀ (s : State) (h : Hdr), s.admits h 0x0113 .imm 0 .group → (s.members h.subj).any (fun a => (s.axis a).inReaction) = false →
    let x := s.group h.subj
    let remain (m : GroupMove) : Int := match m.targets.find? (fun e => decide (e.1 = x.lead)) with
      | some e => satBits 72 (e.2 - (s.axis e.1).loop.p)
      | none => 0
    exec (.groupFlush h) s = .next (((x.queue.foldl (fun u m => u.finalMove m.own 0x030A u.cycle (remain m)) (s.taken .imm)).setGroup
      h.subj (if x.prof = .suspended then { x with queue := [], cur := none, curOpen := false, prof := .idle }
        else { x with queue := [] })).acceptImm h 0x0113 s.cycle 0 none))

/-- GEAR_ENGAGE, CAM_ENGAGE and DECOUPLE, where no check of R347 and none of their own refusals stands against them: the slave is claimed
at acceptance, standing until its plan is served, and the coupling's change is requested of the profile engine (R172, R177, R178). -/
def Obligations.CouplingCommandsTakeEffect : Prop :=
  (∀ (s : State) (h : Hdr) (mkind master : Nat) (num den b : Int), s.admits h 0x0120 .long 0 .axis →
    mkind ≤ 2 → (mkind < 2 → s.usable master = true) → 1 ≤ den → den < 2 ^ 35 → -(2 ^ 35) ≤ num → num < 2 ^ 35 → 0 ≤ b → b ≤ 2 ^ 70 →
    let x := s.axis h.subj
    x.ctrlMode = 0 → x.streamed = false → x.enabled = true → x.inReaction = false → s.groupBusy h.subj = false →
    x.coupledBy .cam = false → (x.coupling = none ∨ x.follows mkind master = true) → x.atRest = true →
    s.masterBad h.subj mkind master = false → x.towardLimit (rnd (signR ((num : Rat) * s.masterSense mkind master))) = false →
    s.peShort h.subj 8 = false →
    let c : Coupling := x.coupling.getD { kind := .gear, mkind := mkind, master := master, fn := .standing x.pSet }
    exec (.gearEngage h mkind master num den b) s = .next ((((s.taken .long).acceptLong h 0x0120 0 []).setAxis h.subj { x with
      coupling := some c }).request h.subj (.gear mkind master num den b (s.openFor h 0x0120)))) ∧
  (∀ (s : State) (h : Hdr) (mkind table master : Nat) (mOrg offset scale b : Int) (cam : CamTable), s.admits h 0x0121 .long 0 .axis →
    h.nslot ≠ 1 → mkind ≤ 2 → (mkind < 2 → s.usable master = true) → table ≤ 63 → 0 ≤ b → b ≤ 2 ^ 70 →
    SMap.get none s.stage.inForce.cams table = some cam →
    let x := s.axis h.subj
    x.ctrlMode = 0 → x.streamed = false → x.enabled = true → x.inReaction = false → s.groupBusy h.subj = false →
    (x.coupling = none ∨ x.follows mkind master = true) → x.atRest = true → s.masterBad h.subj mkind master = false →
    x.towardLimit (rnd (signR ((cam.jet (s.masterAt h.subj mkind master - (mOrg : Rat))).d * gVal scale *
      s.masterSense mkind master))) = false →
    s.peShort h.subj 14 = false →
    let c : Coupling := x.coupling.getD { kind := .cam, mkind := mkind, master := master, fn := .standing x.pSet }
    exec (.camEngage h mkind table master mOrg offset scale b) s = .next ((((s.taken .long).acceptLong h 0x0121 0 []).setAxis h.subj
      { x with coupling := some c }).request h.subj (.camOn mkind master table mOrg offset scale b (s.openFor h 0x0121)))) ∧
  (∀ (s : State) (h : Hdr) (mode : Nat) (b : Int), s.admits h 0x0122 .long 0 .axis → mode ≤ 1 → (mode = 0 → 0 ≤ b ∧ b ≤ 2 ^ 70) →
    let x := s.axis h.subj
    x.enabled = true → x.inReaction = false → x.coupling.isSome = true → x.uncoupling = none → (mode = 0 → x.coupledBy .cam = false) →
    let u := (s.taken .long).acceptLong h 0x0122 0 []
    exec (.decouple h mode b) s = .next (if mode = 0 then u.request h.subj (.ungear b (s.openFor h 0x0122))
      else (u.setAxis h.subj { x with uncoupling := some (some (s.openFor h 0x0122)) }).request h.subj .uncouple))

/-- HOME, where no check of R347 and no refusal of R182 stands against it, is accepted in every form and its run begins; with method 0
and no limit active it searches the limit at HOME_V_FAST (R182, R183). A switch edge that HOME_CONFIRM confirms is kept, and goes to the
homing run, to source 16 or to nothing else (R180, R181, R183); on method 0 the edge that ends the slow move is the reference; the stall
of method 4 makes p the reference (R183). -/
def Obligations.HomingCommandsTakeEffect : Prop :=
  -- HOME in every form
  (∀ (s : State) (h : Hdr), s.admits h 0x0130 .long 0 .axis → s.homeRefusal h.subj = none →
    exec (.home h) s = .next (((s.taken .long).acceptLong h 0x0130 0 []).homeStart h.subj (s.openFor h 0x0130))) ∧
  -- with method 0 and the limit ahead not active, the run searches it at HOME_V_FAST
  (∀ (s : State) (h : Hdr), s.admits h 0x0130 .long 0 .axis → s.homeRefusal h.subj = none →
    let x := s.axis h.subj
    x.int Pn.homeMethod = 0 → x.switch 0 = false → x.switch 1 = false →
    exec (.home h) s = .next ((((s.taken .long).acceptLong h 0x0130 0 []).setAxis h.subj { x with
      homing := some { method := 0, phase := .search, dir := x.homeSense, own := s.openFor h 0x0130 } }).request h.subj
        (.toSpeed (x.homeSense * x.raw Pn.homeVFast)))) ∧
  -- a confirmed edge of a configured switch on an axis that does not home
  (∀ (s : State) (a sw : Nat) (active : Bool) (pos : Int), s.usable a = true → sw < 3 → s.live = true →
    s.switchHeld a sw active = true →
    let x := s.axis a
    x.switch sw ≠ active → x.homing = none →
    let u := s.setAxis a { x with sw := x.sw.set sw active, swSeen := x.swSeen.set sw (0, 0) }
    exec (.switchEdgeConfirmed a sw active pos) s = .next
      (if active = true ∧ sw ≠ 2 ∧ x.enabled = true ∧ s.isRun = true then u.raiseSource a 16 0 true else u)) ∧
  -- the falling edge that ends the slow move of method 0 is the reference, where the edge stood: a field channel's is stamped
  (∀ (s : State) (a sw : Nat) (pos : Int) (r : Homing), s.usable a = true → sw < 2 → s.live = true →
    s.switchHeld a sw false = true →
    let x := s.axis a
    x.switch sw = true → x.homing = some r → r.method = 0 → r.phase = .backOff → sw = limitIn r.dir →
    let ref := if x.int (switchPn sw) < 16 then pos else (x.swSeen.getD sw (0, 0)).2
    ∃ t, exec (.switchEdgeConfirmed a sw false pos) s = .next t ∧
      ∃ r', (t.axis a).homing = some r' ∧ r'.pRef = some ref ∧ r'.phase = .settle ∧ (t.axis a).sw = x.sw.set sw false) ∧
  -- the stall of method 4
  (∀ (s : State) (a : Nat) (r : Homing),
    let x := s.axis a
    x.homing = some r → s.isRun = true → s.usable a = true → r.phase = .stallSearch → |x.loop.vEst| ≤ x.raw Pn.stillV →
    95 * toHfs (x.g Pn.iFs) (x.g Pn.homeIlim) ≤ 100 * |x.loop.iqSet| →
    exec (.homingStallDetected a) s = .next ((s.setAxis a { x with
      homing := some { r with pRef := some x.loop.p, phase := .settle } }).request a (.toSpeed 0)))

/-! ## Host commands: NOP, FENCE and the commands that read -/

/-- NOP and FENCE: a FENCE whose condition is met completes; one whose condition is not met writes nothing, and its ring stops at it
with the producer indices it stands for (R353, R355). QUERY: an unknown handle, one whose FINAL is still to come, one past the last 4,096
of its ring, and one whose FINAL the result cache holds (R348, R351). What the indices are while a FENCE waits is the model's reading (log
entry 18). -/
def Obligations.NopFenceAndQueryComplete : Prop :=
  (∀ (s : State) (h : Hdr), s.admits h 0x0001 .imm 0 .none →
    exec (.nop h) s = .next ((s.taken .imm).acceptImm h 0x0001 s.cycle 0 none)) ∧
  (∀ (s : State) (h : Hdr) (mask mode : Nat), mode ≤ 1 → s.fenceMet h.ring mask mode = true →
    let u := s.setFence h.ring none
    u.admits h 0x0002 .imm 0 .none →
    exec (.fence h mask mode) s = .next ((u.taken .imm).acceptImm h 0x0002 s.cycle 0 none)) ∧
  (∀ (s : State) (h : Hdr) (mask mode : Nat), mode ≤ 1 → s.fenceMet h.ring mask mode = false → s.admits h 0x0002 .imm 0 .none →
    ∃ t, exec (.fence h mask mode) s = .next t ∧ t = s.setFence h.ring (some (s.fenceRec h.ring mask)) ∧
      t.host.outbox = s.host.outbox ∧ t.host.mem = s.host.mem ∧ (t.ring h.ring).seq = (s.ring h.ring).seq) ∧
  (∀ (s : State) (h : Hdr) (hd buf : Nat), s.admits h 0x0003 .read 0 .none → alignedAddr buf = true → s.handleKnown hd = false →
    exec (.query h hd buf) s = .next (s.answer h 0x0003 0x0109 hd s.cycle 0 none)) ∧
  (∀ (s : State) (h : Hdr) (hd buf : Nat), s.admits h 0x0003 .read 0 .none → alignedAddr buf = true → s.handleKnown hd = true →
    s.handlePending hd = true → exec (.query h hd buf) s = .next (s.answer h 0x0003 0x0002 hd s.cycle 0 none)) ∧
  (∀ (s : State) (h : Hdr) (hd buf : Nat), s.admits h 0x0003 .read 0 .none → alignedAddr buf = true → s.handleKnown hd = true →
    s.handlePending hd = false → handleSeq hd + 4096 ≤ (s.ring (handleRing hd)).seq →
    exec (.query h hd buf) s = .next (s.answer h 0x0003 0x0703 hd s.cycle 0 none)) ∧
  (∀ (s : State) (h : Hdr) (hd buf : Nat) (f : FinalRec), s.admits h 0x0003 .read 0 .none → alignedAddr buf = true →
    s.handleKnown hd = true → s.handlePending hd = false → (s.ring (handleRing hd)).seq < handleSeq hd + 4096 →
    SMap.get none s.host.results (resKey (handleRing hd) (handleSeq hd)) = some f → f.lost = false → buf ≠ 0 →
    let ext := if f.ext then s.extOf (handleRing hd) (handleSeq hd) else none
    exec (.query h hd buf) s = .next ((s.memWr buf (f.bytes hd ++ fitBytes 64 (ext.getD []))).answer h 0x0003 f.status hd f.cycle
      f.detail ext))

/-- PARAM_READ, SIG_STATUS, SAF_STATUS, JNL_STATUS and LOG_READ write their buffer and post an ANSWER; the rest of the state is as
it was, but for the sticky bits that PARAM_READ clears (R105, R109, R327, R356). The bytes of JNL_STATUS and LOG_READ are free values:
the spec gives their buffers no layout (log entry 9). -/
def Obligations.ReadCommandsFillTheirBuffer : Prop :=
  (∀ (s : State) (h : Hdr) (pn count buf : Nat), s.admits h 0x0211 .read 0 .axis → 1 ≤ count → count ≤ 64 → alignedAddr buf = true →
    (pnDesc? pn).isSome = true →
    let pns := (List.range count).map (fun i => pn + i)
    exec (.paramRead h pn count buf) s = .next ((((s.memWr buf (pns.flatMap (s.pnBytes h.subj))).setAxis h.subj
      (pns.foldl Axis.readClears (s.axis h.subj)))).answer h 0x0211 0x0000 0 s.cycle 0 none)) ∧
  (∀ (s : State) (h : Hdr) (block count buf : Nat), s.admits h 0x0212 .read 0 .none → 1 ≤ count → count ≤ 256 →
    block + count ≤ 16384 → alignedAddr buf = true →
    let one (b : Nat) : List Byte :=
      leBytes 8 ((if (s.blockStat b).valid then 1 else 0) + (s.blockStat b).bseq % 256 * 2 ^ 8 + (s.blockStat b).age % 2 ^ 16 * 2 ^ 16)
    exec (.sigStatus h block count buf) s = .next ((s.memWr buf ((List.range count).flatMap (fun i => one (block + i)))).answer h
      0x0212 0x0000 0 s.cycle 0 none)) ∧
  (∀ (s : State) (h : Hdr) (buf : Nat), s.admits h 0x0504 .read 0 .none → alignedAddr buf = true →
    let words := (List.range 6).map (fun i => s.safWord (4 * i)) ++ (List.range 32).map (fun i => s.safWord (0x100 + 4 * i))
    exec (.safStatus h buf) s = .next ((s.memWr buf (fitBytes 256 (words.flatMap (fun w => leBytes 4 w)))).answer h 0x0504 0x0000 0
      s.cycle 0 none)) ∧
  (∀ (s : State) (h : Hdr) (buf : Nat), s.admits h 0x0603 .read 0 .none → alignedAddr buf = true →
    ∃ bs, bs.length = 64 ∧ exec (.jnlStatus h buf) s = .next (({ s with free := s.free + 1 }.memWr buf bs).answer h 0x0603 0x0000 0
      s.cycle 0 none)) ∧
  (∀ (s : State) (h : Hdr) (start count buf : Nat), s.admits h 0x0604 .read 0 .none → alignedAddr buf = true →
    ∃ bs, bs.length = 32 * min count (s.eventLog.length - start) ∧
      exec (.logRead h start count buf) s = .next (({ s with free := s.free + 1 }.memWr buf bs).answer h 0x0604 0x0000 0 s.cycle 0
        none))

/-- TRACE_FREEZE and TRACE_READ on a VLN-128: the trace triggers; a frozen trace is written to the buffer in whole cycles, and a read
that covers every cycle resumes recording; TRACE_AUTO_FREEZE freezes it once the cycles after its trigger have passed (R440, R441). -/
def Obligations.TraceCommandsTakeEffect : Prop :=
  (∀ (s : State) (h : Hdr), s.grade = 2 → s.admits h 0x0420 .imm 0 .axis →
    exec (.traceFreeze h) s = .next (((s.taken .imm).setAxis h.subj ((s.axis h.subj).traceTrigger s.cycle)).acceptImm h 0x0420 s.cycle 0
      none)) ∧
  (∀ (s : State) (h : Hdr) (buf len : Nat), s.grade = 2 → s.admits h 0x0421 .read 0 .axis → alignedAddr buf = true →
    (s.axis h.subj).trace.state = 3 → 64 ≤ len →
    let x := s.axis h.subj
    let k := (len - 64) / (16 * x.traceNodes.length)
    let u := s.memWr buf (x.traceBytes (x.trace.rows.take k))
    exec (.traceRead h buf len) s = .next ((if x.trace.rows.length ≤ k then u.setAxis h.subj { x with trace := { x.trace with state := 1 } }
      else u).answer h 0x0421 0x0000 0 s.cycle 0 none)) ∧
  (∀ (s : State) (a : Nat), s.usable a = true → (s.axis a).trace.state = 2 → (s.axis a).trace.post = 0 →
    let x := s.axis a
    exec (.traceAutoFreeze a) s = .next (s.setAxis a { x with trace := { x.trace with state := 3 } }))

/-! ## Host commands: stage sets, commits and direct writes (R365 to R377, R105) -/

/-- STAGE_WRITE, STAGE_DISCARD, STAGE_CHECK with its completion, taken when no check refuses them (R365 to R368). STAGE_COMMIT without a
named cycle, of a set that touches no node: two cycles ahead (R372, R373); one that finds another commit pending waits (R372). -/
def Obligations.StageCommandsTakeEffect : Prop :=
  (∀ (s : State) (h : Hdr) (set addr len : Nat) (items : List StageItem), s.admits h 0x0201 .imm 0 .none →
    s.stageItems set addr len = (none, items) → (s.stageSet set).busy = false →
    let x := s.stageSet set
    let added := items.foldl addItem x.items
    s.itemsUsed - x.items.length + added.length ≤ 4096 →
    exec (.stageWrite h set addr len) s = .next (((s.taken .imm).setStage set { state := .opened, items := added }).acceptImm h 0x0201
      s.cycle 0 none)) ∧
  (∀ (s : State) (h : Hdr) (set : Nat), s.admits h 0x0204 .imm 0 .none → set ≤ 3 → (s.stageSet set).busy = false →
    exec (.stageDiscard h set) s = .next (((s.taken .imm).setStage set {}).acceptImm h 0x0204 s.cycle 0 none)) ∧
  (∀ (s : State) (h : Hdr) (set : Nat), s.admits h 0x0202 .long 0 .none → set ≤ 3 → (s.stageSet set).state = .opened →
    let u := (s.taken .long).setStage set { s.stageSet set with state := .checking }
    exec (.stageCheck h set) s = .next ({ u with stage := { u.stage with
      checks := u.stage.checks ++ [(set, s.openFor h 0x0202)] } }.acceptLong h 0x0202 0 [])) ∧
  -- its completion: the set is open again, and the FINAL tells of the first rule that fails
  (∀ (s : State) (set : Nat) (own : Open) (rest : List (Nat × Open)), s.stage.checks = (set, own) :: rest → s.svRuns = true →
    let x := s.stageSet set
    let u := { s with stage := { s.stage with checks := rest } }.setStage set { x with state := .opened }
    (s.checkItems x.items (cycAdd s.cycle 2) = none → exec .stageCheckComplete s = .next (u.final own 0x0000 s.cycle 0 none [])) ∧
    (∀ f, s.checkItems x.items (cycAdd s.cycle 2) = some f →
      exec .stageCheckComplete s = .next (u.final own 0x0201 s.cycle f.detail (some f.bytes) []))) ∧
  (∀ (s : State) (h : Hdr) (set : Nat), set ≤ 3 → s.stage.sets.length = 4 → s.admits h 0x0203 .long 0 .none →
    (s.stageSet set).state = .opened → s.stage.commit = none → s.stage.waiting = [] →
    let x := s.stageSet set
    let c := cycAdd s.cycle 2
    let u := ((s.taken .long).setStage set { x with state := .committing }).acceptLong h 0x0203 0 []
    u.touchesNodes x.items = false → u.checkItems x.items c = none →
    let cams := (x.items.filter (fun i => decide (i.kind = 11))).map (fun i =>
      (i.a, SMap.get none (u.withItems x.items).stage.inForce.cams i.a))
    let k : Commit := { set := set, own := s.openFor h 0x0203, named := none, cycle := c, gen := s.stage.gen, answered := [],
                        needs := [], phase := .scheduled, checked := s.cycle, cams := cams }
    exec (.stageCommit h set 0xFFFFFFFF) s = .next { u with stage := { u.stage with commit := some k, waiting := [] } }) ∧
  (∀ (s : State) (h : Hdr) (set cycle : Nat), set ≤ 3 → (cycle = 0xFFFFFFFF ∨ cycDiff s.cycle cycle ≤ 2 ^ 20) →
    s.admits h 0x0203 .long 0 .none → (s.stageSet set).state = .opened → s.stage.commit.isSome = true →
    let u := ((s.taken .long).setStage set { s.stageSet set with state := .committing }).acceptLong h 0x0203 0 []
    exec (.stageCommit h set cycle) s = .next { u with stage := { u.stage with
      waiting := s.stage.waiting ++ [(set, s.openFor h 0x0203, cycle)] } })

/-- The rest of a commit's life: COMMIT_APPLY at its φ0, with the new generation in force; COMMIT_READY_MISS and
COMMIT_ANSWER_TIMEOUT, which end it with COMMIT_NO_ACK and leave its set OPEN; PARAM_STORE_WRITE_DONE, which writes the idle copy with
the next generation number and closes the set (R372, R373, R375 to R377). -/
def Obligations.CommitsApplyOrEnd : Prop :=
  (∀ (s : State) (k : Commit), s.stage.commit = some k → k.phase = .scheduled → s.dueAtPhi0 k.cycle = true → s.haltedEngine = none →
    ∃ t, exec .commitApply s = .next t ∧ t = s.applyCommit k k.cycle ∧ t.stage.gen = k.gen ∧
      t.stage.commit = some { k with phase := .applied }) ∧
  (∀ (s : State) (k : Commit) (isNode : Bool) (subject : Nat), s.stage.commit = some k → k.phase = .scheduled →
    let u := (s.setStage k.set { s.stageSet k.set with state := .opened }).final k.own 0x0205 s.cycle (subject % 2 ^ 16 * 2 ^ 16)
      (some (noAckBytes (if isNode then 5 else 10) subject)) []
    exec (.commitReadyMiss isNode subject) s = .next u.nextCommit) ∧
  (∀ (s : State) (k : Commit), s.stage.commit = some k → k.phase = .awaiting →
    (match k.named with
     | some c => cycDiff s.cycle c < 4
     | none => 256 < cycDiff k.checked s.cycle) →
    let n := (k.needs.find? (fun n => decide (n ∉ k.answered))).getD 0
    exec .commitAnswerTimeout s = .next ((s.evC 26 (s.noderec n).lane 3).commitNoAck k 5 n)) ∧
  (∀ (s : State) (k : Commit), s.stage.commit = some k → k.phase = .applied → s.mramOpen = true →
    let gen := (if s.stage.copyB then s.stage.storeB else s.stage.storeA).gen + 1
    let u := { s with stage := { s.stage with
      storeA := if s.stage.copyB then s.storeImage gen else s.stage.storeA
      storeB := if s.stage.copyB then s.stage.storeB else s.storeImage gen
      copyB := !s.stage.copyB } }
    exec .paramStoreWriteDone s = .next (((u.setStage k.set {}).final k.own 0x0000 k.cycle 0 none (storeBody (!s.stage.copyB)
      gen)).nextCommit))

/-- PARAM_WRITE is accepted with its writes still to come, two cycles ahead; PARAM_WRITE_EFFECT makes those that are due, in the order
of acceptance, and leaves the others (R105, R108, R374). -/
def Obligations.DirectWritesTakeEffect : Prop :=
  (∀ (s : State) (h : Hdr) (count : Nat) (writes : List (Nat × Int)), s.admits h 0x0210 .imm 0 .axis → 1 ≤ count → count ≤ 9 →
    (h.nslot = 1 → count = 1) →
    let ws : List (Nat × Int) := imageWrites h.nslot count writes
    ws.findSome? (s.writeRefusal h.subj) = none → s.postTooLong h.subj ws = false →
    ws.any (fun w => s.commitHoldsPn h.subj w.1) = false → s.directFails h.subj ws = none →
    let u := s.taken .imm
    exec (.paramWrite h count writes) s = .next ({ u with stage := { u.stage with
      direct := u.stage.direct ++ ws.map (fun (w : Nat × Int) => (cycAdd s.cycle 2, h.subj, w.1, w.2)) } }.acceptImm h 0x0210 (cycAdd s.cycle 2) 0
        none)) ∧
  (∀ (s : State), exec .paramWriteEffect s = .next
    ((s.stage.direct.filter (fun d => s.dueAtPhi0 d.1)).foldl (fun u d => u.applyDirect d.2.1 d.2.2.1 d.2.2.2)
      { s with stage := { s.stage with direct := s.stage.direct.filter (fun d => !s.dueAtPhi0 d.1) } })) ∧
  -- one write of an ordinary PN changes that PN of that axis
  (∀ (s : State) (c a pn : Nat) (v : Int) (d : PnDesc), s.stage.direct = [(c, a, pn, v)] → s.dueAtPhi0 c = true → pnDesc? pn = some d →
    pn ≠ Pn.traceMask → modelPn pn = false →
    let x := s.axis a
    exec .paramWriteEffect s = .next ({ s with stage := { s.stage with direct := [] } }.setAxis a (x.setPn pn (pnStore x.raw d v))))

/-! ## The journal's own rows (R381, R388 to R391) -/

/-- JOURNAL_RECORD_WRITE writes the record of the command that waits first, and its completion record leaves after it; CQ_CI follows
a record of acceptance (log entry 186). The scrub retires a bank that fails, makes a copy that had to wait for the MRAM, and else does
nothing; JNL_RATE_UPDATE gives rate and life anew (R381, R388, R389, R391). -/
def Obligations.JournalRowsTakeEffect : Prop :=
  (∀ (s : State) (bad : Option Nat) (r : OutRec) (rest : List OutRec), s.mramStop = false → s.live = true → s.svRuns = true →
    (s.bankOk 0 = true ∨ s.bankOk 1 = true) → s.jnl.setupWaiting = [] → s.host.outbox = r :: rest → r.journal ≠ 0 → r.extra = 0 →
    ¬(r.kind = .final ∧ r.opcode = 0x0203 ∧ r.status = 0x0000) →
    let behind := (((s.ring r.ring).longIdx.find? (fun e => decide (e.2 = r.seq))).map (fun e => e.1)).getD (s.ring r.ring).cqCi
    let u := s.writeRecord (r.jrec ((s.ring r.ring).crPi % 2 ^ 32) behind) bad
    let t := { u with host := { u.host with outbox := { r with journal := 0 } :: rest } }.drain
    exec (.journalRecordWrite bad) s = .next (if r.rtype = 3 then t else t.writeBackCi r.ring)) ∧
  -- the scrub: a bank that fails is retired; a copy that waits for the MRAM is made; else nothing is to do
  (∀ (s : State) (b : Nat), s.live = true → s.svRuns = true →
    exec (.journalRecordScrub (some b)) s = .next (s.copyNow.bankFault (b % 2))) ∧
  (∀ (s : State) (b : Nat), s.live = true → s.svRuns = true → s.jnl.copyDue = some b → s.mramOpen = true →
    exec (.journalRecordScrub none) s = .next (State.copyLive { s with jnl := { s.jnl with copyDue := none } } b)) ∧
  (∀ (s : State), s.live = true → s.svRuns = true → s.jnl.copyDue = none → exec (.journalRecordScrub none) s = .next s) ∧
  (∀ (s : State), s.live = true →
    let j := s.jnl
    let per := (j.thisSecond :: j.perSecond).take 86400
    let rate := if j.seconds + 1 < 86400 then j.sinceRestart / (j.seconds + 1) else per.sum / 86400
    let life := lifeDays (max j.writes0 j.writes1) rate
    let u := ({ s with jnl := { j with seconds := j.seconds + 1, perSecond := per, thisSecond := 0 } }.setReg R.jnlRate
      (BitVec.ofNat 32 rate)).setReg R.jnlLife (BitVec.ofNat 32 life)
    exec .jnlRateUpdate s = .next (if life < 365 ∧ 365 ≤ (s.reg R.jnlLife).toNat then u.evC 59 0xFFFF 6 else u))

/-! ## Host commands: acquisition, injection and load identification (R427 to R442, R436 to R439, R239, R240) -/

/-- ACQ_ARM arms a pod on the lowest free area and ACQ_DISARM ends its arming with the pea in progress (R428, R435); CAPTURE_SAMPLE of
a triggered pod adds the sample of its cycle (R430, R431); PEA_COPY_DONE writes the oldest waiting pea to its slot, and the pod's
arming ends with its last (R431, R434). The place of an area is the model's choice (log entry 12). -/
def Obligations.AcquisitionPodsTakeEffect : Prop :=
  (∀ (s : State) (h : Hdr) (cfg : Nat) (bs : List Byte), s.admits h 0x0401 .long 0 .pod → s.argBuf cfg 128 = (none, bs) →
    let q := parseArm bs
    alignedAddr q.host = true → s.armCause h.subj q = 0 →
    let u := ((s.taken .long).setReg (R.podStat h.subj + 4) 0).acceptLong h 0x0401 0 []
    ∃ pd, exec (.acqArm h cfg) s = .next (u.setPod h.subj (some pd)) ∧ pd.npea = q.npea ∧ pd.s = q.s ∧ pd.post = q.post ∧
      pd.src = q.src.take q.c ∧ pd.tkind = q.tkind ∧ pd.level = q.level ∧ pd.host = q.host ∧
      pd.size = areaUnits q.npea q.s q.c ∧ s.freeBase pd.size = some pd.base ∧ pd.firstCycle = cycAdd s.cycle 1 ∧ pd.ending = false ∧
      pd.waiting = [] ∧ pd.pea.samples = []) ∧
  (∀ (s : State) (h : Hdr) (q : Pod), s.admits h 0x0402 .imm 0 .pod → s.pod h.subj = some q → q.ending = false →
    q.allRecorded = false →
    exec (.acqDisarm h) s = .next (((s.taken .imm).setPod h.subj (some { q.cutPea s.now with ending := true })).acceptImm h 0x0402 s.cycle
      0 none)) ∧
  (∀ (s : State) (p : Nat) (q : Pod), p < 8 → s.pod p = some q → s.isRun = true → s.engineRuns 11 = true → q.ending = false →
    q.allRecorded = false → 0 ≤ cycDiff q.firstCycle s.cycle → q.fast = false → s.cycle % 2 ^ q.div = 0 →
    q.pea.samples.getLast?.map (fun e => e.1) ≠ some s.cycle → q.pea.trig.isSome = true → 2 ≤ q.pea.left →
    ∃ regs q', exec (.captureSample p) s = .next ({ s with regs := regs }.setPod p (some q')) ∧
      q'.pea.samples = q.pea.samples ++ [(s.cycle, s.phi0 s.cycle, q.src.map s.srcWord)] ∧ q'.pea.left = q.pea.left - 1 ∧
      q'.pea.trig = q.pea.trig ∧ q'.pea.index = q.pea.index) ∧
  (∀ (s : State) (p : Nat) (q : Pod) (w : Pea) (rest : List Pea), p < 8 → s.pod p = some q → s.hostUp = true → q.waiting = w :: rest →
    w.part = false → w.memErr = false →
    let u := ((s.memWr (q.host + (w.index % q.npea) * (128 + 16 * q.s * q.c)) (q.peaBytes w)).evFree 56 p).bumpFld (R.podStat p + 4) 0 32 1
    let q' := { q with waiting := rest, count := q.count + 1 }
    exec (.peaCopyDone p) s = .next
      (if (q.cont = false ∧ w.index + 1 = q.npea) ∨ (q.ending = true ∧ rest = []) then
        ((u.evFree 57 p).final q.own 0x0000 u.cycle 0 none []).setPod p none
       else u.setPod p (some q')))

/-- INJECT begins two cycles ahead, INJECT_STOP has it stop at its next update, and INJECTION_END gives its FINAL (R436 to R439);
INJECT_STOP without an injection changes nothing (log entry 40). LOAD_IDENT enables its axis and begins with its first step;
LOAD_IDENT_STEP_END goes on with the next, or ends the identification with its results or a failure code, the axis disabled again (R239,
R240). -/
def Obligations.InjectionAndIdentificationTakeEffect : Prop :=
  (∀ (s : State) (h : Hdr) (cfg : Nat) (bs : List Byte), s.admits h 0x0410 .long 0 .axis → s.argBuf cfg 128 = (none, bs) →
    injectZero bs = true →
    let x := s.axis h.subj
    let i := parseInject bs
    s.isRun = true → s.leavingRun = false → x.enabled = true → x.injectMode i.point = false → x.inReaction = false → x.inj = none →
    s.injectBad x i = false → s.injections < 8 →
    exec (.inject h cfg) s = .next (((s.taken .long).acceptLong h 0x0410 0 []).setAxis h.subj { x with
      inj := some { i with startCycle := cycAdd s.cycle 2, lastCycle := s.cycle, own := s.openFor h 0x0410 } })) ∧
  (∀ (s : State) (h : Hdr), s.admits h 0x0411 .imm 0 .axis →
    let x := s.axis h.subj
    exec (.injectStop h) s = .next (((s.taken .imm).setAxis h.subj { x with
      inj := x.inj.map (fun i => { i with stopping := true }) }).acceptImm h 0x0411 s.cycle 0 none)) ∧
  (∀ (s : State) (a : Nat) (i : Injection), (s.axis a).inj = some i → i.duration ≤ i.j →
    let x := s.axis a
    exec (.injectionEnd a) s = .next ((s.setAxis a { x with inj := none }).final i.own 0x0000 i.lastCycle 0 none [])) ∧
  (∀ (s : State) (h : Hdr) (steps : Nat) (iTest vTest : Int), s.admits h 0x0440 .long 0 .axis →
    let x := s.axis h.subj
    1 ≤ steps → steps ≤ 7 → 0 ≤ iTest → iTest ≤ x.raw Pn.iMax → |vTest| ≤ x.raw Pn.profV → s.isRun = true →
    x.enabled = false → x.enableAt = [] → x.inUse = true → x.ident = none → x.inReaction = false →
    let u := ((s.taken .long).acceptLong h 0x0440 0 []).applyEnable h.subj false s.cycle
    exec (.loadIdent h steps iTest vTest) s = .next (u.identNext h.subj {
      stepsLeft := identSteps (decide ((u.axis h.subj).int Pn.fbSrc = -1)) steps, iTest := iTest, vTest := vTest
      own := s.openFor h 0x0440 })) ∧
  -- a step that is not over goes on
  (∀ (s : State) (a : Nat) (i : Ident) (short : Bool) (slopes : List Int × List Int), (s.axis a).ident = some i →
    s.identJudge (s.axis a) i short slopes = none → exec (.loadIdentStepEnd a short slopes) s = .next s) ∧
  -- one that fails ends the identification with its code, the axis disabled: motion above STILL_V with code 2
  (∀ (s : State) (a code : Nat) (i : Ident) (short : Bool) (slopes : List Int × List Int), (s.axis a).ident = some i →
    s.identJudge (s.axis a) i short slopes = some (.inl code) →
    let u := (s.setAxis a { s.axis a with ident := none }).disableAxis a
    exec (.loadIdentStepEnd a short slopes) s = .next (u.final i.own 0x0317 s.cycle code none [])) ∧
  (∀ (s : State) (a : Nat) (i : Ident) (short : Bool) (slopes : List Int × List Int), (s.axis a).ident = some i → i.moved = true →
    let u := (s.setAxis a { s.axis a with ident := none }).disableAxis a
    exec (.loadIdentStepEnd a short slopes) s = .next (u.final i.own 0x0317 s.cycle 2 none [])) ∧
  -- one that succeeds keeps its results, and the next begins
  (∀ (s : State) (a : Nat) (i : Ident) (short : Bool) (slopes : List Int × List Int) (rs : List (Nat × Nat × Int)) (step next : Nat)
      (more : List Nat),
    let x := s.axis a
    x.ident = some i → i.stepsLeft = step :: next :: more → s.identJudge x i short slopes = some (.inr rs) →
    (∀ r, r ∈ rs → ∃ d, pnDesc? r.2.1 = some d ∧ pnInRange x.raw d r.2.2 = true) →
    exec (.loadIdentStepEnd a short slopes) s = .next (s.identNext a { i with
      stepsLeft := next :: more, results := rs.foldl (fun l r => l.set r.1 r.2.2) i.results
      rMeas := match rs with
        | (0, _, v) :: _ => some v
        | _ => i.rMeas })) ∧
  -- the last gives the FINAL with the results
  (∀ (s : State) (a : Nat) (i : Ident) (short : Bool) (slopes : List Int × List Int) (rs : List (Nat × Nat × Int)) (step : Nat),
    let x := s.axis a
    x.ident = some i → i.stepsLeft = [step] → s.identJudge x i short slopes = some (.inr rs) →
    (∀ r, r ∈ rs → ∃ d, pnDesc? r.2.1 = some d ∧ pnInRange x.raw d r.2.2 = true) →
    let u := (s.setAxis a { x with ident := none }).disableAxis a
    exec (.loadIdentStepEnd a short slopes) s = .next (u.final i.own 0x0000 s.cycle 0
      (some ((rs.foldl (fun l r => l.set r.1 r.2.2) i.results).flatMap bytes72)) []))

/-! ## Host commands: backbone, and the Foghorn (R289 to R291, R318, R337) -/

/-- BB_RELEASE has the nodes of its number announce again (R290). A Foghorn is latched with its reason, cause and sequence when BB_FOGHORN,
a requesting node or a frame raises it for the first time, BB_FOG_CLEAR clears it, a node's latch takes the sequence of a frame, an
invalid frame is only counted, and FOGHORN_SEND takes the oldest from a lane (R318, R319, R321, R337). That BB_FOGHORN names no node as
its cause by 0xFFFF is in the spec's row. -/
def Obligations.ReleaseAndFoghornTakeEffect : Prop :=
  (∀ (s : State) (h : Hdr), s.admits h 0x0302 .imm 0 .node → (s.noderec h.subj).state = .quarantined →
    (s.noderec h.subj).rivals = [] →
    let x := s.noderec h.subj
    let u := (s.taken .imm).setNoderec h.subj { x with state := if x.slot then .lost else .absent, reason := 0, rivals := [] }
    let v := [0, 1, 2, 3].foldl (fun (w : State) n => if w.laneOn n then
      w.setLane n { w.lane n with quars := (w.lane n).quars ++ [⟨3, h.subj, 0⟩] } else w) u
    exec (.bbRelease h) s = .next (v.acceptImm h 0x0302 s.cycle 0 none)) ∧
  (∀ (s : State) (h : Hdr) (reason : Nat), s.admits h 0x0303 .imm 0 .none → (s.uid, (s.bb.fogSeq + 1) % 2 ^ 32) ∉ s.bb.fogSeen →
    ∃ t, exec (.bbFoghorn h reason) s = .next t ∧ t.bb.fogLatched = true ∧ t.bb.fogReason = reason % 2 ^ 16 ∧ t.bb.fogCause = 0xFFFF ∧
      t.bb.fogLast = (s.bb.fogSeq + 1) % 2 ^ 32 ∧ t.bb.fogSeq = (s.bb.fogSeq + 1) % 2 ^ 32 ∧ t.bb.fogDue = true ∧ t.axes = s.axes) ∧
  (∀ (s : State) (h : Hdr), s.admits h 0x0304 .imm 0 .none →
    let u := s.taken .imm
    exec (.bbFogClear h) s = .next ({ u with
      bb := { u.bb with fogLatched := false, fogClrSeq := u.bb.fogLast }
      field := { u.field with fogBlocked := false } }.acceptImm h 0x0304 s.cycle 0 none)) ∧
  (∀ (s : State) (m : Nat), s.leads = true → m < 0xFFFF → s.bb.fogLatched = false →
    (s.uid, (s.bb.fogSeq + 1) % 2 ^ 32) ∉ s.bb.fogSeen →
    ∃ t, exec (.fogNodeRequest m) s = .next t ∧ t.bb.fogLatched = true ∧ t.bb.fogReason = 1 ∧ t.bb.fogCause = m ∧
      t.bb.fogLast = (s.bb.fogSeq + 1) % 2 ^ 32 ∧ t.axes = s.axes) ∧
  (∀ (s : State) (n origin seq cause reason : Nat) (cycle : Nat × Ends), n < 4 → s.live = true → s.linkUp n = true → s.conductor = true →
    fogOk ⟨cycle.1, origin, seq, cause, reason, cycle.2⟩ = true → (origin, seq % 2 ^ 32) ∉ s.bb.fogSeen →
    ∃ t, exec (.foghornFrame n origin seq cause reason cycle) s = .next t ∧ t.bb.fogLatched = true ∧ t.bb.fogReason = reason % 2 ^ 16 ∧
      t.bb.fogCause = cause % 2 ^ 16 ∧ t.bb.fogLast = seq % 2 ^ 32 ∧ t.bb.fogSeq = s.bb.fogSeq ∧ t.axes = s.axes) ∧
  (∀ (s : State) (n origin seq cause reason : Nat) (cycle : Nat × Ends), n < 4 → s.live = true → s.linkUp n = true → s.conductor = false →
    fogOk ⟨cycle.1, origin, seq, cause, reason, cycle.2⟩ = true →
    let u := s.countBad n cycle.2.tail
    let q := seq % 2 ^ 32
    exec (.foghornFrame n origin seq cause reason cycle) s = .next { u with node := { u.node with
      fogLatched := if q ∈ u.node.fogLatched then u.node.fogLatched else u.node.fogLatched ++ [q], fogRequest := false } }) ∧
  (∀ (s : State) (n origin seq cause reason : Nat) (cycle : Nat × Ends), n < 4 → s.live = true → s.linkUp n = true →
    fogOk ⟨cycle.1, origin, seq, cause, reason, cycle.2⟩ = false →
    exec (.foghornFrame n origin seq cause reason cycle) s = .next (s.countBad n cycle.2.tail)) ∧
  (∀ (s : State) (n : Nat) (e : FogFrame) (rest : List FogFrame), n < 4 → s.live = true → s.conductor = true → s.linkUp n = true →
    (s.lane n).lineEnd = false → (t72Diff s.phi0Now s.now < 500 * 2 ^ 16 ∨ 1500 * 2 ^ 16 ≤ t72Diff s.phi0Now s.now) →
    s.fogFits n = true → (s.lane n).fogPending = e :: rest →
    let l := s.lane n
    exec (.foghornSend n) s = .next (s.setLane n { l with fogPending := rest, fogOut := some e, sent := l.sent + 1 }))

/-! ## The host interface (R340 to R364) -/

/-- DOORBELL_POLL reads its block, lets what is owed leave, takes commands and writes the consumer indices back (as far as log entry 186
has it); HOST_HEARTBEAT_LOST
raises EV62 code 4, and a Foghorn where it is set so; a write of HIF_WAKE brings the poll forward in Idle and wakes from Standby
(R342 to R345, R352). -/
def Obligations.PollHeartbeatAndWakeTakeEffect : Prop :=
  (∀ (s : State) (bs : List Byte), s.takesCommands = true → s.hostUp = true → s.base R.dbLo R.dbHi ≠ 0 →
    s.memRd (s.base R.dbLo R.dbHi) 256 = some bs →
    let v := { s with host := { s.host with pollSoon := false, signalled := if s.isIdle then [] else s.host.signalled } }
    let w := (State.eventIndices ((List.range 16).foldl (fun u n => u.ringIndices bs n) v) bs).drain
    let y := (w.drainEvents w.host.held).intake
    exec .doorbellPoll s = .next (y.memWr (s.base R.dbLo R.dbHi + 192) ((List.range 16).flatMap (fun n => leBytes 4 (y.cqOnRecord n))))) ∧
  (∀ (s : State), s.takesCommands = true → s.hostUp = true → s.base R.dbLo R.dbHi ≠ 0 → s.memRd (s.base R.dbLo R.dbHi) 256 = none →
    ∃ t, exec .doorbellPoll s = .next t ∧ t.host.mem = s.host.mem ∧ t.host.rings = s.host.rings ∧ t.axes = s.axes) ∧
  (∀ (s : State), s.takesCommands = true → s.fld R.hbCfg 0 16 ≠ 0 → s.base R.dbLo R.dbHi ≠ 0 → s.host.hbLost = false →
    let u := { s with host := { s.host with hbLost := true } }.evC 62 0xFFFF 4
    exec .hostHeartbeatLost s = .next (if u.bit R.hbCfg 16 then u.raiseFoghorn 2 0xFFFF else u)) ∧
  (∀ (s : State) (v : Reg32), s.conductor = true → s.isIdle = true → bits v 0 1 = 0 →
    exec (.hifWake v) s = .next { s with host := { s.host with pollSoon := true } }) ∧
  (∀ (s : State) (v : Reg32), s.conductor = true → s.mode = .standby → bits v 0 1 = 1 → s.pw.entering = false →
    s.pw.shutCore = false → s.pw.shutField = false →
    ∃ t, exec (.hifWake v) s = .next t ∧ t = s.wakeUp .hifWake ∧ t.die.fast = true ∧ t.host.pollSoon = true ∧ t.stage = s.stage)

/-- EVENT_RECORD_WRITE takes the event raised first: its pending bit is set, its vector signalled where it may be, and its record
written, held or counted where it is enabled and the first of its cycle (R358 to R360, R546). SNAPSHOT_WRITE writes the next
generation of the snapshot in the buffer of its turn (R361, R362). -/
def Obligations.EventsAndSnapshotsAreWritten : Prop :=
  (∀ (s : State) (e : Event) (rest : List Event), s.host.raised = e :: rest → s.live = true → s.conductor = true →
    let u := { s with host := { s.host with raised := rest } }.setBit (R.evPend e.source) (e.source % 32) true
    let w := if u.bit (R.evIrq e.source) (e.source % 32) then u.signalVec (u.fld R.erCfg 8 4) else u
    let key := (e.cycle, e.source, e.subject)
    exec .eventRecordWrite s = .next
      (if w.bit (R.evEn e.source) (e.source % 32) = false ∨ w.bit R.erCfg 0 = false ∨ key ∈ w.host.evDone then w
       else State.recordEvent { w with host := { w.host with
         evDone := key :: w.host.evDone.filter (fun k => decide (k.1 = e.cycle)) } } e)) ∧
  -- a record with a free slot of the ring and none held before it
  (∀ (s : State) (e : Event), s.host.held = [] → s.erRoom = true →
    let slot := s.host.erPi % s.erSize
    let u := s.memWr (s.base R.erLo R.erHi + 32 * slot) (e.bytes s.host.erPhase s.host.evLost)
    s.recordEvent e = { u with host := { u.host with
      held := [], erPi := (s.host.erPi + 1) % 2 ^ 32, evLost := 0
      erPhase := if slot + 1 = s.erSize then !s.host.erPhase else s.host.erPhase } }) ∧
  (∀ (s : State), s.live = true → s.conductor = true → s.bit R.snapCfg 0 = true → s.hostUp = true →
    s.cycle % 2 ^ s.fld R.snapCfg 16 3 = 0 →
    let g := s.host.snapGen + 1
    let n := s.fld R.snapCfg 8 8
    exec .snapshotWrite s = .next ({ s with host := { s.host with snapGen := g } }.memWr
      (s.base R.snapLo R.snapHi + g % 2 * (128 + 64 * n))
      (leBytes 8 g ++ leBytes 4 s.cycle ++ leBytes 4 0 ++ bytesT72 s.phi0Now ++ List.replicate 32 0 ++
        (List.range n).flatMap s.snapAxis ++ leBytes 8 g)))

/-- The set-up of the host structures (R341, R545): an enable of a command ring starts it with its indices at 0 and has it journalled,
one that its check refuses raises EV62 code 3, and a change of a ring that is enabled is gated; the event ring and the snapshot follow
their own gates. -/
def Obligations.HostStructuresAreSetUp : Prop :=
  (∀ (s : State) (n : Nat) (v : Reg32), s.hostWrites = true → n < 16 →
    let new := merge (s.reg (R.cqCfg n)) v 0xFFF3
    bits (s.reg (R.cqCfg n)) 0 1 = 0 → bits new 0 1 = 1 → s.cqCheck n new = true →
    let u := (s.setReg (R.cqCfg n) new).setFld (R.cqStat n) 1 2 0
    exec (.hifCqCfgWrite n v) s = .next ((u.setRing n { s.ring n with
      cqPi := 0, cqCi := 0, crPi := 0, crCi := 0, phase := true, fence := none, longIdx := [], unrec := [] }).journalSetup n true)) ∧
  (∀ (s : State) (n : Nat) (v : Reg32), s.hostWrites = true → n < 16 →
    let new := merge (s.reg (R.cqCfg n)) v 0xFFF3
    bits (s.reg (R.cqCfg n)) 0 1 = 0 → bits new 0 1 = 1 → s.cqCheck n new = false →
    exec (.hifCqCfgWrite n v) s = .next (((s.setReg (R.cqCfg n) (putBits new 0 1 0)).setBit (R.cqStat n) 8 true).evC 62 n 3)) ∧
  (∀ (s : State) (n : Nat) (v : Reg32), s.hostWrites = true → n < 16 →
    bits (s.reg (R.cqCfg n)) 0 1 = 1 → putBits (merge (s.reg (R.cqCfg n)) v 0xFFF3) 0 1 1 ≠ s.reg (R.cqCfg n) →
    exec (.hifCqCfgWrite n v) s = .next (s.evC 62 n 3)) ∧
  (∀ (s : State) (v : Reg32), s.hostWrites = true → exec (.hifErCfgWrite v) s = .next (s.writeErCfg v)) ∧
  (∀ (s : State) (v : Reg32), s.hostWrites = true →
    let u := s.flushRaised
    bits (u.reg R.erCfg) 0 1 = 0 → bits v 0 1 = 0 →
    exec (.hifErCfgWrite v) s = .next (u.setReg R.erCfg (merge (u.reg R.erCfg) v 0xFF1))) ∧
  (∀ (s : State) (v : Reg32), s.hostWrites = true → exec (.hifSnapCfgWrite v) s = .next (s.writeSnapCfg v))

/-- PERST_N takes the host link down and back with the state of axes and backbone as it was (R364); a PTM dialogue writes its pair, or
clears the bit that says it is valid (R70). -/
def Obligations.LinkPinAndPtmTakeEffect : Prop :=
  (∀ (s : State), exec .perstNAssert s = .next { s with host := { s.host with perst := true } }) ∧
  (∀ (s : State), exec .perstNRelease s = .next { s with host := { s.host with perst := false } }) ∧
  (∀ (s : State) (host t : Nat), s.live = true → s.bit R.timPtmCtl 0 = true →
    exec (.ptmDialogue (some (host, t))) s = .next ((((s.setRegT72 R.timPtmT72 t).setReg R.timPtmHost (BitVec.ofNat 32 host)).setReg
      (R.timPtmHost + 4) (BitVec.ofNat 32 (host / 2 ^ 32))).setBit R.timStat 3 true)) ∧
  (∀ (s : State), s.live = true → s.bit R.timPtmCtl 0 = true → exec (.ptmDialogue none) s = .next (s.setBit R.timStat 3 false))

/-! ## BAR0 and BAR2 (R13 to R19, R344, R363, R539 to R541) -/

/-- A REGISTER_WRITE to a register without a behaviour of its own writes its RW bits and clears its W1C bits where a 1 is written; a
staged register ignores it; in Standby, in RETIRED and before Idle only the registers named there take it (R17, R344, R540, R541). Wide
registers: a read of _LO latches the other parts for the reads that follow, a write of _LO or _MID is held and a write of _HI commits the
whole value (R13 to R15), a compare STEP acting from the next hit (R210); RC fields clear when they are read (R17); an access that is not an aligned 32-bit one writes nothing and is
reported, or reads what R19 says. -/
def Obligations.RegisterAccessesFollowTheirClass : Prop :=
  (∀ (s : State) (off : Nat) (v : Reg32) (d : RegDesc), s.hostReads = true → s.writable = true → off % 4 = 0 →
    (off < 0x400 ∨ (0xC00 ≤ off ∧ off < 0x3000) ∨ (0x4800 ≤ off ∧ off < 0x5000) ∨ (0x6000 ≤ off ∧ off < 0x7000)) →
    off ≠ R.sysCtl → off ≠ R.dbgCtl → regDesc? off = some d → d.staged = false → d.part = .plain →
    exec (.registerWrite off v) s = .next (s.setReg off (merge (s.reg off) v d.rw &&& ~~~(v &&& BitVec.ofNat 32 d.w1c)))) ∧
  (∀ (s : State) (off : Nat) (v : Reg32) (d : RegDesc), s.hostReads = true → s.writable = true → off % 4 = 0 →
    regDesc? off = some d → d.staged = true → exec (.registerWrite off v) s = .next s) ∧
  (∀ (s : State) (off : Nat) (v : Reg32), s.hostReads = true → s.mode = .standby → s.sec.lcs ≠ 3 → off % 4 = 0 → off ≠ R.hifWake →
    exec (.registerWrite off v) s = .next s) ∧
  (∀ (s : State) (off : Nat) (v : Reg32), s.hostReads = true → s.sec.lcs = 3 → off % 4 = 0 → off ≠ R.dbgCtl →
    exec (.registerWrite off v) s = .next s) ∧
  (∀ (s : State) (off : Nat) (v : Reg32), off % 4 ≠ 0 → exec (.registerWrite off v) s = .next s) ∧
  (∀ (s : State) (off w : Nat) (d : RegDesc), s.hostReads = true → s.answers off = .register → regDesc? off = some d → d.part = .lo w →
    off ≠ R.timPtmT72 →
    exec (.loRegisterRead off) s = .next { s with
      free := s.free + 1
      latches := s.latches.set ((0 : Reg32), (0 : Reg32)) off
        (if w = 72 then s.live32 (off + 4) else 0, if w = 72 then s.live32 (off + 8) else s.live32 (off + 4))
      host := { s.host with busRead := (s.live32 off).zeroExtend 64 } }) ∧
  -- the read of TIM_PTM_T72_LO latches the host's value of the pair as well (R70)
  (∀ s : State, s.hostReads = true → s.answers R.timPtmT72 = .register →
    exec (.loRegisterRead R.timPtmT72) s = .next { s with
      free := s.free + 1
      latches := (s.latches.set ((0 : Reg32), (0 : Reg32)) R.timPtmT72 (s.live32 (R.timPtmT72 + 4), s.live32 (R.timPtmT72 + 8))).set
        ((0 : Reg32), (0 : Reg32)) R.timPtmHost (s.live32 R.timPtmHost, s.live32 (R.timPtmHost + 4))
      host := { s.host with busRead := (s.live32 R.timPtmT72).zeroExtend 64 } }) ∧
  (∀ (s : State) (off : Nat) (d : RegDesc), s.hostReads = true → s.answers off = .register → regDesc? off = some d → d.part = .plain →
    d.rc ≠ 0 →
    let u := { s with free := s.free + 1, host := { s.host with busRead := (s.readValue off).zeroExtend 64 } }
    exec (.rcRegisterRead off) s = .next (u.setReg off (s.reg off &&& ~~~(BitVec.ofNat 32 d.rc)))) ∧
  (∀ (s : State) (off w : Nat) (v : Reg32) (d : RegDesc), s.hostReads = true → s.writable = true → off % 4 = 0 →
    regDesc? off = some d → d.part = .hi w → d.rw ≠ 0 → 0x3800 ≤ wideLo d off → wideLo d off < 0x3C00 →
    (wideLo d off - 0x3800) % 0x100 ≠ 0x84 → (wideLo d off - 0x3800) % 0x100 ≠ 0xC4 →
    let o := (wideLo d off - 0x3800) % 0x100
    exec (.hiRegisterWrite off v) s = .next ((if o = 0x90 ∨ o = 0xD0 then s.holdStep ((wideLo d off - 0x3800) / 0x100) ((o - 0x90) / 0x40)
      else s).commitWide (wideLo d off) w v)) ∧
  -- the high part of a compare value commits it by the rule of its own (R208)
  (∀ (s : State) (k j off : Nat) (v : Reg32) (d : RegDesc), k < 4 → j < 2 → s.hostReads = true → s.writable = true → off % 4 = 0 →
    regDesc? off = some d → d.part = .hi 72 → d.rw ≠ 0 → wideLo d off = 0x3800 + 0x100 * k + 0x84 + 0x40 * j →
    exec (.hiRegisterWrite off v) s = exec (.compareValCommit k j v { edges := [], quiet := 0 }) s) ∧
  (∀ (s : State) (off w : Nat) (v : Reg32) (d : RegDesc), s.hostReads = true → s.writable = true → off % 4 = 0 →
    regDesc? off = some d → d.staged = false → d.part = .lo w → d.rw ≠ 0 →
    exec (.registerWrite off v) s = .next (s.setHold off (v, (s.holdOf off).2))) ∧
  (∀ (s : State) (off size v : Nat), s.hostReads = true → (off % 4 ≠ 0 ∨ size ≠ 4) →
    exec (.badRegisterAccess true off size v) s = .next (s.evC 62 0xFFFF 3)) ∧
  (∀ (s : State) (off size v : Nat), s.hostReads = true → (off % 4 ≠ 0 ∨ size ≠ 4) →
    exec (.badRegisterAccess false off size v) s = .next { s with host := { s.host with
      busRead := BitVec.ofNat 64 ((s.readValue (off / 4 * 4)).toNat / 2 ^ (8 * (off % 4)) % 2 ^ (8 * size)) } })

/-- BAR2 shows the signal store: a read of a word's low half latches its high half, and a write by its producer puts the word in the
form of its kind; before boot it is the download buffer (R363, R529). -/
def Obligations.Bar2ReachesTheSignalStore : Prop :=
  (∀ (s : State) (w : Nat), s.hostReads = true → s.bar2 = .store → w < 2 ^ 20 →
    exec (.bar2Read (16 * w) 8) s = .next { s with
      sig := { s.sig with latch := s.sig.latch.set 0 w (s.sigWord w) }
      host := { s.host with
        busRead := BitVec.ofNat 64 (leNat ((List.range 8).map (fun i => (bytes72 (sext 72 (s.sigWord w).toNat)).getD i 0))) } }) ∧
  (∀ (s : State) (w v : Nat) (d : BlockDesc), s.hostReads = true → s.bar2 = .store → s.sigBlock w = some d →
    d.producer = 256 + s.bb.number → d.kind ≠ 3 →
    let b (i : Nat) : Option Byte := if 16 * w ≤ i ∧ i < 16 * w + 8 then some (BitVec.ofNat 8 (v / 2 ^ (8 * (i - 16 * w)))) else none
    exec (.bar2Write (16 * w) 8 v) s = .next (s.localSig w (storeForm d.kind (mergeLow w (s.sigWord w) b)))) ∧
  (∀ (s : State) (off v : Nat), s.hostReads = true → s.bar2 = .buffer → off < 2 ^ 22 →
    exec (.bar2Write off 1 v) s = .next { s with flash := { s.flash with download := SMap.set 0 s.flash.download off (BitVec.ofNat 8 v) } })

/-! ## Safety (R392 to R426) -/

/-- SAF_LOAD takes every confirmation, drops both STO pins and holds the sets of its image; SAFETY_IMAGE_WRITTEN judges them in its
FINAL; SAF_CONFIRM confirms the selected set by a check value on which both channels agree, or ends with CHECK_MISMATCH; SAF_ACK,
where both channels run, acknowledges what is gone and releases what nothing holds any longer (R402, R403, R407, R409). -/
def Obligations.SafetyHostCommandsTakeEffect : Prop :=
  (∀ (s : State) (h : Hdr) (addr : Nat) (bs : List Byte), s.admits h 0x0501 .long 0 .none → alignedAddr addr = true →
    s.memRd addr 65536 = some bs → s.saf.chA.sw = 0 → s.saf.chB.sw = 0 →
    ∃ t, exec (.safLoad h addr 65536) s = .next t ∧ t.saf.confirmed = [] ∧ t.saf.chA.sto = false ∧ t.saf.chB.sto = false ∧
      t.saf.sets = parseSets bs ∧ t.saf.loadOwn = s.saf.loadOwn ++ [s.openFor h 0x0501]) ∧
  (∀ (s : State) (own : Open) (rest : List Open), s.saf.loadOwn = own :: rest → s.live = true → s.mramOpen = true →
    let u := { s with saf := { s.saf with loadOwn := rest } }.judgeSet
    (u.badSet = none → exec .safetyImageWritten s = .next (u.final own 0x0000 u.cycle 0 none [])) ∧
    (∀ k, u.badSet = some k → exec .safetyImageWritten s = .next (u.final own 0x0105 u.cycle k none []))) ∧
  (∀ (s : State) (h : Hdr) (check : Nat) (st : SafSet), s.admits h 0x0502 .long 0 .none → s.selectedSet = some st →
    st.valid s.saf.chA.sw = true →
    let u := (s.taken .long).acceptLong h 0x0502 0 []
    let w := { u with saf := { u.saf with confirmed := u.saf.confirmed.set none u.saf.chA.sw (some st.check) } }
    (u.checkAgrees .a check = true → u.checkAgrees .b check = true → exec (.safConfirm h check) s =
      .next ((u.forceChanged w).final (s.openFor h 0x0502) 0x0000 s.cycle 0 none [])) ∧
    (u.checkAgrees .a check = false ∨ u.checkAgrees .b check = false → exec (.safConfirm h check) s = .next (u.final (s.openFor h 0x0502) 0x0502 s.cycle 0 none []))) ∧
  (∀ (s : State) (h : Hdr) (st : SafSet), s.admits h 0x0503 .imm 0 .safAxis → s.selectedSet = some st → s.ackTest st h.subj = false →
    st.ackSrc ≠ 1 → s.ackPresent st h.subj = false →
    let u := (s.taken .imm).acceptImm h 0x0503 s.cycle 0 none
    (s.saf.chA.running = true → s.saf.chB.running = true →
      (h.subj = 0xFFFF → exec (.safAck h) s = .next (u.ackGlobal st).tryRelease) ∧
      (∀ r, h.subj ≠ 0xFFFF → st.rec? h.subj = some r → exec (.safAck h) s = .next (u.ackAxis h.subj r).tryRelease)) ∧
    (s.saf.chA.running = false ∨ s.saf.chB.running = false → exec (.safAck h) s = .next u.tryRelease))

/-- A global cause takes the STO pins of both channels and is latched: a pin that does not follow its command, two cycles without a good
cross-talk message, a second bad message in a row. On a loss of the die link each end acts by itself: channel A's pin goes with the core
die's end, channel B's with the field die's, and LINK_LOSS is latched. The loss of channel B's own supply takes its pin, stops it and
leaves channel A running (R22, R27, R28, R393, R394, R396, R421). -/
def Obligations.SafetyFaultsDropThePins : Prop :=
  (∀ (s : State) (c : Chan), s.chanRuns c = true →
    ∃ t, exec (.stoReadbackFault c) s = .next t ∧ t.saf.chA.sto = false ∧ t.saf.chB.sto = false ∧
      bvGet t.saf.faults (match c with | .a => Glob.stoARb | .b => Glob.stoBRb) = true) ∧
  (∀ (s : State), s.conductor = true → (s.saf.chA.running = true ∨ s.saf.chB.running = true) →
    ∃ t, exec .xtalkFault s = .next t ∧ t.saf.chA.sto = false ∧ t.saf.chB.sto = false ∧ bvGet t.saf.faults Glob.xtalk = true) ∧
  (∀ (s : State) (c : Chan) (m : CrossTalk), s.conductor = true → s.chanRuns c = true → m.crcOk = false → 1 ≤ (s.chan c).xtMissed →
    ∃ t, exec (.crossTalkMessage c m) s = .next t ∧ t.saf.chA.sto = false ∧ t.saf.chB.sto = false ∧
      bvGet t.saf.faults Glob.xtalk = true) ∧
  -- each end of the die link finds its loss by itself, after 8 frame periods without a good frame
  (∀ (s : State), s.die.up = true → 8 ≤ s.die.missing →
    ∃ t, exec .dieLinkLoss s = .next t ∧ t.saf.chA.sto = false ∧ bvGet t.saf.faults Glob.linkLoss = true ∧ t.die.up = false ∧
      t.die.lost = true) ∧
  (∀ (s : State), s.die.fieldEnd.up = true → 8 ≤ s.die.fieldEnd.missing →
    ∃ t, exec .dieLinkLoss s = .next t ∧ t.saf.chB.sto = false ∧ bvGet t.saf.faults Glob.linkLoss = true ∧
      t.die.fieldEnd.up = false ∧ t.die.fieldEnd.lost = true) ∧
  (∀ (s : State), s.saf.bDown = false →
    ∃ t, exec .channelBSupplyLoss s = .next t ∧ t.saf.chB.sto = false ∧ t.saf.chB.running = false ∧ t.saf.bDown = true ∧
      (s.pw.boot = .up → bvGet t.saf.faults Glob.bSupply = true) ∧ t.saf.chA.running = s.saf.chA.running)

/-- The rows of the safety channels beside their faults, each with the next state its clause writes out: a good cross-talk message is
compared; switches read as they were change nothing, and a reading that differs puts every safety axis in STO; a guard pair closes or
opens in one channel; a discrepancy of a pair is latched; a test pulse without failures changes nothing, and one that fails on a pair is
that pair's fault; a reset input acknowledges; an evaluation judges every axis of the set in force, and the channel then sends its message (log entry 187); an SS1 ends in STO where it is due;
channel B starts again with its supply (R394, R396, R404 to R409, R412). -/
def Obligations.SafetyChannelRowsTakeEffect : Prop :=
  (∀ (s : State) (c : Chan) (m : CrossTalk), s.conductor = true → s.chanRuns c = true → m.crcOk = true →
    (m.seq = ((s.chan c).xtSeq + 1) % 2 ^ 32 ∨ (s.chan c).xtMissed ≠ 0) →
    exec (.crossTalkMessage c m) s = .next ((s.setChan c { s.chan c with xtSeq := m.seq, xtMissed := 0 }).xtCompare c m)) ∧
  -- both channels read the switches as they were: nothing else changes
  (∀ (s : State) (a b : Nat), s.saf.chA.running = true → s.saf.chB.running = true → a % 16 = s.saf.chA.sw → b % 16 = s.saf.chB.sw →
    exec (.switchRead a b false) s = .next s) ∧
  -- a reading that has changed in operation puts every safety axis in STO, and is kept
  (∀ (s : State) (a b : Nat), s.saf.chA.running = true → s.saf.chB.running = true →
    a % 16 ≠ s.saf.chA.sw ∨ b % 16 ≠ s.saf.chB.sw →
    let u := s.globalSto Glob.swChanged
    let v := (u.setChan .a { u.saf.chA with sw := a % 16 }).setChan .b { u.saf.chB with sw := b % 16 }
    exec (.switchRead a b false) s = .next (if a % 16 = s.saf.chA.sw then v else s.forceChanged v.nameAxes)) ∧
  (∀ (s : State) (c : Chan) (j : Nat) (p : PairRec), s.conductor = true → s.chanRuns c = true → s.pair? j = some p →
    s.pairClosed c j = false →
    let u := s.setChan c { s.chan c with closed := bvPut (s.chan c).closed j true }
    exec (.guardPairChange c j true) s = .next (u.testStep c j true)) ∧
  (∀ (s : State) (c : Chan) (j : Nat) (p : PairRec) (st : SafSet), s.conductor = true → s.chanRuns c = true → s.pair? j = some p →
    s.pairClosed c j = true →
    let u := (s.setChan c { s.chan c with closed := bvPut (s.chan c).closed j false }).testStep c j false
    let w := if u.pairClosed (otherChan c) j = false then u else u.ev 60 0xFFFF 5 j
    w.setInForce = some st →
    exec (.guardPairChange c j false) s = .next (st.recs.foldl (fun v e => v.guardAct st c j e) w).setPins) ∧
  (∀ (s : State) (j : Nat) (p : PairRec), s.conductor = true → (s.saf.chA.running = true ∨ s.saf.chB.running = true) →
    s.pair? j = some p → bvGet s.saf.pairFault j = false →
    exec (.pairDiscrepancy j) s = .next (State.evC { s with saf := { s.saf with
      pairFault := bvPut s.saf.pairFault j true, pairOpenSeen := bvPut s.saf.pairOpenSeen j false } } 60 0xFFFF 6)) ∧
  (∀ (s : State), s.conductor = true → s.saf.chB.running = true → exec (.testPulse []) s = .next s) ∧
  (∀ (s : State) (j : Nat) (p : PairRec), s.conductor = true → s.saf.chB.running = true → s.pair? j = some p → p.tp = true →
    exec (.testPulse [j]) s = .next (s.pairFaultOne j)) ∧
  (∀ (s : State) (st : SafSet), s.selectedSet = some st → s.conductor = true → st.rstIn ≠ 0xFF → s.saf.chA.running = true →
    s.saf.chB.running = true →
    exec .rstInAck s = .next (st.recs.foldl (fun u e => u.ackAxis e.1 e.2) (s.ackGlobal st)).tryRelease) ∧
  (∀ (s : State) (c : Chan) (counts : List Int) (bad : List Nat) (st : SafSet), s.conductor = true → s.chanRuns c = true →
    s.setInForce = some st →
    let u := st.recs.foldl (fun v e => v.judgeAxis st c counts bad e) s
    exec (.safetyEvaluation c counts bad) s = .next ((if c = .a then u.clearPairs.tryRelease else u.tryRelease).sendCrossTalk c)) ∧
  (∀ (s : State) (sx : Nat) (st : SafSet) (r : SafAxisRec), s.setInForce = some st → st.rec? sx = some r →
    let u := if safSs1Due (s.saf.chA.view sx) r s.now then s.stoEnter st .a sx else s
    let w := if safSs1Due (u.saf.chB.view sx) r u.now then u.stoEnter st .b sx else u
    exec (.ss1End sx) s = .next w.setPins) ∧
  (∀ (s : State), s.saf.bDown = true →
    let u := State.startChan { s with saf := { s.saf with bDown := false }, field := { s.field with started := 0 } } .b
    exec .channelBSupplyReturn s = .next (if s.pw.boot = .up then u.demandTests.setPins else u))

/-- The safety PDUs: a PDU of a bad CRC is counted and changes nothing else; one in sequence is taken, at a conductor as a report and at
a node as a command that its channel's path follows; the exchange of the cycle sends for every axis due; WD exchanges without one
trip the channel's watchdog, which at a node opens the path (R413 to R417). -/
def Obligations.SafetyPdusTakeEffect : Prop :=
  (∀ (s : State) (sx : Nat) (c : Chan) (p : SafetyPdu) (st : SafSet) (r : SafAxisRec), s.selectedSet = some st → st.rec? sx = some r →
    s.live = true → s.chanRuns c = true → s.exchanges r = true → p.crcOk = false →
    exec (.safetyPduReceived sx c p) s = .next (s.bumpFld (R.safAxPdu sx) (16 * chanIdx c) 8 1)) ∧
  (∀ (s : State) (sx q : Nat) (c : Chan) (p : SafetyPdu) (st : SafSet) (r : SafAxisRec), s.selectedSet = some st → st.rec? sx = some r →
    s.live = true → s.chanRuns c = true → s.exchanges r = true → p.crcOk = true → s.pduOk c r p = true →
    let v := (s.chan c).view sx
    v.rxSeq = some q → (p.seq + 2 ^ 16 - q % 2 ^ 16) % 2 ^ 16 = 1 →
    let u := s.setChan c ((s.chan c).setView sx { v with rxSeq := some p.seq, synced := true, silent := 0 })
    exec (.safetyPduReceived sx c p) s = .next (if s.conductor then (u.useReport st c sx r p).tryRelease else u.useCommand c sx p)) ∧
  (∀ (s : State) (sx : Nat) (c : Chan) (p : SafetyPdu) (st : SafSet) (r : SafAxisRec), s.selectedSet = some st → st.rec? sx = some r →
    s.live = true → s.chanRuns c = true → s.exchanges r = true → p.crcOk = true → s.pduOk c r p = true → s.conductor = true →
    let v := (s.chan c).view sx
    v.rxSeq = none →
    exec (.safetyPduReceived sx c p) s =
      .next (s.setChan c ((s.chan c).setView sx { v with rxSeq := some p.seq, synced := false, silent := 0 }))) ∧
  (∀ (s : State) (st : SafSet), s.selectedSet = some st → s.live = true →
    exec .safetyPduExchange s = .next
      ((st.recs.filter (fun e => s.exchanges e.2 && decide ((s.cycle + 32 - e.1) % st.sp = 0))).foldl (fun u e => u.exchange e.1 e.2)
        { s with node := { s.node with reports := [] } })) ∧
  (∀ (s : State) (sx : Nat) (c : Chan) (st : SafSet) (r : SafAxisRec), s.selectedSet = some st → st.rec? sx = some r →
    s.live = true → s.chanRuns c = true → s.exchanges r = true → r.wd ≤ ((s.chan c).view sx).silent → s.conductor = true →
    let u := s.setChan c ((s.chan c).setView sx { (s.chan c).view sx with rxSeq := none, synced := false })
    exec (.safetyWatchdogTrip sx c) s =
      .next (((u.latchCause sx (5 + chanIdx c)).ev 27 sx (1 + chanIdx c) r.node).stoEnter st c sx)) ∧
  (∀ (s : State) (sx : Nat) (c : Chan) (st : SafSet) (r : SafAxisRec), s.selectedSet = some st → st.rec? sx = some r →
    s.live = true → s.chanRuns c = true → s.exchanges r = true → r.wd ≤ ((s.chan c).view sx).silent → s.conductor = false →
    sx < (s.chan c).axes.length →
    ∃ t, exec (.safetyWatchdogTrip sx c) s = .next t ∧ ((t.chan c).view sx).pathOpen = true ∧ ((t.chan c).view sx).state = .sto ∧
      ((t.chan c).view sx).rxSeq = none)

/-! ## The cycle (R42 to R63, R112 to R137) -/

/-- CYCLE_PHI0 begins the next cycle: the cycle counter steps by one, or begins with cycle 0 after the contention window, and the time is
that of its φ0 (R42, R59, R65, R277). -/
def Obligations.CyclePhi0BeginsTheNextCycle : Prop :=
  ∀ (s : State) (x : Phi0Sample), s.live = true → s.hasCycle = true →
    ∃ t, exec (.cyclePhi0 x) s = .next t ∧ t.cycle = (if s.bb.firstPhi0 then s.cycle else (s.cycle + 1) % 2 ^ 32) ∧
      (s.bb.nextRung = none → t.time = s.phi0 t.cycle * 2 ^ 16) ∧ t.bb.firstPhi0 = false ∧ t.bb.flashSeen = false ∧ t.uid = s.uid

/-- The rows of one axis's cycle. The critical part runs on the engine that owns the axis, or at a node for its local axis, and a second
run in the cycle has no effect; one that has not run in time sets STALE and is reported with code 2, and the second in a row is source 3;
the background part runs once behind it: the outer loops where the critical part ran, the following-error and plausibility checks with
sources 0 and 1, and the trace of a VLN-128 (R53, R82, R83, R112). -/
def Obligations.LoopPartsRunOncePerCycle : Prop :=
  (∀ (s : State) (a : Nat), s.isRun = true → s.conductor = true → s.usable a = true → (s.axis a).inUse = true →
    (s.axis a).loop.done = false → s.engineRuns (s.loopEngine a) = true →
    exec (.loopCriticalPart a) s = .next (s.criticalPart a)) ∧
  (∀ (s : State) (a : Nat), s.isRun = true → s.conductor = false → a < 4 →
    exec (.loopCriticalPart a) s = .next (s.nodeCritical a)) ∧
  -- a second run in the cycle has no effect
  (∀ (s : State) (a : Nat), s.conductor = true → (s.axis a).loop.done = true → exec (.loopCriticalPart a) s = .next s) ∧
  (∀ (s : State) (a : Nat), s.isRun = true → s.conductor = true → s.usable a = true → (s.axis a).inUse = true →
    (s.axis a).loop.done = false →
    let x := (s.axis a).loopFlag fStale true
    let y := { x with loop := { x.loop with done := true, staleRun := x.loop.staleRun + 1 } }
    let u := (s.setAxis a y).ev (s.loopEngine a) (s.loopEngine a) 2 a
    exec (.criticalPartOverrun a) s = .next (if 1 ≤ x.loop.staleRun then u.raiseSource a 3 0 true else u)) ∧
  (∀ (s : State) (a : Nat), s.isRun = true → s.conductor = true → s.usable a = true → (s.axis a).inUse = true →
    (s.axis a).loop.done = true → (s.axis a).loop.bg = false → s.engineRuns (s.loopEngine a) = true →
    let x0 : Axis := { s.axis a with loop := { (s.axis a).loop with bg := true } }
    let x1 : Axis := if x0.loop.ranC = true ∧ x0.split = false then x0.outerLoops s.tc s.cycle (s.curveInput x0) else x0
    let f := x1.followCheck s.tc
    let m := f.1.modelCheck s.tc
    let u := (((s.setAxis a m.1).injectionTrigger a x0 x1).raiseOpt a 0 f.2).raiseOpt a 1 m.2
    exec (.loopBackgroundPart a) s = .next (if s.grade = 2 then u.setAxis a ((u.axis a).traceRecord s.cycle s.phi0Now) else u))

/-- The reactions' ends. At standstill under QSTOP, TSTOP or an SS1 the axis is still: the remainder of a group's member is taken, an
executing move is suspended, and an axis without one rests, or is SUSPENDED where it holds work; a TSTOP holds p* at the actual position.
A QSTOP that takes longer than its timeout becomes TSTOP, a TSTOP becomes PINH, each with EV28 (R122 to R124, R128). Which source number
EV28 carries as its CODE there is log entry 161. -/
def Obligations.ReactionsEndOrAreReplaced : Prop :=
  (∀ (s : State) (a : Nat),
    let x := s.axis a
    s.isRun = true → s.usable a = true → x.enabled = true → x.still = false → x.loop.vestValid = true →
    |x.loop.vEst| ≤ x.raw Pn.stillV → (x.reaction = .qstop ∨ x.reaction = .tstop ∨ x.ss1 = true) →
    let y : Axis := { x with still := true }
    let u := (s.setAxis a (if x.reaction = .tstop then y.holdHere x.loop.p else y)).takeRemain a
    exec (.standstillReached a) s = .next (if x.cur.isSome = true then u.suspendMove a x.remainNow
      else u.setAxis a { u.axis a with prof := if x.holdsWork then .suspended else x.restState })) ∧
  (∀ (s : State) (a : Nat), s.usable a = true → (s.axis a).enabled = true → (s.axis a).reaction = .qstop → (s.axis a).still = false →
    exec (.qstopTimeout a) s = .next ((s.ev 28 a (s.axis a).faultFirst Reaction.tstop.code).applyReaction a .tstop)) ∧
  (∀ (s : State) (a : Nat), s.usable a = true → (s.axis a).enabled = true → (s.axis a).reaction = .tstop → (s.axis a).still = false →
    exec (.tstopTimeout a) s = .next ((s.ev 28 a (s.axis a).faultFirst Reaction.pinh.code).applyReaction a .pinh))

/-- The profile engine's rows: an evaluation reads the PNs that the next φ0 brings and puts those in force back; an axis whose stream
is lost reports it and, in position and velocity mode outside a reaction, plans to come to rest; an axis whose set-points are missing goes
on at its speed, with SP_STALE and code 5, and the second miss in a row is source 3 (R135, R137, R157). CODE and VALUE of the lost
stream's EV28 are free values (log entry 11). -/
def Obligations.ProfileRowsTakeEffect : Prop :=
  (∀ (s : State) (pe : Nat), pe < 2 → s.isRun = true → s.engineRuns (4 + pe) = true →
    exec (.profileEvaluation pe) s = .next ((s.withNextPns.evaluate pe).withPnsOf s)) ∧
  (∀ (s : State) (a : Nat),
    let x := s.axis a
    s.isRun = true → s.usable a = true → x.enabled = true → x.streamed = true → x.streamLost = false → 0 ≤ x.int Pn.streamSeqSig →
    0 < x.int Pn.streamTmo → x.int Pn.streamTmo < x.streamAge → x.ctrlMode ≠ 2 → x.inReaction = false →
    exec (.streamLost a) s = .next (((s.setAxis a { (x.profFlag fStreamLost true) with streamLost := true }).evFree 28 a).request a
      (.toSpeed 0))) ∧
  (∀ (s : State) (a : Nat),
    let x := s.axis a
    s.isRun = true → s.usable a = true → x.enabled = true → x.streamed = true → x.streamLost = false → 0 ≤ x.int Pn.streamSeqSig →
    0 < x.int Pn.streamTmo → x.int Pn.streamTmo < x.streamAge → x.ctrlMode = 2 ∨ x.inReaction = true →
    exec (.streamLost a) s = .next ((s.setAxis a { (x.profFlag fStreamLost true) with streamLost := true }).evFree 28 a)) ∧
  (∀ (s : State) (a : Nat),
    let x := s.axis a
    s.isRun = true → s.usable a = true → x.enabled = true → x.missing = true →
    let p := reducePos (x.raw Pn.modulo) (satBits 72 (x.pSet + rnd (x.vSet * s.tc)))
    let u := (s.setAxis a { (x.profFlag fSpStale true) with pSet := p, missing := false, misses := x.misses + 1 }).ev
      (4 + s.profEngine a) (4 + s.profEngine a) 5 a
    exec (.profileMiss a) s = .next (if 1 ≤ x.misses then u.raiseSource a 3 0 true else u))

/-- The fabric's rows. A window loads every budget, rounded down for a shorter last window, and serves the requests of its clocks; in each
bank group a guaranteed request wins over a shared one, among guaranteed ones the oldest and then the lower requester, among shared ones
the requester nearest after the round-robin pointer, and a group with requests serves one; a grant takes one from a guaranteed
requester's counter, or moves the pointer to the requester after a shared one. A scrub pass counts, corrects single-bit errors without a
trace, and acts on each that cannot be corrected. MEMBER_LOST keeps the slot, raises source 17 and
trips the watchdogs of the node's safety axes (log entry 187), and raises source 17 for a quarantined member too (R36, R38, R39, R42 to
R45, R285, R289, R421). That the four groups of one
clock share the pointer in group order is log entry 150. -/
def Obligations.FabricRowsTakeEffect : Prop :=
  (∀ (s : State) (w : BudgetSpan), s.live = true →
    let f := { s.fab with
      counters := s.stage.inForce.budgets.map (fun b => b * min w.lenNs 1000 / 1000), window := s.fab.window + 1,
      served := List.replicate 18 0 }
    exec (.budgetWindow w) s = .next { s with
      fab := f.runClocks (w.reqs.filter (fun q => decide (q.requester < 18))) (min w.lenNs 1000 / 2) 0 }) ∧
  -- who wins a bank group (R44, R45)
  (∀ (f : Fabric) (g : Nat) (b : Beat), f.winner g = some b →
    b ∈ f.waiting ∧ b.group = g ∧
    (∀ c, c ∈ f.waiting → c.group = g → c.guaranteed = true →
      b.guaranteed = true ∧ (b.made < c.made ∨ (b.made = c.made ∧ b.requester ≤ c.requester))) ∧
    (b.guaranteed = false → ∀ c, c ∈ f.waiting → c.group = g → f.turn b ≤ f.turn c)) ∧
  (∀ (f : Fabric) (g : Nat) (c : Beat), c ∈ f.waiting → c.group = g → (f.winner g).isSome = true) ∧
  -- what a grant does (R43, R45)
  (∀ (f : Fabric) (b : Beat),
    (f.grant b).waiting = f.waiting.erase b ∧
    (b.guaranteed = true → (f.grant b).pointer = f.pointer ∧
      (f.grant b).counters = f.counters.set b.requester (f.counters.getD b.requester 0 - 1)) ∧
    (b.guaranteed = false → (f.grant b).counters = f.counters ∧ (f.grant b).pointer = (b.requester + 1) % 18)) ∧
  (∀ (s : State) (errs : List SramError), s.live = true → errs.all (fun e => !e.double) = true →
    exec (.scrubPass errs) s = .next { s with fab := { s.fab with scrubs := s.fab.scrubs + 1 } }) ∧
  (∀ (s : State) (r : SramRegion), s.live = true →
    exec (.scrubPass [⟨r, true⟩]) s = .next (State.sramDouble { s with fab := { s.fab with scrubs := s.fab.scrubs + 1 } } r)) ∧
  (∀ (s : State) (n : Nat), s.leads = true → (s.noderec n).state = .member → 3 ≤ (s.noderec n).misses →
    let x := s.noderec n
    let u := s.setNoderec n { x with
      state := .lost, slot := true, again := false, readmitAt := if x.again then some (cycAdd s.cycle 3) else x.readmitAt }
    let v := ((u.ev 24 n 3 x.reason).raiseNodeLost n).tripNode n
    exec (.memberLost n) s = .next (match x.again, x.record with
      | true, some r => v.setLane x.lane { v.lane x.lane with acks := (v.lane x.lane).acks ++ [⟨r.uid, n, 1, v.cycle, false⟩] }
      | _, _ => v)) ∧
  (∀ (s : State) (n : Nat), s.leads = true → (s.noderec n).state = .quarantined → (s.noderec n).dropped = true →
    3 ≤ (s.noderec n).misses →
    exec (.memberLost n) s = .next ((s.setNoderec n { s.noderec n with dropped := false }).raiseNodeLost n))

/-! ## Frames of the backbone (R297 to R317, R323, R324) -/

/-- The frames of a lane leave, one copy in each direction of a ring, with the header, entries, blocks, records and CRC that belong to them,
and nothing else changes but what the control area has carried (R302, R306 to R308, R311, R324). Frames that return: a gather frame by
its deadline brings its entries, its blocks and its lane's turns, and a copy of a bad CRC none; a slow frame that is valid brings its
blocks and its answers, and one that is not brings neither (R58, R63, R305, R323, R329, R330). -/
def Obligations.FramesDepartAndReturn : Prop :=
  (∀ (s : State) (n tx : Nat), s.sends n = true → s.laneServed n = true →
    exec (.gatherDeparture n tx) s = .next (s.eachCopy n (fun odd l => { l with gather := some (s.gatherOut n (s.flashFor tx) odd) })) ∧
      (∀ odd : Bool,
        let f := s.gatherOut n (s.flashFor tx) odd
        f.hdr.cycle = s.cycle ∧ f.hdr.ftype = 0x10 ∧ f.hdr.ver = 1 ∧ f.hdr.oddCopy = odd ∧ f.hdr.condUid = s.uid ∧
        f.hdr.schedGen = (s.lane n).gen ∧ f.flash = s.flashFor tx ∧ f.entries.map (fun e => (e.node, e.axis)) = s.laneEntries n ∧
        f.blocks.map (fun b => b.block) = (s.gatherBlocks n).map (fun e => e.1) ∧ f.conts.length = s.laneContainers n ∧ f.join = .empty ∧
        f.tail.crc = crc32c (gatherBody f))) ∧
  (∀ (s : State) (n : Nat), s.sends n = true → s.laneServed n = true →
    let t := s.eachCopy n (fun odd l => { l with scatter := some (s.scatterOut n odd) })
    exec (.scatterDeparture n) s = .next (t.setLane n (s.afterSent (t.lane n))) ∧
      (∀ odd : Bool,
        let f := s.scatterOut n odd
        f.hdr.cycle = s.cycle ∧ f.hdr.ftype = 0x20 ∧ f.hdr.oddCopy = odd ∧ f.hdr.fog = s.bb.fogLatched ∧ f.ctl.fogClrSeq = s.bb.fogClrSeq ∧
        f.entries = (s.laneEntries n).map s.scatterEntry ∧ f.blocks = (s.scatterBlocks n).map s.storedBlock ∧
        f.conts.length = (s.contPlaces n).length ∧ f.tail.crc = crc32c (scatterBody f))) ∧
  (∀ (s : State) (n : Nat), s.sends n = true → s.laneServed n = true →
    exec (.slowFrameDeparture n) s = .next (s.eachCopy n (fun odd l => { l with slow := some (s.slowOut n odd) })) ∧
      (∀ odd : Bool,
        let f := s.slowOut n odd
        f.hdr.cycle = s.cycle ∧ f.hdr.ftype = 0x30 ∧ f.hdr.oddCopy = odd ∧ f.blocks = s.slowDue n ∧ f.tail.crc = crc32c (slowBody f))) ∧
  (∀ (s : State) (n : Nat) (copies : List GatherFrame), s.sends n = true → s.laneServed n = true → s.laneSplit n = false →
    t72Diff (t72Mod ((s.phi0Now : Int) + gatherBackNs s.rung * 2 ^ 16)) s.now ≤ 0 →
    let r := copies.foldl (fun v f => v.countBad (v.backPort n f.hdr) f.tail) s
    let good := r.goodGathers n r.cycle copies
    let u := (r.laneEntries n).foldl (fun v e => v.takeEntry true good e) r
    let w := (u.lineNodes n).foldl (fun v m => v.judgeNode good m) u
    let x := (w.gatherBlocks n).foldl (fun v e => v.takeBlock (findBlock (good.map (fun f => f.blocks)) e) e) w
    exec (.gatherFrameReturn n copies) s = .next
      (((x.handConts ((good.head?.map (fun f => f.conts)).getD [])).takeTurns n good).noticeRepair n)) ∧
  (∀ (s : State) (n : Nat) (f out : SlowFrame), s.sends n = true → s.laneServed n = true → s.slowSent n = some out →
    slowOkF f = true → f.hdr.cycle = out.hdr.cycle → f.hdr.condUid = s.uid →
    let u := s.countBad (s.backPort n f.hdr) f.tail
    let due := (u.slowBlocks n).filter (fun e => e.2.due out.hdr.cycle && (u.carrier e.2.producer).any (fun m => decide (m ∈ u.lineNodes n)))
    exec (.slowFrameReturn n [f]) s = .next ((acksOf f.recs).foldl State.takeAck
      (due.foldl (fun v e => v.takeBlock (findBlock [f.blocks.map (fun b => b.2)] e) e) u))) ∧
  (∀ (s : State) (n : Nat) (f out : SlowFrame), s.sends n = true → s.laneServed n = true → s.slowSent n = some out →
    slowOkF f = false →
    let u := s.countBad (s.backPort n f.hdr) f.tail
    let due := (u.slowBlocks n).filter (fun e => e.2.due out.hdr.cycle && (u.carrier e.2.producer).any (fun m => decide (m ∈ u.lineNodes n)))
    exec (.slowFrameReturn n [f]) s = .next (due.foldl (fun v e => v.takeBlock (findBlock [] e) e) u))

/-! ## Time, the die-to-die link and lanes (R24 to R29, R64 to R76, R266 to R276, R321, R333) -/

/-- The time rows. A missed Flash is counted and a missing edge of SYNC_IN is noted, each with its holdover (R68, R69, R72); a Standby
Lantern takes over after 3 × rank missed Flashes (R281); an edge of SYNC_IN is stamped, and in discipline mode the nearest expected
edge feeds the servo (R71, R72; an edge far from it too: log entry 154). An enabled, due buoy fires once per cycle, with its event and
its pin where they are selected, and for the latches that wait for it (R73 to R76); the end of its pulse, and of that of SYNC_OUT. -/
def Obligations.TimeRowsTakeEffect : Prop :=
  (∀ (s : State), s.live = true → s.bb.lantern = false → s.bb.flashSeen = false →
    exec .flashMissed s = .next { s.holdover with node := { s.node with missed := s.node.missed + 1 } }) ∧
  (∀ (s : State), s.live = true → s.conductor = true → s.bb.cold = .conductor → s.bb.lantern = false → 1 ≤ s.bb.number →
    3 * s.bb.number ≤ s.servo.missed →
    let u := { s with bb := { s.bb with cold := .lead } }.becomeLantern
    exec .lanternTakeover s = .next ({ u with bb := { u.bb with handovers := min 255 (s.bb.handovers + 1) } }.evC 25 0 1) ∧
      u.bb.cold = .lead ∧ u.bb.lantern = true ∧ u.bb.number = 0 ∧ u.bb.lanternUid = s.uid ∧ u.epoch = s.epoch ∧ u.nE = s.nE ∧ u.cycle = s.cycle) ∧
  (∀ (s : State) (stamp : Nat), s.live = true → s.fld R.timSyncCfg 0 2 = 1 →
    exec (.syncInEdge stamp) s = .next (s.setRegT72 R.timSyncin stamp)) ∧
  (∀ (s : State) (stamp : Nat), s.live = true → s.fld R.timSyncCfg 0 2 = 2 → s.bb.lantern = true →
    let u := s.setRegT72 R.timSyncin stamp
    let r := 2 ^ u.fld R.timSyncCfg 5 3
    let n0 := u.cycle - u.cycle % r
    let e0 := t72Diff (u.phi0 n0) stamp
    let e1 := t72Diff (u.phi0 (cycAdd n0 r)) stamp
    u.disciplined = true →
    exec (.syncInEdge stamp) s = .next (u.runServo (if |e0| ≤ |e1| then e0 else e1) (r * tcycNs u.rung : Nat))) ∧
  (∀ (s : State), s.live = true → s.bb.lantern = true → s.fld R.timSyncCfg 0 2 = 2 → s.servoServed = true →
    exec .syncinMiss s = .next (s.setBit R.timStat 10 true).holdover) ∧
  (∀ (s : State) (x : BuoyShot), x.buoy < 8 →
    let u := s.pinsRun x.run
    let b := x.buoy
    let v : State := { u with pins := { u.pins with fired := bvPut u.pins.fired b true } }
    let w := v.ev (12 + b) 0 0 v.cycle
    u.live = true → u.bit (R.byCfg b) 17 = true → u.cycle % 2 ^ u.fld (R.byCfg b) 29 3 = 0 → bvGet u.pins.fired b = false →
    (u.bit (R.byCfg b) 18 = false → u.bit (R.byCfg b) 19 = false → u.bit (R.byCfg b) 24 = false → u.bit (R.byCfg b) 25 = false →
      u.bit (R.byCfg b) 26 = false →
      exec (.buoyFire x) s = .next (v.latchesMeet 3 b true (t72Mod ((v.phi0Now : Int) + v.byOffsetNs b * 2 ^ 16)))) ∧
    (v.bit (R.byCfg b) 18 = true → w.bit (R.byCfg b) 19 = false → w.bit (R.byCfg b) 24 = false → w.bit (R.byCfg b) 25 = false →
      exec (.buoyFire x) s = .next ((w.byPin b).latchesMeet 3 b (w.byRises b)
        (t72Mod ((w.phi0Now : Int) + w.byOffsetNs b * 2 ^ 16))))) ∧
  (∀ (s : State) (x : BuoyShot), (s.pinsRun x.run).bit (R.byCfg x.buoy) 17 = false ∨ bvGet (s.pinsRun x.run).pins.fired x.buoy = true →
    exec (.buoyFire x) s = .next (s.pinsRun x.run)) ∧
  (∀ (s : State) (b : Nat),
    let u : State := { s with pins := { s.pins with buoyActive := s.pins.buoyActive.map (fun l => l.filter (fun x => x != b)) } }
    exec (.buoyPinEnd b) s = .next (if s.pins.buoyActive.any (fun l => l.contains b) then
      u.latchesMeet 3 b false (t72Mod ((u.phi0Now : Int) + (u.byOffsetNs b + 2 * u.fld (R.byWidth b) 0 16) * 2 ^ 16))
      else u)) ∧
  (∀ (s : State), exec .syncOutPulseEnd s = .next { s with pins := { s.pins with syncOut := false } })

/-- An invalid or a void Flash changes nothing. A valid one at a served lane has a conductor that listens or contends integrate, has one
that integrates take its numbering and announce, feeds the servo of one that belongs to its Lantern, the first of a cycle, with the rung
change it names, makes the port of a leading conductor a line end where it is another Lantern's, and gives a listening node the numbering;
the gather of a branch lane carries the relayed Flash (R67, R270, R277, R279, R303, R304, R333). -/
def Obligations.FlashesAreTaken : Prop :=
  (∀ (s : State) (n : Nat) (f : FlashIn), f.valid = false ∨ f.void = true → exec (.flashReceived n f) s = .next s) ∧
  (∀ (s : State) (n : Nat) (f : FlashIn), n < 4 → s.live = true → f.valid = true → f.void = false → s.laneServed n = true →
    s.laneServed 0 = true →
    (s.conductor = true → s.bb.cold = .listen ∨ s.bb.cold = .coldstart →
      exec (.flashReceived n f) s = .next { s with bb := { s.bb with cold := .integrate } }) ∧
    (s.conductor = true → s.bb.cold = .integrate →
      let u := (s.integrate f).setCold .announce
      exec (.flashReceived n f) s = .next { u with bb := { u.bb with
        uplink := some n, lantern := false, flashSeen := true, relay := some f } }) ∧
    (s.conductor = true → s.bb.cold = .lead → f.lanternUid ≠ s.bb.lanternUid →
      exec (.flashReceived n f) s = .next (s.dualLantern n f)) ∧
    (s.conductor = true → s.bb.cold = .announce ∨ (s.bb.cold = .conductor ∧ s.bb.lantern = false) →
      f.lanternUid = s.bb.lanternUid → s.bb.flashSeen = false → s.bb.uplink.isSome = true →
      exec (.flashReceived n f) s = .next (State.runServo { s with
        bb := { s.bb with flashSeen := true, relay := some f,
                          nextRung := if f.nextCycle = 0xFFFFFFFF then none else some (f.nextCycle, min 4 f.nextRung) }
        node := { s.node with missed := 0 } } (flashError f) (tcycNs s.rung : Nat))) ∧
    (s.conductor = false → s.node.state = .listen → s.node.nodeNo.isSome = true →
      let u := s.integrate f
      exec (.flashReceived n f) s = .next { u with
        node := { u.node with state := .sync, missed := 0 }
        bb := { u.bb with flashSeen := true } })) ∧
  (∀ (s : State) (n : Nat) (residence : Int), s.sends n = true → s.laneServed n = true → s.bb.lantern = false →
    let flash := s.relayFlash residence
    exec (.flashRelay n residence) s = .next (s.eachCopy n (fun _ l => { l with
      gather := l.gather.map (fun f => sentGather { f with flash := flash, hdr := { f.hdr with corr := flash.corr } }) })))

/-- The die-to-die link. At the core die's end a good frame is taken with the read-back, and with the inputs while they are valid; a bad
one is discarded and counted, and the receiver resynchronises (R24 to R26); in both cases, and at the field die's end, the end then sends
its own frame under its next SEQ (R25). After a loss, training brings both ends up (R29). A lane's link comes up and goes down with its
bits and its event, a ring is closed at the named cycle, and delays are requested, answered and taken (R266, R271, R272, R274, R321).
The LAST of a lane's error and the VALUE of its event are free values (log entry 11). -/
def Obligations.LinkRowsTakeEffect : Prop :=
  (∀ (s : State) (f : DieFrame), s.die.up = true → dieGood false f s.die.resync s.die.rxSeq = true →
    let u := s.setFld R.dioIn 16 16 (f.fio.toNat / 2 ^ 16)
    let v := if u.bit R.dioStat 0 then u.setFld R.dioIn 0 16 f.fio.toNat else u
    exec (.linkFrameReceived ⟨false, f⟩) s = .next (State.coreSends { v with
      die := { s.die with rxSeq := f.seq % 16, resync := false, missing := 0, fio := f.fio, stat := f.stat, cfg := f.cfg, safe := f.safe } })) ∧
  (∀ (s : State) (f : DieFrame), s.die.up = true → dieGood false f s.die.resync s.die.rxSeq = false →
    exec (.linkFrameReceived ⟨false, f⟩) s = .next (State.coreSends { s with
      die := { s.die with resync := true, discards := s.die.discards + 1, missing := s.die.missing + 1 } })) ∧
  (∀ (s : State) (f : DieFrame), s.die.fieldEnd.up = true →
    dieGood true f s.die.fieldEnd.resync s.die.fieldEnd.rxSeq = true →
    exec (.linkFrameReceived ⟨true, f⟩) s = .next (State.fieldSends { s with die := { s.die with
      fieldEnd := { s.die.fieldEnd with rxSeq := f.seq % 16, resync := false, missing := 0, fio := f.fio } } })) ∧
  (∀ (s : State) (f : DieFrame), s.die.up = true → ∃ t, exec (.linkFrameReceived ⟨false, f⟩) s = .next t ∧
    t.die.txSeq = (s.die.txSeq + 1) % 16 ∧ ∃ g, t.die.sent = some g ∧ g.ftype = 1 ∧ g.seq = (s.die.txSeq + 1) % 16 ∧
      g.crc = BitVec.ofNat 16 (crc16 (dieSent g))) ∧
  (∀ (s : State), s.die.lost = true ∨ s.die.fieldEnd.lost = true → s.pw.boot = .up → s.field.unseen = [] →
    let u : State := { s with die := { s.die with up := true, lost := false, resync := true, missing := 0,
                                                  fieldEnd := { s.die.fieldEnd with up := true, lost := false, resync := true, missing := 0 } } }
    exec (.dieLinkRetrain true) s = .next u.fieldFound) ∧
  (∀ (s : State) (n : Nat), n < 4 → s.live = true → s.bit R.clkStat 2 = true → s.laneOn n = true → s.linkUp n = false →
    s.conductor = true → s.ringOf n = none →
    exec (.laneLinkUp n) s = .next (((s.setFld (R.bbStat n) 0 3 3).setBit (R.bbStat n) 8 true).evC (20 + n) n 1)) ∧
  (∀ (s : State) (n : Nat), n < 4 → s.linkUp n = true → s.conductor = true → s.ringOf n = none →
    ∃ v, (v = 0 ∨ v = 6) ∧
      let u : State := { s with free := s.free + 1 }
      let w := (((u.setFld (R.bbStat n) 0 3 v).setBit (R.bbStat n) 8 true).bumpFld (R.bbErr n) 16 16 1).evC (20 + n) n 2
      let x := w.setLane n { w.lane n with lineEnd := false }
      exec (.laneLinkDown n) s = .next { x with bb := { x.bb with nodes := x.bb.nodes.map (fun (e : Nat × NodeRec) =>
        (e.1, if e.2.lane = n then { e.2 with
          rivals := [], state := if e.2.state = .announced then .absent else e.2.state } else e.2)) } }) ∧
  (∀ (s : State) (n e c : Nat), n < 4 → s.live = true → s.conductor = true → s.ringOf n = some e → s.bit (R.bbStat e) 4 = true →
    s.linkUp e = true → s.linkUp (e + 1) = true → (s.lane e).ringCloseAt = some c → 0 ≤ cycDiff c s.nextCycle →
    let u := ((s.setBit (R.bbStat e) 4 false).setBit (R.bbStat e) 9 true).evC (20 + e) e 4
    exec (.ringClose n) s = .next (u.setLane e { u.lane e with
      ringCloseAt := none, ctl := { (u.lane e).ctl with ringCloseCycle := 0xFFFFFFFF } })) ∧
  (∀ (s : State) (n : Nat), n < 4 → s.live = true → s.linkUp n = true → (s.hasCycle = true → s.cycle % 64 = 0) →
    let q := ((s.lane n).reqSeq + 1) % 256
    exec (.linkDelayRequest n) s = .next (s.setLane n { s.lane n with
      reqSeq := q, reqTx := if s.hasCycle then (s.phi0Now + 500 * 2 ^ 16) % 2 ^ 72 else s.now,
      linkOut := some (sentLink false q (s.ownNo.getD 0xFFFF) 0 0 s.uid), sent := (s.lane n).sent + 1 })) ∧
  (∀ (s : State) (n seq node : Nat) (uid : Nat × Ends) (t1 t2 t3 t4 : Nat), n < 4 → s.live = true → s.linkUp n = true →
    linkOk ⟨false, seq, node, 0, 0, uid.1, uid.2⟩ = true →
    let u := s.countBad n uid.2.tail
    let v := u.setLane n { u.lane n with peer := some (node, uid.1) }
    exec (.linkFrame n false seq node uid t1 t2 t3 t4) s = .next (v.setLane n { v.lane n with
      sent := (v.lane n).sent + 1, linkOut := some (sentLink true seq (v.ownNo.getD 0xFFFF) (t2 % 2 ^ 72) (t3 % 2 ^ 72) v.uid) })) ∧
  (∀ (s : State) (n seq node : Nat) (uid : Nat × Ends) (t1 t2 t3 t4 : Nat), n < 4 → s.live = true → s.linkUp n = true →
    linkOk ⟨true, seq, node, t2, t3, uid.1, uid.2⟩ = true →
    let u := s.countBad n uid.2.tail
    let v := u.setLane n { u.lane n with peer := some (node, uid.1) }
    seq = (v.lane n).reqSeq →
    let ds := ((t72Diff t1 t4 - t72Diff t2 t3) :: (v.lane n).delays).take 8
    (ds.length < 8 → exec (.linkFrame n true seq node uid t1 t2 t3 t4) s = .next (v.setLane n { v.lane n with delays := ds })) ∧
    (ds.length = 8 →
      let w := (v.setLane n { v.lane n with delays := ds, median := some (median8 ds) }).setBit (R.bbStat n) 3 true
      let jump := match (v.lane n).median with
        | some m => decide (2 * 4 * 2 ^ 16 < |median8 ds - m|)
        | none => false
      exec (.linkFrame n true seq node uid t1 t2 t3 t4) s = .next ((if jump then w.setBit (R.bbStat n) 11 true else w).setFld (R.bbDly n) 0 24
        (rnd ((median8 ds : Rat) / 2 ^ 10)).toNat))) ∧
  (∀ (s : State) (n seq node : Nat) (response : Bool) (uid : Nat × Ends) (t1 t2 t3 t4 : Nat), n < 4 → s.live = true → s.linkUp n = true →
    linkOk ⟨response, seq, node, if response then t2 else 0, if response then t3 else 0, uid.1, uid.2⟩ = false →
    exec (.linkFrame n response seq node uid t1 t2 t3 t4) s = .next (s.countBad n uid.2.tail))

/-- The cold start: the end of the listening time leads to the contention, in which COLDSTART frames leave on the enabled lanes; the end of
its window leads to the lead, with cycle 0 and EPOCH at that instant; a conductor of precedence is yielded to, one of equal rank and UID
has this one listen again, any other is noted, and an invalid frame is only counted; a Flash that does not come has an integrating
conductor listen again (R277, R278). The conductor's record of a node: a record that it refuses is acknowledged with its reason, and
recorded where its number is not held, a first good one is announced, a member's number that a new UID claims is quarantined, a
readmitted node is a member again; a Skegil record is counted on a lane that admits none, and judged as the capability record built from
it on one that does (R285 to R289, R292). The delay of a farther hop, State.measureHop, is a free value (log entry 45). -/
def Obligations.ColdStartAndMembershipRowsTakeEffect : Prop :=
  (∀ (s : State), s.live = true → s.conductor = true → s.bb.cold = .listen → s.bit R.bbGcfg 0 = true →
    exec .coldListenEnd s = .next { s with bb := { s.bb with cold := .coldstart, extraListen := 0, heardLower := false } }) ∧
  (∀ (s : State), s.live = true → s.conductor = true → s.bb.cold = .coldstart → s.bb.lanes.length = 4 →
    ∃ t, exec .coldstartSend s = .next t ∧ t = { s with bb := t.bb } ∧ t.bb.cold = .coldstart ∧
      ∀ n, n < 4 → t.lane n = if s.laneOn n = true ∧ (s.lane n).lineEnd = false then { s.lane n with
        sent := (s.lane n).sent + 1, coldOut := some (sentCold s.coldRank s.uid) } else s.lane n) ∧
  (∀ (s : State) (n rank : Nat) (uid : Nat × Ends), n < 4 → s.live = true → s.conductor = true → s.linkUp n = true →
    coldOk ⟨rank, uid.1, uid.2⟩ = true → s.bb.cold = .listen ∨ s.bb.cold = .coldstart →
    let u := s.countBad n uid.2.tail
    exec (.coldstartFrame n rank uid) s = .next
      (if rank < u.coldRank ∨ (rank = u.coldRank ∧ uid.1 < u.uid) then { u with bb := { u.bb with cold := .integrate } }
       else if rank = u.coldRank ∧ uid.1 = u.uid then
         { u with bb := { u.bb with cold := .listen, extraListen := u.uid % 8 * 25 } }
       else { u with bb := { u.bb with heardLower := true } })) ∧
  (∀ (s : State) (n rank : Nat) (uid : Nat × Ends), n < 4 → s.live = true → s.conductor = true → s.linkUp n = true →
    coldOk ⟨rank, uid.1, uid.2⟩ = false → exec (.coldstartFrame n rank uid) s = .next (s.countBad n uid.2.tail)) ∧
  (∀ (s : State), s.live = true → s.conductor = true → s.bb.cold = .coldstart →
    let u := (s.setCold .lead).becomeLantern
    exec .contentionWindowEnd s = .next { u with
      epoch := s.now, nE := 0, cycle := 0, bb := { u.bb with firstPhi0 := true, elapsed := 0, anchor := 0 } } ∧
      u.bb.cold = .lead ∧ u.bb.lantern = true ∧ u.bb.number = 0 ∧ u.bb.lanternUid = s.uid ∧ u.servo = {} ∧ u.time = s.time) ∧
  (∀ (s : State), s.live = true → s.conductor = true → s.bb.cold = .integrate →
    exec .integrateTimeout s = .next { s with bb := { s.bb with cold := .listen } }) ∧
  (∀ (s : State) (lane position reason : Nat) (r : CapRecord), lane < 4 → s.leads = true → s.capReason r = some reason →
    (s.noderec (r.nodeNo % 256)).holds = true →
    let l := s.lane (s.lineOf lane)
    exec (.capabilityRecordReceived lane position r) s = .next ((s.setLane (s.lineOf lane) { l with
      acks := l.acks ++ [⟨r.uid, r.nodeNo % 256, 0x80 + reason, s.cycle, false⟩] }).measureHop (r.nodeNo % 256))) ∧
  (∀ (s : State) (lane position reason : Nat) (r : CapRecord), lane < 4 → s.leads = true → s.capReason r = some reason →
    (s.noderec (r.nodeNo % 256)).holds = false →
    let u := s.setNoderec (r.nodeNo % 256) { s.noderec (r.nodeNo % 256) with
      state := .refused, reason := reason, lane := s.lineOf lane, position := position, record := some r, skegil := false }
    let l := u.lane (s.lineOf lane)
    exec (.capabilityRecordReceived lane position r) s = .next ((u.setLane (s.lineOf lane) { l with
      acks := l.acks ++ [⟨r.uid, r.nodeNo % 256, 0x80 + reason, u.cycle, false⟩] }).measureHop (r.nodeNo % 256))) ∧
  (∀ (s : State) (lane position : Nat) (r : CapRecord), lane < 4 → s.leads = true → s.capReason r = none →
    let u := s.dropRival r.uid r.nodeNo
    let x := u.noderec r.nodeNo
    u.uidElsewhere r.uid (s.lineOf lane) position = none → x.state = .absent →
    exec (.capabilityRecordReceived lane position r) s = .next (((((u.setNoderec r.nodeNo { x with
      state := .announced, reason := 0, lane := s.lineOf lane, position := position, record := some r, skegil := false, misses := 0 }).ack
        (s.lineOf lane) r.uid r.nodeNo 0).ev 24 r.nodeNo 1 0)).measureHop (r.nodeNo % 256))) ∧
  (∀ (s : State) (lane position : Nat) (r : CapRecord), lane < 4 → s.leads = true → s.capReason r = none →
    let u := s.dropRival r.uid r.nodeNo
    let x := u.noderec r.nodeNo
    u.uidElsewhere r.uid (s.lineOf lane) position = none → x.state = .member → x.uid ≠ some r.uid → r.uid ∉ x.rivals →
    exec (.capabilityRecordReceived lane position r) s = .next ((u.quarantine r.nodeNo 1 (x.rivals ++ [r.uid])).measureHop (r.nodeNo % 256))) ∧
  (∀ (s : State) (n c : Nat), s.leads = true → (s.noderec n).state = .lost → (s.noderec n).readmitAt = some c →
    0 ≤ cycDiff c s.nextCycle →
    let u := s.setNoderec n { s.noderec n with
      state := .member, misses := 0, slot := true, readmitAt := none, reason := 0, again := false, dropped := false }
    let v := (u.ev 24 n 2 0).safUnsync n
    exec (.readmission n) s = .next ((v.nodeAxes n).foldl (fun w a => w.setAxis a ((w.axis a).setCause 17 false)) v)) ∧
  (∀ (s : State) (lane position : Nat) (r : SkegilRecord), lane < 4 → s.leads = true → s.bit (R.bbCfg lane) 2 = false →
    exec (.skegilIdentityRecord lane position r) s = .next (s.bumpFld (R.bbMemb lane) 24 8 1)) ∧
  (∀ (s : State) (lane position : Nat) (r : SkegilRecord), lane < 4 → s.leads = true → s.bit (R.bbCfg lane) 2 = true →
    exec (.skegilIdentityRecord lane position r) s = .next ((s.joinRecord (s.lineOf lane) position (skegilCap r) true).measureHop (r.nodeNo % 256)))

/-! ## The Node role (R284, R298 to R316, R323, R336) -/

/-- The Node role: a frame goes on with the node's own fields and its residence, with a mark and an inverted CRC where it came bad, a
link frame not at all; the first valid scatter of a cycle is taken; an axis without an entry repeats its last triple once and is then
held; after 64 cycles without a Flash the node listens again, its axes on their way to being held; records build a pending generation, a
reply slot takes its answer, also one that refuses an item, a conductor takes the answer a slot holds, and a complete generation is
adopted (R284, R298, R299, R307, R311 to R316, R323, R336). -/
def Obligations.NodeRowsTakeEffect : Prop :=
  (∀ (s : State) (port : Nat) (f : LinkFrame) (res : Int), s.memberSide port = true →
    exec (.nodeFrameForward port (.link f) res) s = .next s) ∧
  (∀ (s : State) (port : Nat) (f : FogFrame) (res : Int), s.memberSide port = true → s.linkUp port = true → s.laneServed port = true →
    (s.lane port).lineEnd = false →
    let bad := !tailOk (fogBody f) f.ends.tail
    let g : FogFrame := { f with ends := { f.ends with tail := { s.markBad bad f.ends.tail with crc := sentCrc bad (fogBody f) } } }
    let t : State := { s with node := { s.node with forwarded := some (.foghorn g) } }
    exec (.nodeFrameForward port (.foghorn f) res) s = .next (t.countBad port f.ends.tail)) ∧
  (∀ (s : State) (port : Nat) (f : ColdFrame) (res : Int), s.memberSide port = true → s.linkUp port = true → s.laneServed port = true →
    (s.lane port).lineEnd = false →
    let bad := !tailOk (coldBody f) f.ends.tail
    let g : ColdFrame := { f with ends := { f.ends with tail := { s.markBad bad f.ends.tail with crc := sentCrc bad (coldBody f) } } }
    let t : State := { s with node := { s.node with forwarded := some (.coldstart g) } }
    exec (.nodeFrameForward port (.coldstart f) res) s = .next (t.countBad port f.ends.tail)) ∧
  (∀ (s : State) (port : Nat) (f : GatherFrame) (res : Int), s.memberSide port = true → s.linkUp port = true → s.laneServed port = true →
    (s.lane port).lineEnd = false →
    let bad := !tailOk (gatherBody f) f.tail
    let e := match s.ownNo with | some n => s.insertGather port n f | none => f
    let g : GatherFrame := { e with hdr := s.passHeader port res e.hdr, tail := s.markBad bad e.tail }
    let t : State := { s with node := { s.node with
      forwarded := some (.gather { g with tail := { g.tail with crc := sentCrc bad (gatherBody g) } }) } }
    let u := t.countBad port f.tail
    exec (.nodeFrameForward port (.gather f) res) s = .next (if gatherOk f then u.takeGen f.hdr.schedGen else u)) ∧
  (∀ (s : State) (port : Nat) (f : ScatterFrame) (res : Int), s.memberSide port = true → s.linkUp port = true → s.laneServed port = true →
    (s.lane port).lineEnd = false →
    let bad := !tailOk (scatterBody f) f.tail
    let g : ScatterFrame := { f with hdr := s.passHeader port res f.hdr, tail := s.markBad bad f.tail }
    let t : State := { s with node := { s.node with
      forwarded := some (.scatter { g with tail := { g.tail with crc := sentCrc bad (scatterBody g) } }) } }
    let u := t.countBad port f.tail
    exec (.nodeFrameForward port (.scatter f) res) s = .next (if scatterOkF f then u.takeGen f.hdr.schedGen else u)) ∧
  (∀ (s : State) (port : Nat) (f : SlowFrame) (res : Int), s.memberSide port = true → s.linkUp port = true → s.laneServed port = true →
    (s.lane port).lineEnd = false →
    let bad := !tailOk (slowBody f) f.tail
    let e := match s.ownNo with | some n => s.insertSlow n f | none => f
    let g : SlowFrame := { e with hdr := s.passHeader port res e.hdr, tail := s.markBad bad e.tail }
    let t : State := { s with node := { s.node with
      forwarded := some (.slow { g with tail := { g.tail with crc := sentCrc bad (slowBody g) } }) } }
    let u := t.countBad port f.tail
    exec (.nodeFrameForward port (.slow f) res) s = .next (if slowOkF f then (u.takeGen f.hdr.schedGen).takeSlowBlocks f else u)) ∧
  (∀ (s : State) (port : Nat) (f : ScatterFrame) (late : Bool), s.conductor = false → s.memberSide port = true → s.linkUp port = true →
    s.laneServed port = true → s.node.scatterSeen = false → scatterOkF f = true →
    let u : State := { s with node := { s.node with scatterSeen := true } }
    let v := ((u.takeControl f.ctl).takeFog f.hdr.fog f.ctl.fogClrSeq).takeGen f.hdr.schedGen
    let w := f.blocks.foldl State.takeScatterBlock ((f.entries.filter (fun e => decide (v.ownNo = some e.node) && decide (e.axis < 4))).foldl
      (fun w e => w.takeScatterEntry late e) v)
    exec (.nodeScatterReceived port f late) s = .next (if v.nodeState = .member ∧ v.node.genMismatch = false then
      w.handConts (f.conts.filter (fun c => decide (w.ownNo = some c.node))) else v)) ∧
  (∀ (s : State) (i : Nat), i < 4 → s.live = true → s.conductor = false →
    let x := s.node.axes.getD i {}
    x.enabled = true → x.got = false →
    exec (.nodeScatterMiss i) s = .next { s with node := { s.node with axes := s.node.axes.set i { x with
      misses := x.misses + 1, stale := true, held := x.held || decide (1 ≤ x.misses), got := true } } }) ∧
  (∀ (s : State), s.live = true → s.conductor = false → s.node.state = .member → 64 ≤ s.node.missed →
    exec .nodeFlashTimeout s = .next ({ s with node := { s.node with state := .listen } }.setFld R.pwrState 0 2 1)) ∧
  (∀ (s : State) (r : ScheduleRec), s.takesRecords = true → s.addressed r.dest = true → s.node.pending = none →
    r.gen ≠ s.node.inForce.gen →
    exec (.scheduleRecord r) s = .next { s with node := { s.node with pending := some {
      gen := r.gen, parts := [r.part], total := r.parts, sched := some r, blks := r.blks } } }) ∧
  (∀ (s : State) (r : ConfigRec), s.takesRecords = true → s.addressed r.dest = true → s.node.pending = none →
    r.gen ≠ s.node.inForce.gen →
    let g : Generation := { gen := r.gen, cfgParts := [(r.part, some r.items)], cfgTotal := r.parts }
    exec (.configRecord r) s = .next { s with node := { s.node with pending := some { g with
      items := g.ordered, refusedItem := if g.cfgWhole then g.ordered.findIdx? (s.refusesItem g.ordered) else none } } } ∧
      (r.part = 0 → r.parts = 1 → g.cfgWhole = true ∧ g.ordered = r.items)) ∧
  (∀ (s : State) (n : Nat) (r : AckRec) (g : Generation), s.conductor = false → s.takesRecords = true → s.ownNo = some r.node →
    s.node.pending = some g → g.refusedItem = none →
    exec (.ackRecord n r) s = .next { s with node := { s.node with ack := some ⟨r.node, g.gen, if g.complete then 0 else 1, 0⟩ } }) ∧
  (∀ (s : State) (n i : Nat) (r : AckRec) (g : Generation), s.conductor = false → s.takesRecords = true → s.ownNo = some r.node →
    s.node.pending = some g → g.refusedItem = some i →
    exec (.ackRecord n r) s = .next { s with node := { s.node with ack := some ⟨r.node, g.gen, 2, i⟩ } }) ∧
  (∀ (s : State) (n : Nat) (r : AckRec), n < 4 → s.conductor = true → s.bb.lantern = true → s.leads = true →
    exec (.ackRecord n r) s = .next (s.takeAck r)) ∧
  (∀ (s : State) (g : Generation), s.takesRecords = true → s.node.pending = some g → g.complete = true → s.node.adoptNext = true →
    ∃ t, exec .generationAdopt s = .next t ∧ t = s.adopt g (cycAdd s.cycle 1) ∧ t.node.inForce = g ∧ t.node.pending = none ∧
      t.node.genMismatch = false)

/-! ## CAN (R473 to R489) -/

/-- The rows of a CAN controller: clearing INIT starts it or is refused with its cause, 11 recessive bits join it, errors move its
counts, bus-off and its recovery, requests are made from the written bits, a frame sent ends its request where no other goes before it,
one that failed does so where its buffer is one-shot, a frame received enters the first matching filter's buffer or is counted, and sleep
and wake (R473 to R478, R481, R483 to R488). -/
def Obligations.CanRowsTakeEffect : Prop :=
  ∀ (s : State) (k : Nat), k < 2 → s.conductor = true →
  (∀ v : Reg32, s.writable = true → s.canInit k = true → bits v 0 1 = 0 → bits v 4 1 = 0 →
    let u := s.setFld (R.canCtl k) 1 3 (bits v 1 3)
    u.canInit k = true →
    exec (.canInitWrite k v) s = .next (match u.startRefusal k with
      | some (cause, subj) => ((u.setBit (R.canStat k) 9 true).setFld (R.canStat k) 16 2 cause).setFld (R.canStat k) 18 6 subj
      | none =>
        let w := u.setBit (R.canCtl k) 0 false
        (w.setCanc k { w.canc k with joining := true, joined := false, stb := false }).canShow k)) ∧
  (s.live = true → s.canInit k = false → (s.canc k).joining = true →
    exec (.canBusJoin k) s = .next ((s.setCanc k { s.canc k with joining := false, joined := true }).canShow k)) ∧
  (∀ e : CanError, s.canOn k = true →
    exec (.canBusError k e) s = .next ((s.setFld (R.canStat k) 4 3 e.lec).canCounts k ((s.canc k).tec + e.tecStep)
      ((s.canc k).rec_ + e.recStep))) ∧
  (s.canOn k = true → 255 < (s.canc k).tec →
    let u := (s.setCanc k { s.canc k with busOff := true, joined := false }).canShow k
    exec (.canBusOff k) s = .next ((((u.setBit (R.canStat k) 8 true).bumpFld (R.canCnt k) 16 8 1).canErrEv k 2).canFailAll k 3 true)) ∧
  (s.live = true → s.canInit k = false → (s.canc k).asleep = false → (s.canc k).busOff = true →
    exec (.canBusOffRecovery k) s = .next (((s.setCanc k { s.canc k with
      busOff := false, joined := true, joining := false, tec := 0, rec_ := 0 }).canShow k).canErrEv k 3)) ∧
  (∀ (f : CanFrame) (t i : Nat), s.canOn k = true → f.fdf = false →
    let u := s.canCounts k (s.canc k).tec (recAfter (s.canc k).rec_)
    (u.canFilter k f = some i →
      exec (.canFrameReceived k f t) s = .next (u.canStore k (u.fld (R.canFltCfg k i) 0 6) i f t)) ∧
    (u.canFilter k f = none → exec (.canFrameReceived k f t) s = .next (u.bumpFld (R.canCnt k) 0 16 1))) ∧
  (∀ (f : CanFrame) (t : Nat), s.canOn k = true → f.fdf = true → s.canFd k = false →
    exec (.canFrameReceived k f t) s = .next ((s.setFld (R.canStat k) 4 3 2).canCounts k (s.canc k).tec ((s.canc k).rec_ + 1))) ∧
  (∀ (high : Bool) (v : Reg32), s.writable = true →
    exec (.canTxreq k high v) s = .next ((List.range 32).foldl (fun u i =>
      if bits v i 1 = 1 then u.canRequest k (i + (if high then 32 else 0)) else u) s)) ∧
  (∀ (b t : Nat) (f : CanFrame), (s.canc k).pending.get none b = some f → s.canOn k = true → s.bit (R.canCtl k) 2 = false →
    s.canBefore k b t f = false →
    let u := (s.setCanPending k b none).canCounts k ((s.canc k).tec - 1) (s.canc k).rec_
    let w := ((u.localSig (u.bufSig k b + 1) (BitVec.ofNat 72 t)).setBit (R.canTxdone k b) (b % 32) true).canTraffic k b 2
    exec (.canFrameSent k b t) s = .next (if w.bit (R.canCtl k) 3 then w.canTake k f t else w)) ∧
  (∀ (b lec : Nat), s.canOn k = true → s.canPending k b = true →
    (s.bufOneShot k b = false → exec (.canTxFail k b 1 lec) s = .next s) ∧
    (s.bufOneShot k b = true → exec (.canTxFail k b 1 lec) s = .next (s.canFail k b 1 0))) ∧
  (s.live = true → (s.canc k).asleep = false →
    let u := (s.canFailAll k 4 false).setBit (R.canCtl k) 4 true
    exec (.canSleep k) s = .next ((u.setCanc k { u.canc k with asleep := true, joined := false, joining := false, stb := true }).canShow
      k)) ∧
  (s.mode ≠ .notUp → (s.canc k).asleep = true → s.canWakeMode k = 1 →
    let u := s.setBit (R.canCtl k) 4 false
    let w := u.setCanc k { u.canc k with asleep := false }
    w.canInit k = false →
    exec (.canWake k 1) s = .next (((w.canStart k).ev (53 + 2 * k) 0xFFFF 5 1).wakeUp (.can k 1)))

/-! ## Converters (R444 to R459) -/

/-- The rows of a converter: a regular conversion's result is written and the round goes on, an injected trigger starts its sequence or is
dropped and counted, its end writes the results, and the conversions in Standby feed the reduced model (R445 to R452, R457, R503). The
CODE of ADC_DROP's event and the VALUE of the others are free values (log entry 11). -/
def Obligations.ConverterRowsTakeEffect : Prop :=
  (∀ (s : State) (k : Nat) (code : Int) (sat current : Bool), k < 4 → s.live = true → s.engineRuns 10 = true → (s.adcv k).busy = false →
    let slot := s.adcNext k
    let u := s.adcResult k slot code sat current (s.adcv k).requeued (s.adcv k).round []
    let x := u.adcv k
    exec (.adcRegularConversion k code sat current) s = .next
      (if (u.adcRound k).all (fun c => decide (c ≤ slot)) = true then
        (if (u.setAdcv k { x with requeued := false, pos := 0, round := (x.round + 1) % 256 }).bit (R.adcCfg k) 2 = true then
          (u.setAdcv k { x with requeued := false, pos := 0, round := (x.round + 1) % 256 }).evC 45 k 1
        else u.setAdcv k { x with requeued := false, pos := 0, round := (x.round + 1) % 256 })
       else u.setAdcv k { x with requeued := false, pos := slot + 1 })) ∧
  (∀ (s : State) (k : Nat) (src : AdcTrigger), k < 4 → s.live = true → s.engineRuns 10 = true → s.adcListens k src = true →
    (s.adcv k).busy = false →
    let x := s.adcv k
    exec (.adcInjectedTrigger k src) s = .next ((s.setAdcv k { x with
      busy := true, slots := s.adcSlotsFor k src, trigAt := s.now, requeued := true, injCount := (x.injCount + 1) % 256 }).setBit
        (R.adcCkStat k) 9 true)) ∧
  (∀ (s : State) (k : Nat) (src : AdcTrigger), k < 4 → s.live = true → s.engineRuns 10 = true → s.adcListens k src = true →
    (s.adcv k).busy = true → (s.adcv k).trigAt / 2 ^ 17 ≠ s.now / 2 ^ 17 →
    let u := (s.bumpFld (R.adcDrop k) 0 16 1).setBit (R.adcCkStat k) 8 true
    exec (.adcInjectedTrigger k src) s = .next (u.evK 44 k (u.fld (R.adcDrop k) 0 16))) ∧
  (∀ (s : State) (k : Nat) (codes : List Int), k < 4 → (s.adcv k).busy = true →
    let u := s.adcInjResults k (s.adcv k).injCount 0 (s.adcv k).slots codes
    let w := u.setAdcv k { u.adcv k with busy := false, slots := [] }
    exec (.adcInjectedEnd k codes) s = .next (if w.bit (R.adcCfg k) 3 = true then w.evC 45 k 2 else w)) ∧
  (∀ (s : State) (ref diode : Int) (current : Bool), s.mode = .standby →
    let u := s.adcResult 0 4 ref false true false (s.adcv 0).round []
    let w := u.adcResult 0 6 diode false current false (s.adcv 0).round []
    exec (.adcStandbyConversion ref diode current) s = .next
      (State.standbyDie { w with therm := (w.therm.judge 0 (w.diode 0) 10000000).1 }))

/-! ## Feedback ports (R194 to R215) -/

/-- The rows of a feedback port. An illegal transition is counted; a first index of a quadrature port is taken, as ZGATE lets it; an SSI
frame gives the position, and loop measurements that fail are a fault; a write of a latch's control arms it, unless homing has latch 0; a
buoy latches the live count of a counting port; the count that crosses VAL hits a compare channel, which stops where STEP is zero and
takes a STEP that waits for the hit; a committed VAL that lies behind is advanced; a compare pulse ends; an output count that finds 255
waiting is lost (R196 to R198, R201 to R203, R206 to R211, R214). -/
def Obligations.FeedbackRowsTakeEffect : Prop :=
  ∀ (s : State) (k : Nat), k < 4 →
  (∀ run : PinRun,
    let u := s.pinsRun run
    let v := u.linesAt k (u.brokenLevels k)
    let w := (((v.setBit (R.fbStat k) 8 true).bumpFld (R.fbIllCnt k) 0 16 1).bumpFld (R.fbIllCnt k) 16 8 1).setFbp k
      { v.fbp k with illSeen := true }
    u.fbRuns k = true → u.fbLive k = true → (v.fbp k).illSeen = true → w.fld (R.fbCfg k) 16 8 = 0 →
    exec (.illegalTransition ⟨k, run⟩) s = .next w) ∧
  (∀ run : PinRun,
    let u := s.pinsRun run
    let v := (u.setFbp k { u.fbp k with idxCount := (u.fbp k).count }).setBit (R.fbStat k) 2 true
    u.fbRuns k = true → u.fbMode k = 1 → u.zGate k (u.fbp k).lev = true → u.bit (R.fbStat k) 2 = false →
    exec (.indexPulse k run) s = .next (((v.latchMeet k 0 1 0 true v.pinTime).latchMeet k 1 1 0 true v.pinTime).emuIndex k)) ∧
  (∀ (word f0 : Nat), s.fbRuns k = true → s.fbMode k = 3 → (s.fbp k).loopMeasured = true → (s.fbp k).ssiDone = false →
    (s.fbp k).ssiLast = some f0 → s.ssiBad k word false = false → s.fld (R.fbSsi2 k) 0 24 = 0 →
    let f := s.ssiField k word
    let w := s.fld (R.fbSsi k) 8 6
    let pos := satBits 72 ((s.fbp k).pos + sext w (tc w ((f : Int) - f0)) * 2 ^ 32)
    exec (.ssiFrame k word false) s = .next ((((s.setFbp k { s.fbp k with
      ssiDone := true, valid := true, ssiRun := 0, ssiLast := some f, pos := pos, hist := (s.fbp k).readSample pos true }).setReg72
        (R.fbPos k) pos).setBit (R.fbStat k) 1 true).latchWrites k)) ∧
  (∀ delays : List (Option Nat), s.fbRuns k = true → s.fbMode k = 3 → (s.fbp k).loopMeasured = false → delays.length ≠ 8 ∨ none ∈ delays →
    exec (.ssiLoopMeasurement k delays) s = .next ((s.setBit (R.fbStat k) 0 false).feedbackFault k 5)) ∧
  (∀ v : Reg32, s.writable = true →
    exec (.latchArm k 1 v) s = .next ((s.setReg (R.fbLatCtl k 1) (v &&& 0xF3F)).setFbp k ((s.fbp k).unwait 1)) ∧
    (s.portHoming k = true → exec (.latchArm k 0 v) s = .next s) ∧
    (s.portHoming k = false →
      exec (.latchArm k 0 v) s = .next ((s.setReg (R.fbLatCtl k 0) (v &&& 0xF3F)).setFbp k ((s.fbp k).unwait 0)))) ∧
  (∀ (j : Nat) (run : PinRun) (t : Nat) (rise : Bool), j < 2 →
    let u := s.pinsRun run
    let b := u.fld (R.fbLatCtl k j) 8 4
    u.fld (R.fbLatCtl k j) 0 2 = 3 → b < 8 → u.byDue b = true → u.latchTakes k j 3 b rise = true → u.fbLive k = true →
    exec (.latchTrigger k j run t rise) s = .next (u.latchDone k j (u.livePos k) t)) ∧
  (∀ run : PinRun,
    let u := s.pinsRun run
    let d := u.cmpDir k 0
    let v := u.linesAt k (u.nextLevels k d)
    let w := v.setFbp k { v.fbp k with count := (v.fbp k).count + d, lastStep := d }
    let old := w.countPos k (v.fbp k).count
    let new := w.livePos k
    let x := ((w.setReg (R.cmpHits k 0) (w.reg (R.cmpHits k 0) + 1)).freeStep k 0).cmpDrive k 0
    let y := x.setFbp k { x.fbp k with cmpArm := (x.fbp k).cmpArm.set 0 4 }
    u.fbRuns k = true → u.fbMode k ≠ 3 → w.fbLive k = true →
    w.bit (R.cmpCtl k 0) 0 = true → (w.fbp k).cmpArm.getD 0 0 = 0 → w.cmpAhead k 0 old < 0 → 0 ≤ w.cmpAhead k 0 new →
    y.bit (R.cmpCtl k 0) 6 = false → y.reg72 (R.cmpStep k 0) = 0 →
    let z := y.setBit (R.cmpCtl k 0) 0 false
    z.bit (R.cmpCtl k 1) 0 = false → z.fbLive k = true →
    exec (.compareHit k 0 run) s = .next (z.emuFeed k d)) ∧
  (∀ (j : Nat) (hi : Reg32) (run : PinRun), j < 2 → (s.pinsRun run).writable = true →
    let u := ((s.pinsRun run).commitWide (R.cmpVal k j) 72 hi).freeStep k j
    (u.fbRuns k = true → 0 ≤ u.cmpAhead k j (u.cmpPos k) →
      exec (.compareValCommit k j hi run) s = .next ((u.cmpSkipBy k j (u.cmpBehind k j (u.cmpPos k))).setBit (R.cmpStat k j) 0 true)) ∧
    (u.fbRuns k = false ∨ u.cmpAhead k j (u.cmpPos k) < 0 → exec (.compareValCommit k j hi run) s = .next u)) ∧
  (∀ j : Nat, exec (.comparePulseEnd k j) s = .next (s.setFbp k { s.fbp k with cmpPulse := (s.fbp k).cmpPulse.set j false })) ∧
  (255 ≤ (s.fbp k).emuWait.natAbs → exec (.emulationBacklogOverflow k) s = .next (s.setBit (R.fbEmuStat k) 8 true))

/-! ## Power stage and PWM (R217 to R263) -/

/-- The rows of the power stage. A stuck bit stream is invalid; a fast comparator shows what it lies beyond, that of an auxiliary channel
ends the on-time of the coils that it terminates (R256), and the DC-bus one above
CHOP_ON requests the chopper; a bus that did not drop is source 10; a chopper's on-time ends; a zero-vector window that is over ends with
the fit of its currents (as log entry 180 takes it) or with source 15, and the loops take a flying start over; a trip input latches, a
clear is refused while it is active; a lost clock turns the choppers off with CLKFAIL and ALERT_N; a manual triple enters the shadow where
SRC selects it; a later period of a cycle starts (R218, R224, R226, R227, R233, R234, R248, R254, R256 to R259, R263). -/
def Obligations.PowerStageRowsTakeEffect : Prop :=
  (∀ (s : State) (c : Nat), c < 16 → s.bit (R.sdmCfg c) 0 = true →
    exec (.sdmStuck c) s = .next (((s.setSdmc c { s.sdmc c with stuckNow := true }).setBit (R.sdmStat c) 8 true).setBit (R.sdmStat c) 0
      false)) ∧
  (∀ (s : State) (c : Nat) (x : Int), 12 ≤ c → c < 16 → s.cmpOn c = true → (s.sdmc c).above = false → (s.sdmc c).below = false →
    let v := s.sdmPolarity c x - s.sdmOffs c
    sbits (s.reg (R.sdmCmp c)) 0 16 * 2 ^ 20 < v → sbits (s.reg (R.sdmCmp c)) 16 16 * 2 ^ 20 ≤ v →
    let u := (s.setSdmc c { s.sdmc c with fast := s.sdmPolarity c x, above := true }).setBit (R.sdmStat c) 9 true
    exec (.fastComparatorCrossing c x) s = .next ((List.range 4).foldl (fun w q =>
      if w.fld (R.chCfg q) 4 2 = c - 12 then w.chopTerminate q else w) u)) ∧
  (∀ (s : State) (k a : Nat) (udc : Int), k < 4 → s.portAxis k = some a → (s.axis a).int Pn.chopEn = 1 →
    (s.axis a).g Pn.chopOn < (s.axis a).busVolts udc →
    s.cmpTrips (2 * k) = false → s.cmpTrips (2 * k + 1) = false → (s.pwmp k).cmpTrip = false →
    ∃ t, exec (.chopperThreshold k udc) s = .next t ∧ (t.sdmc (8 + k)).above = true ∧ (t.chopper k).req = true) ∧
  (∀ (s : State) (k a : Nat) (u0 u1 : Int), k < 4 → s.portAxis k = some a → (s.axis a).int Pn.chopEn = 1 → s.chopReq k = true → u0 ≤ u1 →
    let u := (s.setChopper k { s.chopper k with open_ := true }).chopFollow k
    exec (.chopperOpenDetect k u0 u1) s = .next ((u.setAxis a ((u.axis a).psFlag fChopOpen true)).raiseSource a 10 0 true)) ∧
  (∀ (s : State) (c : Nat), c < 4 → s.live = true → s.chopCarrier c ≠ 0 → (s.chopper c).on = true →
    exec (.chopperPulseEnd c false) s = .next (s.setChopper c { s.chopper c with on := false, offUntil := true })) ∧
  (∀ (s : State) (a : Nat) (us vs : List Int) (atLimit : Bool) (ns : Nat),
    let x := s.axis a
    let f := fitEmf (x.windowEmf (s.windowStep x) (x.windowCurrents us vs))
    s.usable a = true → s.isRun = true → x.fly.on = true → x.fly.window = true → x.remote = false → 200000 ≤ ns →
    (3 * f.mag ^ 2 ≤ (hVal x.udcUsed * x.g Pn.uFs) ^ 2 → 10 * f.residual ≤ f.mag →
      exec (.flyingStartWindowEnd a us vs atLimit ns) s = .next (s.setAxis a (x.windowFit f s.cycle))) ∧
    ((hVal x.udcUsed * x.g Pn.uFs) ^ 2 < 3 * f.mag ^ 2 ∨ f.mag < 10 * f.residual →
      exec (.flyingStartWindowEnd a us vs atLimit ns) s = .next ((s.setAxis a { x with fly := { x.fly with window := false }
                                                                              }).raiseSource a 15 0 true))) ∧
  (∀ (s : State) (a : Nat),
    let x := s.axis a
    s.usable a = true → s.isRun = true → x.fly.on = true → x.fly.observer = false → x.loop.vestValid = true →
    2 ≤ cycDiff x.fly.since s.cycle → x.streamed = false → x.reqs = [] → x.loop.ranC = false →
    let v0 := if |x.loop.vEst| < x.raw Pn.flyVmin then 0 else x.loop.vEst
    let u := (s.setAxis a (x.takeover v0)).ev 35 a 0x0100 (tc 32 (wholeSpeed v0))
    exec (.flyingStartTakeover a) s = .next (if x.ctrlMode = 3 then u else u.request a (.toSpeed x.speedWanted))) ∧
  (∀ (s : State) (k : Nat), k < 4 → (s.pwmp k).pinActive = false →
    exec (.tripInput k) s = .next (State.trip (s.setPwmp k { s.pwmp k with pinActive := true }) k)) ∧
  (∀ (s : State) (k : Nat), k < 4 → s.writable = true → (s.pwmp k).tripped = true → (s.pwmp k).tripActive = true →
    exec (.tripClear k) s = .next (s.setBit (R.pwmStat k) 9 true)) ∧
  (∀ (s : State) (k : Nat), k < 4 → s.writable = true → (s.pwmp k).tripped = true → (s.pwmp k).tripActive = false →
    exec (.tripClear k) s = .next ((s.setPwmp k { s.pwmp k with tripped := false, clearPending := true }).showTrip k)) ∧
  (∀ (s : State) (k : Nat), k < 4 →
    exec (.tripInputInactive k) s = .next ((s.setPwmp k { s.pwmp k with pinActive := false }).tripCause k)) ∧
  (∀ (s : State),
    ∃ t, exec .clockMonitorFail s = .next t ∧ t.pw = { s.pw with alertN := false } ∧ t.axes = s.axes ∧
      t.regs = (s.setBit R.pwmGstat 0 true).regs ∧ t.clkFail = true ∧ ∀ c, c < 4 → (t.chopper c).on = false) ∧
  (∀ (s : State) (k : Nat) (w : Reg32), k < 4 → s.writable = true →
    let u := s.setReg (R.pwmMan k + 8) (w &&& 0x1FFFF)
    exec (.manualTripleWrite k w) s = .next (if u.bit (R.pwmCfg k) 6 = false then u
      else u.writeTriple k ([0, 4, 8].map (fun o => manDuty (u.reg (R.pwmMan k + o)).toNat)) (u.sampledCurrents k) u.lateNow)) ∧
  (∀ (s : State) (k : Nat), k < 4 → s.live = true → s.clkFail = false → (s.pwmp k).period + 1 < s.portK k →
    exec (.pwmPeriodStart k) s = .next (s.startPeriod k ((s.pwmp k).period + 1)))

/-! ## Field channels (R460 to R471) -/

/-- The rows of the field channels. A debounced edge is taken with its stamp; outputs take their levels, and a write waits while IOE is
halted; an overload and a failed read-back switch an output off and latch; a test checks a selected output; the supply's thresholds warn,
trip, recover and report (R463 to R470), where nothing is to be restored, and a report waits while the link is down (R471). The SUBJECT of
EV49 is a free value (log entry 11). -/
def Obligations.FieldRowsTakeEffect : Prop :=
  (∀ (s : State) (ch t : Nat) (level : Bool), ch < 16 → s.pw.boot = .up → s.inValid = true → s.die.up = true →
    bvGet s.field.inputs ch ≠ level → s.field.stampQueue.length < 16 →
    ∃ u, exec (.fieldInputChange ch level t) s = .next u ∧ u.field = { s.field with
      inputs := bvPut s.field.inputs ch level, stampQueue := s.field.stampQueue ++ [(ch, t)], edgeAt := s.field.edgeAt.set 0 ch t
      readback := if s.chOut ch = true then bvPut s.field.readback ch level else s.field.readback }) ∧
  (∀ (s : State) (v : Reg32), s.writable = true → s.engineRuns 10 = true →
    exec (.fieldOutputWrite false v) s = .next ((List.range 16).foldl (fun u c =>
      if u.outBySig c || u.claimed c then u else u.setBit R.dioOut c (bvGet v c)) (s.wake 10))) ∧
  (∀ (s : State) (v : Reg32), s.writable = true → s.engineRuns 10 = false →
    exec (.fieldOutputWrite true v) s = .next { s with field := { s.field with heldEn := some v } }) ∧
  (∀ (s : State) (ch : Nat) (hot : Bool), ch < 16 → s.bit R.dioOutEn ch = true →
    let u := s.setBit R.dioOutEn ch false
    exec (.outputOverload ch hot) s = .next ((State.setBit { u with field := { u.field with
      noRestore := bvPut u.field.noRestore ch true } } R.dioFault ch true).evC 50 ch (if hot then 2 else 1))) ∧
  (∀ (s : State) (c : Nat), c < 16 → s.writable = true → s.bit R.dioStat 4 = false → s.coreOut c = true →
    let u := s.setBit R.dioStat 4 true
    exec (.dioTest (2 ^ c)) s = .next { u with field := { u.field with
      testMask := bvPut u.field.testMask c true
      testOff := bvPut u.field.testOff c (u.bit R.dioOutEn c && u.bit R.dioOut c)
      checks := u.field.checks.set none c (some (2, false)) } }) ∧
  -- an output that was on is read as 0 in its test first, and then again once it is on
  (∀ (s : State) (ch : Nat), s.field.checks.get none ch = some (2, false) → bvGet s.field.testOff ch = true →
    let u := State.setBit { s with field := { s.field with readback := bvPut s.field.readback ch false } } R.dioIn (16 + ch) false
    let v : State := { u with field := { u.field with
      checks := u.field.checks.set none ch (some (2, true)), testOff := bvPut u.field.testOff ch false } }
    exec (.readbackCheck ch false) s = .next (v.setBit R.dioStat 4 (v.bit R.dioStat 4 && decide (v.field.testMask ≠ 0)))) ∧
  (∀ (s : State) (ch : Nat) (expect : Bool), s.field.checks.get none ch = some (1, expect) → s.bit R.dioOutEn ch = true →
    s.die.up = true → s.bit R.dioStat 4 = false →
    let level := s.bit R.dioOut ch
    let u := (State.setBit { s with field := { s.field with
      checks := s.field.checks.set none ch none, readback := bvPut s.field.readback ch (!level) } } R.dioIn (16 + ch) (!level)).setBit
        R.dioStat 4 false
    exec (.readbackCheck ch (!level)) s = .next (((u.outOff ch true).setBit R.dioFault (16 + ch) true).ev 51 ch 1
      (if level then 1 else 0))) ∧
  (∀ (s : State) (mv : Nat), s.die.up = true → s.pw.boot = .up →
    (mv < 1800 → s.field.warn = false →
      let u : State := { s with field := { s.field with warn := true } }
      exec (.vfieldWarn mv) s = .next ((((u.setVf mv).setBit R.dioStat 2 true).setBit R.dioStat 8 true).evSupply 1 mv)) ∧
    (1850 < mv → s.field.warn = true →
      let u : State := { s with field := { s.field with warn := false } }
      exec (.vfieldWarnClear mv) s = .next (((u.setVf mv).setBit R.dioStat 2 false).evSupply 4 mv)) ∧
    (3200 < mv → exec (.vfieldOvervoltage mv) s = .next ((s.setVf mv).evSupply 5 mv))) ∧
  (∀ (s : State) (mv : Nat), s.die.up = true → s.pw.boot = .up → s.reg R.dioOutEn = 0 →
    (mv < 1530 → s.field.low = false →
      let u : State := { s with field := { s.field with supplyOk := false, low := true, tripEn := 0 } }
      let w := (((u.setVf mv).setBit R.dioStat 0 false).setBit R.dioStat 3 true).setBit R.dioStat 9 true
      exec (.vfieldTrip mv) s = .next ((w.bumpFld R.dioCnt 16 16 1).evSupply 2 mv)) ∧
    (1800 < mv → s.field.supplyOk = false → s.field.tripEn = 0 →
      let u : State := { s with field := { s.field with supplyOk := true, low := false } }
      let w := (((u.setVf mv).setBit R.dioStat 0 true).setBit R.dioStat 3 false).evSupply 3 mv
      exec (.vfieldRecover mv) s = .next { w with field := { w.field with tripEn := 0 } })) ∧
  (∀ (s : State) (mv : Nat), s.die.up = false → s.pw.boot = .up → mv < 1800 → s.field.warn = false →
    exec (.vfieldWarn mv) s = .next { s with field := { s.field with warn := true, unseen := s.field.unseen ++ [(1, mv)] } })

/-! ## Power states and clocks (R490 to R497) -/

/-- POWER_STATE that no check refuses: for the state in force it completes at once, for Standby before the entry, and for Run or Idle it
is put down for φ0 two cycles on (R491). The entry to Standby silences the lanes and stops the clocks, with its event, and a wake leads
to Idle (R492, R494); the slow clock's loss stops the core die, its return and an unlock of PLL_SYS restart it, and the other PLLs act on
their bits and the lanes (R497). The VALUE of an event that names none, the retained seconds shown after a wake, the seconds it adds and
the state of the host link are free values (log entries 7, 11 and 213). -/
def Obligations.PowerStateRowsTakeEffect : Prop :=
  (∀ (s : State) (h : Hdr) (target : Nat), s.admits h 0x0602 .long 0 .none → target ≤ 2 → s.powerRefusal target = none →
    let own := (s.taken .long).openFor h 0x0602
    let u := (s.taken .long).acceptLong h 0x0602 0 []
    (target = s.powerNow → exec (.powerState h target) s = .next (u.final own 0x0000 s.cycle 0 none [])) ∧
    (target ≠ s.powerNow → target = 2 →
      let v := (u.final own 0x0000 s.cycle 0 none []).setBit R.pwrState 2 true
      exec (.powerState h target) s = .next { v with pw := { v.pw with entering := true } }) ∧
    (target ≠ s.powerNow → target ≠ 2 →
      let v := u.setBit R.pwrState 2 true
      exec (.powerState h target) s = .next { v with pw := { v.pw with req := some {
        target := target, own := own, at_ := cycAdd s.cycle 2 } } })) ∧
  (∀ (s : State), s.live = true → s.pw.entering = true → s.host.outbox = [] →
    let u := s.endSession.saveThermal.silenceLanes
    let v := u.canStandby.setFld R.clkStat 1 3 0
    let w : State := { v with pins := v.pins.still, die := { v.die with fast := false }, pw := { v.pw with entering := false } }
    let x := ((w.setFld R.pwrState 0 2 2).setBit R.pwrState 2 false).evC 63 2 1
    u.bb.cold = .listen ∧ u.bb.lantern = false ∧ u.bb.uplink = none ∧
      exec .standbyEntry s = .next (match x.host.wakeKept with
        | some c => State.wakeUp { x with host := { x.host with wakeKept := none } } c
        | none => x)) ∧
  (∀ (s : State) (c : WakeCause), s.mode = .standby → s.pw.entering = false → s.pw.shutCore = false → s.pw.shutField = false →
    let d := Config.freeWord (s.free + 1)
    let a : State := { s with free := s.free + 2, pw := { s.pw with aonSeconds := s.pw.aonSeconds + d.toNat % 2 ^ 32 } }
    let b : State := if d.getLsbD 32 then { a with pw := { a.pw with
      wakeN := false, wakeEnd := some (t72Mod ((s.now : Int) + 1000000 * 2 ^ 16)) } } else a
    let u := ((((b.setFld R.pwrState 0 2 1).setBit R.pwrState 2 false).setFld R.pwrState 8 4
      (wakeCode c)).setFld R.clkStat 1 3 7)
    let v : State := { u with
      die := { u.die with fast := true }, host := { u.host with pollSoon := true }
      therm := { u.therm with started := false, woken := true }, bb := { u.bb with cold := .listen } }
    let w := v.axisNos.foldl (fun (y : State) a => y.setAxis a { y.axis a with therm := { (y.axis a).therm with pastW := [], pastS := [] } }) v
    exec (.standbyWake c) s = .next (((w.setFld R.thmRetain 16 2 2).setFld R.thmRetain 0 16
      ((Config.freeWord s.free).toNat % 2 ^ 16)).evWake c)) ∧
  (∀ (s : State), s.powered = true → s.pw.boot ≠ .clockLost → s.sec.session = false →
    ∃ t, exec .slowClockLoss s = .next t ∧ t.pw.boot = .clockLost ∧ t.pw.rstoutN = false ∧ t.pw.alertN = false ∧
      t.pw.heldCause = some (s.pw.heldCause.getD 4) ∧ t.die.up = false ∧ t.saf.chA.sto = false ∧ t.saf.chB.sto = false) ∧
  (∀ (s : State), s.pw.boot = .clockLost → exec .slowClockRestored s = .next (s.bootFrom 4)) ∧
  (∀ (s : State), s.live = true → exec .pllSysUnlock s = .next (s.clockLoss.bootFrom 4)) ∧
  (∀ (s : State), s.live = true → s.bit R.clkStat 2 = true →
    let u := (((s.linkDown 0).linkDown 1).linkDown 2).linkDown 3
    exec .backbonePllUnlock s = .next ((u.setBit R.clkStat 2 false).setBit R.clkStat 8 true)) ∧
  (∀ (s : State), s.live = true → exec .backbonePllRelock s = .next (s.setBit R.clkStat 2 true)) ∧
  (∀ (s : State), s.live = true → s.bit R.clkStat 3 = true →
    exec .pciePllUnlock s = .next ((s.setBit R.clkStat 3 false).setBit R.clkStat 9 true)) ∧
  (∀ (s : State), s.live = true → exec .pciePllRelock s = .next (s.setBit R.clkStat 3 true))

/-! ## Thermal (R498 to R512) -/

/-- The thermal rows. An update of the die in Run or Idle steps its three nodes by the power and the readings of the update; in Standby
only the field code is judged; a shutdown that the core die's comparator sees stops the core die, and the restart after it counts and
reports it; an axis's models run, or drop their causes where TM_EN is 0; and each second is counted and, unless MRAM writes are stopped,
saves the retained state (R498 to R512). -/
def Obligations.ThermalRowsTakeEffect : Prop :=
  (∀ (s : State) (ws : List (List Nat)) (field : Int), s.live = true → s.svRuns = true → s.therm.started = true →
    let u := (s.clampThmCfg).showPower ws
    let v := (u.takeReadings field (62500 * max 1 ws.length)).1
    let x := v.therm
    let p := v.railPower ws
    let ref := if (x.badFor.getD 2 none).isSome then x.counted 3 else x.counted 2
    let y := x.step (62500 * max 1 ws.length) p (gVal ref - p.foldl (fun a b => a + b) 0 * 15 / 100)
    ∃ t, exec (.dieThermalUpdate ws field) s = .next t ∧ t.therm.t0 = y.t0 ∧ t.therm.t1 = y.t1 ∧ t.therm.t2 = y.t2 ∧
      t.time = s.time ∧ t.cycle = s.cycle) ∧
  (∀ (s : State) (ws : List (List Nat)) (field : Int), s.mode = .standby →
    let u := s.setFld R.thmField 0 8 (tc 8 (clampI (-128) 127 field))
    exec (.dieThermalUpdate ws field) s = .next (State.standbyDie { u with therm :=
      if u.die.up then (u.therm.judge 4 (fieldCode field) (62500 * max 1 ws.length)).1 else u.therm })) ∧
  (∀ (s : State) (field : Bool), s.powered = true → s.pw.boot ≠ .hotStop → s.sec.session = false →
    ∃ t, exec (.hardwareThermalShutdown true field) s = .next t ∧ t.pw.boot = .hotStop ∧ t.pw.shutCore = true ∧
      t.pw.shutField = (s.pw.shutField || field) ∧ t.pw.heldCause = some (s.pw.heldCause.getD 3) ∧ t.pw.rstoutN = false ∧
      t.die.up = false ∧ t.saf.chA.sto = false ∧ t.saf.chB.sto = false) ∧
  (∀ (s : State), s.pw.boot = .hotStop → s.pw.shutCore = true → s.pw.shutField = false →
    let u := ((s.bootFrom 3).setBit R.thmStat 10 true).bumpFld R.thmShut 0 8 1
    let v := u.bumpFld R.thmShut 8 8 0
    exec .thermalRestart s = .next ((v.ev 58 0xFFFF 7 1).evC 63 1 6)) ∧
  (∀ (s : State) (a dt : Nat), s.live = true → s.svRuns = true → s.usable a = true →
    exec (.axisThermalUpdate a dt) s = .next (s.axisThermal a dt)) ∧
  (∀ (s : State), s.live = true → s.svRuns = true →
    let u : State := { s with pw := { s.pw with aonSeconds := s.pw.aonSeconds + 1 } }
    (s.mramStop = true → exec .thermalStateSave s = .next u) ∧
    (s.mramStop = false → exec .thermalStateSave s = .next { u with thermMram := some (s.pw.aonSeconds + 1,
      s.axes.map (fun (e : Nat × Axis) => (e.1, e.2.therm.tw, e.2.therm.tb, e.2.therm.ts))) }))

/-! ## Lifecycle and debug (R513 to R523) -/

/-- FW_UPDATE ends at once with the status of its checks, or without a write where boot by host download is selected, or has its image
written; IMAGE_SLOT_WRITTEN names the slot in the older copy of the boot record and gives the FINAL. LIFECYCLE_SET waits for its fuses,
which make the new state and end a session, and at retirement erase what R513 names and restart; fuses that do not verify change nothing
(R513, R515 to R517, R528). That an image that reads back wrong ends with a free status is log entry 49 and no part of this. -/
def Obligations.LifecycleRowsTakeEffect : Prop :=
  (∀ (s : State) (h : Hdr) (addr len : Nat) (im : Image), s.admits h 0x0601 .long 0 .none → alignedAddr addr = true →
    s.imageAt addr len = some im →
    let own := (s.taken .long).openFor h 0x0601
    let u := (s.taken .long).acceptLong h 0x0601 0 []
    exec (.fwUpdate h addr len) s = .next (match s.updateStatus im len with
      | some st => u.final own st u.cycle 0 none []
      | none =>
        if s.bootsel = 1 then u.final own 0x0000 u.cycle 1 none []
        else { u with flash := { u.flash with updating := u.flash.updating ++ [(own, im)] } })) ∧
  (∀ (s : State) (own : Open) (im : Image) (rest : List (Open × Image)), s.flash.updating = (own, im) :: rest → s.live = true →
    s.svRuns = true →
    let f : Flash := { s.flash with updating := rest }
    exec (.imageSlotWritten true) s = .next (State.final { s with flash := f.nameSlot (1 - s.slotInUse) im } own 0x0000 s.cycle 0 none
      [])) ∧
  (∀ (s : State) (h : Hdr) (state auth : Nat) (bs : List Byte), s.admits h 0x0605 .long 0 .none → 1 ≤ state → state ≤ 3 →
    (state = 2 → s.sec.lcs = 1 → auth = 0) → s.authBytes state auth = some bs → s.isIdle = true → s.lifecycleOk state bs = true →
    let u := (s.taken .long).acceptLong h 0x0605 0 []
    exec (.lifecycleSet h state auth) s = .next { u with sec := { u.sec with
      setOwn := some ((s.taken .long).openFor h 0x0605, state, bs) } }) ∧
  (∀ (s : State) (own : Open) (state : Nat) (bs : List Byte), s.sec.setOwn = some (own, state, bs) → s.live = true → s.svRuns = true →
    state ≠ 3 →
    let u : State := { s with sec := { s.sec with
      setOwn := none, lcs := state, debugKey := if state = 1 then some bs else s.sec.debugKey } }
    let v := u.endSession.evDebug none 10
    exec (.lifecycleFusesWritten true) s = .next (v.final own 0x0000 v.cycle 0 none [])) ∧
  (∀ (s : State) (own : Open) (bs : List Byte), s.sec.setOwn = some (own, 3, bs) → s.live = true → s.svRuns = true →
    ∃ t, exec (.lifecycleFusesWritten true) s = .next t ∧ t.sec.lcs = 3 ∧ t.sec.debugKey = some (List.replicate 64 0xFF) ∧
      t.jnl.bank0 = [] ∧ t.jnl.bank1 = [] ∧ t.saf.sets = [] ∧ t.saf.confirmed = [] ∧ t.stage.storeA = {} ∧ t.stage.storeB = {} ∧
      t.pw.boot = .image) ∧
  (∀ (s : State), exec (.lifecycleFusesWritten false) s = .next s)

/-- Debug: a challenge and its answer in FIELD, requests refused and served by the matrix, IDCODE and its like, halting an engine of a
conductor that owns no axis and resuming one, the lock and end of session by DBG_CTL, and the reset of the TAP (R518 to R522). The order of the matrix's checks is log entry 42, data shifted out a free value (log entry 48), and the VALUE of EV61 too (log
entry 11). -/
def Obligations.DebugRowsTakeEffect : Prop :=
  (∀ (s : State) (late : Bool), s.live = true → s.sec.lcs = 2 → s.sec.lockout = false → s.sec.lock = false →
    exec (.dbgAuth none late) s = .next { s with sec := { s.sec with
      challenge := some s.sec.challenges, challenges := s.sec.challenges + 1 } }) ∧
  (∀ (s : State) (n : Nat) (key bs : List Byte), s.live = true → s.sec.lcs = 2 → s.sec.lockout = false → s.sec.lock = false →
    s.sec.challenge = some n → s.sec.debugKey = some key → bs.length = 64 →
    let good := Config.ecdsaVerifies key (Config.sha256 (Config.randomChallenge n ++ leBytes 8 s.uid)) bs
    let opened := State.evDebug { s with sec := { s.sec with challenge := none, session := true, auth := true } } none 1
    (s.sec.fails < 2 →
      exec (.dbgAuth (some bs) false) s = .next (if good = true then opened else
        State.evDebug { s with sec := { s.sec with challenge := none, fails := s.sec.fails + 1 } } none 3)) ∧
    (2 ≤ s.sec.fails →
      ∃ t, exec (.dbgAuth (some bs) false) s = .next t ∧ (good = true → t = opened) ∧
        (good = false → t.sec.fails = 3 ∧ t.sec.lockout = true ∧ t.sec.session = s.sec.session))) ∧
  (∀ (s : State) (r : DbgRequest) (reason : Nat), s.pw.boot = .up → dbgIdent r = false → s.dbgReason r = some reason →
    exec (.dbgAccess r) s = .next ((s.setReg R.dbgLast (BitVec.ofNat 32 ((dbgReq r).1 + 16 * reason + 256 * ((dbgReq r).2.getD 0 %
      16)))).evDebug (dbgReq r).2 5)) ∧
  (∀ (s : State) (r : DbgRequest), s.pw.boot = .up → dbgIdent r = false → s.dbgReason r = none →
    exec (.dbgAccess r) s = .next ((s.openByAccess r).dbgServe r)) ∧
  (∀ (s : State) (r : DbgRequest), s.pw.boot = .up → dbgIdent r = true → s.sec.lcs ≠ 3 →
    exec (.dbgAccess r) s = .next { s with free := s.free + 1, sec := { s.sec with tdo := true, dataOut := Config.freeWord s.free } }) ∧
  (∀ (s : State) (e : Nat), s.pw.boot = .up → s.dbgReason (.halt e) = none → 6 ≤ e → e < 12 → s.sec.halted.getLsbD e = false →
    s.conductor = true → 2 ≤ s.sec.lcs →
    exec (.engineHalt e) s = .next (State.evDebug { s with sec := { s.sec with
      halted := bvPut s.sec.halted e true, byDebug := bvPut s.sec.byDebug e true } } (some e) 6)) ∧
  (∀ (s : State) (e : Nat), s.pw.boot = .up → s.dbgReason (.resume e) = none → e < 11 → s.sec.halted.getLsbD e = true → 2 ≤ s.sec.lcs →
    exec (.engineResume e) s = .next (State.evDebug { s with sec := { s.sec with
      halted := bvPut s.sec.halted e false, byDebug := bvPut s.sec.byDebug e false } } (some e) 7)) ∧
  (∀ (s : State) (v : Reg32), s.live = true → s.conductor = true → s.hostUp = true → v.getLsbD 0 = false → v.getLsbD 1 = true →
    exec (.dbgCtlWrite v) s = .next (State.endSession { s with sec := { s.sec with lock := true } })) ∧
  (∀ (s : State) (v : Reg32), s.live = true → s.conductor = true → s.hostUp = true → v.getLsbD 0 = true → v.getLsbD 1 = false →
    exec (.dbgCtlWrite v) s = .next s.endSession) ∧
  (∀ (s : State), exec .tapReset s = .next s.endSession ∧ (s.sec.session = false → exec .tapReset s = .next s) ∧
    (s.sec.session = true → s.sec.byDebug = 0 →
      exec .tapReset s = .next (State.evDebug { s with sec := { s.sec with session := false, auth := false } } none 2)))

/-! ## Power-up, boot and reset (R504, R525 to R538, R386 to R390) -/

/-- The boot rows: straps are sampled; a power-on reset keeps what MRAM, fuses, flash and the host hold; the image check takes the named
slot, the other, or none, or waits for a download, whose GO is bounded; the replay takes the restart's cause, and the boot ends in Idle
with the link trained; a restart by key, by SV's failure and by a brown-out; supply warnings and PFAIL_N with their bits and events; a
single held FINAL that is no move's is released (R383 to R388, R526 to R537). The seconds a restart takes are a free value (log entry
43). -/
def Obligations.BootRowsTakeEffect : Prop :=
  (∀ (s : State) (role : Bool) (sel : Nat), s.pw.boot = .low →
    ∃ t, exec (.porstNRise role sel) s = .next t ∧ t.conductor = role ∧ t.bootsel = sel % 4 ∧ t.pw.boot = .image ∧ t.jnl = s.jnl ∧
      t.flash = s.flash ∧ t.uid = s.uid) ∧
  (∀ (s : State),
    ∃ t, exec .porstNLow s = .next t ∧ t.pw.boot = .low ∧ t.cycle = 0 ∧ t.time = 0 ∧ t.axes = [] ∧ t.regs = [] ∧ t.pods = [] ∧
      t.jnl.bank0 = s.jnl.bank0 ∧ t.jnl.bank1 = s.jnl.bank1 ∧ t.saf.sets = s.saf.sets ∧ t.saf.confirmed = s.saf.confirmed ∧
      t.stage.storeA = s.stage.storeA ∧ t.stage.storeB = s.stage.storeB ∧ t.thermMram = s.thermMram ∧ t.sec.lcs = s.sec.lcs ∧
      t.sec.debugKey = s.sec.debugKey ∧ t.sec.secCnt = s.sec.secCnt ∧ t.sec.lock = false ∧ t.flash.slot0 = s.flash.slot0 ∧
      t.flash.slot1 = s.flash.slot1 ∧ t.host.mem = s.host.mem) ∧
  (∀ (s : State), s.pw.boot = .image → (s.conductor = true → s.bootsel ≠ 1) →
    exec .imageCheck s = .next (match s.bootable s.flash.named, s.bootable (1 - s.flash.named) with
      | some im, _ => s.startImage im s.flash.named false
      | none, some im => s.startImage im (1 - s.flash.named) true
      | none, none => s.noSlot)) ∧
  (∀ (s : State), s.pw.boot = .image → s.conductor = true → s.bootsel = 1 →
    exec .imageCheck s = .next { s.setReg R.sysBootStat 1 with pw := { s.pw with boot := .waitDownload } }) ∧
  (∀ (s : State), s.pw.boot = .waitDownload → s.bit R.sysBootStat 2 = false → s.hostUp = true →
    exec .sysBootGo s = .next (s.setReg R.sysBootStat
      (if s.fld R.sysBootLen 0 23 < 256 ∨ 4 * 2 ^ 20 < s.fld R.sysBootLen 0 23 then 0x103 else 5))) ∧
  (∀ (s : State) (v : Reg32), s.live = true → s.conductor = true → s.hostUp = true → s.sec.lcs ≠ 3 → v.getLsbD 0 = true →
    exec (.sysRestart v) s = .next (if bits v 16 16 = 0xA5C3 then s.bootFrom 6 else s.evBadReg)) ∧
  (∀ (s : State), s.pw.boot = .replayed →
    ∃ u : State, exec .bootComplete s = .next (u.ev 63 1 7 s.jnl.restartCause) ∧ u.pw.boot = .up ∧ u.pw.rstoutN = true ∧
      u.pw.heldCause = none ∧ u.die.up = true ∧ u.sec.secCnt = max s.sec.secCnt s.flash.runningCnt ∧ u.host.pollSoon = true) ∧
  (∀ (s : State), s.live = true ∨ s.pw.boot = .replay ∨ s.pw.boot = .replayed → exec .supervisorRestart s = .next (s.bootFrom 5)) ∧
  (∀ (s : State), exec .supplyLowWarning s = .next { s with pw := { s.pw with lowRail := true } }) ∧
  (∀ (s : State), s.pw.boot ≠ .brownOut → exec .supplyLowWarningEnd s = .next { s with pw := { s.pw with lowRail := false } }) ∧
  (∀ (s : State), s.pw.boot ≠ .low →
    ∃ t, exec .brownOut s = .next t ∧ t.pw.boot = .brownOut ∧ t.pw.lowRail = true ∧ t.pw.heldCause = some (s.pw.heldCause.getD 2) ∧
      t.jnl.bank0 = s.jnl.bank0 ∧ t.jnl.bank1 = s.jnl.bank1 ∧ t.axes = []) ∧
  (∀ (s : State) (role : Bool) (sel : Nat), s.pw.boot = .brownOut →
    ∃ t, exec (.brownOutEnd role sel) s = .next t ∧ t.conductor = role ∧ t.bootsel = sel % 4 ∧ t.pw.boot = .image ∧
      t.pw.lowRail = false ∧ t.pw.pfail = false) ∧
  (∀ (s : State), s.pw.pfail = false → s.pw.boot = .up →
    exec .pfailNAssert s = .next ((State.evC { s with pw := { s.pw with pfail := true } } 63 s.powerNow 8))) ∧
  (∀ (s : State), s.pw.pfail = true → s.pw.boot = .up →
    exec .pfailNRelease s = .next ((State.evC { s with pw := { s.pw with pfail := false } } 63 s.powerNow 9))) ∧
  (∀ (s : State), s.pw.boot = .replay → s.mramStop = false → s.svRuns = true →
    ∃ u : State, exec .journalReplay s = .next ((u.evC 59 0xFFFF 5).ev 59 0xFFFF 4 (u.fld R.jnlReplay 0 16)) ∧ u.pw.boot = .replayed ∧
      u.jnl.restartCause = s.pw.heldCause.getD 1 ∧ u.uid = s.uid) ∧
  (∀ (s : State) (r : OutRec), s.live = true → s.jnl.replayHeld = [r] → isMove r.opcode = false →
    let u := (s.post (s.releasedFinal r)).bumpFld R.jnlReplay 0 16 1
    exec (.replayFinalRelease r.ring) s = .next { u with jnl := { u.jnl with replayHeld := [] } })

/-! ## The block as a whole -/

/-- Each step takes the command at the front of the queue and runs it on the state with the queue's rest. -/
def Obligations.StepRunsTheFrontCommand : Prop :=
  ∀ (s : State) (c : Instr) (rest : List Instr), s.pending = c :: rest → step s = exec c { s with pending := rest }

/-- On an empty queue the local time counter ticks and nothing else changes (R64). That the tick stands for idling, and where the
counter does not run, is the model's choice (log entry 13). -/
def Obligations.EmptyQueueTicksTheCounter : Prop :=
  (∀ (s : State), s.pending = [] → s.counterRuns = true → step s = .next { s with time := (s.time + s.timIncr) % 2 ^ 88 }) ∧
  (∀ (s : State), s.pending = [] → s.counterRuns = false → step s = .next s)

/-- The state right after reset: nothing waits, PORST_N is still low, RSTOUT_N is low (R533), TIM_INCR is nominal (R64), every register
of BAR0 reads its reset value (R539), no gate is driven, no axis is enabled, each ring begins with PHASE 1 and no accepted command, and
the invariants of the two tier 3 statements hold. -/
def Obligations.ResetLeavesTheSpecsValues : Prop :=
  State.reset.pending = [] ∧ State.reset.pw.boot = .low ∧ State.reset.pw.rstoutN = false ∧ State.reset.timIncr = 2 ^ 33 ∧
    (∀ off, State.reset.reg off = regReset off) ∧ (∀ k, k < 4 → State.reset.outputsOff k) ∧
    (∀ a, (State.reset.axis a).enabled = false) ∧
    (∀ n, (State.reset.ring n).phase = true ∧ (State.reset.ring n).seq = 0) ∧
    State.reset.canonical = true ∧ lcLegal State.reset.sec.lcs State.reset.sec.setOwn = true

/-- Every step from every state keeps host memory and the registers of BAR0 in their canonical form: keys strictly rising, and no entry
equal to what an unlisted address reads as. -/
def Obligations.EveryStepKeepsTheCanonicalForm : Prop :=
  ∀ (s t : State), s.canonical = true → step s = .next t → t.canonical = true

/-- No step takes the lifecycle back, whatever command runs: the states of R513 only advance, along its table, and the security counter
and the count of challenges never fall. The queue loses its front and nothing else, and grade and UID never change. -/
def Obligations.EveryStepKeepsTheLifecycle : Prop :=
  ∀ (s t : State), step s = .next t →
    (lcLegal s.sec.lcs s.sec.setOwn = true → lcLegal t.sec.lcs t.sec.setOwn = true ∧ s.sec.lcs ≤ t.sec.lcs) ∧
      s.sec.secCnt ≤ t.sec.secCnt ∧ s.sec.challenges ≤ t.sec.challenges ∧
      t.pending = s.pending.tail ∧ t.grade = s.grade ∧ t.uid = s.uid

/-! ## The checks that all host commands share (R343, R346, R347, R382, R514) -/

/-- Every host command: none reaches a VLN that takes no commands; a header or a SUBJ out of its range is refused before anything else is
looked at; and in RETIRED every command but reads and NOP is refused, with 0x0802 where no earlier check of R347 speaks. A refusal leaves
nothing but its record and events; a FENCE's own wait ends with it. -/
def Obligations.HostCommandsShareTheirChecks : Prop :=
  ∀ (s : State) (c : Instr) (f : HostForm), hostForm c = some f →
    (s.takesCommands = false → exec c s = .next s) ∧
    (s.takesCommands = true →
      (∀ st, hdrCheck f.hdr = some st → ∃ u, (u = s ∨ u = s.setFence f.hdr.ring none) ∧ exec c s = .next (u.refuse f.hdr f.op st 0)) ∧
      (hdrCheck f.hdr = none → s.subjOk f.subj f.hdr = false →
        ∃ u, (u = s ∨ u = s.setFence f.hdr.ring none) ∧ exec c s = .next (u.refuse f.hdr f.op 0x0104 0)) ∧
      (s.sec.lcs = 3 → f.reads = false → f.op ≠ 0x0001 →
        ∃ u st, (u = s ∨ u = s.setFence f.hdr.ring none) ∧ exec c s = .next (u.refuse f.hdr f.op st 0) ∧
          (hdrCheck f.hdr = none → s.subjOk f.subj f.hdr = true → f.op ∈ [0x0102, 0x0103, 0x0104, 0x0105, 0x0106, 0x0107, 0x0109, 0x010A,
            0x0111, 0x0112, 0x0113, 0x0130, 0x0302, 0x0303, 0x0304, 0x0402, 0x0411, 0x0502, 0x0503] → st = 0x0802)))

/-- Acceptance: an immediate command's FINAL and a long command's ACCEPT wait last in line for their journal record, with the next
sequence number of their ring, and nothing but the host interface and the registers changes (R348 to R350, R379). -/
def Obligations.AcceptedCommandsQueueTheirRecord : Prop :=
  (∀ (s : State) (h : Hdr) (op cycle : Nat), s.tookImm h op cycle (s.acceptImm h op cycle 0 none)) ∧
  (∀ (s : State) (h : Hdr) (op extra : Nat) (body : List Byte), s.tookLong h op extra body (s.acceptLong h op extra body)) ∧
  (∀ (s : State) (h : Hdr) (op extra : Nat) (body : List Byte), s.host.outbox = [] →
    s.openFor h op ∈ ((s.acceptLong h op extra body).ring h.ring).opens)

/-- Where completion records go (R349): a record that needs no journal record is written to the next slot of its ring with its PHASE,
which changes with each lap; and whatever leaves with it, host memory outside the completion rings stays as it was. -/
def Obligations.RecordsEnterOnlyTheirRing : Prop :=
  (∀ (s : State) (r : OutRec), s.hostUp = true → s.host.outbox = [] → r.journal = 0 → r.ring < 16 →
    let g := s.ring r.ring
    let slot := g.crPi % s.crSize r.ring
    (s.post r).host.mem = writeMem s.host.mem (s.base (R.crLo r.ring) (R.crHi r.ring) + 32 * slot) (r.bytes g.phase) ∧
      (s.post r).host.outbox = [] ∧ ((s.post r).ring r.ring).crPi = (g.crPi + 1) % 2 ^ 32 ∧
      ((s.post r).ring r.ring).phase = (if slot + 1 = s.crSize r.ring then !g.phase else g.phase)) ∧
  (∀ (s : State) (r : OutRec) (a : Nat), (∀ q, q ∈ s.host.outbox ++ [r] → q.ring < 16) →
    (∀ n, n < 16 → a < s.base (R.crLo n) (R.crHi n) ∨ s.base (R.crLo n) (R.crHi n) + 32 * s.crSize n ≤ a) →
    (s.post r).memByte a = s.memByte a)

/-- A read command changes nothing but the host interface, the registers that show its records, the sticky bits that it clears, and the
log of events (R350). The count of free values that it uses is the model's own; a trace or a pod that a refusal's event triggers is the
event's effect, not the read's. -/
def Obligations.ReadCommandsChangeNothingElse : Prop :=
  ∀ (s t : State) (c : Instr) (f : HostForm), hostForm c = some f → f.reads = true → exec c s = .next t →
    t = { s with
      host := t.host, regs := t.regs, axes := t.axes, pods := t.pods, eventLog := t.eventLog, free := t.free }

/-- While a reaction of QSTOP or stronger is in force, the motion commands of an axis are refused: nothing is accepted, and the state
changes by the refusal's record and events alone (R132). Which of the refusals that hold is named is R347's order of checks. -/
def Obligations.MotionIsRefusedInAReaction : Prop :=
  ∀ (s : State) (h : Hdr), s.takesCommands = true → (s.axis h.subj).inReaction = true →
    (∀ flags target v a j, ∃ st d, exec (.move h flags target v a j) s = .next (s.refuse h 0x0101 st d)) ∧
    (∃ st d, exec (.resume h) s = .next (s.refuse h 0x0103 st d)) ∧
    (∃ st d, exec (.flush h) s = .next (s.refuse h 0x0104 st d)) ∧
    (∀ v a j, ∃ st d, exec (.setLimits h v a j) s = .next (s.refuse h 0x0105 st d)) ∧
    (∀ v, ∃ st d, exec (.setVelocity h v) s = .next (s.refuse h 0x0106 st d)) ∧
    (∀ iq, ∃ st d, exec (.setCurrent h iq) s = .next (s.refuse h 0x0107 st d)) ∧
    (∀ mk m num den b, ∃ st d, exec (.gearEngage h mk m num den b) s = .next (s.refuse h 0x0120 st d)) ∧
    (∀ mk tb m mo off sc b, ∃ st d, exec (.camEngage h mk tb m mo off sc b) s = .next (s.refuse h 0x0121 st d)) ∧
    (∀ mode b, ∃ st d, exec (.decouple h mode b) s = .next (s.refuse h 0x0122 st d)) ∧
    (∃ st d, exec (.home h) s = .next (s.refuse h 0x0130 st d)) ∧
    -- where no check of R347 comes before it, the status is AXIS_IN_REACTION
    (hdrCheck h = none → s.usable h.subj = true → s.sec.lcs ≠ 3 → s.pw.pfail = false → s.pw.lowRail = false →
      exec (.flush h) s = .next (s.refuse h 0x0104 0x0331 0) ∧ exec (.home h) s = .next (s.refuse h 0x0130 0x0331 0) ∧
      (∀ v a j, exec (.setLimits h v a j) s = .next (s.refuse h 0x0105 0x0331 0)))

/-! ## Rules stated whole -/

/-- R26, for each receiver: a frame whose CRC fails, whose TYPE is invalid, or whose SEQ is not one more than that of the last good frame
is discarded and counted; the first good frame after a discard resynchronises SEQ. -/
def Obligations.BadDieFramesAreDiscarded : Prop :=
  (∀ (s : State) (f : DieFrame), s.die.up = true →
    (crc16 (dieSent f) ≠ f.crc.toNat ∨ f.ftype ≠ 2 ∨ (s.die.resync = false ∧ f.seq % 16 ≠ (s.die.rxSeq + 1) % 16)) →
    ∃ t, exec (.linkFrameReceived ⟨false, f⟩) s = .next t ∧ t.die.discards = s.die.discards + 1 ∧ t.die.resync = true ∧
      t.die.rxSeq = s.die.rxSeq ∧ t.die.fio = s.die.fio ∧ t.die.stat = s.die.stat ∧ t.die.cfg = s.die.cfg ∧
      t.die.safe = s.die.safe ∧ t.regs = s.regs) ∧
  (∀ (s : State) (f : DieFrame), s.die.up = true → s.die.resync = true → f.syncOk = true → f.ftype = 2 →
    crc16 (dieSent f) = f.crc.toNat →
    ∃ t, exec (.linkFrameReceived ⟨false, f⟩) s = .next t ∧ t.die.rxSeq = f.seq % 16 ∧ t.die.resync = false ∧
      t.die.discards = s.die.discards ∧ t.die.fio = f.fio ∧ t.die.stat = f.stat) ∧
  (∀ (s : State) (f : DieFrame),
    let e := s.die.fieldEnd
    e.up = true →
    (crc16 (dieSent f) ≠ f.crc.toNat ∨ f.ftype ≠ 1 ∨ (e.resync = false ∧ f.seq % 16 ≠ (e.rxSeq + 1) % 16) →
      ∃ t, exec (.linkFrameReceived ⟨true, f⟩) s = .next t ∧ t.die.fieldEnd.discards = e.discards + 1 ∧
        t.die.fieldEnd.resync = true ∧ t.die.fieldEnd.rxSeq = e.rxSeq ∧ t.die.fieldEnd.fio = e.fio ∧ t.regs = s.regs) ∧
    (e.resync = true → f.syncOk = true → f.ftype = 1 → crc16 (dieSent f) = f.crc.toNat →
      ∃ t, exec (.linkFrameReceived ⟨true, f⟩) s = .next t ∧ t.die.fieldEnd.rxSeq = f.seq % 16 ∧ t.die.fieldEnd.resync = false ∧
        t.die.fieldEnd.discards = e.discards ∧ t.die.fieldEnd.fio = f.fio))

/-- R452: an injected trigger that arrives while the converter's injected sequence runs is dropped: ADC_Ck_DROP, which saturates, counts it, DROPPED
is set and EV44 carries the count; one of the same tick starts nothing and is not counted. -/
def Obligations.InjectedTriggersWhileBusyAreDropped : Prop :=
  (∀ (s : State) (k : Nat) (src : AdcTrigger), k < 4 → s.live = true → s.engineRuns 10 = true → s.adcListens k src = true →
    (s.adcv k).busy = true → (s.adcv k).trigAt / 2 ^ 17 ≠ s.now / 2 ^ 17 →
    let n := min (s.fld (R.adcDrop k) 0 16 + 1) (2 ^ 16 - 1)
    ∃ u, exec (.adcInjectedTrigger k src) s = .next (State.evK u 44 k n) ∧ u.adcv k = s.adcv k ∧
      u.fld (R.adcDrop k) 0 16 = n ∧ u.bit (R.adcCkStat k) 8 = true) ∧
  (∀ (s : State) (k : Nat) (src : AdcTrigger), (s.adcv k).busy = true →
    (s.adcv k).trigAt / 2 ^ 17 = s.now / 2 ^ 17 →
    exec (.adcInjectedTrigger k src) s = .next s)

/-- R12: a value written to host memory carries its extension, and a value read ignores it: the field read back is the value, whatever
the extension bytes of a 72-bit value or the upper bits of an H36 value hold. -/
def Obligations.HostValuesExtendAndIgnoreTheExtension : Prop :=
  (∀ (x : Int) (pre post : List Byte), -(2 ^ 71) ≤ x → x < 2 ^ 71 → field72 (pre ++ bytes72 x ++ post) pre.length = x) ∧
  (∀ (x : Int), -(2 ^ 71) ≤ x → x < 2 ^ 71 → (bytes72 x).length = 16 ∧ sext 128 (leNat (bytes72 x)) = x) ∧
  (∀ (x : Int), -(2 ^ 35) ≤ x → x < 2 ^ 35 → (bytesH36 x).length = 8 ∧ sext 64 (leNat (bytesH36 x)) = x) ∧
  (∀ (x : Int) (pre post : List Byte), -(2 ^ 35) ≤ x → x < 2 ^ 35 → fieldH36 (pre ++ bytesH36 x ++ post) pre.length = x) ∧
  (∀ (pre value ext ext' post : List Byte), value.length = 9 → ext.length = 7 → ext'.length = 7 →
    field72 (pre ++ value ++ ext ++ post) pre.length = field72 (pre ++ value ++ ext' ++ post) pre.length) ∧
  (∀ (pre post : List Byte) (n m : Nat), n % 2 ^ 36 = m % 2 ^ 36 →
    fieldH36 (pre ++ leBytes 8 n ++ post) pre.length = fieldH36 (pre ++ leBytes 8 m ++ post) pre.length)

/-- R291: BB_NODE_INFO is immediate; its FINAL carries the record state, the 128 bytes of the stored record go to the buffer, and a number
that has never announced is refused with 0x0401. -/
def Obligations.NodeInfoIsAnswered : Prop :=
  (∀ (s : State) (h : Hdr) (buf : Nat) (r : CapRecord), s.admits h 0x0301 .imm 0 .node → alignedAddr buf = true →
    (s.noderec h.subj).record = some r →
    exec (.bbNodeInfo h buf) s = .next (((s.taken .imm).memWr buf (capBytes r)).acceptImm h 0x0301 s.cycle
      (s.noderec h.subj).state.code none) ∧ (capBytes r).length = 128) ∧
  (∀ (s : State) (h : Hdr) (buf : Nat), s.takesCommands = true → hdrCheck h = none → s.subjOk .node h = true → s.sec.lcs ≠ 3 →
    s.pw.pfail = false → s.pw.lowRail = false → alignedAddr buf = true → (s.noderec h.subj).record = none →
    exec (.bbNodeInfo h buf) s = .next (s.refuse h 0x0301 0x0401 0))
end

