-- ==== Sys2Proof/Laws/State.lean ====
section
/-!
SUPPORT. One lemma per field per update of the state, and what the reads and writes of a sparse map give: later proofs cite
these and unfold no record update.
-/

set_option linter.unusedVariables false

namespace Sys2Proof

/-! ### Sparse maps -/

theorem SMap.risesFrom_mono {α : Type} {lo lo' : Nat} {m : SMap α} (hl : lo' ≤ lo) (h : SMap.risesFrom lo m = true) :
    SMap.risesFrom lo' m = true := by
  cases m with
  | nil => rfl
  | cons e m =>
    obtain ⟨k, v⟩ := e
    simp only [SMap.risesFrom, Bool.and_eq_true, decide_eq_true_eq] at h ⊢
    exact ⟨Nat.le_trans hl h.1, h.2⟩

theorem SMap.risesFrom_erase {α : Type} (m : SMap α) (lo k : Nat) (h : SMap.risesFrom lo m = true) :
    SMap.risesFrom lo (m.erase k) = true := by
  induction m generalizing lo with
  | nil => rfl
  | cons e m ih =>
    obtain ⟨k', v⟩ := e
    simp only [SMap.risesFrom, Bool.and_eq_true, decide_eq_true_eq] at h
    unfold SMap.erase
    split
    · exact SMap.risesFrom_mono (by omega) (ih _ h.2)
    · simp only [SMap.risesFrom, Bool.and_eq_true, decide_eq_true_eq]
      exact ⟨h.1, ih _ h.2⟩

theorem SMap.risesFrom_insert {α : Type} (m : SMap α) (lo k : Nat) (v : α) (hk : lo ≤ k) (h : SMap.risesFrom lo m = true) :
    SMap.risesFrom lo (m.insert k v) = true := by
  induction m generalizing lo with
  | nil => simpa [SMap.insert, SMap.risesFrom] using hk
  | cons e m ih =>
    obtain ⟨k', v'⟩ := e
    simp only [SMap.risesFrom, Bool.and_eq_true, decide_eq_true_eq] at h
    unfold SMap.insert
    split
    · simp only [SMap.risesFrom, Bool.and_eq_true, decide_eq_true_eq]
      exact ⟨hk, by omega, h.2⟩
    · split
      · simp only [SMap.risesFrom, Bool.and_eq_true, decide_eq_true_eq]
        subst_vars
        exact ⟨hk, h.2⟩
      · simp only [SMap.risesFrom, Bool.and_eq_true, decide_eq_true_eq]
        exact ⟨h.1, ih _ (by omega) h.2⟩

theorem SMap.mem_erase {α : Type} {m : SMap α} {k : Nat} {e : Nat × α} (h : e ∈ m.erase k) : e ∈ m := by
  induction m with
  | nil => exact h
  | cons e' m ih =>
    obtain ⟨k', v⟩ := e'
    unfold SMap.erase at h
    split at h
    · exact List.mem_cons_of_mem _ (ih h)
    · rcases List.mem_cons.1 h with h | h
      · exact h ▸ List.mem_cons_self
      · exact List.mem_cons_of_mem _ (ih h)

theorem SMap.mem_insert {α : Type} {m : SMap α} {k : Nat} {v : α} {e : Nat × α} (h : e ∈ m.insert k v) :
    e = (k, v) ∨ e ∈ m := by
  induction m with
  | nil => exact .inl (by simpa [SMap.insert] using h)
  | cons e' m ih =>
    obtain ⟨k', v'⟩ := e'
    unfold SMap.insert at h
    split at h
    · exact List.mem_cons.1 h
    · split at h
      · rcases List.mem_cons.1 h with h | h
        · exact .inl h
        · exact .inr (List.mem_cons_of_mem _ h)
      · rcases List.mem_cons.1 h with h | h
        · exact .inr (h ▸ List.mem_cons_self)
        · rcases ih h with h | h
          · exact .inl h
          · exact .inr (List.mem_cons_of_mem _ h)

/-- Setting a key keeps the canonical form. -/
theorem SMap.wf_set {α : Type} [DecidableEq α] (d : Nat → α) (m : SMap α) (k : Nat) (v : α) (h : SMap.wf d m = true) :
    SMap.wf d (SMap.set (d k) m k v) = true := by
  simp only [SMap.wf, Bool.and_eq_true, List.all_eq_true, decide_eq_true_eq] at h ⊢
  unfold SMap.set
  split
  · exact ⟨SMap.risesFrom_erase _ _ _ h.1, fun e he => h.2 e (SMap.mem_erase he)⟩
  · refine ⟨SMap.risesFrom_insert _ _ _ _ (Nat.zero_le _) h.1, fun e he => ?_⟩
    rcases SMap.mem_insert he with he | he
    · subst he; assumption
    · exact h.2 e he

theorem SMap.get_erase_self {α : Type} (d : α) (m : SMap α) (k : Nat) : SMap.get d (m.erase k) k = d := by
  induction m with
  | nil => rfl
  | cons e m ih =>
    obtain ⟨k', v⟩ := e
    unfold SMap.erase
    split
    · exact ih
    · rename_i hne
      unfold SMap.get
      rw [if_neg hne]
      exact ih

theorem SMap.get_erase_ne {α : Type} (d : α) (m : SMap α) {k j : Nat} (hj : j ≠ k) :
    SMap.get d (m.erase k) j = SMap.get d m j := by
  induction m with
  | nil => rfl
  | cons e m ih =>
    obtain ⟨k', v⟩ := e
    unfold SMap.erase
    split
    · rename_i hk
      conv_rhs => unfold SMap.get
      rw [if_neg (by omega), ih]
    · conv_lhs => unfold SMap.get
      conv_rhs => unfold SMap.get
      rw [ih]

theorem SMap.get_insert {α : Type} (d : α) (m : SMap α) (k j : Nat) (v : α) :
    SMap.get d (m.insert k v) j = if j = k then v else SMap.get d m j := by
  induction m with
  | nil =>
    simp only [SMap.insert, SMap.get]
    by_cases h : k = j <;> simp [h, eq_comm]
  | cons e m ih =>
    obtain ⟨k', v'⟩ := e
    unfold SMap.insert
    split
    · conv_lhs => unfold SMap.get
      by_cases h : k = j <;> simp [h, eq_comm]
    · split
      · rename_i hk
        subst hk
        simp only [SMap.get]
        by_cases h : k = j <;> simp [h, eq_comm]
      · rename_i h1 h2
        simp only [SMap.get]
        by_cases h : k' = j
        · have : ¬ j = k := by omega
          simp [h, this]
        · simp [h, ih]

/-- Reading a key after setting it gives what was set. -/
@[simp] theorem SMap.get_set_self {α : Type} [DecidableEq α] (d : α) (m : SMap α) (k : Nat) (v : α) :
    SMap.get d (SMap.set d m k v) k = v := by
  unfold SMap.set
  split
  · rename_i hv
    rw [SMap.get_erase_self, hv]
  · simp [SMap.get_insert]

/-- Setting a key leaves every other key alone. -/
theorem SMap.get_set_ne {α : Type} [DecidableEq α] (d d' : α) (m : SMap α) {k j : Nat} (v : α) (hj : j ≠ k) :
    SMap.get d' (SMap.set d m k v) j = SMap.get d' m j := by
  unfold SMap.set
  split
  · exact SMap.get_erase_ne d' m hj
  · simp [SMap.get_insert, hj]

end Sys2Proof

namespace Sys2Proof.Machine

open Sys2Proof

/-! ### Updates -/

@[simp] theorem State.setReg_pending (s : State) (off : _) (v : _) : (s.setReg off v).pending = s.pending := rfl
@[simp] theorem State.setReg_grade (s : State) (off : _) (v : _) : (s.setReg off v).grade = s.grade := rfl
@[simp] theorem State.setReg_conductor (s : State) (off : _) (v : _) : (s.setReg off v).conductor = s.conductor := rfl
@[simp] theorem State.setReg_bootsel (s : State) (off : _) (v : _) : (s.setReg off v).bootsel = s.bootsel := rfl
@[simp] theorem State.setReg_uid (s : State) (off : _) (v : _) : (s.setReg off v).uid = s.uid := rfl
@[simp] theorem State.setReg_regs (s : State) (off : _) (v : _) : (s.setReg off v).regs = s.regs.set (regReset off) off v := rfl
@[simp] theorem State.setReg_latches (s : State) (off : _) (v : _) : (s.setReg off v).latches = s.latches := rfl
@[simp] theorem State.setReg_holds (s : State) (off : _) (v : _) : (s.setReg off v).holds = s.holds := rfl
@[simp] theorem State.setReg_time (s : State) (off : _) (v : _) : (s.setReg off v).time = s.time := rfl
@[simp] theorem State.setReg_cycle (s : State) (off : _) (v : _) : (s.setReg off v).cycle = s.cycle := rfl
@[simp] theorem State.setReg_epoch (s : State) (off : _) (v : _) : (s.setReg off v).epoch = s.epoch := rfl
@[simp] theorem State.setReg_nE (s : State) (off : _) (v : _) : (s.setReg off v).nE = s.nE := rfl
@[simp] theorem State.setReg_servo (s : State) (off : _) (v : _) : (s.setReg off v).servo = s.servo := rfl
@[simp] theorem State.setReg_axes (s : State) (off : _) (v : _) : (s.setReg off v).axes = s.axes := rfl
@[simp] theorem State.setReg_groups (s : State) (off : _) (v : _) : (s.setReg off v).groups = s.groups := rfl
@[simp] theorem State.setReg_host (s : State) (off : _) (v : _) : (s.setReg off v).host = s.host := rfl
@[simp] theorem State.setReg_stage (s : State) (off : _) (v : _) : (s.setReg off v).stage = s.stage := rfl
@[simp] theorem State.setReg_jnl (s : State) (off : _) (v : _) : (s.setReg off v).jnl = s.jnl := rfl
@[simp] theorem State.setReg_sig (s : State) (off : _) (v : _) : (s.setReg off v).sig = s.sig := rfl
@[simp] theorem State.setReg_fb (s : State) (off : _) (v : _) : (s.setReg off v).fb = s.fb := rfl
@[simp] theorem State.setReg_sdm (s : State) (off : _) (v : _) : (s.setReg off v).sdm = s.sdm := rfl
@[simp] theorem State.setReg_pwm (s : State) (off : _) (v : _) : (s.setReg off v).pwm = s.pwm := rfl
@[simp] theorem State.setReg_chop (s : State) (off : _) (v : _) : (s.setReg off v).chop = s.chop := rfl
@[simp] theorem State.setReg_bb (s : State) (off : _) (v : _) : (s.setReg off v).bb = s.bb := rfl
@[simp] theorem State.setReg_node (s : State) (off : _) (v : _) : (s.setReg off v).node = s.node := rfl
@[simp] theorem State.setReg_die (s : State) (off : _) (v : _) : (s.setReg off v).die = s.die := rfl
@[simp] theorem State.setReg_field (s : State) (off : _) (v : _) : (s.setReg off v).field = s.field := rfl
@[simp] theorem State.setReg_saf (s : State) (off : _) (v : _) : (s.setReg off v).saf = s.saf := rfl
@[simp] theorem State.setReg_pods (s : State) (off : _) (v : _) : (s.setReg off v).pods = s.pods := rfl
@[simp] theorem State.setReg_adc (s : State) (off : _) (v : _) : (s.setReg off v).adc = s.adc := rfl
@[simp] theorem State.setReg_can (s : State) (off : _) (v : _) : (s.setReg off v).can = s.can := rfl
@[simp] theorem State.setReg_pw (s : State) (off : _) (v : _) : (s.setReg off v).pw = s.pw := rfl
@[simp] theorem State.setReg_therm (s : State) (off : _) (v : _) : (s.setReg off v).therm = s.therm := rfl
@[simp] theorem State.setReg_thermMram (s : State) (off : _) (v : _) : (s.setReg off v).thermMram = s.thermMram := rfl
@[simp] theorem State.setReg_sec (s : State) (off : _) (v : _) : (s.setReg off v).sec = s.sec := rfl
@[simp] theorem State.setReg_flash (s : State) (off : _) (v : _) : (s.setReg off v).flash = s.flash := rfl
@[simp] theorem State.setReg_fab (s : State) (off : _) (v : _) : (s.setReg off v).fab = s.fab := rfl
@[simp] theorem State.setReg_pins (s : State) (off : _) (v : _) : (s.setReg off v).pins = s.pins := rfl
@[simp] theorem State.setReg_eventLog (s : State) (off : _) (v : _) : (s.setReg off v).eventLog = s.eventLog := rfl
@[simp] theorem State.setReg_free (s : State) (off : _) (v : _) : (s.setReg off v).free = s.free := rfl
@[simp] theorem State.setReg_planNo (s : State) (off : _) (v : _) : (s.setReg off v).planNo = s.planNo := rfl

@[simp] theorem State.setFld_pending (s : State) (off : _) (lo : _) (w : _) (x : _) : (s.setFld off lo w x).pending = s.pending := rfl
@[simp] theorem State.setFld_grade (s : State) (off : _) (lo : _) (w : _) (x : _) : (s.setFld off lo w x).grade = s.grade := rfl
@[simp] theorem State.setFld_conductor (s : State) (off : _) (lo : _) (w : _) (x : _) : (s.setFld off lo w x).conductor = s.conductor := rfl
@[simp] theorem State.setFld_bootsel (s : State) (off : _) (lo : _) (w : _) (x : _) : (s.setFld off lo w x).bootsel = s.bootsel := rfl
@[simp] theorem State.setFld_uid (s : State) (off : _) (lo : _) (w : _) (x : _) : (s.setFld off lo w x).uid = s.uid := rfl
@[simp] theorem State.setFld_latches (s : State) (off : _) (lo : _) (w : _) (x : _) : (s.setFld off lo w x).latches = s.latches := rfl
@[simp] theorem State.setFld_holds (s : State) (off : _) (lo : _) (w : _) (x : _) : (s.setFld off lo w x).holds = s.holds := rfl
@[simp] theorem State.setFld_time (s : State) (off : _) (lo : _) (w : _) (x : _) : (s.setFld off lo w x).time = s.time := rfl
@[simp] theorem State.setFld_cycle (s : State) (off : _) (lo : _) (w : _) (x : _) : (s.setFld off lo w x).cycle = s.cycle := rfl
@[simp] theorem State.setFld_epoch (s : State) (off : _) (lo : _) (w : _) (x : _) : (s.setFld off lo w x).epoch = s.epoch := rfl
@[simp] theorem State.setFld_nE (s : State) (off : _) (lo : _) (w : _) (x : _) : (s.setFld off lo w x).nE = s.nE := rfl
@[simp] theorem State.setFld_servo (s : State) (off : _) (lo : _) (w : _) (x : _) : (s.setFld off lo w x).servo = s.servo := rfl
@[simp] theorem State.setFld_axes (s : State) (off : _) (lo : _) (w : _) (x : _) : (s.setFld off lo w x).axes = s.axes := rfl
@[simp] theorem State.setFld_groups (s : State) (off : _) (lo : _) (w : _) (x : _) : (s.setFld off lo w x).groups = s.groups := rfl
@[simp] theorem State.setFld_host (s : State) (off : _) (lo : _) (w : _) (x : _) : (s.setFld off lo w x).host = s.host := rfl
@[simp] theorem State.setFld_stage (s : State) (off : _) (lo : _) (w : _) (x : _) : (s.setFld off lo w x).stage = s.stage := rfl
@[simp] theorem State.setFld_jnl (s : State) (off : _) (lo : _) (w : _) (x : _) : (s.setFld off lo w x).jnl = s.jnl := rfl
@[simp] theorem State.setFld_sig (s : State) (off : _) (lo : _) (w : _) (x : _) : (s.setFld off lo w x).sig = s.sig := rfl
@[simp] theorem State.setFld_fb (s : State) (off : _) (lo : _) (w : _) (x : _) : (s.setFld off lo w x).fb = s.fb := rfl
@[simp] theorem State.setFld_sdm (s : State) (off : _) (lo : _) (w : _) (x : _) : (s.setFld off lo w x).sdm = s.sdm := rfl
@[simp] theorem State.setFld_pwm (s : State) (off : _) (lo : _) (w : _) (x : _) : (s.setFld off lo w x).pwm = s.pwm := rfl
@[simp] theorem State.setFld_chop (s : State) (off : _) (lo : _) (w : _) (x : _) : (s.setFld off lo w x).chop = s.chop := rfl
@[simp] theorem State.setFld_bb (s : State) (off : _) (lo : _) (w : _) (x : _) : (s.setFld off lo w x).bb = s.bb := rfl
@[simp] theorem State.setFld_node (s : State) (off : _) (lo : _) (w : _) (x : _) : (s.setFld off lo w x).node = s.node := rfl
@[simp] theorem State.setFld_die (s : State) (off : _) (lo : _) (w : _) (x : _) : (s.setFld off lo w x).die = s.die := rfl
@[simp] theorem State.setFld_field (s : State) (off : _) (lo : _) (w : _) (x : _) : (s.setFld off lo w x).field = s.field := rfl
@[simp] theorem State.setFld_saf (s : State) (off : _) (lo : _) (w : _) (x : _) : (s.setFld off lo w x).saf = s.saf := rfl
@[simp] theorem State.setFld_pods (s : State) (off : _) (lo : _) (w : _) (x : _) : (s.setFld off lo w x).pods = s.pods := rfl
@[simp] theorem State.setFld_adc (s : State) (off : _) (lo : _) (w : _) (x : _) : (s.setFld off lo w x).adc = s.adc := rfl
@[simp] theorem State.setFld_can (s : State) (off : _) (lo : _) (w : _) (x : _) : (s.setFld off lo w x).can = s.can := rfl
@[simp] theorem State.setFld_pw (s : State) (off : _) (lo : _) (w : _) (x : _) : (s.setFld off lo w x).pw = s.pw := rfl
@[simp] theorem State.setFld_therm (s : State) (off : _) (lo : _) (w : _) (x : _) : (s.setFld off lo w x).therm = s.therm := rfl
@[simp] theorem State.setFld_thermMram (s : State) (off : _) (lo : _) (w : _) (x : _) : (s.setFld off lo w x).thermMram = s.thermMram := rfl
@[simp] theorem State.setFld_sec (s : State) (off : _) (lo : _) (w : _) (x : _) : (s.setFld off lo w x).sec = s.sec := rfl
@[simp] theorem State.setFld_flash (s : State) (off : _) (lo : _) (w : _) (x : _) : (s.setFld off lo w x).flash = s.flash := rfl
@[simp] theorem State.setFld_fab (s : State) (off : _) (lo : _) (w : _) (x : _) : (s.setFld off lo w x).fab = s.fab := rfl
@[simp] theorem State.setFld_pins (s : State) (off : _) (lo : _) (w : _) (x : _) : (s.setFld off lo w x).pins = s.pins := rfl
@[simp] theorem State.setFld_eventLog (s : State) (off : _) (lo : _) (w : _) (x : _) : (s.setFld off lo w x).eventLog = s.eventLog := rfl
@[simp] theorem State.setFld_free (s : State) (off : _) (lo : _) (w : _) (x : _) : (s.setFld off lo w x).free = s.free := rfl
@[simp] theorem State.setFld_planNo (s : State) (off : _) (lo : _) (w : _) (x : _) : (s.setFld off lo w x).planNo = s.planNo := rfl

@[simp] theorem State.setBit_pending (s : State) (off : _) (i : _) (v : _) : (s.setBit off i v).pending = s.pending := rfl
@[simp] theorem State.setBit_grade (s : State) (off : _) (i : _) (v : _) : (s.setBit off i v).grade = s.grade := rfl
@[simp] theorem State.setBit_conductor (s : State) (off : _) (i : _) (v : _) : (s.setBit off i v).conductor = s.conductor := rfl
@[simp] theorem State.setBit_bootsel (s : State) (off : _) (i : _) (v : _) : (s.setBit off i v).bootsel = s.bootsel := rfl
@[simp] theorem State.setBit_uid (s : State) (off : _) (i : _) (v : _) : (s.setBit off i v).uid = s.uid := rfl
@[simp] theorem State.setBit_latches (s : State) (off : _) (i : _) (v : _) : (s.setBit off i v).latches = s.latches := rfl
@[simp] theorem State.setBit_holds (s : State) (off : _) (i : _) (v : _) : (s.setBit off i v).holds = s.holds := rfl
@[simp] theorem State.setBit_time (s : State) (off : _) (i : _) (v : _) : (s.setBit off i v).time = s.time := rfl
@[simp] theorem State.setBit_cycle (s : State) (off : _) (i : _) (v : _) : (s.setBit off i v).cycle = s.cycle := rfl
@[simp] theorem State.setBit_epoch (s : State) (off : _) (i : _) (v : _) : (s.setBit off i v).epoch = s.epoch := rfl
@[simp] theorem State.setBit_nE (s : State) (off : _) (i : _) (v : _) : (s.setBit off i v).nE = s.nE := rfl
@[simp] theorem State.setBit_servo (s : State) (off : _) (i : _) (v : _) : (s.setBit off i v).servo = s.servo := rfl
@[simp] theorem State.setBit_axes (s : State) (off : _) (i : _) (v : _) : (s.setBit off i v).axes = s.axes := rfl
@[simp] theorem State.setBit_groups (s : State) (off : _) (i : _) (v : _) : (s.setBit off i v).groups = s.groups := rfl
@[simp] theorem State.setBit_host (s : State) (off : _) (i : _) (v : _) : (s.setBit off i v).host = s.host := rfl
@[simp] theorem State.setBit_stage (s : State) (off : _) (i : _) (v : _) : (s.setBit off i v).stage = s.stage := rfl
@[simp] theorem State.setBit_jnl (s : State) (off : _) (i : _) (v : _) : (s.setBit off i v).jnl = s.jnl := rfl
@[simp] theorem State.setBit_sig (s : State) (off : _) (i : _) (v : _) : (s.setBit off i v).sig = s.sig := rfl
@[simp] theorem State.setBit_fb (s : State) (off : _) (i : _) (v : _) : (s.setBit off i v).fb = s.fb := rfl
@[simp] theorem State.setBit_sdm (s : State) (off : _) (i : _) (v : _) : (s.setBit off i v).sdm = s.sdm := rfl
@[simp] theorem State.setBit_pwm (s : State) (off : _) (i : _) (v : _) : (s.setBit off i v).pwm = s.pwm := rfl
@[simp] theorem State.setBit_chop (s : State) (off : _) (i : _) (v : _) : (s.setBit off i v).chop = s.chop := rfl
@[simp] theorem State.setBit_bb (s : State) (off : _) (i : _) (v : _) : (s.setBit off i v).bb = s.bb := rfl
@[simp] theorem State.setBit_node (s : State) (off : _) (i : _) (v : _) : (s.setBit off i v).node = s.node := rfl
@[simp] theorem State.setBit_die (s : State) (off : _) (i : _) (v : _) : (s.setBit off i v).die = s.die := rfl
@[simp] theorem State.setBit_field (s : State) (off : _) (i : _) (v : _) : (s.setBit off i v).field = s.field := rfl
@[simp] theorem State.setBit_saf (s : State) (off : _) (i : _) (v : _) : (s.setBit off i v).saf = s.saf := rfl
@[simp] theorem State.setBit_pods (s : State) (off : _) (i : _) (v : _) : (s.setBit off i v).pods = s.pods := rfl
@[simp] theorem State.setBit_adc (s : State) (off : _) (i : _) (v : _) : (s.setBit off i v).adc = s.adc := rfl
@[simp] theorem State.setBit_can (s : State) (off : _) (i : _) (v : _) : (s.setBit off i v).can = s.can := rfl
@[simp] theorem State.setBit_pw (s : State) (off : _) (i : _) (v : _) : (s.setBit off i v).pw = s.pw := rfl
@[simp] theorem State.setBit_therm (s : State) (off : _) (i : _) (v : _) : (s.setBit off i v).therm = s.therm := rfl
@[simp] theorem State.setBit_thermMram (s : State) (off : _) (i : _) (v : _) : (s.setBit off i v).thermMram = s.thermMram := rfl
@[simp] theorem State.setBit_sec (s : State) (off : _) (i : _) (v : _) : (s.setBit off i v).sec = s.sec := rfl
@[simp] theorem State.setBit_flash (s : State) (off : _) (i : _) (v : _) : (s.setBit off i v).flash = s.flash := rfl
@[simp] theorem State.setBit_fab (s : State) (off : _) (i : _) (v : _) : (s.setBit off i v).fab = s.fab := rfl
@[simp] theorem State.setBit_pins (s : State) (off : _) (i : _) (v : _) : (s.setBit off i v).pins = s.pins := rfl
@[simp] theorem State.setBit_eventLog (s : State) (off : _) (i : _) (v : _) : (s.setBit off i v).eventLog = s.eventLog := rfl
@[simp] theorem State.setBit_free (s : State) (off : _) (i : _) (v : _) : (s.setBit off i v).free = s.free := rfl
@[simp] theorem State.setBit_planNo (s : State) (off : _) (i : _) (v : _) : (s.setBit off i v).planNo = s.planNo := rfl

@[simp] theorem State.bumpFld_pending (s : State) (off : _) (lo : _) (w : _) (n : _) : (s.bumpFld off lo w n).pending = s.pending := rfl
@[simp] theorem State.bumpFld_grade (s : State) (off : _) (lo : _) (w : _) (n : _) : (s.bumpFld off lo w n).grade = s.grade := rfl
@[simp] theorem State.bumpFld_conductor (s : State) (off : _) (lo : _) (w : _) (n : _) : (s.bumpFld off lo w n).conductor = s.conductor := rfl
@[simp] theorem State.bumpFld_bootsel (s : State) (off : _) (lo : _) (w : _) (n : _) : (s.bumpFld off lo w n).bootsel = s.bootsel := rfl
@[simp] theorem State.bumpFld_uid (s : State) (off : _) (lo : _) (w : _) (n : _) : (s.bumpFld off lo w n).uid = s.uid := rfl
@[simp] theorem State.bumpFld_latches (s : State) (off : _) (lo : _) (w : _) (n : _) : (s.bumpFld off lo w n).latches = s.latches := rfl
@[simp] theorem State.bumpFld_holds (s : State) (off : _) (lo : _) (w : _) (n : _) : (s.bumpFld off lo w n).holds = s.holds := rfl
@[simp] theorem State.bumpFld_time (s : State) (off : _) (lo : _) (w : _) (n : _) : (s.bumpFld off lo w n).time = s.time := rfl
@[simp] theorem State.bumpFld_cycle (s : State) (off : _) (lo : _) (w : _) (n : _) : (s.bumpFld off lo w n).cycle = s.cycle := rfl
@[simp] theorem State.bumpFld_epoch (s : State) (off : _) (lo : _) (w : _) (n : _) : (s.bumpFld off lo w n).epoch = s.epoch := rfl
@[simp] theorem State.bumpFld_nE (s : State) (off : _) (lo : _) (w : _) (n : _) : (s.bumpFld off lo w n).nE = s.nE := rfl
@[simp] theorem State.bumpFld_servo (s : State) (off : _) (lo : _) (w : _) (n : _) : (s.bumpFld off lo w n).servo = s.servo := rfl
@[simp] theorem State.bumpFld_axes (s : State) (off : _) (lo : _) (w : _) (n : _) : (s.bumpFld off lo w n).axes = s.axes := rfl
@[simp] theorem State.bumpFld_groups (s : State) (off : _) (lo : _) (w : _) (n : _) : (s.bumpFld off lo w n).groups = s.groups := rfl
@[simp] theorem State.bumpFld_host (s : State) (off : _) (lo : _) (w : _) (n : _) : (s.bumpFld off lo w n).host = s.host := rfl
@[simp] theorem State.bumpFld_stage (s : State) (off : _) (lo : _) (w : _) (n : _) : (s.bumpFld off lo w n).stage = s.stage := rfl
@[simp] theorem State.bumpFld_jnl (s : State) (off : _) (lo : _) (w : _) (n : _) : (s.bumpFld off lo w n).jnl = s.jnl := rfl
@[simp] theorem State.bumpFld_sig (s : State) (off : _) (lo : _) (w : _) (n : _) : (s.bumpFld off lo w n).sig = s.sig := rfl
@[simp] theorem State.bumpFld_fb (s : State) (off : _) (lo : _) (w : _) (n : _) : (s.bumpFld off lo w n).fb = s.fb := rfl
@[simp] theorem State.bumpFld_sdm (s : State) (off : _) (lo : _) (w : _) (n : _) : (s.bumpFld off lo w n).sdm = s.sdm := rfl
@[simp] theorem State.bumpFld_pwm (s : State) (off : _) (lo : _) (w : _) (n : _) : (s.bumpFld off lo w n).pwm = s.pwm := rfl
@[simp] theorem State.bumpFld_chop (s : State) (off : _) (lo : _) (w : _) (n : _) : (s.bumpFld off lo w n).chop = s.chop := rfl
@[simp] theorem State.bumpFld_bb (s : State) (off : _) (lo : _) (w : _) (n : _) : (s.bumpFld off lo w n).bb = s.bb := rfl
@[simp] theorem State.bumpFld_node (s : State) (off : _) (lo : _) (w : _) (n : _) : (s.bumpFld off lo w n).node = s.node := rfl
@[simp] theorem State.bumpFld_die (s : State) (off : _) (lo : _) (w : _) (n : _) : (s.bumpFld off lo w n).die = s.die := rfl
@[simp] theorem State.bumpFld_field (s : State) (off : _) (lo : _) (w : _) (n : _) : (s.bumpFld off lo w n).field = s.field := rfl
@[simp] theorem State.bumpFld_saf (s : State) (off : _) (lo : _) (w : _) (n : _) : (s.bumpFld off lo w n).saf = s.saf := rfl
@[simp] theorem State.bumpFld_pods (s : State) (off : _) (lo : _) (w : _) (n : _) : (s.bumpFld off lo w n).pods = s.pods := rfl
@[simp] theorem State.bumpFld_adc (s : State) (off : _) (lo : _) (w : _) (n : _) : (s.bumpFld off lo w n).adc = s.adc := rfl
@[simp] theorem State.bumpFld_can (s : State) (off : _) (lo : _) (w : _) (n : _) : (s.bumpFld off lo w n).can = s.can := rfl
@[simp] theorem State.bumpFld_pw (s : State) (off : _) (lo : _) (w : _) (n : _) : (s.bumpFld off lo w n).pw = s.pw := rfl
@[simp] theorem State.bumpFld_therm (s : State) (off : _) (lo : _) (w : _) (n : _) : (s.bumpFld off lo w n).therm = s.therm := rfl
@[simp] theorem State.bumpFld_thermMram (s : State) (off : _) (lo : _) (w : _) (n : _) : (s.bumpFld off lo w n).thermMram = s.thermMram := rfl
@[simp] theorem State.bumpFld_sec (s : State) (off : _) (lo : _) (w : _) (n : _) : (s.bumpFld off lo w n).sec = s.sec := rfl
@[simp] theorem State.bumpFld_flash (s : State) (off : _) (lo : _) (w : _) (n : _) : (s.bumpFld off lo w n).flash = s.flash := rfl
@[simp] theorem State.bumpFld_fab (s : State) (off : _) (lo : _) (w : _) (n : _) : (s.bumpFld off lo w n).fab = s.fab := rfl
@[simp] theorem State.bumpFld_pins (s : State) (off : _) (lo : _) (w : _) (n : _) : (s.bumpFld off lo w n).pins = s.pins := rfl
@[simp] theorem State.bumpFld_eventLog (s : State) (off : _) (lo : _) (w : _) (n : _) : (s.bumpFld off lo w n).eventLog = s.eventLog := rfl
@[simp] theorem State.bumpFld_free (s : State) (off : _) (lo : _) (w : _) (n : _) : (s.bumpFld off lo w n).free = s.free := rfl
@[simp] theorem State.bumpFld_planNo (s : State) (off : _) (lo : _) (w : _) (n : _) : (s.bumpFld off lo w n).planNo = s.planNo := rfl

@[simp] theorem State.setAxis_pending (s : State) (a : _) (x : _) : (s.setAxis a x).pending = s.pending := rfl
@[simp] theorem State.setAxis_grade (s : State) (a : _) (x : _) : (s.setAxis a x).grade = s.grade := rfl
@[simp] theorem State.setAxis_conductor (s : State) (a : _) (x : _) : (s.setAxis a x).conductor = s.conductor := rfl
@[simp] theorem State.setAxis_bootsel (s : State) (a : _) (x : _) : (s.setAxis a x).bootsel = s.bootsel := rfl
@[simp] theorem State.setAxis_uid (s : State) (a : _) (x : _) : (s.setAxis a x).uid = s.uid := rfl
@[simp] theorem State.setAxis_regs (s : State) (a : _) (x : _) : (s.setAxis a x).regs = s.regs := rfl
@[simp] theorem State.setAxis_latches (s : State) (a : _) (x : _) : (s.setAxis a x).latches = s.latches := rfl
@[simp] theorem State.setAxis_holds (s : State) (a : _) (x : _) : (s.setAxis a x).holds = s.holds := rfl
@[simp] theorem State.setAxis_time (s : State) (a : _) (x : _) : (s.setAxis a x).time = s.time := rfl
@[simp] theorem State.setAxis_cycle (s : State) (a : _) (x : _) : (s.setAxis a x).cycle = s.cycle := rfl
@[simp] theorem State.setAxis_epoch (s : State) (a : _) (x : _) : (s.setAxis a x).epoch = s.epoch := rfl
@[simp] theorem State.setAxis_nE (s : State) (a : _) (x : _) : (s.setAxis a x).nE = s.nE := rfl
@[simp] theorem State.setAxis_servo (s : State) (a : _) (x : _) : (s.setAxis a x).servo = s.servo := rfl
@[simp] theorem State.setAxis_axes (s : State) (a : _) (x : _) : (s.setAxis a x).axes = s.axes.set {} a x := rfl
@[simp] theorem State.setAxis_groups (s : State) (a : _) (x : _) : (s.setAxis a x).groups = s.groups := rfl
@[simp] theorem State.setAxis_host (s : State) (a : _) (x : _) : (s.setAxis a x).host = s.host := rfl
@[simp] theorem State.setAxis_stage (s : State) (a : _) (x : _) : (s.setAxis a x).stage = s.stage := rfl
@[simp] theorem State.setAxis_jnl (s : State) (a : _) (x : _) : (s.setAxis a x).jnl = s.jnl := rfl
@[simp] theorem State.setAxis_sig (s : State) (a : _) (x : _) : (s.setAxis a x).sig = s.sig := rfl
@[simp] theorem State.setAxis_fb (s : State) (a : _) (x : _) : (s.setAxis a x).fb = s.fb := rfl
@[simp] theorem State.setAxis_sdm (s : State) (a : _) (x : _) : (s.setAxis a x).sdm = s.sdm := rfl
@[simp] theorem State.setAxis_pwm (s : State) (a : _) (x : _) : (s.setAxis a x).pwm = s.pwm := rfl
@[simp] theorem State.setAxis_chop (s : State) (a : _) (x : _) : (s.setAxis a x).chop = s.chop := rfl
@[simp] theorem State.setAxis_bb (s : State) (a : _) (x : _) : (s.setAxis a x).bb = s.bb := rfl
@[simp] theorem State.setAxis_node (s : State) (a : _) (x : _) : (s.setAxis a x).node = s.node := rfl
@[simp] theorem State.setAxis_die (s : State) (a : _) (x : _) : (s.setAxis a x).die = s.die := rfl
@[simp] theorem State.setAxis_field (s : State) (a : _) (x : _) : (s.setAxis a x).field = s.field := rfl
@[simp] theorem State.setAxis_saf (s : State) (a : _) (x : _) : (s.setAxis a x).saf = s.saf := rfl
@[simp] theorem State.setAxis_pods (s : State) (a : _) (x : _) : (s.setAxis a x).pods = s.pods := rfl
@[simp] theorem State.setAxis_adc (s : State) (a : _) (x : _) : (s.setAxis a x).adc = s.adc := rfl
@[simp] theorem State.setAxis_can (s : State) (a : _) (x : _) : (s.setAxis a x).can = s.can := rfl
@[simp] theorem State.setAxis_pw (s : State) (a : _) (x : _) : (s.setAxis a x).pw = s.pw := rfl
@[simp] theorem State.setAxis_therm (s : State) (a : _) (x : _) : (s.setAxis a x).therm = s.therm := rfl
@[simp] theorem State.setAxis_thermMram (s : State) (a : _) (x : _) : (s.setAxis a x).thermMram = s.thermMram := rfl
@[simp] theorem State.setAxis_sec (s : State) (a : _) (x : _) : (s.setAxis a x).sec = s.sec := rfl
@[simp] theorem State.setAxis_flash (s : State) (a : _) (x : _) : (s.setAxis a x).flash = s.flash := rfl
@[simp] theorem State.setAxis_fab (s : State) (a : _) (x : _) : (s.setAxis a x).fab = s.fab := rfl
@[simp] theorem State.setAxis_pins (s : State) (a : _) (x : _) : (s.setAxis a x).pins = s.pins := rfl
@[simp] theorem State.setAxis_eventLog (s : State) (a : _) (x : _) : (s.setAxis a x).eventLog = s.eventLog := rfl
@[simp] theorem State.setAxis_free (s : State) (a : _) (x : _) : (s.setAxis a x).free = s.free := rfl
@[simp] theorem State.setAxis_planNo (s : State) (a : _) (x : _) : (s.setAxis a x).planNo = s.planNo := rfl

@[simp] theorem State.modAxis_pending (s : State) (a : _) (f : _) : (s.modAxis a f).pending = s.pending := rfl
@[simp] theorem State.modAxis_grade (s : State) (a : _) (f : _) : (s.modAxis a f).grade = s.grade := rfl
@[simp] theorem State.modAxis_conductor (s : State) (a : _) (f : _) : (s.modAxis a f).conductor = s.conductor := rfl
@[simp] theorem State.modAxis_bootsel (s : State) (a : _) (f : _) : (s.modAxis a f).bootsel = s.bootsel := rfl
@[simp] theorem State.modAxis_uid (s : State) (a : _) (f : _) : (s.modAxis a f).uid = s.uid := rfl
@[simp] theorem State.modAxis_regs (s : State) (a : _) (f : _) : (s.modAxis a f).regs = s.regs := rfl
@[simp] theorem State.modAxis_latches (s : State) (a : _) (f : _) : (s.modAxis a f).latches = s.latches := rfl
@[simp] theorem State.modAxis_holds (s : State) (a : _) (f : _) : (s.modAxis a f).holds = s.holds := rfl
@[simp] theorem State.modAxis_time (s : State) (a : _) (f : _) : (s.modAxis a f).time = s.time := rfl
@[simp] theorem State.modAxis_cycle (s : State) (a : _) (f : _) : (s.modAxis a f).cycle = s.cycle := rfl
@[simp] theorem State.modAxis_epoch (s : State) (a : _) (f : _) : (s.modAxis a f).epoch = s.epoch := rfl
@[simp] theorem State.modAxis_nE (s : State) (a : _) (f : _) : (s.modAxis a f).nE = s.nE := rfl
@[simp] theorem State.modAxis_servo (s : State) (a : _) (f : _) : (s.modAxis a f).servo = s.servo := rfl
@[simp] theorem State.modAxis_axes (s : State) (a : _) (f : _) : (s.modAxis a f).axes = s.axes.set {} a (f (s.axis a)) := rfl
@[simp] theorem State.modAxis_groups (s : State) (a : _) (f : _) : (s.modAxis a f).groups = s.groups := rfl
@[simp] theorem State.modAxis_host (s : State) (a : _) (f : _) : (s.modAxis a f).host = s.host := rfl
@[simp] theorem State.modAxis_stage (s : State) (a : _) (f : _) : (s.modAxis a f).stage = s.stage := rfl
@[simp] theorem State.modAxis_jnl (s : State) (a : _) (f : _) : (s.modAxis a f).jnl = s.jnl := rfl
@[simp] theorem State.modAxis_sig (s : State) (a : _) (f : _) : (s.modAxis a f).sig = s.sig := rfl
@[simp] theorem State.modAxis_fb (s : State) (a : _) (f : _) : (s.modAxis a f).fb = s.fb := rfl
@[simp] theorem State.modAxis_sdm (s : State) (a : _) (f : _) : (s.modAxis a f).sdm = s.sdm := rfl
@[simp] theorem State.modAxis_pwm (s : State) (a : _) (f : _) : (s.modAxis a f).pwm = s.pwm := rfl
@[simp] theorem State.modAxis_chop (s : State) (a : _) (f : _) : (s.modAxis a f).chop = s.chop := rfl
@[simp] theorem State.modAxis_bb (s : State) (a : _) (f : _) : (s.modAxis a f).bb = s.bb := rfl
@[simp] theorem State.modAxis_node (s : State) (a : _) (f : _) : (s.modAxis a f).node = s.node := rfl
@[simp] theorem State.modAxis_die (s : State) (a : _) (f : _) : (s.modAxis a f).die = s.die := rfl
@[simp] theorem State.modAxis_field (s : State) (a : _) (f : _) : (s.modAxis a f).field = s.field := rfl
@[simp] theorem State.modAxis_saf (s : State) (a : _) (f : _) : (s.modAxis a f).saf = s.saf := rfl
@[simp] theorem State.modAxis_pods (s : State) (a : _) (f : _) : (s.modAxis a f).pods = s.pods := rfl
@[simp] theorem State.modAxis_adc (s : State) (a : _) (f : _) : (s.modAxis a f).adc = s.adc := rfl
@[simp] theorem State.modAxis_can (s : State) (a : _) (f : _) : (s.modAxis a f).can = s.can := rfl
@[simp] theorem State.modAxis_pw (s : State) (a : _) (f : _) : (s.modAxis a f).pw = s.pw := rfl
@[simp] theorem State.modAxis_therm (s : State) (a : _) (f : _) : (s.modAxis a f).therm = s.therm := rfl
@[simp] theorem State.modAxis_thermMram (s : State) (a : _) (f : _) : (s.modAxis a f).thermMram = s.thermMram := rfl
@[simp] theorem State.modAxis_sec (s : State) (a : _) (f : _) : (s.modAxis a f).sec = s.sec := rfl
@[simp] theorem State.modAxis_flash (s : State) (a : _) (f : _) : (s.modAxis a f).flash = s.flash := rfl
@[simp] theorem State.modAxis_fab (s : State) (a : _) (f : _) : (s.modAxis a f).fab = s.fab := rfl
@[simp] theorem State.modAxis_pins (s : State) (a : _) (f : _) : (s.modAxis a f).pins = s.pins := rfl
@[simp] theorem State.modAxis_eventLog (s : State) (a : _) (f : _) : (s.modAxis a f).eventLog = s.eventLog := rfl
@[simp] theorem State.modAxis_free (s : State) (a : _) (f : _) : (s.modAxis a f).free = s.free := rfl
@[simp] theorem State.modAxis_planNo (s : State) (a : _) (f : _) : (s.modAxis a f).planNo = s.planNo := rfl

@[simp] theorem State.setGroup_pending (s : State) (g : _) (x : _) : (s.setGroup g x).pending = s.pending := rfl
@[simp] theorem State.setGroup_grade (s : State) (g : _) (x : _) : (s.setGroup g x).grade = s.grade := rfl
@[simp] theorem State.setGroup_conductor (s : State) (g : _) (x : _) : (s.setGroup g x).conductor = s.conductor := rfl
@[simp] theorem State.setGroup_bootsel (s : State) (g : _) (x : _) : (s.setGroup g x).bootsel = s.bootsel := rfl
@[simp] theorem State.setGroup_uid (s : State) (g : _) (x : _) : (s.setGroup g x).uid = s.uid := rfl
@[simp] theorem State.setGroup_regs (s : State) (g : _) (x : _) : (s.setGroup g x).regs = s.regs := rfl
@[simp] theorem State.setGroup_latches (s : State) (g : _) (x : _) : (s.setGroup g x).latches = s.latches := rfl
@[simp] theorem State.setGroup_holds (s : State) (g : _) (x : _) : (s.setGroup g x).holds = s.holds := rfl
@[simp] theorem State.setGroup_time (s : State) (g : _) (x : _) : (s.setGroup g x).time = s.time := rfl
@[simp] theorem State.setGroup_cycle (s : State) (g : _) (x : _) : (s.setGroup g x).cycle = s.cycle := rfl
@[simp] theorem State.setGroup_epoch (s : State) (g : _) (x : _) : (s.setGroup g x).epoch = s.epoch := rfl
@[simp] theorem State.setGroup_nE (s : State) (g : _) (x : _) : (s.setGroup g x).nE = s.nE := rfl
@[simp] theorem State.setGroup_servo (s : State) (g : _) (x : _) : (s.setGroup g x).servo = s.servo := rfl
@[simp] theorem State.setGroup_axes (s : State) (g : _) (x : _) : (s.setGroup g x).axes = s.axes := rfl
@[simp] theorem State.setGroup_groups (s : State) (g : _) (x : _) : (s.setGroup g x).groups = s.groups.set {} g x := rfl
@[simp] theorem State.setGroup_host (s : State) (g : _) (x : _) : (s.setGroup g x).host = s.host := rfl
@[simp] theorem State.setGroup_stage (s : State) (g : _) (x : _) : (s.setGroup g x).stage = s.stage := rfl
@[simp] theorem State.setGroup_jnl (s : State) (g : _) (x : _) : (s.setGroup g x).jnl = s.jnl := rfl
@[simp] theorem State.setGroup_sig (s : State) (g : _) (x : _) : (s.setGroup g x).sig = s.sig := rfl
@[simp] theorem State.setGroup_fb (s : State) (g : _) (x : _) : (s.setGroup g x).fb = s.fb := rfl
@[simp] theorem State.setGroup_sdm (s : State) (g : _) (x : _) : (s.setGroup g x).sdm = s.sdm := rfl
@[simp] theorem State.setGroup_pwm (s : State) (g : _) (x : _) : (s.setGroup g x).pwm = s.pwm := rfl
@[simp] theorem State.setGroup_chop (s : State) (g : _) (x : _) : (s.setGroup g x).chop = s.chop := rfl
@[simp] theorem State.setGroup_bb (s : State) (g : _) (x : _) : (s.setGroup g x).bb = s.bb := rfl
@[simp] theorem State.setGroup_node (s : State) (g : _) (x : _) : (s.setGroup g x).node = s.node := rfl
@[simp] theorem State.setGroup_die (s : State) (g : _) (x : _) : (s.setGroup g x).die = s.die := rfl
@[simp] theorem State.setGroup_field (s : State) (g : _) (x : _) : (s.setGroup g x).field = s.field := rfl
@[simp] theorem State.setGroup_saf (s : State) (g : _) (x : _) : (s.setGroup g x).saf = s.saf := rfl
@[simp] theorem State.setGroup_pods (s : State) (g : _) (x : _) : (s.setGroup g x).pods = s.pods := rfl
@[simp] theorem State.setGroup_adc (s : State) (g : _) (x : _) : (s.setGroup g x).adc = s.adc := rfl
@[simp] theorem State.setGroup_can (s : State) (g : _) (x : _) : (s.setGroup g x).can = s.can := rfl
@[simp] theorem State.setGroup_pw (s : State) (g : _) (x : _) : (s.setGroup g x).pw = s.pw := rfl
@[simp] theorem State.setGroup_therm (s : State) (g : _) (x : _) : (s.setGroup g x).therm = s.therm := rfl
@[simp] theorem State.setGroup_thermMram (s : State) (g : _) (x : _) : (s.setGroup g x).thermMram = s.thermMram := rfl
@[simp] theorem State.setGroup_sec (s : State) (g : _) (x : _) : (s.setGroup g x).sec = s.sec := rfl
@[simp] theorem State.setGroup_flash (s : State) (g : _) (x : _) : (s.setGroup g x).flash = s.flash := rfl
@[simp] theorem State.setGroup_fab (s : State) (g : _) (x : _) : (s.setGroup g x).fab = s.fab := rfl
@[simp] theorem State.setGroup_pins (s : State) (g : _) (x : _) : (s.setGroup g x).pins = s.pins := rfl
@[simp] theorem State.setGroup_eventLog (s : State) (g : _) (x : _) : (s.setGroup g x).eventLog = s.eventLog := rfl
@[simp] theorem State.setGroup_free (s : State) (g : _) (x : _) : (s.setGroup g x).free = s.free := rfl
@[simp] theorem State.setGroup_planNo (s : State) (g : _) (x : _) : (s.setGroup g x).planNo = s.planNo := rfl

@[simp] theorem State.setFbp_pending (s : State) (k : _) (x : _) : (s.setFbp k x).pending = s.pending := rfl
@[simp] theorem State.setFbp_grade (s : State) (k : _) (x : _) : (s.setFbp k x).grade = s.grade := rfl
@[simp] theorem State.setFbp_conductor (s : State) (k : _) (x : _) : (s.setFbp k x).conductor = s.conductor := rfl
@[simp] theorem State.setFbp_bootsel (s : State) (k : _) (x : _) : (s.setFbp k x).bootsel = s.bootsel := rfl
@[simp] theorem State.setFbp_uid (s : State) (k : _) (x : _) : (s.setFbp k x).uid = s.uid := rfl
@[simp] theorem State.setFbp_regs (s : State) (k : _) (x : _) : (s.setFbp k x).regs = s.regs := rfl
@[simp] theorem State.setFbp_latches (s : State) (k : _) (x : _) : (s.setFbp k x).latches = s.latches := rfl
@[simp] theorem State.setFbp_holds (s : State) (k : _) (x : _) : (s.setFbp k x).holds = s.holds := rfl
@[simp] theorem State.setFbp_time (s : State) (k : _) (x : _) : (s.setFbp k x).time = s.time := rfl
@[simp] theorem State.setFbp_cycle (s : State) (k : _) (x : _) : (s.setFbp k x).cycle = s.cycle := rfl
@[simp] theorem State.setFbp_epoch (s : State) (k : _) (x : _) : (s.setFbp k x).epoch = s.epoch := rfl
@[simp] theorem State.setFbp_nE (s : State) (k : _) (x : _) : (s.setFbp k x).nE = s.nE := rfl
@[simp] theorem State.setFbp_servo (s : State) (k : _) (x : _) : (s.setFbp k x).servo = s.servo := rfl
@[simp] theorem State.setFbp_axes (s : State) (k : _) (x : _) : (s.setFbp k x).axes = s.axes := rfl
@[simp] theorem State.setFbp_groups (s : State) (k : _) (x : _) : (s.setFbp k x).groups = s.groups := rfl
@[simp] theorem State.setFbp_host (s : State) (k : _) (x : _) : (s.setFbp k x).host = s.host := rfl
@[simp] theorem State.setFbp_stage (s : State) (k : _) (x : _) : (s.setFbp k x).stage = s.stage := rfl
@[simp] theorem State.setFbp_jnl (s : State) (k : _) (x : _) : (s.setFbp k x).jnl = s.jnl := rfl
@[simp] theorem State.setFbp_sig (s : State) (k : _) (x : _) : (s.setFbp k x).sig = s.sig := rfl
@[simp] theorem State.setFbp_fb (s : State) (k : _) (x : _) : (s.setFbp k x).fb = s.fb.set {} k x := rfl
@[simp] theorem State.setFbp_sdm (s : State) (k : _) (x : _) : (s.setFbp k x).sdm = s.sdm := rfl
@[simp] theorem State.setFbp_pwm (s : State) (k : _) (x : _) : (s.setFbp k x).pwm = s.pwm := rfl
@[simp] theorem State.setFbp_chop (s : State) (k : _) (x : _) : (s.setFbp k x).chop = s.chop := rfl
@[simp] theorem State.setFbp_bb (s : State) (k : _) (x : _) : (s.setFbp k x).bb = s.bb := rfl
@[simp] theorem State.setFbp_node (s : State) (k : _) (x : _) : (s.setFbp k x).node = s.node := rfl
@[simp] theorem State.setFbp_die (s : State) (k : _) (x : _) : (s.setFbp k x).die = s.die := rfl
@[simp] theorem State.setFbp_field (s : State) (k : _) (x : _) : (s.setFbp k x).field = s.field := rfl
@[simp] theorem State.setFbp_saf (s : State) (k : _) (x : _) : (s.setFbp k x).saf = s.saf := rfl
@[simp] theorem State.setFbp_pods (s : State) (k : _) (x : _) : (s.setFbp k x).pods = s.pods := rfl
@[simp] theorem State.setFbp_adc (s : State) (k : _) (x : _) : (s.setFbp k x).adc = s.adc := rfl
@[simp] theorem State.setFbp_can (s : State) (k : _) (x : _) : (s.setFbp k x).can = s.can := rfl
@[simp] theorem State.setFbp_pw (s : State) (k : _) (x : _) : (s.setFbp k x).pw = s.pw := rfl
@[simp] theorem State.setFbp_therm (s : State) (k : _) (x : _) : (s.setFbp k x).therm = s.therm := rfl
@[simp] theorem State.setFbp_thermMram (s : State) (k : _) (x : _) : (s.setFbp k x).thermMram = s.thermMram := rfl
@[simp] theorem State.setFbp_sec (s : State) (k : _) (x : _) : (s.setFbp k x).sec = s.sec := rfl
@[simp] theorem State.setFbp_flash (s : State) (k : _) (x : _) : (s.setFbp k x).flash = s.flash := rfl
@[simp] theorem State.setFbp_fab (s : State) (k : _) (x : _) : (s.setFbp k x).fab = s.fab := rfl
@[simp] theorem State.setFbp_pins (s : State) (k : _) (x : _) : (s.setFbp k x).pins = s.pins := rfl
@[simp] theorem State.setFbp_eventLog (s : State) (k : _) (x : _) : (s.setFbp k x).eventLog = s.eventLog := rfl
@[simp] theorem State.setFbp_free (s : State) (k : _) (x : _) : (s.setFbp k x).free = s.free := rfl
@[simp] theorem State.setFbp_planNo (s : State) (k : _) (x : _) : (s.setFbp k x).planNo = s.planNo := rfl

@[simp] theorem State.setPwmp_pending (s : State) (k : _) (x : _) : (s.setPwmp k x).pending = s.pending := rfl
@[simp] theorem State.setPwmp_grade (s : State) (k : _) (x : _) : (s.setPwmp k x).grade = s.grade := rfl
@[simp] theorem State.setPwmp_conductor (s : State) (k : _) (x : _) : (s.setPwmp k x).conductor = s.conductor := rfl
@[simp] theorem State.setPwmp_bootsel (s : State) (k : _) (x : _) : (s.setPwmp k x).bootsel = s.bootsel := rfl
@[simp] theorem State.setPwmp_uid (s : State) (k : _) (x : _) : (s.setPwmp k x).uid = s.uid := rfl
@[simp] theorem State.setPwmp_regs (s : State) (k : _) (x : _) : (s.setPwmp k x).regs = s.regs := rfl
@[simp] theorem State.setPwmp_latches (s : State) (k : _) (x : _) : (s.setPwmp k x).latches = s.latches := rfl
@[simp] theorem State.setPwmp_holds (s : State) (k : _) (x : _) : (s.setPwmp k x).holds = s.holds := rfl
@[simp] theorem State.setPwmp_time (s : State) (k : _) (x : _) : (s.setPwmp k x).time = s.time := rfl
@[simp] theorem State.setPwmp_cycle (s : State) (k : _) (x : _) : (s.setPwmp k x).cycle = s.cycle := rfl
@[simp] theorem State.setPwmp_epoch (s : State) (k : _) (x : _) : (s.setPwmp k x).epoch = s.epoch := rfl
@[simp] theorem State.setPwmp_nE (s : State) (k : _) (x : _) : (s.setPwmp k x).nE = s.nE := rfl
@[simp] theorem State.setPwmp_servo (s : State) (k : _) (x : _) : (s.setPwmp k x).servo = s.servo := rfl
@[simp] theorem State.setPwmp_axes (s : State) (k : _) (x : _) : (s.setPwmp k x).axes = s.axes := rfl
@[simp] theorem State.setPwmp_groups (s : State) (k : _) (x : _) : (s.setPwmp k x).groups = s.groups := rfl
@[simp] theorem State.setPwmp_host (s : State) (k : _) (x : _) : (s.setPwmp k x).host = s.host := rfl
@[simp] theorem State.setPwmp_stage (s : State) (k : _) (x : _) : (s.setPwmp k x).stage = s.stage := rfl
@[simp] theorem State.setPwmp_jnl (s : State) (k : _) (x : _) : (s.setPwmp k x).jnl = s.jnl := rfl
@[simp] theorem State.setPwmp_sig (s : State) (k : _) (x : _) : (s.setPwmp k x).sig = s.sig := rfl
@[simp] theorem State.setPwmp_fb (s : State) (k : _) (x : _) : (s.setPwmp k x).fb = s.fb := rfl
@[simp] theorem State.setPwmp_sdm (s : State) (k : _) (x : _) : (s.setPwmp k x).sdm = s.sdm := rfl
@[simp] theorem State.setPwmp_pwm (s : State) (k : _) (x : _) : (s.setPwmp k x).pwm = s.pwm.set {} k x := rfl
@[simp] theorem State.setPwmp_chop (s : State) (k : _) (x : _) : (s.setPwmp k x).chop = s.chop := rfl
@[simp] theorem State.setPwmp_bb (s : State) (k : _) (x : _) : (s.setPwmp k x).bb = s.bb := rfl
@[simp] theorem State.setPwmp_node (s : State) (k : _) (x : _) : (s.setPwmp k x).node = s.node := rfl
@[simp] theorem State.setPwmp_die (s : State) (k : _) (x : _) : (s.setPwmp k x).die = s.die := rfl
@[simp] theorem State.setPwmp_field (s : State) (k : _) (x : _) : (s.setPwmp k x).field = s.field := rfl
@[simp] theorem State.setPwmp_saf (s : State) (k : _) (x : _) : (s.setPwmp k x).saf = s.saf := rfl
@[simp] theorem State.setPwmp_pods (s : State) (k : _) (x : _) : (s.setPwmp k x).pods = s.pods := rfl
@[simp] theorem State.setPwmp_adc (s : State) (k : _) (x : _) : (s.setPwmp k x).adc = s.adc := rfl
@[simp] theorem State.setPwmp_can (s : State) (k : _) (x : _) : (s.setPwmp k x).can = s.can := rfl
@[simp] theorem State.setPwmp_pw (s : State) (k : _) (x : _) : (s.setPwmp k x).pw = s.pw := rfl
@[simp] theorem State.setPwmp_therm (s : State) (k : _) (x : _) : (s.setPwmp k x).therm = s.therm := rfl
@[simp] theorem State.setPwmp_thermMram (s : State) (k : _) (x : _) : (s.setPwmp k x).thermMram = s.thermMram := rfl
@[simp] theorem State.setPwmp_sec (s : State) (k : _) (x : _) : (s.setPwmp k x).sec = s.sec := rfl
@[simp] theorem State.setPwmp_flash (s : State) (k : _) (x : _) : (s.setPwmp k x).flash = s.flash := rfl
@[simp] theorem State.setPwmp_fab (s : State) (k : _) (x : _) : (s.setPwmp k x).fab = s.fab := rfl
@[simp] theorem State.setPwmp_pins (s : State) (k : _) (x : _) : (s.setPwmp k x).pins = s.pins := rfl
@[simp] theorem State.setPwmp_eventLog (s : State) (k : _) (x : _) : (s.setPwmp k x).eventLog = s.eventLog := rfl
@[simp] theorem State.setPwmp_free (s : State) (k : _) (x : _) : (s.setPwmp k x).free = s.free := rfl
@[simp] theorem State.setPwmp_planNo (s : State) (k : _) (x : _) : (s.setPwmp k x).planNo = s.planNo := rfl

@[simp] theorem State.setSdmc_pending (s : State) (c : _) (x : _) : (s.setSdmc c x).pending = s.pending := rfl
@[simp] theorem State.setSdmc_grade (s : State) (c : _) (x : _) : (s.setSdmc c x).grade = s.grade := rfl
@[simp] theorem State.setSdmc_conductor (s : State) (c : _) (x : _) : (s.setSdmc c x).conductor = s.conductor := rfl
@[simp] theorem State.setSdmc_bootsel (s : State) (c : _) (x : _) : (s.setSdmc c x).bootsel = s.bootsel := rfl
@[simp] theorem State.setSdmc_uid (s : State) (c : _) (x : _) : (s.setSdmc c x).uid = s.uid := rfl
@[simp] theorem State.setSdmc_regs (s : State) (c : _) (x : _) : (s.setSdmc c x).regs = s.regs := rfl
@[simp] theorem State.setSdmc_latches (s : State) (c : _) (x : _) : (s.setSdmc c x).latches = s.latches := rfl
@[simp] theorem State.setSdmc_holds (s : State) (c : _) (x : _) : (s.setSdmc c x).holds = s.holds := rfl
@[simp] theorem State.setSdmc_time (s : State) (c : _) (x : _) : (s.setSdmc c x).time = s.time := rfl
@[simp] theorem State.setSdmc_cycle (s : State) (c : _) (x : _) : (s.setSdmc c x).cycle = s.cycle := rfl
@[simp] theorem State.setSdmc_epoch (s : State) (c : _) (x : _) : (s.setSdmc c x).epoch = s.epoch := rfl
@[simp] theorem State.setSdmc_nE (s : State) (c : _) (x : _) : (s.setSdmc c x).nE = s.nE := rfl
@[simp] theorem State.setSdmc_servo (s : State) (c : _) (x : _) : (s.setSdmc c x).servo = s.servo := rfl
@[simp] theorem State.setSdmc_axes (s : State) (c : _) (x : _) : (s.setSdmc c x).axes = s.axes := rfl
@[simp] theorem State.setSdmc_groups (s : State) (c : _) (x : _) : (s.setSdmc c x).groups = s.groups := rfl
@[simp] theorem State.setSdmc_host (s : State) (c : _) (x : _) : (s.setSdmc c x).host = s.host := rfl
@[simp] theorem State.setSdmc_stage (s : State) (c : _) (x : _) : (s.setSdmc c x).stage = s.stage := rfl
@[simp] theorem State.setSdmc_jnl (s : State) (c : _) (x : _) : (s.setSdmc c x).jnl = s.jnl := rfl
@[simp] theorem State.setSdmc_sig (s : State) (c : _) (x : _) : (s.setSdmc c x).sig = s.sig := rfl
@[simp] theorem State.setSdmc_fb (s : State) (c : _) (x : _) : (s.setSdmc c x).fb = s.fb := rfl
@[simp] theorem State.setSdmc_sdm (s : State) (c : _) (x : _) : (s.setSdmc c x).sdm = s.sdm.set {} c x := rfl
@[simp] theorem State.setSdmc_pwm (s : State) (c : _) (x : _) : (s.setSdmc c x).pwm = s.pwm := rfl
@[simp] theorem State.setSdmc_chop (s : State) (c : _) (x : _) : (s.setSdmc c x).chop = s.chop := rfl
@[simp] theorem State.setSdmc_bb (s : State) (c : _) (x : _) : (s.setSdmc c x).bb = s.bb := rfl
@[simp] theorem State.setSdmc_node (s : State) (c : _) (x : _) : (s.setSdmc c x).node = s.node := rfl
@[simp] theorem State.setSdmc_die (s : State) (c : _) (x : _) : (s.setSdmc c x).die = s.die := rfl
@[simp] theorem State.setSdmc_field (s : State) (c : _) (x : _) : (s.setSdmc c x).field = s.field := rfl
@[simp] theorem State.setSdmc_saf (s : State) (c : _) (x : _) : (s.setSdmc c x).saf = s.saf := rfl
@[simp] theorem State.setSdmc_pods (s : State) (c : _) (x : _) : (s.setSdmc c x).pods = s.pods := rfl
@[simp] theorem State.setSdmc_adc (s : State) (c : _) (x : _) : (s.setSdmc c x).adc = s.adc := rfl
@[simp] theorem State.setSdmc_can (s : State) (c : _) (x : _) : (s.setSdmc c x).can = s.can := rfl
@[simp] theorem State.setSdmc_pw (s : State) (c : _) (x : _) : (s.setSdmc c x).pw = s.pw := rfl
@[simp] theorem State.setSdmc_therm (s : State) (c : _) (x : _) : (s.setSdmc c x).therm = s.therm := rfl
@[simp] theorem State.setSdmc_thermMram (s : State) (c : _) (x : _) : (s.setSdmc c x).thermMram = s.thermMram := rfl
@[simp] theorem State.setSdmc_sec (s : State) (c : _) (x : _) : (s.setSdmc c x).sec = s.sec := rfl
@[simp] theorem State.setSdmc_flash (s : State) (c : _) (x : _) : (s.setSdmc c x).flash = s.flash := rfl
@[simp] theorem State.setSdmc_fab (s : State) (c : _) (x : _) : (s.setSdmc c x).fab = s.fab := rfl
@[simp] theorem State.setSdmc_pins (s : State) (c : _) (x : _) : (s.setSdmc c x).pins = s.pins := rfl
@[simp] theorem State.setSdmc_eventLog (s : State) (c : _) (x : _) : (s.setSdmc c x).eventLog = s.eventLog := rfl
@[simp] theorem State.setSdmc_free (s : State) (c : _) (x : _) : (s.setSdmc c x).free = s.free := rfl
@[simp] theorem State.setSdmc_planNo (s : State) (c : _) (x : _) : (s.setSdmc c x).planNo = s.planNo := rfl

@[simp] theorem State.setChopper_pending (s : State) (c : _) (x : _) : (s.setChopper c x).pending = s.pending := rfl
@[simp] theorem State.setChopper_grade (s : State) (c : _) (x : _) : (s.setChopper c x).grade = s.grade := rfl
@[simp] theorem State.setChopper_conductor (s : State) (c : _) (x : _) : (s.setChopper c x).conductor = s.conductor := rfl
@[simp] theorem State.setChopper_bootsel (s : State) (c : _) (x : _) : (s.setChopper c x).bootsel = s.bootsel := rfl
@[simp] theorem State.setChopper_uid (s : State) (c : _) (x : _) : (s.setChopper c x).uid = s.uid := rfl
@[simp] theorem State.setChopper_regs (s : State) (c : _) (x : _) : (s.setChopper c x).regs = s.regs := rfl
@[simp] theorem State.setChopper_latches (s : State) (c : _) (x : _) : (s.setChopper c x).latches = s.latches := rfl
@[simp] theorem State.setChopper_holds (s : State) (c : _) (x : _) : (s.setChopper c x).holds = s.holds := rfl
@[simp] theorem State.setChopper_time (s : State) (c : _) (x : _) : (s.setChopper c x).time = s.time := rfl
@[simp] theorem State.setChopper_cycle (s : State) (c : _) (x : _) : (s.setChopper c x).cycle = s.cycle := rfl
@[simp] theorem State.setChopper_epoch (s : State) (c : _) (x : _) : (s.setChopper c x).epoch = s.epoch := rfl
@[simp] theorem State.setChopper_nE (s : State) (c : _) (x : _) : (s.setChopper c x).nE = s.nE := rfl
@[simp] theorem State.setChopper_servo (s : State) (c : _) (x : _) : (s.setChopper c x).servo = s.servo := rfl
@[simp] theorem State.setChopper_axes (s : State) (c : _) (x : _) : (s.setChopper c x).axes = s.axes := rfl
@[simp] theorem State.setChopper_groups (s : State) (c : _) (x : _) : (s.setChopper c x).groups = s.groups := rfl
@[simp] theorem State.setChopper_host (s : State) (c : _) (x : _) : (s.setChopper c x).host = s.host := rfl
@[simp] theorem State.setChopper_stage (s : State) (c : _) (x : _) : (s.setChopper c x).stage = s.stage := rfl
@[simp] theorem State.setChopper_jnl (s : State) (c : _) (x : _) : (s.setChopper c x).jnl = s.jnl := rfl
@[simp] theorem State.setChopper_sig (s : State) (c : _) (x : _) : (s.setChopper c x).sig = s.sig := rfl
@[simp] theorem State.setChopper_fb (s : State) (c : _) (x : _) : (s.setChopper c x).fb = s.fb := rfl
@[simp] theorem State.setChopper_sdm (s : State) (c : _) (x : _) : (s.setChopper c x).sdm = s.sdm := rfl
@[simp] theorem State.setChopper_pwm (s : State) (c : _) (x : _) : (s.setChopper c x).pwm = s.pwm := rfl
@[simp] theorem State.setChopper_chop (s : State) (c : _) (x : _) : (s.setChopper c x).chop = s.chop.set {} c x := rfl
@[simp] theorem State.setChopper_bb (s : State) (c : _) (x : _) : (s.setChopper c x).bb = s.bb := rfl
@[simp] theorem State.setChopper_node (s : State) (c : _) (x : _) : (s.setChopper c x).node = s.node := rfl
@[simp] theorem State.setChopper_die (s : State) (c : _) (x : _) : (s.setChopper c x).die = s.die := rfl
@[simp] theorem State.setChopper_field (s : State) (c : _) (x : _) : (s.setChopper c x).field = s.field := rfl
@[simp] theorem State.setChopper_saf (s : State) (c : _) (x : _) : (s.setChopper c x).saf = s.saf := rfl
@[simp] theorem State.setChopper_pods (s : State) (c : _) (x : _) : (s.setChopper c x).pods = s.pods := rfl
@[simp] theorem State.setChopper_adc (s : State) (c : _) (x : _) : (s.setChopper c x).adc = s.adc := rfl
@[simp] theorem State.setChopper_can (s : State) (c : _) (x : _) : (s.setChopper c x).can = s.can := rfl
@[simp] theorem State.setChopper_pw (s : State) (c : _) (x : _) : (s.setChopper c x).pw = s.pw := rfl
@[simp] theorem State.setChopper_therm (s : State) (c : _) (x : _) : (s.setChopper c x).therm = s.therm := rfl
@[simp] theorem State.setChopper_thermMram (s : State) (c : _) (x : _) : (s.setChopper c x).thermMram = s.thermMram := rfl
@[simp] theorem State.setChopper_sec (s : State) (c : _) (x : _) : (s.setChopper c x).sec = s.sec := rfl
@[simp] theorem State.setChopper_flash (s : State) (c : _) (x : _) : (s.setChopper c x).flash = s.flash := rfl
@[simp] theorem State.setChopper_fab (s : State) (c : _) (x : _) : (s.setChopper c x).fab = s.fab := rfl
@[simp] theorem State.setChopper_pins (s : State) (c : _) (x : _) : (s.setChopper c x).pins = s.pins := rfl
@[simp] theorem State.setChopper_eventLog (s : State) (c : _) (x : _) : (s.setChopper c x).eventLog = s.eventLog := rfl
@[simp] theorem State.setChopper_free (s : State) (c : _) (x : _) : (s.setChopper c x).free = s.free := rfl
@[simp] theorem State.setChopper_planNo (s : State) (c : _) (x : _) : (s.setChopper c x).planNo = s.planNo := rfl

@[simp] theorem State.setAdcv_pending (s : State) (k : _) (x : _) : (s.setAdcv k x).pending = s.pending := rfl
@[simp] theorem State.setAdcv_grade (s : State) (k : _) (x : _) : (s.setAdcv k x).grade = s.grade := rfl
@[simp] theorem State.setAdcv_conductor (s : State) (k : _) (x : _) : (s.setAdcv k x).conductor = s.conductor := rfl
@[simp] theorem State.setAdcv_bootsel (s : State) (k : _) (x : _) : (s.setAdcv k x).bootsel = s.bootsel := rfl
@[simp] theorem State.setAdcv_uid (s : State) (k : _) (x : _) : (s.setAdcv k x).uid = s.uid := rfl
@[simp] theorem State.setAdcv_regs (s : State) (k : _) (x : _) : (s.setAdcv k x).regs = s.regs := rfl
@[simp] theorem State.setAdcv_latches (s : State) (k : _) (x : _) : (s.setAdcv k x).latches = s.latches := rfl
@[simp] theorem State.setAdcv_holds (s : State) (k : _) (x : _) : (s.setAdcv k x).holds = s.holds := rfl
@[simp] theorem State.setAdcv_time (s : State) (k : _) (x : _) : (s.setAdcv k x).time = s.time := rfl
@[simp] theorem State.setAdcv_cycle (s : State) (k : _) (x : _) : (s.setAdcv k x).cycle = s.cycle := rfl
@[simp] theorem State.setAdcv_epoch (s : State) (k : _) (x : _) : (s.setAdcv k x).epoch = s.epoch := rfl
@[simp] theorem State.setAdcv_nE (s : State) (k : _) (x : _) : (s.setAdcv k x).nE = s.nE := rfl
@[simp] theorem State.setAdcv_servo (s : State) (k : _) (x : _) : (s.setAdcv k x).servo = s.servo := rfl
@[simp] theorem State.setAdcv_axes (s : State) (k : _) (x : _) : (s.setAdcv k x).axes = s.axes := rfl
@[simp] theorem State.setAdcv_groups (s : State) (k : _) (x : _) : (s.setAdcv k x).groups = s.groups := rfl
@[simp] theorem State.setAdcv_host (s : State) (k : _) (x : _) : (s.setAdcv k x).host = s.host := rfl
@[simp] theorem State.setAdcv_stage (s : State) (k : _) (x : _) : (s.setAdcv k x).stage = s.stage := rfl
@[simp] theorem State.setAdcv_jnl (s : State) (k : _) (x : _) : (s.setAdcv k x).jnl = s.jnl := rfl
@[simp] theorem State.setAdcv_sig (s : State) (k : _) (x : _) : (s.setAdcv k x).sig = s.sig := rfl
@[simp] theorem State.setAdcv_fb (s : State) (k : _) (x : _) : (s.setAdcv k x).fb = s.fb := rfl
@[simp] theorem State.setAdcv_sdm (s : State) (k : _) (x : _) : (s.setAdcv k x).sdm = s.sdm := rfl
@[simp] theorem State.setAdcv_pwm (s : State) (k : _) (x : _) : (s.setAdcv k x).pwm = s.pwm := rfl
@[simp] theorem State.setAdcv_chop (s : State) (k : _) (x : _) : (s.setAdcv k x).chop = s.chop := rfl
@[simp] theorem State.setAdcv_bb (s : State) (k : _) (x : _) : (s.setAdcv k x).bb = s.bb := rfl
@[simp] theorem State.setAdcv_node (s : State) (k : _) (x : _) : (s.setAdcv k x).node = s.node := rfl
@[simp] theorem State.setAdcv_die (s : State) (k : _) (x : _) : (s.setAdcv k x).die = s.die := rfl
@[simp] theorem State.setAdcv_field (s : State) (k : _) (x : _) : (s.setAdcv k x).field = s.field := rfl
@[simp] theorem State.setAdcv_saf (s : State) (k : _) (x : _) : (s.setAdcv k x).saf = s.saf := rfl
@[simp] theorem State.setAdcv_pods (s : State) (k : _) (x : _) : (s.setAdcv k x).pods = s.pods := rfl
@[simp] theorem State.setAdcv_adc (s : State) (k : _) (x : _) : (s.setAdcv k x).adc = s.adc.set {} k x := rfl
@[simp] theorem State.setAdcv_can (s : State) (k : _) (x : _) : (s.setAdcv k x).can = s.can := rfl
@[simp] theorem State.setAdcv_pw (s : State) (k : _) (x : _) : (s.setAdcv k x).pw = s.pw := rfl
@[simp] theorem State.setAdcv_therm (s : State) (k : _) (x : _) : (s.setAdcv k x).therm = s.therm := rfl
@[simp] theorem State.setAdcv_thermMram (s : State) (k : _) (x : _) : (s.setAdcv k x).thermMram = s.thermMram := rfl
@[simp] theorem State.setAdcv_sec (s : State) (k : _) (x : _) : (s.setAdcv k x).sec = s.sec := rfl
@[simp] theorem State.setAdcv_flash (s : State) (k : _) (x : _) : (s.setAdcv k x).flash = s.flash := rfl
@[simp] theorem State.setAdcv_fab (s : State) (k : _) (x : _) : (s.setAdcv k x).fab = s.fab := rfl
@[simp] theorem State.setAdcv_pins (s : State) (k : _) (x : _) : (s.setAdcv k x).pins = s.pins := rfl
@[simp] theorem State.setAdcv_eventLog (s : State) (k : _) (x : _) : (s.setAdcv k x).eventLog = s.eventLog := rfl
@[simp] theorem State.setAdcv_free (s : State) (k : _) (x : _) : (s.setAdcv k x).free = s.free := rfl
@[simp] theorem State.setAdcv_planNo (s : State) (k : _) (x : _) : (s.setAdcv k x).planNo = s.planNo := rfl

@[simp] theorem State.setCanc_pending (s : State) (k : _) (x : _) : (s.setCanc k x).pending = s.pending := rfl
@[simp] theorem State.setCanc_grade (s : State) (k : _) (x : _) : (s.setCanc k x).grade = s.grade := rfl
@[simp] theorem State.setCanc_conductor (s : State) (k : _) (x : _) : (s.setCanc k x).conductor = s.conductor := rfl
@[simp] theorem State.setCanc_bootsel (s : State) (k : _) (x : _) : (s.setCanc k x).bootsel = s.bootsel := rfl
@[simp] theorem State.setCanc_uid (s : State) (k : _) (x : _) : (s.setCanc k x).uid = s.uid := rfl
@[simp] theorem State.setCanc_regs (s : State) (k : _) (x : _) : (s.setCanc k x).regs = s.regs := rfl
@[simp] theorem State.setCanc_latches (s : State) (k : _) (x : _) : (s.setCanc k x).latches = s.latches := rfl
@[simp] theorem State.setCanc_holds (s : State) (k : _) (x : _) : (s.setCanc k x).holds = s.holds := rfl
@[simp] theorem State.setCanc_time (s : State) (k : _) (x : _) : (s.setCanc k x).time = s.time := rfl
@[simp] theorem State.setCanc_cycle (s : State) (k : _) (x : _) : (s.setCanc k x).cycle = s.cycle := rfl
@[simp] theorem State.setCanc_epoch (s : State) (k : _) (x : _) : (s.setCanc k x).epoch = s.epoch := rfl
@[simp] theorem State.setCanc_nE (s : State) (k : _) (x : _) : (s.setCanc k x).nE = s.nE := rfl
@[simp] theorem State.setCanc_servo (s : State) (k : _) (x : _) : (s.setCanc k x).servo = s.servo := rfl
@[simp] theorem State.setCanc_axes (s : State) (k : _) (x : _) : (s.setCanc k x).axes = s.axes := rfl
@[simp] theorem State.setCanc_groups (s : State) (k : _) (x : _) : (s.setCanc k x).groups = s.groups := rfl
@[simp] theorem State.setCanc_host (s : State) (k : _) (x : _) : (s.setCanc k x).host = s.host := rfl
@[simp] theorem State.setCanc_stage (s : State) (k : _) (x : _) : (s.setCanc k x).stage = s.stage := rfl
@[simp] theorem State.setCanc_jnl (s : State) (k : _) (x : _) : (s.setCanc k x).jnl = s.jnl := rfl
@[simp] theorem State.setCanc_sig (s : State) (k : _) (x : _) : (s.setCanc k x).sig = s.sig := rfl
@[simp] theorem State.setCanc_fb (s : State) (k : _) (x : _) : (s.setCanc k x).fb = s.fb := rfl
@[simp] theorem State.setCanc_sdm (s : State) (k : _) (x : _) : (s.setCanc k x).sdm = s.sdm := rfl
@[simp] theorem State.setCanc_pwm (s : State) (k : _) (x : _) : (s.setCanc k x).pwm = s.pwm := rfl
@[simp] theorem State.setCanc_chop (s : State) (k : _) (x : _) : (s.setCanc k x).chop = s.chop := rfl
@[simp] theorem State.setCanc_bb (s : State) (k : _) (x : _) : (s.setCanc k x).bb = s.bb := rfl
@[simp] theorem State.setCanc_node (s : State) (k : _) (x : _) : (s.setCanc k x).node = s.node := rfl
@[simp] theorem State.setCanc_die (s : State) (k : _) (x : _) : (s.setCanc k x).die = s.die := rfl
@[simp] theorem State.setCanc_field (s : State) (k : _) (x : _) : (s.setCanc k x).field = s.field := rfl
@[simp] theorem State.setCanc_saf (s : State) (k : _) (x : _) : (s.setCanc k x).saf = s.saf := rfl
@[simp] theorem State.setCanc_pods (s : State) (k : _) (x : _) : (s.setCanc k x).pods = s.pods := rfl
@[simp] theorem State.setCanc_adc (s : State) (k : _) (x : _) : (s.setCanc k x).adc = s.adc := rfl
@[simp] theorem State.setCanc_can (s : State) (k : _) (x : _) : (s.setCanc k x).can = s.can.set {} k x := rfl
@[simp] theorem State.setCanc_pw (s : State) (k : _) (x : _) : (s.setCanc k x).pw = s.pw := rfl
@[simp] theorem State.setCanc_therm (s : State) (k : _) (x : _) : (s.setCanc k x).therm = s.therm := rfl
@[simp] theorem State.setCanc_thermMram (s : State) (k : _) (x : _) : (s.setCanc k x).thermMram = s.thermMram := rfl
@[simp] theorem State.setCanc_sec (s : State) (k : _) (x : _) : (s.setCanc k x).sec = s.sec := rfl
@[simp] theorem State.setCanc_flash (s : State) (k : _) (x : _) : (s.setCanc k x).flash = s.flash := rfl
@[simp] theorem State.setCanc_fab (s : State) (k : _) (x : _) : (s.setCanc k x).fab = s.fab := rfl
@[simp] theorem State.setCanc_pins (s : State) (k : _) (x : _) : (s.setCanc k x).pins = s.pins := rfl
@[simp] theorem State.setCanc_eventLog (s : State) (k : _) (x : _) : (s.setCanc k x).eventLog = s.eventLog := rfl
@[simp] theorem State.setCanc_free (s : State) (k : _) (x : _) : (s.setCanc k x).free = s.free := rfl
@[simp] theorem State.setCanc_planNo (s : State) (k : _) (x : _) : (s.setCanc k x).planNo = s.planNo := rfl

@[simp] theorem State.setPod_pending (s : State) (p : _) (x : _) : (s.setPod p x).pending = s.pending := rfl
@[simp] theorem State.setPod_grade (s : State) (p : _) (x : _) : (s.setPod p x).grade = s.grade := rfl
@[simp] theorem State.setPod_conductor (s : State) (p : _) (x : _) : (s.setPod p x).conductor = s.conductor := rfl
@[simp] theorem State.setPod_bootsel (s : State) (p : _) (x : _) : (s.setPod p x).bootsel = s.bootsel := rfl
@[simp] theorem State.setPod_uid (s : State) (p : _) (x : _) : (s.setPod p x).uid = s.uid := rfl
@[simp] theorem State.setPod_regs (s : State) (p : _) (x : _) : (s.setPod p x).regs = s.regs := rfl
@[simp] theorem State.setPod_latches (s : State) (p : _) (x : _) : (s.setPod p x).latches = s.latches := rfl
@[simp] theorem State.setPod_holds (s : State) (p : _) (x : _) : (s.setPod p x).holds = s.holds := rfl
@[simp] theorem State.setPod_time (s : State) (p : _) (x : _) : (s.setPod p x).time = s.time := rfl
@[simp] theorem State.setPod_cycle (s : State) (p : _) (x : _) : (s.setPod p x).cycle = s.cycle := rfl
@[simp] theorem State.setPod_epoch (s : State) (p : _) (x : _) : (s.setPod p x).epoch = s.epoch := rfl
@[simp] theorem State.setPod_nE (s : State) (p : _) (x : _) : (s.setPod p x).nE = s.nE := rfl
@[simp] theorem State.setPod_servo (s : State) (p : _) (x : _) : (s.setPod p x).servo = s.servo := rfl
@[simp] theorem State.setPod_axes (s : State) (p : _) (x : _) : (s.setPod p x).axes = s.axes := rfl
@[simp] theorem State.setPod_groups (s : State) (p : _) (x : _) : (s.setPod p x).groups = s.groups := rfl
@[simp] theorem State.setPod_host (s : State) (p : _) (x : _) : (s.setPod p x).host = s.host := rfl
@[simp] theorem State.setPod_stage (s : State) (p : _) (x : _) : (s.setPod p x).stage = s.stage := rfl
@[simp] theorem State.setPod_jnl (s : State) (p : _) (x : _) : (s.setPod p x).jnl = s.jnl := rfl
@[simp] theorem State.setPod_sig (s : State) (p : _) (x : _) : (s.setPod p x).sig = s.sig := rfl
@[simp] theorem State.setPod_fb (s : State) (p : _) (x : _) : (s.setPod p x).fb = s.fb := rfl
@[simp] theorem State.setPod_sdm (s : State) (p : _) (x : _) : (s.setPod p x).sdm = s.sdm := rfl
@[simp] theorem State.setPod_pwm (s : State) (p : _) (x : _) : (s.setPod p x).pwm = s.pwm := rfl
@[simp] theorem State.setPod_chop (s : State) (p : _) (x : _) : (s.setPod p x).chop = s.chop := rfl
@[simp] theorem State.setPod_bb (s : State) (p : _) (x : _) : (s.setPod p x).bb = s.bb := rfl
@[simp] theorem State.setPod_node (s : State) (p : _) (x : _) : (s.setPod p x).node = s.node := rfl
@[simp] theorem State.setPod_die (s : State) (p : _) (x : _) : (s.setPod p x).die = s.die := rfl
@[simp] theorem State.setPod_field (s : State) (p : _) (x : _) : (s.setPod p x).field = s.field := rfl
@[simp] theorem State.setPod_saf (s : State) (p : _) (x : _) : (s.setPod p x).saf = s.saf := rfl
@[simp] theorem State.setPod_pods (s : State) (p : _) (x : _) : (s.setPod p x).pods = s.pods.set none p x := rfl
@[simp] theorem State.setPod_adc (s : State) (p : _) (x : _) : (s.setPod p x).adc = s.adc := rfl
@[simp] theorem State.setPod_can (s : State) (p : _) (x : _) : (s.setPod p x).can = s.can := rfl
@[simp] theorem State.setPod_pw (s : State) (p : _) (x : _) : (s.setPod p x).pw = s.pw := rfl
@[simp] theorem State.setPod_therm (s : State) (p : _) (x : _) : (s.setPod p x).therm = s.therm := rfl
@[simp] theorem State.setPod_thermMram (s : State) (p : _) (x : _) : (s.setPod p x).thermMram = s.thermMram := rfl
@[simp] theorem State.setPod_sec (s : State) (p : _) (x : _) : (s.setPod p x).sec = s.sec := rfl
@[simp] theorem State.setPod_flash (s : State) (p : _) (x : _) : (s.setPod p x).flash = s.flash := rfl
@[simp] theorem State.setPod_fab (s : State) (p : _) (x : _) : (s.setPod p x).fab = s.fab := rfl
@[simp] theorem State.setPod_pins (s : State) (p : _) (x : _) : (s.setPod p x).pins = s.pins := rfl
@[simp] theorem State.setPod_eventLog (s : State) (p : _) (x : _) : (s.setPod p x).eventLog = s.eventLog := rfl
@[simp] theorem State.setPod_free (s : State) (p : _) (x : _) : (s.setPod p x).free = s.free := rfl
@[simp] theorem State.setPod_planNo (s : State) (p : _) (x : _) : (s.setPod p x).planNo = s.planNo := rfl

@[simp] theorem State.setRing_pending (s : State) (n : _) (x : _) : (s.setRing n x).pending = s.pending := rfl
@[simp] theorem State.setRing_grade (s : State) (n : _) (x : _) : (s.setRing n x).grade = s.grade := rfl
@[simp] theorem State.setRing_conductor (s : State) (n : _) (x : _) : (s.setRing n x).conductor = s.conductor := rfl
@[simp] theorem State.setRing_bootsel (s : State) (n : _) (x : _) : (s.setRing n x).bootsel = s.bootsel := rfl
@[simp] theorem State.setRing_uid (s : State) (n : _) (x : _) : (s.setRing n x).uid = s.uid := rfl
@[simp] theorem State.setRing_regs (s : State) (n : _) (x : _) : (s.setRing n x).regs = s.regs := rfl
@[simp] theorem State.setRing_latches (s : State) (n : _) (x : _) : (s.setRing n x).latches = s.latches := rfl
@[simp] theorem State.setRing_holds (s : State) (n : _) (x : _) : (s.setRing n x).holds = s.holds := rfl
@[simp] theorem State.setRing_time (s : State) (n : _) (x : _) : (s.setRing n x).time = s.time := rfl
@[simp] theorem State.setRing_cycle (s : State) (n : _) (x : _) : (s.setRing n x).cycle = s.cycle := rfl
@[simp] theorem State.setRing_epoch (s : State) (n : _) (x : _) : (s.setRing n x).epoch = s.epoch := rfl
@[simp] theorem State.setRing_nE (s : State) (n : _) (x : _) : (s.setRing n x).nE = s.nE := rfl
@[simp] theorem State.setRing_servo (s : State) (n : _) (x : _) : (s.setRing n x).servo = s.servo := rfl
@[simp] theorem State.setRing_axes (s : State) (n : _) (x : _) : (s.setRing n x).axes = s.axes := rfl
@[simp] theorem State.setRing_groups (s : State) (n : _) (x : _) : (s.setRing n x).groups = s.groups := rfl
@[simp] theorem State.setRing_host (s : State) (n : _) (x : _) : (s.setRing n x).host = { s.host with rings := s.host.rings.set {} n x } := rfl
@[simp] theorem State.setRing_stage (s : State) (n : _) (x : _) : (s.setRing n x).stage = s.stage := rfl
@[simp] theorem State.setRing_jnl (s : State) (n : _) (x : _) : (s.setRing n x).jnl = s.jnl := rfl
@[simp] theorem State.setRing_sig (s : State) (n : _) (x : _) : (s.setRing n x).sig = s.sig := rfl
@[simp] theorem State.setRing_fb (s : State) (n : _) (x : _) : (s.setRing n x).fb = s.fb := rfl
@[simp] theorem State.setRing_sdm (s : State) (n : _) (x : _) : (s.setRing n x).sdm = s.sdm := rfl
@[simp] theorem State.setRing_pwm (s : State) (n : _) (x : _) : (s.setRing n x).pwm = s.pwm := rfl
@[simp] theorem State.setRing_chop (s : State) (n : _) (x : _) : (s.setRing n x).chop = s.chop := rfl
@[simp] theorem State.setRing_bb (s : State) (n : _) (x : _) : (s.setRing n x).bb = s.bb := rfl
@[simp] theorem State.setRing_node (s : State) (n : _) (x : _) : (s.setRing n x).node = s.node := rfl
@[simp] theorem State.setRing_die (s : State) (n : _) (x : _) : (s.setRing n x).die = s.die := rfl
@[simp] theorem State.setRing_field (s : State) (n : _) (x : _) : (s.setRing n x).field = s.field := rfl
@[simp] theorem State.setRing_saf (s : State) (n : _) (x : _) : (s.setRing n x).saf = s.saf := rfl
@[simp] theorem State.setRing_pods (s : State) (n : _) (x : _) : (s.setRing n x).pods = s.pods := rfl
@[simp] theorem State.setRing_adc (s : State) (n : _) (x : _) : (s.setRing n x).adc = s.adc := rfl
@[simp] theorem State.setRing_can (s : State) (n : _) (x : _) : (s.setRing n x).can = s.can := rfl
@[simp] theorem State.setRing_pw (s : State) (n : _) (x : _) : (s.setRing n x).pw = s.pw := rfl
@[simp] theorem State.setRing_therm (s : State) (n : _) (x : _) : (s.setRing n x).therm = s.therm := rfl
@[simp] theorem State.setRing_thermMram (s : State) (n : _) (x : _) : (s.setRing n x).thermMram = s.thermMram := rfl
@[simp] theorem State.setRing_sec (s : State) (n : _) (x : _) : (s.setRing n x).sec = s.sec := rfl
@[simp] theorem State.setRing_flash (s : State) (n : _) (x : _) : (s.setRing n x).flash = s.flash := rfl
@[simp] theorem State.setRing_fab (s : State) (n : _) (x : _) : (s.setRing n x).fab = s.fab := rfl
@[simp] theorem State.setRing_pins (s : State) (n : _) (x : _) : (s.setRing n x).pins = s.pins := rfl
@[simp] theorem State.setRing_eventLog (s : State) (n : _) (x : _) : (s.setRing n x).eventLog = s.eventLog := rfl
@[simp] theorem State.setRing_free (s : State) (n : _) (x : _) : (s.setRing n x).free = s.free := rfl
@[simp] theorem State.setRing_planNo (s : State) (n : _) (x : _) : (s.setRing n x).planNo = s.planNo := rfl

@[simp] theorem State.setNoderec_pending (s : State) (n : _) (x : _) : (s.setNoderec n x).pending = s.pending := rfl
@[simp] theorem State.setNoderec_grade (s : State) (n : _) (x : _) : (s.setNoderec n x).grade = s.grade := rfl
@[simp] theorem State.setNoderec_conductor (s : State) (n : _) (x : _) : (s.setNoderec n x).conductor = s.conductor := rfl
@[simp] theorem State.setNoderec_bootsel (s : State) (n : _) (x : _) : (s.setNoderec n x).bootsel = s.bootsel := rfl
@[simp] theorem State.setNoderec_uid (s : State) (n : _) (x : _) : (s.setNoderec n x).uid = s.uid := rfl
@[simp] theorem State.setNoderec_regs (s : State) (n : _) (x : _) : (s.setNoderec n x).regs = s.regs := rfl
@[simp] theorem State.setNoderec_latches (s : State) (n : _) (x : _) : (s.setNoderec n x).latches = s.latches := rfl
@[simp] theorem State.setNoderec_holds (s : State) (n : _) (x : _) : (s.setNoderec n x).holds = s.holds := rfl
@[simp] theorem State.setNoderec_time (s : State) (n : _) (x : _) : (s.setNoderec n x).time = s.time := rfl
@[simp] theorem State.setNoderec_cycle (s : State) (n : _) (x : _) : (s.setNoderec n x).cycle = s.cycle := rfl
@[simp] theorem State.setNoderec_epoch (s : State) (n : _) (x : _) : (s.setNoderec n x).epoch = s.epoch := rfl
@[simp] theorem State.setNoderec_nE (s : State) (n : _) (x : _) : (s.setNoderec n x).nE = s.nE := rfl
@[simp] theorem State.setNoderec_servo (s : State) (n : _) (x : _) : (s.setNoderec n x).servo = s.servo := rfl
@[simp] theorem State.setNoderec_axes (s : State) (n : _) (x : _) : (s.setNoderec n x).axes = s.axes := rfl
@[simp] theorem State.setNoderec_groups (s : State) (n : _) (x : _) : (s.setNoderec n x).groups = s.groups := rfl
@[simp] theorem State.setNoderec_host (s : State) (n : _) (x : _) : (s.setNoderec n x).host = s.host := rfl
@[simp] theorem State.setNoderec_stage (s : State) (n : _) (x : _) : (s.setNoderec n x).stage = s.stage := rfl
@[simp] theorem State.setNoderec_jnl (s : State) (n : _) (x : _) : (s.setNoderec n x).jnl = s.jnl := rfl
@[simp] theorem State.setNoderec_sig (s : State) (n : _) (x : _) : (s.setNoderec n x).sig = s.sig := rfl
@[simp] theorem State.setNoderec_fb (s : State) (n : _) (x : _) : (s.setNoderec n x).fb = s.fb := rfl
@[simp] theorem State.setNoderec_sdm (s : State) (n : _) (x : _) : (s.setNoderec n x).sdm = s.sdm := rfl
@[simp] theorem State.setNoderec_pwm (s : State) (n : _) (x : _) : (s.setNoderec n x).pwm = s.pwm := rfl
@[simp] theorem State.setNoderec_chop (s : State) (n : _) (x : _) : (s.setNoderec n x).chop = s.chop := rfl
@[simp] theorem State.setNoderec_bb (s : State) (n : _) (x : _) : (s.setNoderec n x).bb = { s.bb with nodes := s.bb.nodes.set {} n x } := rfl
@[simp] theorem State.setNoderec_node (s : State) (n : _) (x : _) : (s.setNoderec n x).node = s.node := rfl
@[simp] theorem State.setNoderec_die (s : State) (n : _) (x : _) : (s.setNoderec n x).die = s.die := rfl
@[simp] theorem State.setNoderec_field (s : State) (n : _) (x : _) : (s.setNoderec n x).field = s.field := rfl
@[simp] theorem State.setNoderec_saf (s : State) (n : _) (x : _) : (s.setNoderec n x).saf = s.saf := rfl
@[simp] theorem State.setNoderec_pods (s : State) (n : _) (x : _) : (s.setNoderec n x).pods = s.pods := rfl
@[simp] theorem State.setNoderec_adc (s : State) (n : _) (x : _) : (s.setNoderec n x).adc = s.adc := rfl
@[simp] theorem State.setNoderec_can (s : State) (n : _) (x : _) : (s.setNoderec n x).can = s.can := rfl
@[simp] theorem State.setNoderec_pw (s : State) (n : _) (x : _) : (s.setNoderec n x).pw = s.pw := rfl
@[simp] theorem State.setNoderec_therm (s : State) (n : _) (x : _) : (s.setNoderec n x).therm = s.therm := rfl
@[simp] theorem State.setNoderec_thermMram (s : State) (n : _) (x : _) : (s.setNoderec n x).thermMram = s.thermMram := rfl
@[simp] theorem State.setNoderec_sec (s : State) (n : _) (x : _) : (s.setNoderec n x).sec = s.sec := rfl
@[simp] theorem State.setNoderec_flash (s : State) (n : _) (x : _) : (s.setNoderec n x).flash = s.flash := rfl
@[simp] theorem State.setNoderec_fab (s : State) (n : _) (x : _) : (s.setNoderec n x).fab = s.fab := rfl
@[simp] theorem State.setNoderec_pins (s : State) (n : _) (x : _) : (s.setNoderec n x).pins = s.pins := rfl
@[simp] theorem State.setNoderec_eventLog (s : State) (n : _) (x : _) : (s.setNoderec n x).eventLog = s.eventLog := rfl
@[simp] theorem State.setNoderec_free (s : State) (n : _) (x : _) : (s.setNoderec n x).free = s.free := rfl
@[simp] theorem State.setNoderec_planNo (s : State) (n : _) (x : _) : (s.setNoderec n x).planNo = s.planNo := rfl

@[simp] theorem State.setLane_pending (s : State) (n : _) (x : _) : (s.setLane n x).pending = s.pending := rfl
@[simp] theorem State.setLane_grade (s : State) (n : _) (x : _) : (s.setLane n x).grade = s.grade := rfl
@[simp] theorem State.setLane_conductor (s : State) (n : _) (x : _) : (s.setLane n x).conductor = s.conductor := rfl
@[simp] theorem State.setLane_bootsel (s : State) (n : _) (x : _) : (s.setLane n x).bootsel = s.bootsel := rfl
@[simp] theorem State.setLane_uid (s : State) (n : _) (x : _) : (s.setLane n x).uid = s.uid := rfl
@[simp] theorem State.setLane_regs (s : State) (n : _) (x : _) : (s.setLane n x).regs = s.regs := rfl
@[simp] theorem State.setLane_latches (s : State) (n : _) (x : _) : (s.setLane n x).latches = s.latches := rfl
@[simp] theorem State.setLane_holds (s : State) (n : _) (x : _) : (s.setLane n x).holds = s.holds := rfl
@[simp] theorem State.setLane_time (s : State) (n : _) (x : _) : (s.setLane n x).time = s.time := rfl
@[simp] theorem State.setLane_cycle (s : State) (n : _) (x : _) : (s.setLane n x).cycle = s.cycle := rfl
@[simp] theorem State.setLane_epoch (s : State) (n : _) (x : _) : (s.setLane n x).epoch = s.epoch := rfl
@[simp] theorem State.setLane_nE (s : State) (n : _) (x : _) : (s.setLane n x).nE = s.nE := rfl
@[simp] theorem State.setLane_servo (s : State) (n : _) (x : _) : (s.setLane n x).servo = s.servo := rfl
@[simp] theorem State.setLane_axes (s : State) (n : _) (x : _) : (s.setLane n x).axes = s.axes := rfl
@[simp] theorem State.setLane_groups (s : State) (n : _) (x : _) : (s.setLane n x).groups = s.groups := rfl
@[simp] theorem State.setLane_host (s : State) (n : _) (x : _) : (s.setLane n x).host = s.host := rfl
@[simp] theorem State.setLane_stage (s : State) (n : _) (x : _) : (s.setLane n x).stage = s.stage := rfl
@[simp] theorem State.setLane_jnl (s : State) (n : _) (x : _) : (s.setLane n x).jnl = s.jnl := rfl
@[simp] theorem State.setLane_sig (s : State) (n : _) (x : _) : (s.setLane n x).sig = s.sig := rfl
@[simp] theorem State.setLane_fb (s : State) (n : _) (x : _) : (s.setLane n x).fb = s.fb := rfl
@[simp] theorem State.setLane_sdm (s : State) (n : _) (x : _) : (s.setLane n x).sdm = s.sdm := rfl
@[simp] theorem State.setLane_pwm (s : State) (n : _) (x : _) : (s.setLane n x).pwm = s.pwm := rfl
@[simp] theorem State.setLane_chop (s : State) (n : _) (x : _) : (s.setLane n x).chop = s.chop := rfl
@[simp] theorem State.setLane_bb (s : State) (n : _) (x : _) : (s.setLane n x).bb = { s.bb with lanes := s.bb.lanes.set n x } := rfl
@[simp] theorem State.setLane_node (s : State) (n : _) (x : _) : (s.setLane n x).node = s.node := rfl
@[simp] theorem State.setLane_die (s : State) (n : _) (x : _) : (s.setLane n x).die = s.die := rfl
@[simp] theorem State.setLane_field (s : State) (n : _) (x : _) : (s.setLane n x).field = s.field := rfl
@[simp] theorem State.setLane_saf (s : State) (n : _) (x : _) : (s.setLane n x).saf = s.saf := rfl
@[simp] theorem State.setLane_pods (s : State) (n : _) (x : _) : (s.setLane n x).pods = s.pods := rfl
@[simp] theorem State.setLane_adc (s : State) (n : _) (x : _) : (s.setLane n x).adc = s.adc := rfl
@[simp] theorem State.setLane_can (s : State) (n : _) (x : _) : (s.setLane n x).can = s.can := rfl
@[simp] theorem State.setLane_pw (s : State) (n : _) (x : _) : (s.setLane n x).pw = s.pw := rfl
@[simp] theorem State.setLane_therm (s : State) (n : _) (x : _) : (s.setLane n x).therm = s.therm := rfl
@[simp] theorem State.setLane_thermMram (s : State) (n : _) (x : _) : (s.setLane n x).thermMram = s.thermMram := rfl
@[simp] theorem State.setLane_sec (s : State) (n : _) (x : _) : (s.setLane n x).sec = s.sec := rfl
@[simp] theorem State.setLane_flash (s : State) (n : _) (x : _) : (s.setLane n x).flash = s.flash := rfl
@[simp] theorem State.setLane_fab (s : State) (n : _) (x : _) : (s.setLane n x).fab = s.fab := rfl
@[simp] theorem State.setLane_pins (s : State) (n : _) (x : _) : (s.setLane n x).pins = s.pins := rfl
@[simp] theorem State.setLane_eventLog (s : State) (n : _) (x : _) : (s.setLane n x).eventLog = s.eventLog := rfl
@[simp] theorem State.setLane_free (s : State) (n : _) (x : _) : (s.setLane n x).free = s.free := rfl
@[simp] theorem State.setLane_planNo (s : State) (n : _) (x : _) : (s.setLane n x).planNo = s.planNo := rfl

@[simp] theorem State.memWr_pending (s : State) (a : _) (bs : _) : (s.memWr a bs).pending = s.pending := rfl
@[simp] theorem State.memWr_grade (s : State) (a : _) (bs : _) : (s.memWr a bs).grade = s.grade := rfl
@[simp] theorem State.memWr_conductor (s : State) (a : _) (bs : _) : (s.memWr a bs).conductor = s.conductor := rfl
@[simp] theorem State.memWr_bootsel (s : State) (a : _) (bs : _) : (s.memWr a bs).bootsel = s.bootsel := rfl
@[simp] theorem State.memWr_uid (s : State) (a : _) (bs : _) : (s.memWr a bs).uid = s.uid := rfl
@[simp] theorem State.memWr_regs (s : State) (a : _) (bs : _) : (s.memWr a bs).regs = s.regs := rfl
@[simp] theorem State.memWr_latches (s : State) (a : _) (bs : _) : (s.memWr a bs).latches = s.latches := rfl
@[simp] theorem State.memWr_holds (s : State) (a : _) (bs : _) : (s.memWr a bs).holds = s.holds := rfl
@[simp] theorem State.memWr_time (s : State) (a : _) (bs : _) : (s.memWr a bs).time = s.time := rfl
@[simp] theorem State.memWr_cycle (s : State) (a : _) (bs : _) : (s.memWr a bs).cycle = s.cycle := rfl
@[simp] theorem State.memWr_epoch (s : State) (a : _) (bs : _) : (s.memWr a bs).epoch = s.epoch := rfl
@[simp] theorem State.memWr_nE (s : State) (a : _) (bs : _) : (s.memWr a bs).nE = s.nE := rfl
@[simp] theorem State.memWr_servo (s : State) (a : _) (bs : _) : (s.memWr a bs).servo = s.servo := rfl
@[simp] theorem State.memWr_axes (s : State) (a : _) (bs : _) : (s.memWr a bs).axes = s.axes := rfl
@[simp] theorem State.memWr_groups (s : State) (a : _) (bs : _) : (s.memWr a bs).groups = s.groups := rfl
@[simp] theorem State.memWr_host (s : State) (a : _) (bs : _) : (s.memWr a bs).host = { s.host with mem := writeMem s.host.mem a bs } := rfl
@[simp] theorem State.memWr_stage (s : State) (a : _) (bs : _) : (s.memWr a bs).stage = s.stage := rfl
@[simp] theorem State.memWr_jnl (s : State) (a : _) (bs : _) : (s.memWr a bs).jnl = s.jnl := rfl
@[simp] theorem State.memWr_sig (s : State) (a : _) (bs : _) : (s.memWr a bs).sig = s.sig := rfl
@[simp] theorem State.memWr_fb (s : State) (a : _) (bs : _) : (s.memWr a bs).fb = s.fb := rfl
@[simp] theorem State.memWr_sdm (s : State) (a : _) (bs : _) : (s.memWr a bs).sdm = s.sdm := rfl
@[simp] theorem State.memWr_pwm (s : State) (a : _) (bs : _) : (s.memWr a bs).pwm = s.pwm := rfl
@[simp] theorem State.memWr_chop (s : State) (a : _) (bs : _) : (s.memWr a bs).chop = s.chop := rfl
@[simp] theorem State.memWr_bb (s : State) (a : _) (bs : _) : (s.memWr a bs).bb = s.bb := rfl
@[simp] theorem State.memWr_node (s : State) (a : _) (bs : _) : (s.memWr a bs).node = s.node := rfl
@[simp] theorem State.memWr_die (s : State) (a : _) (bs : _) : (s.memWr a bs).die = s.die := rfl
@[simp] theorem State.memWr_field (s : State) (a : _) (bs : _) : (s.memWr a bs).field = s.field := rfl
@[simp] theorem State.memWr_saf (s : State) (a : _) (bs : _) : (s.memWr a bs).saf = s.saf := rfl
@[simp] theorem State.memWr_pods (s : State) (a : _) (bs : _) : (s.memWr a bs).pods = s.pods := rfl
@[simp] theorem State.memWr_adc (s : State) (a : _) (bs : _) : (s.memWr a bs).adc = s.adc := rfl
@[simp] theorem State.memWr_can (s : State) (a : _) (bs : _) : (s.memWr a bs).can = s.can := rfl
@[simp] theorem State.memWr_pw (s : State) (a : _) (bs : _) : (s.memWr a bs).pw = s.pw := rfl
@[simp] theorem State.memWr_therm (s : State) (a : _) (bs : _) : (s.memWr a bs).therm = s.therm := rfl
@[simp] theorem State.memWr_thermMram (s : State) (a : _) (bs : _) : (s.memWr a bs).thermMram = s.thermMram := rfl
@[simp] theorem State.memWr_sec (s : State) (a : _) (bs : _) : (s.memWr a bs).sec = s.sec := rfl
@[simp] theorem State.memWr_flash (s : State) (a : _) (bs : _) : (s.memWr a bs).flash = s.flash := rfl
@[simp] theorem State.memWr_fab (s : State) (a : _) (bs : _) : (s.memWr a bs).fab = s.fab := rfl
@[simp] theorem State.memWr_pins (s : State) (a : _) (bs : _) : (s.memWr a bs).pins = s.pins := rfl
@[simp] theorem State.memWr_eventLog (s : State) (a : _) (bs : _) : (s.memWr a bs).eventLog = s.eventLog := rfl
@[simp] theorem State.memWr_free (s : State) (a : _) (bs : _) : (s.memWr a bs).free = s.free := rfl
@[simp] theorem State.memWr_planNo (s : State) (a : _) (bs : _) : (s.memWr a bs).planNo = s.planNo := rfl

@[simp] theorem State.setSigWord_pending (s : State) (w : _) (v : _) : (s.setSigWord w v).pending = s.pending := rfl
@[simp] theorem State.setSigWord_grade (s : State) (w : _) (v : _) : (s.setSigWord w v).grade = s.grade := rfl
@[simp] theorem State.setSigWord_conductor (s : State) (w : _) (v : _) : (s.setSigWord w v).conductor = s.conductor := rfl
@[simp] theorem State.setSigWord_bootsel (s : State) (w : _) (v : _) : (s.setSigWord w v).bootsel = s.bootsel := rfl
@[simp] theorem State.setSigWord_uid (s : State) (w : _) (v : _) : (s.setSigWord w v).uid = s.uid := rfl
@[simp] theorem State.setSigWord_regs (s : State) (w : _) (v : _) : (s.setSigWord w v).regs = s.regs := rfl
@[simp] theorem State.setSigWord_latches (s : State) (w : _) (v : _) : (s.setSigWord w v).latches = s.latches := rfl
@[simp] theorem State.setSigWord_holds (s : State) (w : _) (v : _) : (s.setSigWord w v).holds = s.holds := rfl
@[simp] theorem State.setSigWord_time (s : State) (w : _) (v : _) : (s.setSigWord w v).time = s.time := rfl
@[simp] theorem State.setSigWord_cycle (s : State) (w : _) (v : _) : (s.setSigWord w v).cycle = s.cycle := rfl
@[simp] theorem State.setSigWord_epoch (s : State) (w : _) (v : _) : (s.setSigWord w v).epoch = s.epoch := rfl
@[simp] theorem State.setSigWord_nE (s : State) (w : _) (v : _) : (s.setSigWord w v).nE = s.nE := rfl
@[simp] theorem State.setSigWord_servo (s : State) (w : _) (v : _) : (s.setSigWord w v).servo = s.servo := rfl
@[simp] theorem State.setSigWord_axes (s : State) (w : _) (v : _) : (s.setSigWord w v).axes = s.axes := rfl
@[simp] theorem State.setSigWord_groups (s : State) (w : _) (v : _) : (s.setSigWord w v).groups = s.groups := rfl
@[simp] theorem State.setSigWord_host (s : State) (w : _) (v : _) : (s.setSigWord w v).host = s.host := rfl
@[simp] theorem State.setSigWord_stage (s : State) (w : _) (v : _) : (s.setSigWord w v).stage = s.stage := rfl
@[simp] theorem State.setSigWord_jnl (s : State) (w : _) (v : _) : (s.setSigWord w v).jnl = s.jnl := rfl
@[simp] theorem State.setSigWord_sig (s : State) (w : _) (v : _) : (s.setSigWord w v).sig = { s.sig with words := s.sig.words.set 0 w v } := rfl
@[simp] theorem State.setSigWord_fb (s : State) (w : _) (v : _) : (s.setSigWord w v).fb = s.fb := rfl
@[simp] theorem State.setSigWord_sdm (s : State) (w : _) (v : _) : (s.setSigWord w v).sdm = s.sdm := rfl
@[simp] theorem State.setSigWord_pwm (s : State) (w : _) (v : _) : (s.setSigWord w v).pwm = s.pwm := rfl
@[simp] theorem State.setSigWord_chop (s : State) (w : _) (v : _) : (s.setSigWord w v).chop = s.chop := rfl
@[simp] theorem State.setSigWord_bb (s : State) (w : _) (v : _) : (s.setSigWord w v).bb = s.bb := rfl
@[simp] theorem State.setSigWord_node (s : State) (w : _) (v : _) : (s.setSigWord w v).node = s.node := rfl
@[simp] theorem State.setSigWord_die (s : State) (w : _) (v : _) : (s.setSigWord w v).die = s.die := rfl
@[simp] theorem State.setSigWord_field (s : State) (w : _) (v : _) : (s.setSigWord w v).field = s.field := rfl
@[simp] theorem State.setSigWord_saf (s : State) (w : _) (v : _) : (s.setSigWord w v).saf = s.saf := rfl
@[simp] theorem State.setSigWord_pods (s : State) (w : _) (v : _) : (s.setSigWord w v).pods = s.pods := rfl
@[simp] theorem State.setSigWord_adc (s : State) (w : _) (v : _) : (s.setSigWord w v).adc = s.adc := rfl
@[simp] theorem State.setSigWord_can (s : State) (w : _) (v : _) : (s.setSigWord w v).can = s.can := rfl
@[simp] theorem State.setSigWord_pw (s : State) (w : _) (v : _) : (s.setSigWord w v).pw = s.pw := rfl
@[simp] theorem State.setSigWord_therm (s : State) (w : _) (v : _) : (s.setSigWord w v).therm = s.therm := rfl
@[simp] theorem State.setSigWord_thermMram (s : State) (w : _) (v : _) : (s.setSigWord w v).thermMram = s.thermMram := rfl
@[simp] theorem State.setSigWord_sec (s : State) (w : _) (v : _) : (s.setSigWord w v).sec = s.sec := rfl
@[simp] theorem State.setSigWord_flash (s : State) (w : _) (v : _) : (s.setSigWord w v).flash = s.flash := rfl
@[simp] theorem State.setSigWord_fab (s : State) (w : _) (v : _) : (s.setSigWord w v).fab = s.fab := rfl
@[simp] theorem State.setSigWord_pins (s : State) (w : _) (v : _) : (s.setSigWord w v).pins = s.pins := rfl
@[simp] theorem State.setSigWord_eventLog (s : State) (w : _) (v : _) : (s.setSigWord w v).eventLog = s.eventLog := rfl
@[simp] theorem State.setSigWord_free (s : State) (w : _) (v : _) : (s.setSigWord w v).free = s.free := rfl
@[simp] theorem State.setSigWord_planNo (s : State) (w : _) (v : _) : (s.setSigWord w v).planNo = s.planNo := rfl

@[simp] theorem State.setBlockStat_pending (s : State) (b : _) (x : _) : (s.setBlockStat b x).pending = s.pending := rfl
@[simp] theorem State.setBlockStat_grade (s : State) (b : _) (x : _) : (s.setBlockStat b x).grade = s.grade := rfl
@[simp] theorem State.setBlockStat_conductor (s : State) (b : _) (x : _) : (s.setBlockStat b x).conductor = s.conductor := rfl
@[simp] theorem State.setBlockStat_bootsel (s : State) (b : _) (x : _) : (s.setBlockStat b x).bootsel = s.bootsel := rfl
@[simp] theorem State.setBlockStat_uid (s : State) (b : _) (x : _) : (s.setBlockStat b x).uid = s.uid := rfl
@[simp] theorem State.setBlockStat_regs (s : State) (b : _) (x : _) : (s.setBlockStat b x).regs = s.regs := rfl
@[simp] theorem State.setBlockStat_latches (s : State) (b : _) (x : _) : (s.setBlockStat b x).latches = s.latches := rfl
@[simp] theorem State.setBlockStat_holds (s : State) (b : _) (x : _) : (s.setBlockStat b x).holds = s.holds := rfl
@[simp] theorem State.setBlockStat_time (s : State) (b : _) (x : _) : (s.setBlockStat b x).time = s.time := rfl
@[simp] theorem State.setBlockStat_cycle (s : State) (b : _) (x : _) : (s.setBlockStat b x).cycle = s.cycle := rfl
@[simp] theorem State.setBlockStat_epoch (s : State) (b : _) (x : _) : (s.setBlockStat b x).epoch = s.epoch := rfl
@[simp] theorem State.setBlockStat_nE (s : State) (b : _) (x : _) : (s.setBlockStat b x).nE = s.nE := rfl
@[simp] theorem State.setBlockStat_servo (s : State) (b : _) (x : _) : (s.setBlockStat b x).servo = s.servo := rfl
@[simp] theorem State.setBlockStat_axes (s : State) (b : _) (x : _) : (s.setBlockStat b x).axes = s.axes := rfl
@[simp] theorem State.setBlockStat_groups (s : State) (b : _) (x : _) : (s.setBlockStat b x).groups = s.groups := rfl
@[simp] theorem State.setBlockStat_host (s : State) (b : _) (x : _) : (s.setBlockStat b x).host = s.host := rfl
@[simp] theorem State.setBlockStat_stage (s : State) (b : _) (x : _) : (s.setBlockStat b x).stage = s.stage := rfl
@[simp] theorem State.setBlockStat_jnl (s : State) (b : _) (x : _) : (s.setBlockStat b x).jnl = s.jnl := rfl
@[simp] theorem State.setBlockStat_sig (s : State) (b : _) (x : _) : (s.setBlockStat b x).sig = { s.sig with stats := s.sig.stats.set {} b x } := rfl
@[simp] theorem State.setBlockStat_fb (s : State) (b : _) (x : _) : (s.setBlockStat b x).fb = s.fb := rfl
@[simp] theorem State.setBlockStat_sdm (s : State) (b : _) (x : _) : (s.setBlockStat b x).sdm = s.sdm := rfl
@[simp] theorem State.setBlockStat_pwm (s : State) (b : _) (x : _) : (s.setBlockStat b x).pwm = s.pwm := rfl
@[simp] theorem State.setBlockStat_chop (s : State) (b : _) (x : _) : (s.setBlockStat b x).chop = s.chop := rfl
@[simp] theorem State.setBlockStat_bb (s : State) (b : _) (x : _) : (s.setBlockStat b x).bb = s.bb := rfl
@[simp] theorem State.setBlockStat_node (s : State) (b : _) (x : _) : (s.setBlockStat b x).node = s.node := rfl
@[simp] theorem State.setBlockStat_die (s : State) (b : _) (x : _) : (s.setBlockStat b x).die = s.die := rfl
@[simp] theorem State.setBlockStat_field (s : State) (b : _) (x : _) : (s.setBlockStat b x).field = s.field := rfl
@[simp] theorem State.setBlockStat_saf (s : State) (b : _) (x : _) : (s.setBlockStat b x).saf = s.saf := rfl
@[simp] theorem State.setBlockStat_pods (s : State) (b : _) (x : _) : (s.setBlockStat b x).pods = s.pods := rfl
@[simp] theorem State.setBlockStat_adc (s : State) (b : _) (x : _) : (s.setBlockStat b x).adc = s.adc := rfl
@[simp] theorem State.setBlockStat_can (s : State) (b : _) (x : _) : (s.setBlockStat b x).can = s.can := rfl
@[simp] theorem State.setBlockStat_pw (s : State) (b : _) (x : _) : (s.setBlockStat b x).pw = s.pw := rfl
@[simp] theorem State.setBlockStat_therm (s : State) (b : _) (x : _) : (s.setBlockStat b x).therm = s.therm := rfl
@[simp] theorem State.setBlockStat_thermMram (s : State) (b : _) (x : _) : (s.setBlockStat b x).thermMram = s.thermMram := rfl
@[simp] theorem State.setBlockStat_sec (s : State) (b : _) (x : _) : (s.setBlockStat b x).sec = s.sec := rfl
@[simp] theorem State.setBlockStat_flash (s : State) (b : _) (x : _) : (s.setBlockStat b x).flash = s.flash := rfl
@[simp] theorem State.setBlockStat_fab (s : State) (b : _) (x : _) : (s.setBlockStat b x).fab = s.fab := rfl
@[simp] theorem State.setBlockStat_pins (s : State) (b : _) (x : _) : (s.setBlockStat b x).pins = s.pins := rfl
@[simp] theorem State.setBlockStat_eventLog (s : State) (b : _) (x : _) : (s.setBlockStat b x).eventLog = s.eventLog := rfl
@[simp] theorem State.setBlockStat_free (s : State) (b : _) (x : _) : (s.setBlockStat b x).free = s.free := rfl
@[simp] theorem State.setBlockStat_planNo (s : State) (b : _) (x : _) : (s.setBlockStat b x).planNo = s.planNo := rfl

/-! ### Reads after updates -/

@[simp] theorem State.setAxis_axis_self (s : State) (k : Nat) (x : _) : (s.setAxis k x).axis k = x :=
  SMap.get_set_self _ _ _ _

@[simp] theorem State.setAxis_axis_ne (s : State) {k j : Nat} (x : _) (h : j ≠ k) : (s.setAxis k x).axis j = s.axis j :=
  SMap.get_set_ne _ _ _ _ h

@[simp] theorem State.setGroup_group_self (s : State) (k : Nat) (x : _) : (s.setGroup k x).group k = x :=
  SMap.get_set_self _ _ _ _

@[simp] theorem State.setGroup_group_ne (s : State) {k j : Nat} (x : _) (h : j ≠ k) : (s.setGroup k x).group j = s.group j :=
  SMap.get_set_ne _ _ _ _ h

@[simp] theorem State.setFbp_fbp_self (s : State) (k : Nat) (x : _) : (s.setFbp k x).fbp k = x :=
  SMap.get_set_self _ _ _ _

@[simp] theorem State.setFbp_fbp_ne (s : State) {k j : Nat} (x : _) (h : j ≠ k) : (s.setFbp k x).fbp j = s.fbp j :=
  SMap.get_set_ne _ _ _ _ h

@[simp] theorem State.setPwmp_pwmp_self (s : State) (k : Nat) (x : _) : (s.setPwmp k x).pwmp k = x :=
  SMap.get_set_self _ _ _ _

@[simp] theorem State.setPwmp_pwmp_ne (s : State) {k j : Nat} (x : _) (h : j ≠ k) : (s.setPwmp k x).pwmp j = s.pwmp j :=
  SMap.get_set_ne _ _ _ _ h

@[simp] theorem State.setSdmc_sdmc_self (s : State) (k : Nat) (x : _) : (s.setSdmc k x).sdmc k = x :=
  SMap.get_set_self _ _ _ _

@[simp] theorem State.setSdmc_sdmc_ne (s : State) {k j : Nat} (x : _) (h : j ≠ k) : (s.setSdmc k x).sdmc j = s.sdmc j :=
  SMap.get_set_ne _ _ _ _ h

@[simp] theorem State.setChopper_chopper_self (s : State) (k : Nat) (x : _) : (s.setChopper k x).chopper k = x :=
  SMap.get_set_self _ _ _ _

@[simp] theorem State.setChopper_chopper_ne (s : State) {k j : Nat} (x : _) (h : j ≠ k) : (s.setChopper k x).chopper j = s.chopper j :=
  SMap.get_set_ne _ _ _ _ h

@[simp] theorem State.setAdcv_adcv_self (s : State) (k : Nat) (x : _) : (s.setAdcv k x).adcv k = x :=
  SMap.get_set_self _ _ _ _

@[simp] theorem State.setAdcv_adcv_ne (s : State) {k j : Nat} (x : _) (h : j ≠ k) : (s.setAdcv k x).adcv j = s.adcv j :=
  SMap.get_set_ne _ _ _ _ h

@[simp] theorem State.setCanc_canc_self (s : State) (k : Nat) (x : _) : (s.setCanc k x).canc k = x :=
  SMap.get_set_self _ _ _ _

@[simp] theorem State.setCanc_canc_ne (s : State) {k j : Nat} (x : _) (h : j ≠ k) : (s.setCanc k x).canc j = s.canc j :=
  SMap.get_set_ne _ _ _ _ h

@[simp] theorem State.setPod_pod_self (s : State) (k : Nat) (x : _) : (s.setPod k x).pod k = x :=
  SMap.get_set_self _ _ _ _

@[simp] theorem State.setPod_pod_ne (s : State) {k j : Nat} (x : _) (h : j ≠ k) : (s.setPod k x).pod j = s.pod j :=
  SMap.get_set_ne _ _ _ _ h

@[simp] theorem State.setRing_ring_self (s : State) (k : Nat) (x : _) : (s.setRing k x).ring k = x :=
  SMap.get_set_self _ _ _ _

@[simp] theorem State.setRing_ring_ne (s : State) {k j : Nat} (x : _) (h : j ≠ k) : (s.setRing k x).ring j = s.ring j :=
  SMap.get_set_ne _ _ _ _ h

@[simp] theorem State.setNoderec_noderec_self (s : State) (k : Nat) (x : _) : (s.setNoderec k x).noderec k = x :=
  SMap.get_set_self _ _ _ _

@[simp] theorem State.setNoderec_noderec_ne (s : State) {k j : Nat} (x : _) (h : j ≠ k) : (s.setNoderec k x).noderec j = s.noderec j :=
  SMap.get_set_ne _ _ _ _ h

@[simp] theorem State.setReg_reg_self (s : State) (k : Nat) (v : Reg32) : (s.setReg k v).reg k = v :=
  SMap.get_set_self _ _ _ _

@[simp] theorem State.setReg_reg_ne (s : State) {k j : Nat} (v : Reg32) (h : j ≠ k) : (s.setReg k v).reg j = s.reg j :=
  SMap.get_set_ne _ _ _ _ h

@[simp] theorem State.setFld_reg_ne (s : State) {off j : Nat} (lo : _) (w : _) (x : _) (h : j ≠ off) :
    (s.setFld off lo w x).reg j = s.reg j :=
  State.setReg_reg_ne s _ h

@[simp] theorem State.setBit_reg_ne (s : State) {off j : Nat} (i : _) (v : _) (h : j ≠ off) :
    (s.setBit off i v).reg j = s.reg j :=
  State.setReg_reg_ne s _ h

@[simp] theorem State.bumpFld_reg_ne (s : State) {off j : Nat} (lo : _) (w : _) (n : _) (h : j ≠ off) :
    (s.bumpFld off lo w n).reg j = s.reg j :=
  State.setReg_reg_ne s _ h

/-- Writing bytes of host memory leaves every byte outside them alone. -/
theorem writeMem_get_ne (bs : List Byte) (m : SMap Byte) (a j : Nat) (h : j < a ∨ a + bs.length ≤ j) :
    SMap.get 0 (writeMem m a bs) j = SMap.get 0 m j := by
  induction bs generalizing m a with
  | nil => rfl
  | cons b bs ih =>
    have hl : (b :: bs).length = bs.length + 1 := rfl
    rw [writeMem, ih _ _ (by omega), SMap.get_set_ne _ _ _ _ (by omega)]

theorem State.memWr_memByte_ne (s : State) (a j : Nat) (bs : List Byte) (h : j < a ∨ a + bs.length ≤ j) :
    (s.memWr a bs).memByte j = s.memByte j :=
  writeMem_get_ne bs _ _ _ h

/-- Writing bytes keeps the canonical form of host memory. -/
theorem writeMem_wf (bs : List Byte) (m : SMap Byte) (a : Nat) (h : SMap.wf (fun _ => 0) m = true) :
    SMap.wf (fun _ => 0) (writeMem m a bs) = true := by
  induction bs generalizing m a with
  | nil => exact h
  | cons x bs ih => exact ih _ _ (SMap.wf_set (fun _ => 0) m a x h)

end Sys2Proof.Machine
end

