-- ==== Sys2Proof/Laws/Host.lean ====
section
/-!
SUPPORT. What the shared operations of a host command do: admission, the effect of an admitted command, and where its records go.
-/

namespace Sys2Proof.Machine

open Sys2Proof

@[simp] theorem State.taken_cycle (s : State) (k : CmdKind) : (s.taken k).cycle = s.cycle := by
  unfold State.taken
  split <;> rfl

@[simp] theorem State.taken_axis (s : State) (k : CmdKind) (a : Nat) : (s.taken k).axis a = s.axis a := by
  unfold State.taken
  split <;> rfl

/-- A command that the journal has room for is admitted, and nothing but the run of refusals changes (R382). -/
theorem State.admit_ok (s : State) (k : CmdKind) (extra : Nat)
    (h : k ≠ .read → s.mramHold = false ∧ s.journalFull k.journal extra = false) : s.admitCmd k extra = (none, s.taken k) := by
  unfold State.admitCmd State.taken
  by_cases hk : k = .read
  · simp [hk]
  · simp [hk, h hk]

/-- Admission means that the checks before the chapter's own find nothing (R347). -/
theorem State.preRefusal_none {s : State} {h : Hdr} {op : Nat} {k : CmdKind} {extra : Nat} {subj : SubjKind}
    (ha : s.admits h op k extra subj) : s.preRefusal h op k subj none none = none := by
  obtain ⟨h1, h2, h3, h4⟩ := ha
  unfold State.preRefusal
  rw [h2]
  by_cases hk : k = .read
  · subst hk; simp [h3]
  · obtain ⟨h5, h6, h7, -⟩ := h4 hk
    have : ¬(s.sec.lcs = 3 ∧ k ≠ .read ∧ op ≠ 1) := by
      rintro ⟨a, -, c⟩
      exact h5.elim (fun x => x a) c
    simp [h3, h6, h7, this]

/-- An admitted command with nothing to refuse has its own effect. -/
theorem State.hostCmd_taken (s : State) (h : Hdr) (op : Nat) (k : CmdKind) (extra : Nat) (subj : SubjKind) (effect : State → State)
    (ha : s.admits h op k extra subj) : s.hostCmd h op k extra subj none none none effect = effect (s.taken k) := by
  unfold State.hostCmd
  rw [State.preRefusal_none ha, State.admit_ok s k extra (fun hk => (ha.2.2.2 hk).2.2.2)]
  simp [ha.1]

/-- The first of a list of refusals is none where every condition is false. -/
theorem firstRefusal_none {l : List (Bool × Nat × Nat)} (h : ∀ e ∈ l, e.1 = false) : firstRefusal l = none := by
  induction l with
  | nil => rfl
  | cons e l ih =>
    obtain ⟨c, st, d⟩ := e
    have hc : c = false := h _ List.mem_cons_self
    subst hc
    exact ih (fun e he => h e (List.mem_cons_of_mem _ he))

theorem State.drainGo_last (l : List OutRec) (r : OutRec) (hr : r.journal ≠ 0) (s : State) (blocked : List Nat) (kept : List OutRec) :
    ∃ pre, (s.drainGo blocked kept (l ++ [r])).host.outbox = pre ++ [r] := by
  induction l generalizing s blocked kept with
  | nil =>
    refine ⟨kept.reverse, ?_⟩
    simp [State.drainGo, hr]
  | cons q l ih =>
    rw [List.cons_append]
    unfold State.drainGo
    split
    · exact ih _ _ _
    · exact ih _ _ _

/-- A record that needs a journal record waits last in line (R364, R381). -/
theorem State.post_last (s : State) (r : OutRec) (hr : r.journal ≠ 0) : ∃ pre, (s.post r).host.outbox = pre ++ [r] :=
  State.drainGo_last _ r hr _ _ _

/-! ### What an event, a record and an acceptance can change -/

theorem State.timedTriggerOne_same (s : State) (tk targ at_ p : Nat) :
    ∃ pods regs, s.timedTriggerOne tk targ at_ p = { s with pods := pods, regs := regs } := by
  unfold State.timedTriggerOne
  repeat' split
  · exact ⟨s.pods, _, rfl⟩
  · exact ⟨_, s.regs, rfl⟩
  · exact ⟨s.pods, s.regs, rfl⟩
  · exact ⟨s.pods, s.regs, rfl⟩

theorem State.timedTrigger_same (s : State) (tk targ at_ : Nat) :
    ∃ pods regs, s.timedTrigger tk targ at_ = { s with pods := pods, regs := regs } := by
  unfold State.timedTrigger
  induction List.range 8 generalizing s with
  | nil => exact ⟨s.pods, s.regs, rfl⟩
  | cons x l ih =>
    obtain ⟨p1, r1, e1⟩ := State.timedTriggerOne_same s tk targ at_ x
    obtain ⟨p2, r2, e2⟩ := ih (s.timedTriggerOne tk targ at_ x)
    refine ⟨p2, r2, ?_⟩
    rw [List.foldl_cons, e2, e1]

/-- An event is raised and logged; beside that only pods that wait for it and their counts of missed triggers can change. -/
theorem State.ev_same (s : State) (src subj code value : Nat) :
    ∃ pods regs, s.ev src subj code value =
      { s with host := { s.host with raised := s.host.raised ++
                 [⟨s.now, s.cycle, src, subj % 2 ^ 16, code % 2 ^ 16, value % 2 ^ 32⟩] },
               eventLog := s.logWith ⟨s.now, s.cycle, src, subj % 2 ^ 16, code % 2 ^ 16, value % 2 ^ 32⟩,
               pods := pods, regs := regs } := by
  unfold State.ev
  obtain ⟨p, r, e⟩ := State.timedTrigger_same ({ s with
    host := { s.host with raised := s.host.raised ++ [⟨s.now, s.cycle, src, subj % 2 ^ 16, code % 2 ^ 16, value % 2 ^ 32⟩] },
    eventLog := s.logWith ⟨s.now, s.cycle, src, subj % 2 ^ 16, code % 2 ^ 16, value % 2 ^ 32⟩ } : State) 3 src s.now
  exact ⟨p, r, e⟩

theorem State.evC_same (s : State) (src subj code : Nat) :
    ∃ raised log pods regs, s.evC src subj code =
      { s with host := { s.host with raised := raised }, eventLog := log, pods := pods, regs := regs, free := s.free + 1 } := by
  unfold State.evC
  obtain ⟨p, r, e⟩ := State.ev_same s src subj code (Config.freeWord s.free).toNat
  rw [e]
  exact ⟨_, _, p, r, rfl⟩

theorem State.evK_same (s : State) (src subj value : Nat) :
    ∃ raised log pods regs, s.evK src subj value =
      { s with host := { s.host with raised := raised }, eventLog := log, pods := pods, regs := regs, free := s.free + 1 } := by
  unfold State.evK
  obtain ⟨p, r, e⟩ := State.ev_same s src subj ((Config.freeWord s.free).toNat % 2 ^ 16) value
  rw [e]
  exact ⟨_, _, p, r, rfl⟩

theorem State.evFree_same (s : State) (src subj : Nat) :
    ∃ raised log pods regs, s.evFree src subj =
      { s with host := { s.host with raised := raised }, eventLog := log, pods := pods, regs := regs, free := s.free + 2 } := by
  unfold State.evFree
  obtain ⟨p, r, e⟩ := State.ev_same s src subj ((Config.freeWord s.free).toNat % 2 ^ 16) (Config.freeWord (s.free + 1)).toNat
  rw [e]
  exact ⟨_, _, p, r, rfl⟩

theorem State.signalVec_same (s : State) (v : Nat) :
    ∃ host regs, s.signalVec v = { s with host := host, regs := regs } := by
  unfold State.signalVec
  split
  · exact ⟨s.host, _, rfl⟩
  · split
    · exact ⟨s.host, s.regs, rfl⟩
    · exact ⟨_, s.regs, rfl⟩

theorem State.memWr_same (s : State) (a : Nat) (bs : List Byte) :
    ∃ host regs, s.memWr a bs = { s with host := host, regs := regs } := ⟨_, s.regs, rfl⟩

theorem State.setRing_same (s : State) (n : Nat) (x : Ring) :
    ∃ host regs, s.setRing n x = { s with host := host, regs := regs } := ⟨_, s.regs, rfl⟩

theorem State.cacheFinal_same (s : State) (r : OutRec) (phase : Bool) :
    ∃ host regs, s.cacheFinal r phase = { s with host := host, regs := regs } := ⟨_, s.regs, rfl⟩

theorem State.writeCr_same (s : State) (r : OutRec) : ∃ host regs, s.writeCr r = { s with host := host, regs := regs } := by
  have key : ∀ (t : State) (c : Prop) [Decidable c], (∃ host regs, t = { s with host := host, regs := regs }) →
      ∃ host regs, (if c then t.signalVec (t.fld (R.crCfg r.ring) 4 4) else t) = { s with host := host, regs := regs } := by
    intro t c _ ⟨host, regs, e⟩
    split
    · obtain ⟨h2, r2, e2⟩ := State.signalVec_same t (t.fld (R.crCfg r.ring) 4 4)
      exact ⟨h2, r2, by rw [e2, e]⟩
    · exact ⟨host, regs, e⟩
  have ring : ∀ (t : State) (n : Nat) (x : Ring), (∃ host regs, t = { s with host := host, regs := regs }) →
      ∃ host regs, t.setRing n x = { s with host := host, regs := regs } := by
    intro t n x ⟨host, regs, e⟩
    obtain ⟨h2, r2, e2⟩ := State.setRing_same t n x
    exact ⟨h2, r2, by rw [e2, e]⟩
  have cache : ∀ (t : State) (x : OutRec) (p : Bool), (∃ host regs, t = { s with host := host, regs := regs }) →
      ∃ host regs, t.cacheFinal x p = { s with host := host, regs := regs } := by
    intro t x p ⟨host, regs, e⟩
    obtain ⟨h2, r2, e2⟩ := State.cacheFinal_same t x p
    exact ⟨h2, r2, by rw [e2, e]⟩
  unfold State.writeCr
  dsimp only
  apply key
  split
  · exact cache _ _ _ (ring _ _ _ (State.memWr_same _ _ _))
  · exact ring _ _ _ (State.memWr_same _ _ _)

theorem State.drainGo_same (l : List OutRec) (s : State) (blocked : List Nat) (kept : List OutRec) :
    ∃ host regs, s.drainGo blocked kept l = { s with host := host, regs := regs } := by
  induction l generalizing s blocked kept with
  | nil => exact ⟨_, s.regs, rfl⟩
  | cons r l ih =>
    unfold State.drainGo
    split
    · obtain ⟨h1, r1, e1⟩ := State.writeCr_same s r
      obtain ⟨h2, r2, e2⟩ := ih (s.writeCr r) blocked kept
      exact ⟨h2, r2, by rw [e2, e1]⟩
    · exact ih _ _ _

/-- Posting a record changes the host interface and its registers, nothing else. -/
theorem State.post_same (s : State) (r : OutRec) : ∃ host regs, s.post r = { s with host := host, regs := regs } := by
  unfold State.post State.drain
  obtain ⟨h2, r2, e⟩ := State.drainGo_same ({ s with host := { s.host with outbox := s.host.outbox ++ [r] } } : State).host.outbox
    ({ s with host := { s.host with outbox := s.host.outbox ++ [r] } } : State) [] []
  exact ⟨h2, r2, by rw [e]⟩

/-- So does accepting an immediate command, -/
theorem State.acceptImm_same (s : State) (h : Hdr) (op cycle detail : Nat) (ext : Option (List Byte)) :
    ∃ host regs, s.acceptImm h op cycle detail ext = { s with host := host, regs := regs } := by
  unfold State.acceptImm
  exact (State.post_same _ _).imp fun _ x => x.imp fun _ e => e

/-- accepting a long one, -/
theorem State.acceptLong_same (s : State) (h : Hdr) (op extra : Nat) (body : List Byte) :
    ∃ host regs, s.acceptLong h op extra body = { s with host := host, regs := regs } := by
  unfold State.acceptLong
  exact (State.post_same _ _).imp fun _ x => x.imp fun _ e => e

/-- a FINAL, -/
theorem State.final_same (s : State) (o : Open) (status cycle detail : Nat) (ext : Option (List Byte)) (body : List Byte) :
    ∃ host regs, s.final o status cycle detail ext body = { s with host := host, regs := regs } :=
  State.post_same _ _

/-- and an ANSWER. -/
theorem State.answer_same (s : State) (h : Hdr) (op status handle cycle detail : Nat) (ext : Option (List Byte)) :
    ∃ host regs, s.answer h op status handle cycle detail ext = { s with host := host, regs := regs } :=
  State.post_same _ _

end Sys2Proof.Machine
end

