-- ==== Sys2Proof/Laws/Keeps.lean ====
section
/-!
SUPPORT. What every command keeps, whatever it does: the queue, the grade and the UID are untouched, host memory and the
registers stay in canonical form, the lifecycle only moves forward, and the security and challenge counters never fall.
`Keeps b s` says so of a state `s` reached from `b`; each operation and each command's meaning has one lemma.
-/

set_option linter.all false

namespace Sys2Proof.Laws

open Sys2Proof Sys2Proof.Machine

/-! ## Base -/

def Keeps (b s : State) : Prop :=
  s.pending = b.pending ∧ s.grade = b.grade ∧ s.uid = b.uid ∧
  (SMap.wf (fun _ => 0) b.host.mem = true → SMap.wf (fun _ => 0) s.host.mem = true) ∧
  (SMap.wf regReset b.regs = true → SMap.wf regReset s.regs = true) ∧
  (lcLegal b.sec.lcs b.sec.setOwn = true → lcLegal s.sec.lcs s.sec.setOwn = true ∧ b.sec.lcs ≤ s.sec.lcs) ∧
  b.sec.secCnt ≤ s.sec.secCnt ∧ b.sec.challenges ≤ s.sec.challenges

theorem Keeps.rfl' (s : State) : Keeps s s := ⟨rfl, rfl, rfl, id, id, fun h => ⟨h, Nat.le_refl _⟩, Nat.le_refl _, Nat.le_refl _⟩

theorem Keeps.ite {b : State} {c : Prop} [Decidable c] {s t : State} (h1 : Keeps b s) (h2 : Keeps b t) :
    Keeps b (if c then s else t) := by
  split <;> assumption

theorem Keeps.foldl {b : State} {α : Type} {f : State → α → State} (hf : ∀ s x, Keeps b s → Keeps b (f s x)) (l : List α)
    {s : State} (h : Keeps b s) : Keeps b (l.foldl f s) := by
  induction l generalizing s with
  | nil => exact h
  | cons x l ih => exact ih (hf s x h)
/-- `Keeps` in terms of what it looks at. -/
def KeepsAt (b : State) (p : List Instr) (g u : Nat) (m : SMap Byte) (r : SMap Reg32) (l : Nat) (o : Option (Open × Nat × List Byte))
    (n c : Nat) : Prop :=
  p = b.pending ∧ g = b.grade ∧ u = b.uid ∧
  (SMap.wf (fun _ => 0) b.host.mem = true → SMap.wf (fun _ => 0) m = true) ∧
  (SMap.wf regReset b.regs = true → SMap.wf regReset r = true) ∧
  (lcLegal b.sec.lcs b.sec.setOwn = true → lcLegal l o = true ∧ b.sec.lcs ≤ l) ∧
  b.sec.secCnt ≤ n ∧ b.sec.challenges ≤ c

theorem Keeps.mk_eq (b : State) {x_pending x_grade x_conductor x_bootsel x_uid x_regs x_latches x_holds x_time x_cycle x_epoch x_nE x_servo x_axes x_groups x_host x_stage x_jnl x_sig x_fb x_sdm x_pwm x_chop x_bb x_node x_die x_field x_saf x_pods x_adc x_can x_pw x_therm x_thermMram x_sec x_flash x_fab x_pins x_eventLog x_free x_planNo} :
    Keeps b (State.mk x_pending x_grade x_conductor x_bootsel x_uid x_regs x_latches x_holds x_time x_cycle x_epoch x_nE x_servo x_axes x_groups x_host x_stage x_jnl x_sig x_fb x_sdm x_pwm x_chop x_bb x_node x_die x_field x_saf x_pods x_adc x_can x_pw x_therm x_thermMram x_sec x_flash x_fab x_pins x_eventLog x_free x_planNo) =
      KeepsAt b x_pending x_grade x_uid x_host.mem x_regs x_sec.lcs x_sec.setOwn x_sec.secCnt x_sec.challenges := propext Iff.rfl

theorem Keeps.at_eq (b X : State) :
    KeepsAt b X.pending X.grade X.uid X.host.mem X.regs X.sec.lcs X.sec.setOwn X.sec.secCnt X.sec.challenges = Keeps b X := propext Iff.rfl

theorem Keeps.sec {b X : State} {n c : Nat} (h : Keeps b X) (hn : X.sec.secCnt ≤ n) (hc : X.sec.challenges ≤ c) :
    KeepsAt b X.pending X.grade X.uid X.host.mem X.regs X.sec.lcs X.sec.setOwn n c := by
  obtain ⟨h1, h2, h3, h4, h5, h6, h7, h8⟩ := h
  exact ⟨h1, h2, h3, h4, h5, h6, Nat.le_trans h7 hn, Nat.le_trans h8 hc⟩

/-! ## Regs -/

theorem State.setReg_keeps {b s : State} (h : Keeps b s) (off : Nat) (v : Reg32) : Keeps b (s.setReg off v) := by
  obtain ⟨h1, h2, h3, h4, h5, h6, h7⟩ := h
  exact ⟨h1, h2, h3, h4, fun hb => SMap.wf_set regReset s.regs off v (h5 hb), h6, h7⟩

theorem State.setFld_keeps {b : State} {s : State} (off : _) (lo : _) (width : _) (x : _) (h_s : Keeps b s) :
    Keeps b (State.setFld s off lo width x) := by
  unfold State.setFld
  try dsimp only
  repeat' first | with_reducible assumption | with_reducible apply State.setReg_keeps

theorem State.setBit_keeps {b : State} {s : State} (off : _) (i : _) (b_ : _) (h_s : Keeps b s) :
    Keeps b (State.setBit s off i b_) := by
  unfold State.setBit
  try dsimp only
  repeat' first | with_reducible assumption | with_reducible apply Keeps.ite | with_reducible apply State.setFld_keeps

theorem State.bumpFld_keeps {b : State} {s : State} (off : _) (lo : _) (width : _) (n : _) (h_s : Keeps b s) :
    Keeps b (State.bumpFld s off lo width n) := by
  unfold State.bumpFld
  try dsimp only
  repeat' first | with_reducible assumption | with_reducible apply State.setFld_keeps

/-! ## Ops -/

theorem State.setAxis_keeps {b : State} {s : State} (a : _) (x : _) (h_s : Keeps b s) :
    Keeps b (State.setAxis s a x) := by
  unfold State.setAxis
  try dsimp only
  repeat' first | with_reducible assumption | simp only [↓Keeps.mk_eq, ↓Keeps.at_eq]

theorem State.modAxis_keeps {b : State} {s : State} (a : _) (f : _) (h_s : Keeps b s) :
    Keeps b (State.modAxis s a f) := by
  unfold State.modAxis
  try dsimp only
  repeat' first | with_reducible assumption | with_reducible apply State.setAxis_keeps

theorem State.setGroup_keeps {b : State} {s : State} (g : _) (x : _) (h_s : Keeps b s) :
    Keeps b (State.setGroup s g x) := by
  unfold State.setGroup
  try dsimp only
  repeat' first | with_reducible assumption | simp only [↓Keeps.mk_eq, ↓Keeps.at_eq]

theorem State.setFbp_keeps {b : State} {s : State} (k : _) (x : _) (h_s : Keeps b s) :
    Keeps b (State.setFbp s k x) := by
  unfold State.setFbp
  try dsimp only
  repeat' first | with_reducible assumption | simp only [↓Keeps.mk_eq, ↓Keeps.at_eq]

theorem State.setPwmp_keeps {b : State} {s : State} (k : _) (x : _) (h_s : Keeps b s) :
    Keeps b (State.setPwmp s k x) := by
  unfold State.setPwmp
  try dsimp only
  repeat' first | with_reducible assumption | simp only [↓Keeps.mk_eq, ↓Keeps.at_eq]

theorem State.setSdmc_keeps {b : State} {s : State} (c : _) (x : _) (h_s : Keeps b s) :
    Keeps b (State.setSdmc s c x) := by
  unfold State.setSdmc
  try dsimp only
  repeat' first | with_reducible assumption | simp only [↓Keeps.mk_eq, ↓Keeps.at_eq]

theorem State.setChopper_keeps {b : State} {s : State} (c : _) (x : _) (h_s : Keeps b s) :
    Keeps b (State.setChopper s c x) := by
  unfold State.setChopper
  try dsimp only
  repeat' first | with_reducible assumption | simp only [↓Keeps.mk_eq, ↓Keeps.at_eq]

theorem State.setAdcv_keeps {b : State} {s : State} (k : _) (x : _) (h_s : Keeps b s) :
    Keeps b (State.setAdcv s k x) := by
  unfold State.setAdcv
  try dsimp only
  repeat' first | with_reducible assumption | simp only [↓Keeps.mk_eq, ↓Keeps.at_eq]

theorem State.setCanc_keeps {b : State} {s : State} (k : _) (x : _) (h_s : Keeps b s) :
    Keeps b (State.setCanc s k x) := by
  unfold State.setCanc
  try dsimp only
  repeat' first | with_reducible assumption | simp only [↓Keeps.mk_eq, ↓Keeps.at_eq]

theorem State.setPod_keeps {b : State} {s : State} (p : _) (x : _) (h_s : Keeps b s) :
    Keeps b (State.setPod s p x) := by
  unfold State.setPod
  try dsimp only
  repeat' first | with_reducible assumption | simp only [↓Keeps.mk_eq, ↓Keeps.at_eq]

theorem State.setRing_keeps {b : State} {s : State} (n : _) (x : _) (h_s : Keeps b s) :
    Keeps b (State.setRing s n x) := by
  unfold State.setRing
  try dsimp only
  repeat' first | with_reducible assumption | simp only [↓Keeps.mk_eq, ↓Keeps.at_eq]

theorem State.setNoderec_keeps {b : State} {s : State} (n : _) (x : _) (h_s : Keeps b s) :
    Keeps b (State.setNoderec s n x) := by
  unfold State.setNoderec
  try dsimp only
  repeat' first | with_reducible assumption | simp only [↓Keeps.mk_eq, ↓Keeps.at_eq]

theorem State.setLane_keeps {b : State} {s : State} (n : _) (x : _) (h_s : Keeps b s) :
    Keeps b (State.setLane s n x) := by
  unfold State.setLane
  try dsimp only
  repeat' first | with_reducible assumption | simp only [↓Keeps.mk_eq, ↓Keeps.at_eq]

theorem State.atPhi0_keeps {b : State} {s : State} (c : _) (f : _) (h_s : Keeps b s) (h_f : ∀ s, Keeps b s → Keeps b (f s)) :
    Keeps b (State.atPhi0 s c f) := by
  unfold State.atPhi0
  try dsimp only
  repeat' first | with_reducible assumption | with_reducible apply h_f | simp only [↓Keeps.mk_eq, ↓Keeps.at_eq] | intro _ _ _ | intro _ _

theorem State.timedTriggerOne_keeps {b : State} {s : State} (tk : _) (targ : _) (at_ : _) (p : _) (h_s : Keeps b s) :
    Keeps b (State.timedTriggerOne s tk targ at_ p) := by
  unfold State.timedTriggerOne
  try dsimp only
  repeat' first | with_reducible assumption | with_reducible apply Keeps.ite | with_reducible apply State.bumpFld_keeps | with_reducible apply State.setPod_keeps | split

theorem State.timedTrigger_keeps {b : State} {s : State} (tk : _) (targ : _) (at_ : _) (h_s : Keeps b s) :
    Keeps b (State.timedTrigger s tk targ at_) := by
  unfold State.timedTrigger
  try dsimp only
  repeat' first | with_reducible assumption | with_reducible apply Keeps.foldl | with_reducible apply State.timedTriggerOne_keeps | intro _ _ _ | intro _ _

theorem State.ev_keeps {b : State} {s : State} (src : _) (subj : _) (code : _) (value : _) (h_s : Keeps b s) :
    Keeps b (State.ev s src subj code value) := by
  unfold State.ev
  try dsimp only
  repeat' first | with_reducible assumption | with_reducible apply State.timedTrigger_keeps | simp only [↓Keeps.mk_eq, ↓Keeps.at_eq]

theorem State.evC_keeps {b : State} {s : State} (src : _) (subj : _) (code : _) (h_s : Keeps b s) :
    Keeps b (State.evC s src subj code) := by
  unfold State.evC
  try dsimp only
  repeat' first | with_reducible assumption | with_reducible apply State.ev_keeps | simp only [↓Keeps.mk_eq, ↓Keeps.at_eq]

theorem State.evK_keeps {b : State} {s : State} (src : _) (subj : _) (value : _) (h_s : Keeps b s) :
    Keeps b (State.evK s src subj value) := by
  unfold State.evK
  try dsimp only
  repeat' first | with_reducible assumption | with_reducible apply State.ev_keeps | simp only [↓Keeps.mk_eq, ↓Keeps.at_eq]

theorem State.evFree_keeps {b : State} {s : State} (src : _) (subj : _) (h_s : Keeps b s) :
    Keeps b (State.evFree s src subj) := by
  unfold State.evFree
  try dsimp only
  repeat' first | with_reducible assumption | with_reducible apply State.ev_keeps | simp only [↓Keeps.mk_eq, ↓Keeps.at_eq]

theorem State.evBadReg_keeps {b : State} {s : State} (h_s : Keeps b s) :
    Keeps b (State.evBadReg s) := by
  unfold State.evBadReg
  try dsimp only
  repeat' first | with_reducible assumption | with_reducible apply State.evC_keeps

theorem State.signalVec_keeps {b : State} {s : State} (v : _) (h_s : Keeps b s) :
    Keeps b (State.signalVec s v) := by
  unfold State.signalVec
  try dsimp only
  repeat' first | with_reducible assumption | with_reducible apply Keeps.ite | with_reducible apply State.setBit_keeps | simp only [↓Keeps.mk_eq, ↓Keeps.at_eq]

theorem writeMem_wf (bs : List Byte) (m : SMap Byte) (a : Nat) (h : SMap.wf (fun _ => 0) m = true) :
    SMap.wf (fun _ => 0) (writeMem m a bs) = true := by
  induction bs generalizing m a with
  | nil => exact h
  | cons x bs ih => exact ih _ _ (SMap.wf_set (fun _ => 0) m a x h)

theorem State.memWr_keeps {b s : State} (h : Keeps b s) (a : Nat) (bs : List Byte) : Keeps b (s.memWr a bs) := by
  obtain ⟨h1, h2, h3, h4, h5, h6, h7⟩ := h
  exact ⟨h1, h2, h3, fun hb => writeMem_wf bs _ a (h4 hb), h5, h6, h7⟩

theorem State.cacheFinal_keeps {b : State} {s : State} (r : _) (phase : _) (h_s : Keeps b s) :
    Keeps b (State.cacheFinal s r phase) := by
  unfold State.cacheFinal
  try dsimp only
  repeat' first | with_reducible assumption | with_reducible apply Keeps.ite | simp only [↓Keeps.mk_eq, ↓Keeps.at_eq] | split

theorem State.writeCr_keeps {b : State} {s : State} (r : _) (h_s : Keeps b s) :
    Keeps b (State.writeCr s r) := by
  unfold State.writeCr
  try dsimp only
  repeat' first | with_reducible assumption | with_reducible apply Keeps.ite | with_reducible apply State.cacheFinal_keeps | with_reducible apply State.memWr_keeps | with_reducible apply State.setRing_keeps | with_reducible apply State.signalVec_keeps

theorem State.drainGo_keeps {b s : State} (h : Keeps b s) (blocked : List Nat) (kept l : List OutRec) :
    Keeps b (State.drainGo s blocked kept l) := by
  induction l generalizing s blocked kept with
  | nil =>
    unfold State.drainGo
    simp only [↓Keeps.mk_eq, ↓Keeps.at_eq]
    exact h
  | cons r l ih =>
    unfold State.drainGo
    exact Keeps.ite (ih (State.writeCr_keeps r h) _ _) (ih h _ _)

theorem State.drain_keeps {b : State} {s : State} (h_s : Keeps b s) :
    Keeps b (State.drain s) := by
  unfold State.drain
  try dsimp only
  repeat' first | with_reducible assumption | with_reducible apply State.drainGo_keeps

theorem State.post_keeps {b : State} {s : State} (r : _) (h_s : Keeps b s) :
    Keeps b (State.post s r) := by
  unfold State.post
  try dsimp only
  repeat' first | with_reducible assumption | with_reducible apply State.drain_keeps | simp only [↓Keeps.mk_eq, ↓Keeps.at_eq]

theorem State.refuse_keeps {b : State} {s : State} (h0 : _) (op : _) (status : _) (detail : _) (h_s : Keeps b s) :
    Keeps b (State.refuse s h0 op status detail) := by
  unfold State.refuse
  try dsimp only
  repeat' first | with_reducible assumption | with_reducible apply Keeps.ite | with_reducible apply State.post_keeps | with_reducible apply State.evC_keeps

theorem State.answer_keeps {b : State} {s : State} (h0 : _) (op : _) (status : _) (handle : _) (cycle : _) (detail : _) (ext : _) (h_s : Keeps b s) :
    Keeps b (State.answer s h0 op status handle cycle detail ext) := by
  unfold State.answer
  try dsimp only
  repeat' first | with_reducible assumption | with_reducible apply State.post_keeps

theorem State.answerOk_keeps {b : State} {s : State} (h0 : _) (op : _) (h_s : Keeps b s) :
    Keeps b (State.answerOk s h0 op) := by
  unfold State.answerOk
  try dsimp only
  repeat' first | with_reducible assumption | with_reducible apply State.answer_keeps

theorem State.takeSeq_keeps {b : State} {s : State} (ring : _) (h_s : Keeps b s) :
    Keeps b (State.takeSeq s ring) := by
  unfold State.takeSeq
  try dsimp only
  repeat' first | with_reducible assumption | with_reducible apply State.setRing_keeps

theorem State.acceptImm_keeps {b : State} {s : State} (h0 : _) (op : _) (cycle : _) (detail : _) (ext : _) (h_s : Keeps b s) :
    Keeps b (State.acceptImm s h0 op cycle detail ext) := by
  unfold State.acceptImm
  try dsimp only
  repeat' first | with_reducible assumption | with_reducible apply State.post_keeps | with_reducible apply State.takeSeq_keeps

theorem State.acceptLong_keeps {b : State} {s : State} (h0 : _) (op : _) (extra : _) (body : _) (h_s : Keeps b s) :
    Keeps b (State.acceptLong s h0 op extra body) := by
  unfold State.acceptLong
  try dsimp only
  repeat' first | with_reducible assumption | with_reducible apply State.post_keeps | with_reducible apply State.takeSeq_keeps | with_reducible apply State.setRing_keeps

theorem State.final_keeps {b : State} {s : State} (o : _) (status : _) (cycle : _) (detail : _) (ext : _) (body : _) (h_s : Keeps b s) :
    Keeps b (State.final s o status cycle detail ext body) := by
  unfold State.final
  try dsimp only
  repeat' first | with_reducible assumption | with_reducible apply State.post_keeps

theorem State.finalPlain_keeps {b : State} {s : State} (o : _) (status : _) (h_s : Keeps b s) :
    Keeps b (State.finalPlain s o status) := by
  unfold State.finalPlain
  try dsimp only
  repeat' first | with_reducible assumption | with_reducible apply State.final_keeps

theorem State.finalMove_keeps {b : State} {s : State} (o : _) (status : _) (cycle : _) (remain : _) (h_s : Keeps b s) :
    Keeps b (State.finalMove s o status cycle remain) := by
  unfold State.finalMove
  try dsimp only
  repeat' first | with_reducible assumption | with_reducible apply State.final_keeps

theorem State.admit_keeps {b : State} {s : State} (k : _) (extra : _) (h_s : Keeps b s) :
    Keeps b (State.admitCmd s k extra).2 := by
  unfold State.admitCmd
  try dsimp only
  repeat' first | with_reducible assumption | with_reducible apply Keeps.ite | with_reducible apply State.setBit_keeps | with_reducible apply State.ev_keeps | simp only [↓Keeps.mk_eq, ↓Keeps.at_eq] | split

theorem State.admitCmd_keeps {b : State} {s : State} (k : _) (extra : _) (h_s : Keeps b s) :
    Keeps b (State.admitCmd s k extra).2 := State.admit_keeps k extra h_s

theorem State.admitCmd_of {b t_ : State} {x_ : _} {s : State} {k : _} {extra : _} (h_s : Keeps b s) (e_ : State.admitCmd s k extra = (x_, t_)) :
    Keeps b t_ := by
  have h_ := State.admit_keeps k extra h_s
  rw [e_] at h_
  exact h_

theorem State.hostCmd_keeps {b s : State} (hd : Hdr) (op : Nat) (k : CmdKind) (extra : Nat) (subj : SubjKind)
    (fmt : Option Nat) (power chapter : Option (Nat × Nat)) (effect : State → State) (h : Keeps b s)
    (he : ∀ s, Keeps b s → Keeps b (effect s)) : Keeps b (s.hostCmd hd op k extra subj fmt power chapter effect) := by
  have ha := State.admit_keeps k extra h
  unfold State.hostCmd
  refine Keeps.ite h ?_
  split
  · exact State.refuse_keeps _ _ _ _ h
  · split
    · exact State.refuse_keeps _ _ _ _ h
    · split
      · rename_i e
        rw [e] at ha
        exact State.refuse_keeps _ _ _ _ ha
      · rename_i e
        rw [e] at ha
        exact he _ ha

theorem State.setSigWord_keeps {b : State} {s : State} (w : _) (v : _) (h_s : Keeps b s) :
    Keeps b (State.setSigWord s w v) := by
  unfold State.setSigWord
  try dsimp only
  repeat' first | with_reducible assumption | simp only [↓Keeps.mk_eq, ↓Keeps.at_eq]

theorem State.setBlockStat_keeps {b : State} {s : State} (b_ : _) (x : _) (h_s : Keeps b s) :
    Keeps b (State.setBlockStat s b_ x) := by
  unfold State.setBlockStat
  try dsimp only
  repeat' first | with_reducible assumption | simp only [↓Keeps.mk_eq, ↓Keeps.at_eq]

theorem State.freeW_keeps {b : State} {s : State} (h_s : Keeps b s) :
    Keeps b (State.freeW s).2 := by
  unfold State.freeW
  try dsimp only
  repeat' first | with_reducible assumption | simp only [↓Keeps.mk_eq, ↓Keeps.at_eq] | split

theorem State.freeW_of {b t_ : State} {x_ : _} {s : State} (h_s : Keeps b s) (e_ : State.freeW s = (x_, t_)) :
    Keeps b t_ := by
  have h_ := State.freeW_keeps  h_s
  rw [e_] at h_
  exact h_

theorem State.setReg72_keeps {b : State} {s : State} (lo : _) (v : _) (h_s : Keeps b s) :
    Keeps b (State.setReg72 s lo v) := by
  unfold State.setReg72
  try dsimp only
  repeat' first | with_reducible assumption | with_reducible apply State.setReg_keeps

theorem State.setRegT72_keeps {b : State} {s : State} (lo : _) (t : _) (h_s : Keeps b s) :
    Keeps b (State.setRegT72 s lo t) := by
  unfold State.setRegT72
  try dsimp only
  repeat' first | with_reducible assumption | with_reducible apply State.setReg72_keeps

/-! ## Faults -/

theorem State.wake_keeps {b : State} {s : State} (e : _) (h_s : Keeps b s) :
    Keeps b (State.wake s e) := by
  unfold State.wake
  try dsimp only
  repeat' first | with_reducible assumption | with_reducible apply Keeps.ite | simp only [↓Keeps.mk_eq, ↓Keeps.at_eq]

theorem State.request_keeps {b : State} {s : State} (a : _) (w : _) (h_s : Keeps b s) :
    Keeps b (State.request s a w) := by
  unfold State.request
  try dsimp only
  repeat' first | with_reducible assumption | with_reducible apply State.setAxis_keeps | with_reducible apply State.wake_keeps | simp only [↓Keeps.mk_eq, ↓Keeps.at_eq]

theorem State.requestGroup_keeps {b : State} {s : State} (g : _) (w : _) (h_s : Keeps b s) :
    Keeps b (State.requestGroup s g w) := by
  unfold State.requestGroup
  try dsimp only
  repeat' first | with_reducible assumption | with_reducible apply State.setGroup_keeps | with_reducible apply State.wake_keeps | simp only [↓Keeps.mk_eq, ↓Keeps.at_eq]

theorem State.takeRemain_keeps {b : State} {s : State} (a : _) (h_s : Keeps b s) :
    Keeps b (State.takeRemain s a) := by
  unfold State.takeRemain
  try dsimp only
  repeat' first | with_reducible assumption | with_reducible apply State.modAxis_keeps | simp only [↓Keeps.mk_eq, ↓Keeps.at_eq] | intro _ _ _ | intro _ _ | split

theorem State.suspendMove_keeps {b : State} {s : State} (a : _) (remain : _) (h_s : Keeps b s) :
    Keeps b (State.suspendMove s a remain) := by
  unfold State.suspendMove
  try dsimp only
  repeat' first | with_reducible assumption | with_reducible apply Keeps.ite | with_reducible apply State.setAxis_keeps | with_reducible apply State.finalMove_keeps | split

theorem State.endMove_keeps {b : State} {s : State} (a : _) (m : _) (h_s : Keeps b s) :
    Keeps b (State.endMove s a m) := by
  unfold State.endMove
  try dsimp only
  repeat' first | with_reducible assumption | with_reducible apply Keeps.ite | with_reducible apply State.setAxis_keeps | with_reducible apply State.finalMove_keeps

theorem State.endReached_keeps {b : State} {s : State} (a : _) (h_s : Keeps b s) :
    Keeps b (State.endReached s a) := by
  unfold State.endReached
  try dsimp only
  repeat' first | with_reducible assumption | with_reducible apply Keeps.ite | with_reducible apply State.endMove_keeps | split

theorem State.unstartGroup_keeps {b : State} {s : State} (a : _) (h_s : Keeps b s) :
    Keeps b (State.unstartGroup s a) := by
  unfold State.unstartGroup
  try dsimp only
  repeat' first | with_reducible assumption | with_reducible apply Keeps.ite | with_reducible apply Keeps.foldl | with_reducible apply State.modAxis_keeps | with_reducible apply State.setGroup_keeps | simp only [↓Keeps.mk_eq, ↓Keeps.at_eq] | intro _ _ _ | intro _ _ | split

theorem State.unstart_keeps {b : State} {s : State} (a : _) (h_s : Keeps b s) :
    Keeps b (State.unstart s a) := by
  unfold State.unstart
  try dsimp only
  repeat' first | with_reducible assumption | with_reducible apply State.modAxis_keeps | with_reducible apply State.unstartGroup_keeps | intro _ _ _ | intro _ _

theorem State.endHoming_keeps {b : State} {s : State} (a : _) (status : _) (code : _) (h_s : Keeps b s) :
    Keeps b (State.endHoming s a status code) := by
  unfold State.endHoming
  try dsimp only
  repeat' first | with_reducible assumption | with_reducible apply State.final_keeps | with_reducible apply State.setAxis_keeps | split

theorem State.finalOpt_keeps {b : State} {s : State} (o : _) (status : _) (h_s : Keeps b s) :
    Keeps b (State.finalOpt s o status) := by
  unfold State.finalOpt
  try dsimp only
  repeat' first | with_reducible assumption | with_reducible apply State.finalPlain_keeps | split

theorem State.dropCoupling_keeps {b : State} {s : State} (a : _) (h_s : Keeps b s) :
    Keeps b (State.dropCoupling s a) := by
  unfold State.dropCoupling
  try dsimp only
  repeat' first | with_reducible assumption | with_reducible apply State.setAxis_keeps | with_reducible apply State.finalOpt_keeps | split

theorem State.dropReqs_keeps {b : State} {s : State} (a : _) (h_s : Keeps b s) :
    Keeps b (State.dropReqs s a) := by
  unfold State.dropReqs
  try dsimp only
  repeat' first | with_reducible assumption | with_reducible apply Keeps.foldl | with_reducible apply State.modAxis_keeps | with_reducible apply State.finalPlain_keeps | intro _ _ _ | intro _ _

theorem State.endInjection_keeps {b : State} {s : State} (a : _) (status : _) (cycle : _) (h_s : Keeps b s) :
    Keeps b (State.endInjection s a status cycle) := by
  unfold State.endInjection
  try dsimp only
  repeat' first | with_reducible assumption | with_reducible apply State.final_keeps | with_reducible apply State.setAxis_keeps | split

theorem State.failIdent_keeps {b : State} {s : State} (a : _) (code : _) (h_s : Keeps b s) :
    Keeps b (State.failIdent s a code) := by
  unfold State.failIdent
  try dsimp only
  repeat' first | with_reducible assumption | with_reducible apply State.final_keeps | with_reducible apply State.setAxis_keeps | split

theorem State.suspendGroupOf_keeps {b : State} {s : State} (a : _) (h_s : Keeps b s) :
    Keeps b (State.suspendGroupOf s a) := by
  unfold State.suspendGroupOf
  try dsimp only
  repeat' first | with_reducible assumption | with_reducible apply Keeps.ite | with_reducible apply State.requestGroup_keeps | with_reducible apply State.setGroup_keeps | simp only [↓Keeps.mk_eq, ↓Keeps.at_eq]

theorem State.endWork_keeps {b : State} {s : State} (a : _) (h_s : Keeps b s) :
    Keeps b (State.endWork s a) := by
  unfold State.endWork
  try dsimp only
  repeat' first | with_reducible assumption | with_reducible apply State.suspendGroupOf_keeps | with_reducible apply State.endInjection_keeps | with_reducible apply State.endHoming_keeps | with_reducible apply State.failIdent_keeps | with_reducible apply State.dropCoupling_keeps | with_reducible apply State.dropReqs_keeps

theorem State.disableAxis_keeps {b : State} {s : State} (a : _) (h_s : Keeps b s) :
    Keeps b (State.disableAxis s a) := by
  unfold State.disableAxis
  try dsimp only
  repeat' first | with_reducible assumption | with_reducible apply Keeps.ite | with_reducible apply State.endReached_keeps | with_reducible apply State.endWork_keeps | with_reducible apply State.modAxis_keeps | with_reducible apply State.suspendMove_keeps | with_reducible apply State.takeRemain_keeps | with_reducible apply State.unstart_keeps | simp only [↓Keeps.mk_eq, ↓Keeps.at_eq] | intro _ _ _ | intro _ _

theorem State.setChan_keeps {b : State} {s : State} (c : _) (x : _) (h_s : Keeps b s) :
    Keeps b (State.setChan s c x) := by
  unfold State.setChan
  try dsimp only
  repeat' first | with_reducible assumption | simp only [↓Keeps.mk_eq, ↓Keeps.at_eq] | split

theorem State.unack_keeps {b : State} {s : State} (sx : _) (h_s : Keeps b s) :
    Keeps b (State.unack s sx) := by
  unfold State.unack
  try dsimp only
  repeat' first | with_reducible assumption | simp only [↓Keeps.mk_eq, ↓Keeps.at_eq]

theorem State.latchCause_keeps {b : State} {s : State} (sx : _) (i : _) (h_s : Keeps b s) :
    Keeps b (State.latchCause s sx i) := by
  unfold State.latchCause
  try dsimp only
  repeat' first | with_reducible assumption | with_reducible apply State.unack_keeps | simp only [↓Keeps.mk_eq, ↓Keeps.at_eq]

theorem State.stoOne_keeps {b : State} {s : State} (st : _) (c : _) (sx : _) (h_s : Keeps b s) :
    Keeps b (State.stoOne s st c sx) := by
  unfold State.stoOne
  try dsimp only
  repeat' first | with_reducible assumption | with_reducible apply Keeps.ite | with_reducible apply State.unack_keeps | with_reducible apply State.disableAxis_keeps | with_reducible apply State.setChan_keeps | with_reducible apply State.ev_keeps | with_reducible apply State.modAxis_keeps | split

theorem State.stoEnter_keeps {b : State} {s : State} (st : _) (c : _) (sx : _) (h_s : Keeps b s) :
    Keeps b (State.stoEnter s st c sx) := by
  unfold State.stoEnter
  try dsimp only
  repeat' first | with_reducible assumption | with_reducible apply Keeps.ite | with_reducible apply Keeps.foldl | with_reducible apply State.disableAxis_keeps | with_reducible apply State.stoOne_keeps | with_reducible apply State.setChan_keeps | intro _ _ _ | intro _ _ | split

theorem State.stoAll_keeps {b : State} {s : State} (c : _) (h_s : Keeps b s) :
    Keeps b (State.stoAll s c) := by
  unfold State.stoAll
  try dsimp only
  repeat' first | with_reducible assumption | with_reducible apply Keeps.foldl | with_reducible apply State.disableAxis_keeps | with_reducible apply State.setChan_keeps | with_reducible apply State.stoEnter_keeps | intro _ _ _ | intro _ _ | split

theorem State.tripWatchdog_keeps {b : State} {s : State} (st : _) (c : _) (sx : _) (r : _) (h_s : Keeps b s) :
    Keeps b (State.tripWatchdog s st c sx r) := by
  unfold State.tripWatchdog
  try dsimp only
  repeat' first | with_reducible assumption | with_reducible apply State.ev_keeps | with_reducible apply State.latchCause_keeps | with_reducible apply State.setChan_keeps | with_reducible apply State.stoEnter_keeps | simp only [↓Keeps.mk_eq, ↓Keeps.at_eq]

theorem State.tripNode_keeps {b : State} {s : State} (n : _) (h_s : Keeps b s) :
    Keeps b (State.tripNode s n) := by
  unfold State.tripNode
  try dsimp only
  repeat' first | with_reducible assumption | with_reducible apply Keeps.ite | with_reducible apply Keeps.foldl | with_reducible apply State.tripWatchdog_keeps | simp only [↓Keeps.mk_eq, ↓Keeps.at_eq] | intro _ _ _ | intro _ _ | split

theorem State.safUnsync_keeps {b : State} {s : State} (n : _) (h_s : Keeps b s) :
    Keeps b (State.safUnsync s n) := by
  unfold State.safUnsync
  try dsimp only
  repeat' first | with_reducible assumption | with_reducible apply Keeps.ite | with_reducible apply State.setChan_keeps | split

/-! ## Gates -/

theorem State.highsOff_keeps {b : State} {s : State} (k : _) (slowClock : _) (h_s : Keeps b s) :
    Keeps b (State.highsOff s k slowClock) := by
  unfold State.highsOff
  try dsimp only
  repeat' first | with_reducible assumption | with_reducible apply Keeps.ite | with_reducible apply State.setPwmp_keeps | simp only [↓Keeps.mk_eq, ↓Keeps.at_eq] | intro _ _ _ | intro _ _

/-! ## Reactions -/

theorem State.beginQstop_keeps {b : State} {s : State} (a : _) (h_s : Keeps b s) :
    Keeps b (State.beginQstop s a) := by
  unfold State.beginQstop
  try dsimp only
  repeat' first | with_reducible assumption | with_reducible apply Keeps.ite | with_reducible apply State.disableAxis_keeps | with_reducible apply State.endWork_keeps | with_reducible apply State.modAxis_keeps | with_reducible apply State.request_keeps | with_reducible apply State.unstart_keeps | simp only [↓Keeps.mk_eq, ↓Keeps.at_eq] | intro _ _ _ | intro _ _

theorem State.beginTstop_keeps {b : State} {s : State} (a : _) (h_s : Keeps b s) :
    Keeps b (State.beginTstop s a) := by
  unfold State.beginTstop
  try dsimp only
  repeat' first | with_reducible assumption | with_reducible apply Keeps.ite | with_reducible apply State.disableAxis_keeps | with_reducible apply State.endReached_keeps | with_reducible apply State.endWork_keeps | with_reducible apply State.modAxis_keeps | with_reducible apply State.unstart_keeps | simp only [↓Keeps.mk_eq, ↓Keeps.at_eq] | intro _ _ _ | intro _ _

theorem State.axisHighsOff_keeps {b : State} {s : State} (a : _) (h_s : Keeps b s) :
    Keeps b (State.axisHighsOff s a) := by
  unfold State.axisHighsOff
  try dsimp only
  repeat' first | with_reducible assumption | with_reducible apply State.highsOff_keeps | simp only [↓Keeps.mk_eq, ↓Keeps.at_eq] | split

theorem State.torqueOff_keeps {b : State} {s : State} (a : _) (h_s : Keeps b s) :
    Keeps b (State.torqueOff s a) := by
  unfold State.torqueOff
  try dsimp only
  repeat' first | with_reducible assumption | with_reducible apply State.disableAxis_keeps

theorem State.applyReaction_keeps {b : State} {s : State} (a : _) (r0 : _) (h_s : Keeps b s) :
    Keeps b (State.applyReaction s a r0) := by
  unfold State.applyReaction
  try dsimp only
  repeat' first | with_reducible assumption | with_reducible apply Keeps.ite | with_reducible apply State.axisHighsOff_keeps | with_reducible apply State.beginQstop_keeps | with_reducible apply State.beginTstop_keeps | with_reducible apply State.latchCause_keeps | with_reducible apply State.setAxis_keeps | with_reducible apply State.stoEnter_keeps | with_reducible apply State.torqueOff_keeps | simp only [↓Keeps.mk_eq, ↓Keeps.at_eq] | split

theorem State.raiseSource_keeps {b : State} {s : State} (a : _) (src : _) (value : _) (own : _) (h_s : Keeps b s) :
    Keeps b (State.raiseSource s a src value own) := by
  unfold State.raiseSource
  try dsimp only
  repeat' first | with_reducible assumption | with_reducible apply Keeps.ite | with_reducible apply State.applyReaction_keeps | with_reducible apply State.ev_keeps | with_reducible apply State.setAxis_keeps | split

/-! ## Converters -/

theorem State.judgeReference_keeps {b : State} {s : State} (inside : _) (h_s : Keeps b s) :
    Keeps b (State.judgeReference s inside) := by
  unfold State.judgeReference
  try dsimp only
  repeat' first | with_reducible assumption | with_reducible apply Keeps.ite | with_reducible apply State.setBit_keeps | with_reducible apply State.setAdcv_keeps

theorem State.adcLimits_keeps {b : State} {s : State} (k : _) (a : _) (code : _) (h_s : Keeps b s) :
    Keeps b (State.adcLimits s k a code) := by
  unfold State.adcLimits
  try dsimp only
  repeat' first | with_reducible assumption | with_reducible apply Keeps.ite | with_reducible apply State.setBit_keeps | with_reducible apply State.ev_keeps

theorem State.adcResult_keeps {b : State} {s : State} (k : _) (slot : _) (code0 : _) (sat0 : _) (current : _) (req : _) (seq : _) (dest : _) (h_s : Keeps b s) :
    Keeps b (State.adcResult s k slot code0 sat0 current req seq dest) := by
  unfold State.adcResult
  try dsimp only
  repeat' first | with_reducible assumption | with_reducible apply Keeps.ite | with_reducible apply Keeps.foldl | with_reducible apply State.setReg_keeps | with_reducible apply State.setBit_keeps | with_reducible apply State.ev_keeps | with_reducible apply State.judgeReference_keeps | with_reducible apply State.adcLimits_keeps | with_reducible apply State.setAdcv_keeps | intro _ _ _ | intro _ _ | split

theorem State.adcStart_keeps {b : State} {s : State} (h_s : Keeps b s) :
    Keeps b (State.adcStart s) := by
  unfold State.adcStart
  try dsimp only
  repeat' first | with_reducible assumption | with_reducible apply Keeps.foldl | with_reducible apply State.setAdcv_keeps | intro _ _ _ | intro _ _

theorem State.adcGainChange_keeps {b : State} {s : State} (a : _) (h_s : Keeps b s) :
    Keeps b (State.adcGainChange s a) := by
  unfold State.adcGainChange
  try dsimp only
  repeat' first | with_reducible assumption | with_reducible apply Keeps.ite | with_reducible apply State.setAdcv_keeps | simp only [↓Keeps.mk_eq, ↓Keeps.at_eq]

theorem adcRegularConversionCmd_keeps {b : State} (k : _) (code : _) (sat : _) (current : _) {s : State} (h_s : Keeps b s) :
    Keeps b (adcRegularConversionCmd k code sat current s) := by
  unfold adcRegularConversionCmd
  try dsimp only
  repeat' first | with_reducible assumption | with_reducible apply Keeps.ite | with_reducible apply State.adcResult_keeps | with_reducible apply State.evC_keeps | with_reducible apply State.setAdcv_keeps

theorem adcInjectedTriggerCmd_keeps {b : State} (k : _) (src : _) {s : State} (h_s : Keeps b s) :
    Keeps b (adcInjectedTriggerCmd k src s) := by
  unfold adcInjectedTriggerCmd
  try dsimp only
  repeat' first | with_reducible assumption | with_reducible apply Keeps.ite | with_reducible apply State.bumpFld_keeps | with_reducible apply State.evK_keeps | with_reducible apply State.setAdcv_keeps | with_reducible apply State.setBit_keeps | simp only [↓Keeps.mk_eq, ↓Keeps.at_eq]

theorem State.adcInjResults_keeps {b s : State} (k seq j : Nat) (slots : List Nat) (codes : List Int) (h : Keeps b s) :
    Keeps b (State.adcInjResults s k seq j slots codes) := by
  induction slots generalizing s j codes with
  | nil => exact h
  | cons c rest ih =>
    unfold State.adcInjResults
    refine Keeps.ite (ih _ _ ?_) (ih _ _ (State.adcResult_keeps _ _ _ _ _ _ _ _ h))
    exact State.adcResult_keeps _ _ _ _ _ _ _ _ (State.setAdcv_keeps _ _ (State.adcResult_keeps _ _ _ _ _ _ _ _ h))

theorem adcInjectedEndCmd_keeps {b : State} (k : _) (codes : _) {s : State} (h_s : Keeps b s) :
    Keeps b (adcInjectedEndCmd k codes s) := by
  unfold adcInjectedEndCmd
  try dsimp only
  repeat' first | with_reducible assumption | with_reducible apply Keeps.ite | with_reducible apply State.adcInjResults_keeps | with_reducible apply State.evC_keeps | with_reducible apply State.setAdcv_keeps

/-! ## PortPins -/

theorem State.feedbackFault_keeps {b : State} {s : State} (k : _) (c : _) (h_s : Keeps b s) :
    Keeps b (State.feedbackFault s k c) := by
  unfold State.feedbackFault
  try dsimp only
  repeat' first | with_reducible assumption | with_reducible apply Keeps.ite | with_reducible apply State.ev_keeps | with_reducible apply State.raiseSource_keeps | with_reducible apply State.setAxis_keeps | with_reducible apply State.setBit_keeps | simp only [↓Keeps.mk_eq, ↓Keeps.at_eq] | split

theorem State.latchSave_keeps {b : State} {s : State} (k : _) (j : _) (h_s : Keeps b s) :
    Keeps b (State.latchSave s k j) := by
  unfold State.latchSave
  try dsimp only
  repeat' first | with_reducible assumption | with_reducible apply Keeps.ite | with_reducible apply State.setFbp_keeps | simp only [↓Keeps.mk_eq, ↓Keeps.at_eq] | split

theorem State.latchRestore_keeps {b : State} {s : State} (k : _) (j : _) (c : _) (h_s : Keeps b s) :
    Keeps b (State.latchRestore s k j c) := by
  unfold State.latchRestore
  try dsimp only
  repeat' first | with_reducible assumption | with_reducible apply Keeps.ite | with_reducible apply State.setBit_keeps | with_reducible apply State.setReg_keeps | with_reducible apply State.setReg72_keeps | simp only [↓Keeps.mk_eq, ↓Keeps.at_eq] | split

theorem State.latchDone_keeps {b : State} {s : State} (k : _) (j : _) (pos : _) (t : _) (h_s : Keeps b s) :
    Keeps b (State.latchDone s k j pos t) := by
  unfold State.latchDone
  try dsimp only
  repeat' first | with_reducible assumption | with_reducible apply Keeps.ite | with_reducible apply State.ev_keeps | with_reducible apply State.latchSave_keeps | with_reducible apply State.setAxis_keeps | with_reducible apply State.setBit_keeps | with_reducible apply State.setReg72_keeps | with_reducible apply State.setRegT72_keeps | simp only [↓Keeps.mk_eq, ↓Keeps.at_eq] | split

theorem State.latchMeet_keeps {b : State} {s : State} (k : _) (j : _) (src : _) (sel : _) (rise : _) (t : _) (h_s : Keeps b s) :
    Keeps b (State.latchMeet s k j src sel rise t) := by
  unfold State.latchMeet
  try dsimp only
  repeat' first | with_reducible assumption | with_reducible apply Keeps.ite | with_reducible apply State.latchDone_keeps | with_reducible apply State.setBit_keeps | with_reducible apply State.setFbp_keeps | simp only [↓Keeps.mk_eq, ↓Keeps.at_eq]

theorem State.latchesMeet_keeps {b : State} {s : State} (src : _) (sel : _) (rise : _) (t : _) (h_s : Keeps b s) :
    Keeps b (State.latchesMeet s src sel rise t) := by
  unfold State.latchesMeet
  try dsimp only
  repeat' first | with_reducible assumption | with_reducible apply Keeps.foldl | with_reducible apply State.latchMeet_keeps | intro _ _ _ | intro _ _

theorem State.latchWrite_keeps {b : State} {s : State} (k : _) (j : _) (h_s : Keeps b s) :
    Keeps b (State.latchWrite s k j) := by
  unfold State.latchWrite
  try dsimp only
  repeat' first | with_reducible assumption | with_reducible apply Keeps.ite | with_reducible apply State.latchDone_keeps | with_reducible apply State.setBit_keeps | with_reducible apply State.setFbp_keeps | simp only [↓Keeps.mk_eq, ↓Keeps.at_eq] | intro _ _ _ | intro _ _ | split

theorem State.latchWrites_keeps {b : State} {s : State} (k : _) (h_s : Keeps b s) :
    Keeps b (State.latchWrites s k) := by
  unfold State.latchWrites
  try dsimp only
  repeat' first | with_reducible assumption | with_reducible apply State.latchWrite_keeps

theorem State.holdStep_keeps {b : State} {s : State} (k : _) (j : _) (h_s : Keeps b s) :
    Keeps b (State.holdStep s k j) := by
  unfold State.holdStep
  try dsimp only
  repeat' first | with_reducible assumption | with_reducible apply State.setFbp_keeps | simp only [↓Keeps.mk_eq, ↓Keeps.at_eq]

theorem State.freeStep_keeps {b : State} {s : State} (k : _) (j : _) (h_s : Keeps b s) :
    Keeps b (State.freeStep s k j) := by
  unfold State.freeStep
  try dsimp only
  repeat' first | with_reducible assumption | with_reducible apply State.setFbp_keeps | simp only [↓Keeps.mk_eq, ↓Keeps.at_eq]

theorem State.cmpSkipBy_keeps {b : State} {s : State} (k : _) (j : _) (n : _) (h_s : Keeps b s) :
    Keeps b (State.cmpSkipBy s k j n) := by
  unfold State.cmpSkipBy
  try dsimp only
  repeat' first | with_reducible assumption | with_reducible apply State.bumpFld_keeps | with_reducible apply State.setReg72_keeps

theorem State.cmpDrive_keeps {b : State} {s : State} (k : _) (j : _) (h_s : Keeps b s) :
    Keeps b (State.cmpDrive s k j) := by
  unfold State.cmpDrive
  try dsimp only
  repeat' first | with_reducible assumption | with_reducible apply Keeps.ite | with_reducible apply State.setBit_keeps | with_reducible apply State.setFbp_keeps

theorem State.hitAt_keeps {b : State} {s : State} (k : _) (j : _) (h_s : Keeps b s) :
    Keeps b (State.hitAt s k j) := by
  unfold State.hitAt
  try dsimp only
  repeat' first | with_reducible assumption | with_reducible apply Keeps.ite | with_reducible apply State.cmpDrive_keeps | with_reducible apply State.ev_keeps | with_reducible apply State.freeStep_keeps | with_reducible apply State.setBit_keeps | with_reducible apply State.setFbp_keeps | with_reducible apply State.setReg_keeps | with_reducible apply State.setReg72_keeps | simp only [↓Keeps.mk_eq, ↓Keeps.at_eq]

theorem State.compareMove_keeps {b : State} {s : State} (k : _) (j : _) (old : _) (new : _) (h_s : Keeps b s) :
    Keeps b (State.compareMove s k j old new) := by
  unfold State.compareMove
  try dsimp only
  repeat' first | with_reducible assumption | with_reducible apply Keeps.ite | with_reducible apply State.hitAt_keeps

theorem State.rearmTick_keeps {b : State} {s : State} (k : _) (j : _) (h_s : Keeps b s) :
    Keeps b (State.rearmTick s k j) := by
  unfold State.rearmTick
  try dsimp only
  repeat' first | with_reducible assumption | with_reducible apply Keeps.ite | with_reducible apply State.cmpSkipBy_keeps | with_reducible apply State.setBit_keeps | with_reducible apply State.setFbp_keeps | simp only [↓Keeps.mk_eq, ↓Keeps.at_eq]

theorem State.compareTick_keeps {b : State} {s : State} (k : _) (h_s : Keeps b s) :
    Keeps b (State.compareTick s k) := by
  unfold State.compareTick
  try dsimp only
  repeat' first | with_reducible assumption | with_reducible apply Keeps.ite | with_reducible apply State.compareMove_keeps | with_reducible apply State.rearmTick_keeps | with_reducible apply State.setFbp_keeps | simp only [↓Keeps.mk_eq, ↓Keeps.at_eq]

theorem State.emuPush_keeps {b : State} {s : State} (e : _) (d : _) (h_s : Keeps b s) :
    Keeps b (State.emuPush s e d) := by
  unfold State.emuPush
  try dsimp only
  repeat' first | with_reducible assumption | with_reducible apply Keeps.ite | with_reducible apply State.setBit_keeps | with_reducible apply State.setFbp_keeps | with_reducible apply State.setFld_keeps | simp only [↓Keeps.mk_eq, ↓Keeps.at_eq]

theorem State.emuCount_keeps {b : State} {s : State} (e : _) (d : _) (h_s : Keeps b s) :
    Keeps b (State.emuCount s e d) := by
  unfold State.emuCount
  try dsimp only
  repeat' first | with_reducible assumption | with_reducible apply Keeps.ite | with_reducible apply State.emuPush_keeps | with_reducible apply State.setFbp_keeps | simp only [↓Keeps.mk_eq, ↓Keeps.at_eq]

theorem State.emuCounts_keeps {b : State} {s : State} (e : _) (d : _) (n : _) (h_s : Keeps b s) :
    Keeps b (State.emuCounts s e d n) := by
  unfold State.emuCounts
  try dsimp only
  repeat' first | with_reducible assumption | with_reducible apply Keeps.foldl | with_reducible apply State.emuCount_keeps | intro _ _ _ | intro _ _

theorem State.emuFeed_keeps {b : State} {s : State} (k : _) (d : _) (h_s : Keeps b s) :
    Keeps b (State.emuFeed s k d) := by
  unfold State.emuFeed
  try dsimp only
  repeat' first | with_reducible assumption | with_reducible apply Keeps.ite | with_reducible apply Keeps.foldl | with_reducible apply State.emuCount_keeps | intro _ _ _ | intro _ _

theorem State.emuIndex_keeps {b : State} {s : State} (k : _) (h_s : Keeps b s) :
    Keeps b (State.emuIndex s k) := by
  unfold State.emuIndex
  try dsimp only
  repeat' first | with_reducible assumption | with_reducible apply Keeps.ite | with_reducible apply Keeps.foldl | with_reducible apply State.setFbp_keeps | simp only [↓Keeps.mk_eq, ↓Keeps.at_eq] | intro _ _ _ | intro _ _

theorem State.emuEmit_keeps {b : State} {s : State} (e : _) (d : _) (h_s : Keeps b s) :
    Keeps b (State.emuEmit s e d) := by
  unfold State.emuEmit
  try dsimp only
  repeat' first | with_reducible assumption | with_reducible apply Keeps.ite | with_reducible apply State.setFbp_keeps | with_reducible apply State.setFld_keeps | simp only [↓Keeps.mk_eq, ↓Keeps.at_eq]

theorem State.emuSpreadTick_keeps {b : State} {s : State} (e : _) (h_s : Keeps b s) :
    Keeps b (State.emuSpreadTick s e) := by
  unfold State.emuSpreadTick
  try dsimp only
  repeat' first | with_reducible assumption | with_reducible apply Keeps.ite | with_reducible apply State.emuCounts_keeps | with_reducible apply State.setFbp_keeps | with_reducible apply State.tick_keeps | simp only [↓Keeps.mk_eq, ↓Keeps.at_eq]

theorem State.emuTick_keeps {b : State} {s : State} (e : _) (h_s : Keeps b s) :
    Keeps b (State.emuTick s e) := by
  unfold State.emuTick
  try dsimp only
  repeat' first | with_reducible assumption | with_reducible apply Keeps.ite | with_reducible apply State.emuEmit_keeps | with_reducible apply State.emuSpreadTick_keeps | with_reducible apply State.setFbp_keeps | simp only [↓Keeps.mk_eq, ↓Keeps.at_eq]

theorem State.emuPhi0_keeps {b : State} {s : State} (e : _) (h_s : Keeps b s) :
    Keeps b (State.emuPhi0 s e) := by
  unfold State.emuPhi0
  try dsimp only
  repeat' first | with_reducible assumption | with_reducible apply Keeps.ite | with_reducible apply State.emuCounts_keeps | with_reducible apply State.setFbp_keeps | simp only [↓Keeps.mk_eq, ↓Keeps.at_eq] | intro _ _ _ | intro _ _ | split

theorem State.illegalAt_keeps {b : State} {s : State} (k : _) (h_s : Keeps b s) :
    Keeps b (State.illegalAt s k) := by
  unfold State.illegalAt
  try dsimp only
  repeat' first | with_reducible assumption | with_reducible apply Keeps.ite | with_reducible apply State.bumpFld_keeps | with_reducible apply State.ev_keeps | with_reducible apply State.feedbackFault_keeps | with_reducible apply State.setBit_keeps | with_reducible apply State.setFbp_keeps | simp only [↓Keeps.mk_eq, ↓Keeps.at_eq]

theorem State.countStep_keeps {b : State} {s : State} (k : _) (d : _) (h_s : Keeps b s) :
    Keeps b (State.countStep s k d) := by
  unfold State.countStep
  try dsimp only
  repeat' first | with_reducible assumption | with_reducible apply Keeps.ite | with_reducible apply State.compareMove_keeps | with_reducible apply State.emuFeed_keeps | with_reducible apply State.setFbp_keeps | simp only [↓Keeps.mk_eq, ↓Keeps.at_eq]

theorem State.indexAt_keeps {b : State} {s : State} (k : _) (h_s : Keeps b s) :
    Keeps b (State.indexAt s k) := by
  unfold State.indexAt
  try dsimp only
  repeat' first | with_reducible assumption | with_reducible apply Keeps.ite | with_reducible apply State.emuIndex_keeps | with_reducible apply State.ev_keeps | with_reducible apply State.feedbackFault_keeps | with_reducible apply State.freeW_keeps | refine State.freeW_of ?_ (by assumption) | with_reducible apply State.latchMeet_keeps | with_reducible apply State.setBit_keeps | with_reducible apply State.setFbp_keeps | with_reducible apply State.setReg_keeps | simp only [↓Keeps.mk_eq, ↓Keeps.at_eq] | split

theorem State.decode_keeps {b : State} {s : State} (k : _) (old : _) (new : _) (h_s : Keeps b s) :
    Keeps b (State.decode s k old new) := by
  unfold State.decode
  try dsimp only
  repeat' first | with_reducible assumption | with_reducible apply Keeps.ite | with_reducible apply State.countStep_keeps | with_reducible apply State.illegalAt_keeps | with_reducible apply State.indexAt_keeps | simp only [↓Keeps.mk_eq, ↓Keeps.at_eq] | split

theorem State.portSettle_keeps {b : State} {s : State} (k : _) (h_s : Keeps b s) :
    Keeps b (State.portSettle s k) := by
  unfold State.portSettle
  try dsimp only
  repeat' first | with_reducible assumption | with_reducible apply Keeps.ite | with_reducible apply State.decode_keeps | with_reducible apply State.setFbp_keeps | simp only [↓Keeps.mk_eq, ↓Keeps.at_eq]

theorem State.portTick_keeps {b : State} {s : State} (k : _) (h_s : Keeps b s) :
    Keeps b (State.portTick s k) := by
  unfold State.portTick
  try dsimp only
  repeat' first | with_reducible assumption | with_reducible apply Keeps.ite | with_reducible apply State.compareTick_keeps | with_reducible apply State.emuTick_keeps | with_reducible apply State.portSettle_keeps | with_reducible apply State.setFbp_keeps | simp only [↓Keeps.mk_eq, ↓Keeps.at_eq]

theorem State.fbTick_keeps {b : State} {s : State} (h_s : Keeps b s) :
    Keeps b (State.fbTick s) := by
  unfold State.fbTick
  try dsimp only
  repeat' first | with_reducible assumption | with_reducible apply Keeps.foldl | with_reducible apply State.portTick_keeps | with_reducible apply State.tick_keeps | simp only [↓Keeps.mk_eq, ↓Keeps.at_eq] | intro _ _ _ | intro _ _

theorem State.fbTicks_keeps {b : State} {s : State} (n : Nat) (h_s : Keeps b s) : Keeps b (State.fbTicks n s) := by
  induction n generalizing s with
  | zero => exact h_s
  | succ n ih => exact ih (State.fbTick_keeps h_s)

theorem State.pinChange_keeps {b : State} {s : State} (e : _) (h_s : Keeps b s) :
    Keeps b (State.pinChange s e) := by
  unfold State.pinChange
  try dsimp only
  repeat' first | with_reducible assumption | with_reducible apply Keeps.ite | with_reducible apply State.portSettle_keeps | with_reducible apply State.setFbp_keeps | simp only [↓Keeps.mk_eq, ↓Keeps.at_eq]

theorem State.pinsRun_keeps {b : State} {s : State} (r : _) (h_s : Keeps b s) :
    Keeps b (State.pinsRun s r) := by
  unfold State.pinsRun
  try dsimp only
  repeat' first | with_reducible assumption | with_reducible apply Keeps.foldl | with_reducible apply State.fbTicks_keeps | with_reducible apply State.pinChange_keeps | intro _ _ _ | intro _ _

theorem State.linesAt_keeps {b : State} {s : State} (k : _) (l : _) (h_s : Keeps b s) :
    Keeps b (State.linesAt s k l) := by
  unfold State.linesAt
  try dsimp only
  repeat' first | with_reducible assumption | with_reducible apply State.setFbp_keeps | simp only [↓Keeps.mk_eq, ↓Keeps.at_eq]

/-! ## Clock -/

theorem State.setTimIncr_keeps {b : State} {s : State} (x : _) (h_s : Keeps b s) :
    Keeps b (State.setTimIncr s x) := by
  unfold State.setTimIncr
  try dsimp only
  repeat' first | with_reducible assumption | with_reducible apply State.setReg_keeps | with_reducible apply State.setFld_keeps

theorem State.tick_keeps {b : State} {s : State} (h_s : Keeps b s) :
    Keeps b (State.tick s) := by
  unfold State.tick
  try dsimp only
  repeat' first | with_reducible assumption | with_reducible apply Keeps.ite | simp only [↓Keeps.mk_eq, ↓Keeps.at_eq]

theorem State.showOffset_keeps {b : State} {s : State} (e : _) (h_s : Keeps b s) :
    Keeps b (State.showOffset s e) := by
  unfold State.showOffset
  try dsimp only
  repeat' first | with_reducible assumption | with_reducible apply State.setReg_keeps

theorem State.byPin_keeps {b : State} {s : State} (b_ : _) (h_s : Keeps b s) :
    Keeps b (State.byPin s b_) := by
  unfold State.byPin
  try dsimp only
  repeat' first | with_reducible assumption | with_reducible apply Keeps.ite | simp only [↓Keeps.mk_eq, ↓Keeps.at_eq]

theorem State.buoyLatches_keeps {b : State} {s : State} (b_ : _) (rise : _) (t : _) (h_s : Keeps b s) :
    Keeps b (State.buoyLatches s b_ rise t) := by
  unfold State.buoyLatches
  try dsimp only
  repeat' first | with_reducible assumption | with_reducible apply State.latchesMeet_keeps

theorem State.fireBuoy_keeps {b : State} {s : State} (b_ : _) (h_s : Keeps b s) :
    Keeps b (State.fireBuoy s b_) := by
  unfold State.fireBuoy
  try dsimp only
  repeat' first | with_reducible assumption | with_reducible apply Keeps.ite | with_reducible apply Keeps.foldl | with_reducible apply State.buoyLatches_keeps | with_reducible apply State.byPin_keeps | with_reducible apply State.ev_keeps | with_reducible apply State.timedTrigger_keeps | with_reducible apply State.wake_keeps | with_reducible apply adcInjectedTriggerCmd_keeps | simp only [↓Keeps.mk_eq, ↓Keeps.at_eq] | intro _ _ _ | intro _ _

theorem State.firePassed_keeps {b : State} {s : State} (t0 : _) (t1 : _) (h_s : Keeps b s) :
    Keeps b (State.firePassed s t0 t1) := by
  unfold State.firePassed
  try dsimp only
  repeat' first | with_reducible assumption | with_reducible apply Keeps.ite | with_reducible apply Keeps.foldl | with_reducible apply State.fireBuoy_keeps | intro _ _ _ | intro _ _

theorem buoyFireCmd_keeps {b : State} (x : _) {s : State} (h_s : Keeps b s) :
    Keeps b (buoyFireCmd x s) := by
  unfold buoyFireCmd
  try dsimp only
  repeat' first | with_reducible assumption | with_reducible apply State.fireBuoy_keeps | with_reducible apply State.pinsRun_keeps

theorem buoyPinEndCmd_keeps {b : State} (b_ : _) {s : State} (h_s : Keeps b s) :
    Keeps b (buoyPinEndCmd b_ s) := by
  unfold buoyPinEndCmd
  try dsimp only
  repeat' first | with_reducible assumption | with_reducible apply Keeps.ite | with_reducible apply State.buoyLatches_keeps | simp only [↓Keeps.mk_eq, ↓Keeps.at_eq] | intro _ _ _ | intro _ _

theorem State.stepTime_keeps {b : State} {s : State} (e : _) (h_s : Keeps b s) :
    Keeps b (State.stepTime s e) := by
  unfold State.stepTime
  try dsimp only
  repeat' first | with_reducible assumption | with_reducible apply State.firePassed_keeps | with_reducible apply State.setBit_keeps | simp only [↓Keeps.mk_eq, ↓Keeps.at_eq]

theorem State.judgeLock_keeps {b : State} {s : State} (e : _) (h_s : Keeps b s) :
    Keeps b (State.judgeLock s e) := by
  unfold State.judgeLock
  try dsimp only
  repeat' first | with_reducible assumption | with_reducible apply Keeps.ite | with_reducible apply State.setBit_keeps | simp only [↓Keeps.mk_eq, ↓Keeps.at_eq]

theorem State.runServo_keeps {b : State} {s : State} (e : _) (period : _) (h_s : Keeps b s) :
    Keeps b (State.runServo s e period) := by
  unfold State.runServo
  try dsimp only
  repeat' first | with_reducible assumption | with_reducible apply Keeps.ite | with_reducible apply State.judgeLock_keeps | with_reducible apply State.setBit_keeps | with_reducible apply State.setTimIncr_keeps | with_reducible apply State.showOffset_keeps | with_reducible apply State.stepTime_keeps | simp only [↓Keeps.mk_eq, ↓Keeps.at_eq]

theorem State.holdover_keeps {b : State} {s : State} (h_s : Keeps b s) :
    Keeps b (State.holdover s) := by
  unfold State.holdover
  try dsimp only
  repeat' first | with_reducible assumption | with_reducible apply Keeps.ite | with_reducible apply State.setBit_keeps | simp only [↓Keeps.mk_eq, ↓Keeps.at_eq]

theorem syncInEdgeCmd_keeps {b : State} (stamp : _) {s : State} (h_s : Keeps b s) :
    Keeps b (syncInEdgeCmd stamp s) := by
  unfold syncInEdgeCmd
  try dsimp only
  repeat' first | with_reducible assumption | with_reducible apply Keeps.ite | with_reducible apply State.setRegT72_keeps | with_reducible apply State.runServo_keeps

theorem syncinMissCmd_keeps {b : State} {s : State} (h_s : Keeps b s) :
    Keeps b (syncinMissCmd s) := by
  unfold syncinMissCmd
  try dsimp only
  repeat' first | with_reducible assumption | with_reducible apply Keeps.ite | with_reducible apply State.holdover_keeps | with_reducible apply State.setBit_keeps

theorem State.syncOutPhi0_keeps {b : State} {s : State} (h_s : Keeps b s) :
    Keeps b (State.syncOutPhi0 s) := by
  unfold State.syncOutPhi0
  try dsimp only
  repeat' first | with_reducible assumption | with_reducible apply Keeps.ite | simp only [↓Keeps.mk_eq, ↓Keeps.at_eq]

theorem syncOutPulseEndCmd_keeps {b : State} {s : State} (h_s : Keeps b s) :
    Keeps b (syncOutPulseEndCmd s) := by
  unfold syncOutPulseEndCmd
  try dsimp only
  repeat' first | with_reducible assumption | simp only [↓Keeps.mk_eq, ↓Keeps.at_eq]

theorem ptmDialogueCmd_keeps {b : State} (pair : _) {s : State} (h_s : Keeps b s) :
    Keeps b (ptmDialogueCmd pair s) := by
  unfold ptmDialogueCmd
  try dsimp only
  repeat' first | with_reducible assumption | with_reducible apply Keeps.ite | with_reducible apply State.setReg_keeps | with_reducible apply State.setBit_keeps | with_reducible apply State.setRegT72_keeps | split

/-! ## Acquire -/

theorem acqArmCmd_keeps {b : State} (h : _) (cfg : _) {s : State} (h_s : Keeps b s) :
    Keeps b (acqArmCmd h cfg s) := by
  unfold acqArmCmd
  try dsimp only
  repeat' first | with_reducible assumption | with_reducible apply Keeps.ite | with_reducible apply State.acceptLong_keeps | with_reducible apply State.hostCmd_keeps | with_reducible apply State.post_keeps | with_reducible apply State.setFld_keeps | with_reducible apply State.setPod_keeps | with_reducible apply State.setReg_keeps | with_reducible apply State.wake_keeps | simp only [↓Keeps.mk_eq, ↓Keeps.at_eq] | intro _ _ _ | intro _ _ | split

theorem captureSampleCmd_keeps {b : State} (p : _) {s : State} (h_s : Keeps b s) :
    Keeps b (captureSampleCmd p s) := by
  unfold captureSampleCmd
  try dsimp only
  repeat' first | with_reducible assumption | with_reducible apply Keeps.ite | with_reducible apply Keeps.foldl | with_reducible apply State.bumpFld_keeps | with_reducible apply State.setAxis_keeps | with_reducible apply State.setPod_keeps | simp only [↓Keeps.mk_eq, ↓Keeps.at_eq] | intro _ _ _ | intro _ _ | split

theorem State.podDone_keeps {b : State} {s : State} (p : _) (q : _) (h_s : Keeps b s) :
    Keeps b (State.podDone s p q) := by
  unfold State.podDone
  try dsimp only
  repeat' first | with_reducible assumption | with_reducible apply State.evFree_keeps | with_reducible apply State.setPod_keeps | with_reducible apply State.finalPlain_keeps

theorem peaCopyDoneCmd_keeps {b : State} (p : _) {s : State} (h_s : Keeps b s) :
    Keeps b (peaCopyDoneCmd p s) := by
  unfold peaCopyDoneCmd
  try dsimp only
  repeat' first | with_reducible assumption | with_reducible apply Keeps.ite | with_reducible apply State.evFree_keeps | with_reducible apply State.setBit_keeps | with_reducible apply State.bumpFld_keeps | with_reducible apply State.podDone_keeps | with_reducible apply State.setPod_keeps | with_reducible apply State.memWr_keeps | split

theorem acqDisarmCmd_keeps {b : State} (h0 : _) {s : State} (h_s : Keeps b s) :
    Keeps b (acqDisarmCmd h0 s) := by
  unfold acqDisarmCmd
  try dsimp only
  repeat' first | with_reducible assumption | with_reducible apply Keeps.ite | with_reducible apply State.setPod_keeps | with_reducible apply State.hostCmd_keeps | with_reducible apply State.acceptImm_keeps | intro _ _ _ | intro _ _ | split

theorem State.podsNewRung_keeps {b : State} {s : State} (h_s : Keeps b s) :
    Keeps b (State.podsNewRung s) := by
  unfold State.podsNewRung
  try dsimp only
  repeat' first | with_reducible assumption | with_reducible apply Keeps.ite | with_reducible apply Keeps.foldl | with_reducible apply State.setPod_keeps | intro _ _ _ | intro _ _ | split

theorem traceAutoFreezeCmd_keeps {b : State} (a : _) {s : State} (h_s : Keeps b s) :
    Keeps b (traceAutoFreezeCmd a s) := by
  unfold traceAutoFreezeCmd
  try dsimp only
  repeat' first | with_reducible assumption | with_reducible apply Keeps.ite | with_reducible apply State.setAxis_keeps

theorem traceFreezeCmd_keeps {b : State} (h0 : _) {s : State} (h_s : Keeps b s) :
    Keeps b (traceFreezeCmd h0 s) := by
  unfold traceFreezeCmd
  try dsimp only
  repeat' first | with_reducible assumption | with_reducible apply State.setAxis_keeps | with_reducible apply State.hostCmd_keeps | with_reducible apply State.acceptImm_keeps | intro _ _ _ | intro _ _

theorem traceReadCmd_keeps {b : State} (h0 : _) (buf : _) (len : _) {s : State} (h_s : Keeps b s) :
    Keeps b (traceReadCmd h0 buf len s) := by
  unfold traceReadCmd
  try dsimp only
  repeat' first | with_reducible assumption | with_reducible apply Keeps.ite | with_reducible apply State.answer_keeps | with_reducible apply State.setAxis_keeps | with_reducible apply State.memWr_keeps | with_reducible apply State.hostCmd_keeps | with_reducible apply State.answerOk_keeps | intro _ _ _ | intro _ _ | split

/-! ## Backbone -/

theorem State.openRing_keeps {b : State} {s : State} (e : _) (h_s : Keeps b s) :
    Keeps b (State.openRing s e) := by
  unfold State.openRing
  try dsimp only
  repeat' first | with_reducible assumption | with_reducible apply Keeps.ite | with_reducible apply State.setBit_keeps | with_reducible apply State.evC_keeps

theorem State.closeRing_keeps {b : State} {s : State} (e : _) (h_s : Keeps b s) :
    Keeps b (State.closeRing s e) := by
  unfold State.closeRing
  try dsimp only
  repeat' first | with_reducible assumption | with_reducible apply Keeps.ite | with_reducible apply State.setLane_keeps | with_reducible apply State.setBit_keeps | with_reducible apply State.evC_keeps

theorem State.nameClosing_keeps {b : State} {s : State} (e : _) (h_s : Keeps b s) :
    Keeps b (State.nameClosing s e) := by
  unfold State.nameClosing
  try dsimp only
  repeat' first | with_reducible assumption | with_reducible apply Keeps.ite | with_reducible apply State.setLane_keeps | simp only [↓Keeps.mk_eq, ↓Keeps.at_eq] | split

theorem laneLinkUpCmd_keeps {b : State} (n : _) {s : State} (h_s : Keeps b s) :
    Keeps b (laneLinkUpCmd n s) := by
  unfold laneLinkUpCmd
  try dsimp only
  repeat' first | with_reducible assumption | with_reducible apply Keeps.ite | with_reducible apply State.evC_keeps | with_reducible apply State.nameClosing_keeps | with_reducible apply State.setBit_keeps | with_reducible apply State.setFld_keeps | simp only [↓Keeps.mk_eq, ↓Keeps.at_eq] | split

theorem State.linkDown_keeps {b : State} {s : State} (n : _) (h_s : Keeps b s) :
    Keeps b (State.linkDown s n) := by
  unfold State.linkDown
  try dsimp only
  repeat' first | with_reducible assumption | with_reducible apply Keeps.ite | with_reducible apply State.bumpFld_keeps | with_reducible apply State.evC_keeps | with_reducible apply State.freeW_keeps | refine State.freeW_of ?_ (by assumption) | with_reducible apply State.openRing_keeps | with_reducible apply State.setBit_keeps | with_reducible apply State.setFld_keeps | with_reducible apply State.setLane_keeps | simp only [↓Keeps.mk_eq, ↓Keeps.at_eq] | intro _ _ _ | intro _ _ | split

theorem laneLinkDownCmd_keeps {b : State} (n : _) {s : State} (h_s : Keeps b s) :
    Keeps b (laneLinkDownCmd n s) := by
  unfold laneLinkDownCmd
  try dsimp only
  repeat' first | with_reducible assumption | with_reducible apply State.linkDown_keeps

theorem ringCloseCmd_keeps {b : State} (n : _) {s : State} (h_s : Keeps b s) :
    Keeps b (ringCloseCmd n s) := by
  unfold ringCloseCmd
  try dsimp only
  repeat' first | with_reducible assumption | with_reducible apply Keeps.ite | with_reducible apply State.closeRing_keeps | simp only [↓Keeps.mk_eq, ↓Keeps.at_eq] | split

theorem State.countBad_keeps {b : State} {s : State} (n : _) (t : _) (h_s : Keeps b s) :
    Keeps b (State.countBad s n t) := by
  unfold State.countBad
  try dsimp only
  repeat' first | with_reducible assumption | with_reducible apply State.bumpFld_keeps

theorem linkDelayRequestCmd_keeps {b : State} (n : _) {s : State} (h_s : Keeps b s) :
    Keeps b (linkDelayRequestCmd n s) := by
  unfold linkDelayRequestCmd
  try dsimp only
  repeat' first | with_reducible assumption | with_reducible apply Keeps.ite | with_reducible apply State.setLane_keeps | simp only [↓Keeps.mk_eq, ↓Keeps.at_eq]

theorem State.newDelay_keeps {b : State} {s : State} (n : _) (twice : _) (h_s : Keeps b s) :
    Keeps b (State.newDelay s n twice) := by
  unfold State.newDelay
  try dsimp only
  repeat' first | with_reducible assumption | with_reducible apply Keeps.ite | with_reducible apply State.setBit_keeps | with_reducible apply State.setFld_keeps | with_reducible apply State.setLane_keeps | simp only [↓Keeps.mk_eq, ↓Keeps.at_eq] | split

theorem linkFrameCmd_keeps {b : State} (n : _) (response : _) (seq : _) (node : _) (uid : _) (t1 : _) (t2 : _) (t3 : _) (t4 : _) {s : State} (h_s : Keeps b s) :
    Keeps b (linkFrameCmd n response seq node uid t1 t2 t3 t4 s) := by
  unfold linkFrameCmd
  try dsimp only
  repeat' first | with_reducible assumption | with_reducible apply Keeps.ite | with_reducible apply State.countBad_keeps | with_reducible apply State.newDelay_keeps | with_reducible apply State.setLane_keeps | simp only [↓Keeps.mk_eq, ↓Keeps.at_eq]

theorem State.setCold_keeps {b : State} {s : State} (c : _) (h_s : Keeps b s) :
    Keeps b (State.setCold s c) := by
  unfold State.setCold
  try dsimp only
  repeat' first | with_reducible assumption | simp only [↓Keeps.mk_eq, ↓Keeps.at_eq]

theorem coldListenEndCmd_keeps {b : State} {s : State} (h_s : Keeps b s) :
    Keeps b (coldListenEndCmd s) := by
  unfold coldListenEndCmd
  try dsimp only
  repeat' first | with_reducible assumption | with_reducible apply Keeps.ite | simp only [↓Keeps.mk_eq, ↓Keeps.at_eq]

theorem coldstartSendCmd_keeps {b : State} {s : State} (h_s : Keeps b s) :
    Keeps b (coldstartSendCmd s) := by
  unfold coldstartSendCmd
  try dsimp only
  repeat' first | with_reducible assumption | with_reducible apply Keeps.ite | with_reducible apply Keeps.foldl | with_reducible apply State.setLane_keeps | simp only [↓Keeps.mk_eq, ↓Keeps.at_eq] | intro _ _ _ | intro _ _

theorem coldstartFrameCmd_keeps {b : State} (lane : _) (rank : _) (f : _) {s0 : State} (h_s : Keeps b s0) :
    Keeps b (coldstartFrameCmd lane rank f s0) := by
  unfold coldstartFrameCmd
  try dsimp only
  repeat' first | with_reducible assumption | with_reducible apply Keeps.ite | with_reducible apply State.countBad_keeps | with_reducible apply State.integrate_keeps | with_reducible apply State.setCold_keeps | simp only [↓Keeps.mk_eq, ↓Keeps.at_eq]

theorem State.becomeLantern_keeps {b : State} {s : State} (h_s : Keeps b s) :
    Keeps b (State.becomeLantern s) := by
  unfold State.becomeLantern
  try dsimp only
  repeat' first | with_reducible assumption | with_reducible apply State.setBit_keeps | with_reducible apply State.setTimIncr_keeps | simp only [↓Keeps.mk_eq, ↓Keeps.at_eq]

theorem contentionWindowEndCmd_keeps {b : State} {s : State} (h_s : Keeps b s) :
    Keeps b (contentionWindowEndCmd s) := by
  unfold contentionWindowEndCmd
  try dsimp only
  repeat' first | with_reducible assumption | with_reducible apply Keeps.ite | with_reducible apply State.becomeLantern_keeps | with_reducible apply State.setCold_keeps | simp only [↓Keeps.mk_eq, ↓Keeps.at_eq]

theorem integrateTimeoutCmd_keeps {b : State} {s : State} (h_s : Keeps b s) :
    Keeps b (integrateTimeoutCmd s) := by
  unfold integrateTimeoutCmd
  try dsimp only
  repeat' first | with_reducible assumption | with_reducible apply Keeps.ite | with_reducible apply State.setCold_keeps

theorem State.integrate_keeps {b : State} {s : State} (f : _) (h_s : Keeps b s) :
    Keeps b (State.integrate s f) := by
  unfold State.integrate
  try dsimp only
  repeat' first | with_reducible assumption | with_reducible apply State.setBit_keeps | with_reducible apply State.showOffset_keeps | with_reducible apply State.stepTime_keeps | simp only [↓Keeps.mk_eq, ↓Keeps.at_eq]

theorem State.followNext_keeps {b : State} {s : State} (f : _) (h_s : Keeps b s) :
    Keeps b (State.followNext s f) := by
  unfold State.followNext
  try dsimp only
  repeat' first | with_reducible assumption | with_reducible apply Keeps.ite | simp only [↓Keeps.mk_eq, ↓Keeps.at_eq]

theorem State.ownFlash_keeps {b : State} {s : State} (lane : _) (f : _) (h_s : Keeps b s) :
    Keeps b (State.ownFlash s lane f) := by
  unfold State.ownFlash
  try dsimp only
  repeat' first | with_reducible assumption | with_reducible apply Keeps.ite | with_reducible apply State.runServo_keeps | with_reducible apply State.followNext_keeps | simp only [↓Keeps.mk_eq, ↓Keeps.at_eq]

theorem State.handOver_keeps {b : State} {s : State} (f : _) (h_s : Keeps b s) :
    Keeps b (State.handOver s f) := by
  unfold State.handOver
  try dsimp only
  repeat' first | with_reducible assumption | with_reducible apply Keeps.ite | with_reducible apply State.evC_keeps | simp only [↓Keeps.mk_eq, ↓Keeps.at_eq]

theorem State.dualLantern_keeps {b : State} {s : State} (lane : _) (f : _) (h_s : Keeps b s) :
    Keeps b (State.dualLantern s lane f) := by
  unfold State.dualLantern
  try dsimp only
  repeat' first | with_reducible assumption | with_reducible apply State.setLane_keeps | with_reducible apply State.setBit_keeps | with_reducible apply State.evC_keeps

theorem State.memberFlash_keeps {b : State} {s : State} (lane : _) (f : _) (h_s : Keeps b s) :
    Keeps b (State.memberFlash s lane f) := by
  unfold State.memberFlash
  try dsimp only
  repeat' first | with_reducible assumption | with_reducible apply Keeps.ite | with_reducible apply State.dualLantern_keeps | with_reducible apply State.handOver_keeps | with_reducible apply State.ownFlash_keeps

theorem flashReceivedCmd_keeps {b : State} (lane : _) (f0 : _) {s : State} (h_s : Keeps b s) :
    Keeps b (flashReceivedCmd lane f0 s) := by
  unfold flashReceivedCmd
  try dsimp only
  repeat' first | with_reducible assumption | with_reducible apply Keeps.ite | with_reducible apply State.dualLantern_keeps | with_reducible apply State.handOver_keeps | with_reducible apply State.integrate_keeps | with_reducible apply State.memberFlash_keeps | with_reducible apply State.ownFlash_keeps | with_reducible apply State.setCold_keeps | simp only [↓Keeps.mk_eq, ↓Keeps.at_eq] | split

theorem flashMissedCmd_keeps {b : State} {s : State} (h_s : Keeps b s) :
    Keeps b (flashMissedCmd s) := by
  unfold flashMissedCmd
  try dsimp only
  repeat' first | with_reducible assumption | with_reducible apply Keeps.ite | with_reducible apply State.holdover_keeps | simp only [↓Keeps.mk_eq, ↓Keeps.at_eq]

theorem lanternTakeoverCmd_keeps {b : State} {s : State} (h_s : Keeps b s) :
    Keeps b (lanternTakeoverCmd s) := by
  unfold lanternTakeoverCmd
  try dsimp only
  repeat' first | with_reducible assumption | with_reducible apply Keeps.ite | with_reducible apply State.becomeLantern_keeps | with_reducible apply State.evC_keeps | with_reducible apply State.setCold_keeps | simp only [↓Keeps.mk_eq, ↓Keeps.at_eq]

theorem nodeFlashTimeoutCmd_keeps {b : State} {s : State} (h_s : Keeps b s) :
    Keeps b (nodeFlashTimeoutCmd s) := by
  unfold nodeFlashTimeoutCmd
  try dsimp only
  repeat' first | with_reducible assumption | with_reducible apply Keeps.ite | with_reducible apply State.setFld_keeps | simp only [↓Keeps.mk_eq, ↓Keeps.at_eq]

theorem State.ack_keeps {b : State} {s : State} (lane : _) (uid : _) (node : _) (code : _) (h_s : Keeps b s) :
    Keeps b (State.ack s lane uid node code) := by
  unfold State.ack
  try dsimp only
  repeat' first | with_reducible assumption | with_reducible apply State.setLane_keeps | simp only [↓Keeps.mk_eq, ↓Keeps.at_eq]

theorem State.quar_keeps {b : State} {s : State} (lane : _) (kind : _) (node : _) (uid : _) (h_s : Keeps b s) :
    Keeps b (State.quar s lane kind node uid) := by
  unfold State.quar
  try dsimp only
  repeat' first | with_reducible assumption | with_reducible apply State.setLane_keeps | simp only [↓Keeps.mk_eq, ↓Keeps.at_eq]

theorem State.quarAll_keeps {b : State} {s : State} (kind : _) (node : _) (h_s : Keeps b s) :
    Keeps b (State.quarAll s kind node) := by
  unfold State.quarAll
  try dsimp only
  repeat' first | with_reducible assumption | with_reducible apply Keeps.ite | with_reducible apply Keeps.foldl | with_reducible apply State.quar_keeps | intro _ _ _ | intro _ _

theorem State.quarantine_keeps {b : State} {s : State} (n : _) (reason : _) (rivals : _) (h_s : Keeps b s) :
    Keeps b (State.quarantine s n reason rivals) := by
  unfold State.quarantine
  try dsimp only
  repeat' first | with_reducible assumption | with_reducible apply State.ev_keeps | with_reducible apply State.quarAll_keeps | with_reducible apply State.setNoderec_keeps | with_reducible apply State.tripNode_keeps | simp only [↓Keeps.mk_eq, ↓Keeps.at_eq]

theorem State.dropRival_keeps {b : State} {s : State} (uid : _) (n : _) (h_s : Keeps b s) :
    Keeps b (State.dropRival s uid n) := by
  unfold State.dropRival
  try dsimp only
  repeat' first | with_reducible assumption | with_reducible apply Keeps.ite | simp only [↓Keeps.mk_eq, ↓Keeps.at_eq]

theorem State.takeRecord_keeps {b : State} {s : State} (lane : _) (position : _) (r : _) (skegil : _) (h_s : Keeps b s) :
    Keeps b (State.takeRecord s lane position r skegil) := by
  unfold State.takeRecord
  try dsimp only
  repeat' first | with_reducible assumption | with_reducible apply Keeps.ite | with_reducible apply State.ack_keeps | with_reducible apply State.dropRival_keeps | with_reducible apply State.ev_keeps | with_reducible apply State.quar_keeps | with_reducible apply State.quarantine_keeps | with_reducible apply State.setNoderec_keeps | simp only [↓Keeps.mk_eq, ↓Keeps.at_eq] | split

theorem State.joinRecord_keeps {b : State} {s : State} (lane : _) (position : _) (r : _) (skegil : _) (h_s : Keeps b s) :
    Keeps b (State.joinRecord s lane position r skegil) := by
  unfold State.joinRecord
  try dsimp only
  repeat' first | with_reducible assumption | with_reducible apply Keeps.ite | with_reducible apply State.ack_keeps | with_reducible apply State.takeRecord_keeps | with_reducible apply State.setNoderec_keeps | split

theorem State.measureHop_keeps {b : State} {s : State} (n : _) (h_s : Keeps b s) :
    Keeps b (State.measureHop s n) := by
  unfold State.measureHop
  try dsimp only
  repeat' first | with_reducible assumption | with_reducible apply Keeps.ite | with_reducible apply State.setNoderec_keeps | simp only [↓Keeps.mk_eq, ↓Keeps.at_eq]

theorem capabilityRecordReceivedCmd_keeps {b : State} (lane : _) (position : _) (r : _) {s : State} (h_s : Keeps b s) :
    Keeps b (capabilityRecordReceivedCmd lane position r s) := by
  unfold capabilityRecordReceivedCmd
  try dsimp only
  repeat' first | with_reducible assumption | with_reducible apply Keeps.ite | with_reducible apply State.joinRecord_keeps | with_reducible apply State.measureHop_keeps

theorem skegilIdentityRecordCmd_keeps {b : State} (lane : _) (position : _) (r : _) {s : State} (h_s : Keeps b s) :
    Keeps b (skegilIdentityRecordCmd lane position r s) := by
  unfold skegilIdentityRecordCmd
  try dsimp only
  repeat' first | with_reducible assumption | with_reducible apply Keeps.ite | with_reducible apply State.bumpFld_keeps | with_reducible apply State.joinRecord_keeps | with_reducible apply State.measureHop_keeps

theorem State.raiseNodeLost_keeps {b : State} {s : State} (n : _) (h_s : Keeps b s) :
    Keeps b (State.raiseNodeLost s n) := by
  unfold State.raiseNodeLost
  try dsimp only
  repeat' first | with_reducible assumption | with_reducible apply Keeps.foldl | with_reducible apply State.setAxis_keeps | with_reducible apply State.raiseSource_keeps | intro _ _ _ | intro _ _

theorem State.markLost_keeps {b : State} {s : State} (n : _) (h_s : Keeps b s) :
    Keeps b (State.markLost s n) := by
  unfold State.markLost
  try dsimp only
  repeat' first | with_reducible assumption | with_reducible apply Keeps.ite | with_reducible apply State.ack_keeps | with_reducible apply State.ev_keeps | with_reducible apply State.raiseNodeLost_keeps | with_reducible apply State.setNoderec_keeps | with_reducible apply State.tripNode_keeps | simp only [↓Keeps.mk_eq, ↓Keeps.at_eq] | split

theorem memberLostCmd_keeps {b : State} (n : _) {s : State} (h_s : Keeps b s) :
    Keeps b (memberLostCmd n s) := by
  unfold memberLostCmd
  try dsimp only
  repeat' first | with_reducible assumption | with_reducible apply Keeps.ite | with_reducible apply State.markLost_keeps | with_reducible apply State.raiseNodeLost_keeps | with_reducible apply State.setNoderec_keeps | simp only [↓Keeps.mk_eq, ↓Keeps.at_eq]

theorem State.memberAgain_keeps {b : State} {s : State} (n : _) (h_s : Keeps b s) :
    Keeps b (State.memberAgain s n) := by
  unfold State.memberAgain
  try dsimp only
  repeat' first | with_reducible assumption | with_reducible apply Keeps.foldl | with_reducible apply State.ev_keeps | with_reducible apply State.safUnsync_keeps | with_reducible apply State.setAxis_keeps | with_reducible apply State.setNoderec_keeps | simp only [↓Keeps.mk_eq, ↓Keeps.at_eq] | intro _ _ _ | intro _ _

theorem readmissionCmd_keeps {b : State} (n : _) {s : State} (h_s : Keeps b s) :
    Keeps b (readmissionCmd n s) := by
  unfold readmissionCmd
  try dsimp only
  repeat' first | with_reducible assumption | with_reducible apply Keeps.ite | with_reducible apply State.memberAgain_keeps | simp only [↓Keeps.mk_eq, ↓Keeps.at_eq] | split

theorem bbNodeInfoCmd_keeps {b : State} (h0 : _) (buf : _) {s : State} (h_s : Keeps b s) :
    Keeps b (bbNodeInfoCmd h0 buf s) := by
  unfold bbNodeInfoCmd
  try dsimp only
  repeat' first | with_reducible assumption | with_reducible apply Keeps.ite | with_reducible apply State.memWr_keeps | with_reducible apply State.hostCmd_keeps | with_reducible apply State.acceptImm_keeps | intro _ _ _ | intro _ _ | split

theorem bbReleaseCmd_keeps {b : State} (h : _) {s : State} (h_s : Keeps b s) :
    Keeps b (bbReleaseCmd h s) := by
  unfold bbReleaseCmd
  try dsimp only
  repeat' first | with_reducible assumption | with_reducible apply Keeps.ite | with_reducible apply State.acceptImm_keeps | with_reducible apply State.hostCmd_keeps | with_reducible apply State.quarAll_keeps | with_reducible apply State.setNoderec_keeps | simp only [↓Keeps.mk_eq, ↓Keeps.at_eq] | intro _ _ _ | intro _ _

/-! ## CanOps -/

theorem State.localSig_keeps {b : State} {s : State} (w : _) (v : _) (h_s : Keeps b s) :
    Keeps b (State.localSig s w v) := by
  unfold State.localSig
  try dsimp only
  repeat' first | with_reducible assumption | with_reducible apply State.setBlockStat_keeps | with_reducible apply State.setSigWord_keeps

theorem State.canShow_keeps {b : State} {s : State} (k : _) (h_s : Keeps b s) :
    Keeps b (State.canShow s k) := by
  unfold State.canShow
  try dsimp only
  repeat' first | with_reducible assumption | with_reducible apply Keeps.ite | with_reducible apply State.setReg_keeps | with_reducible apply State.setFld_keeps

theorem State.canTraffic_keeps {b : State} {s : State} (k : _) (b_ : _) (code : _) (h_s : Keeps b s) :
    Keeps b (State.canTraffic s k b_ code) := by
  unfold State.canTraffic
  try dsimp only
  repeat' first | with_reducible assumption | with_reducible apply Keeps.ite | with_reducible apply State.evC_keeps

theorem State.canErrEv_keeps {b : State} {s : State} (k : _) (code : _) (h_s : Keeps b s) :
    Keeps b (State.canErrEv s k code) := by
  unfold State.canErrEv
  try dsimp only
  repeat' first | with_reducible assumption | with_reducible apply State.ev_keeps

theorem State.setCanPending_keeps {b : State} {s : State} (k : _) (b_ : _) (f : _) (h_s : Keeps b s) :
    Keeps b (State.setCanPending s k b_ f) := by
  unfold State.setCanPending
  try dsimp only
  repeat' first | with_reducible assumption | with_reducible apply State.setCanc_keeps | with_reducible apply State.setBit_keeps

theorem State.canFail_keeps {b : State} {s : State} (k : _) (b_ : _) (cause : _) (lec : _) (h_s : Keeps b s) :
    Keeps b (State.canFail s k b_ cause lec) := by
  unfold State.canFail
  try dsimp only
  repeat' first | with_reducible assumption | with_reducible apply Keeps.ite | with_reducible apply State.setBit_keeps | with_reducible apply State.ev_keeps | with_reducible apply State.setCanPending_keeps

theorem State.canRequest_keeps {b : State} {s : State} (k : _) (b_ : _) (h_s : Keeps b s) :
    Keeps b (State.canRequest s k b_) := by
  unfold State.canRequest
  try dsimp only
  repeat' first | with_reducible assumption | with_reducible apply Keeps.ite | with_reducible apply State.canFail_keeps | with_reducible apply State.setCanPending_keeps | with_reducible apply State.setCanc_keeps | simp only [↓Keeps.mk_eq, ↓Keeps.at_eq]

theorem State.canFailAll_keeps {b : State} {s : State} (k : _) (cause : _) (oneShot : _) (h_s : Keeps b s) :
    Keeps b (State.canFailAll s k cause oneShot) := by
  unfold State.canFailAll
  try dsimp only
  repeat' first | with_reducible assumption | with_reducible apply Keeps.ite | with_reducible apply Keeps.foldl | with_reducible apply State.canFail_keeps | intro _ _ _ | intro _ _

theorem State.canCyclic_keeps {b : State} {s : State} (n : _) (h_s : Keeps b s) :
    Keeps b (State.canCyclic s n) := by
  unfold State.canCyclic
  try dsimp only
  repeat' first | with_reducible assumption | with_reducible apply Keeps.ite | with_reducible apply Keeps.foldl | with_reducible apply State.canRequest_keeps | intro _ _ _ | intro _ _

theorem State.canSleepNow_keeps {b : State} {s : State} (k : _) (h_s : Keeps b s) :
    Keeps b (State.canSleepNow s k) := by
  unfold State.canSleepNow
  try dsimp only
  repeat' first | with_reducible assumption | with_reducible apply State.setCanc_keeps | with_reducible apply State.setBit_keeps | with_reducible apply State.canFailAll_keeps | with_reducible apply State.canShow_keeps

theorem State.canStop_keeps {b : State} {s : State} (k : _) (h_s : Keeps b s) :
    Keeps b (State.canStop s k) := by
  unfold State.canStop
  try dsimp only
  repeat' first | with_reducible assumption | with_reducible apply State.setCanc_keeps | with_reducible apply State.setBit_keeps | with_reducible apply State.canFailAll_keeps | with_reducible apply State.canShow_keeps

theorem State.canStandby_keeps {b : State} {s : State} (h_s : Keeps b s) :
    Keeps b (State.canStandby s) := by
  unfold State.canStandby
  try dsimp only
  repeat' first | with_reducible assumption | with_reducible apply Keeps.ite | with_reducible apply Keeps.foldl | with_reducible apply State.canStop_keeps | with_reducible apply State.canSleepNow_keeps | intro _ _ _ | intro _ _

theorem State.canStart_keeps {b : State} {s : State} (k : _) (h_s : Keeps b s) :
    Keeps b (State.canStart s k) := by
  unfold State.canStart
  try dsimp only
  repeat' first | with_reducible assumption | with_reducible apply State.setCanc_keeps | with_reducible apply State.canShow_keeps

/-! ## Fabric -/

theorem budgetWindowCmd_keeps {b : State} (w : _) {s : State} (h_s : Keeps b s) :
    Keeps b (budgetWindowCmd w s) := by
  unfold budgetWindowCmd
  try dsimp only
  repeat' first | with_reducible assumption | with_reducible apply Keeps.ite | simp only [↓Keeps.mk_eq, ↓Keeps.at_eq] | intro _ _ _ | intro _ _

theorem State.burstsPhi0_keeps {b : State} {s : State} (h_s : Keeps b s) :
    Keeps b (State.burstsPhi0 s) := by
  unfold State.burstsPhi0
  try dsimp only
  repeat' first | with_reducible assumption | with_reducible apply Keeps.foldl | with_reducible apply State.wake_keeps | simp only [↓Keeps.mk_eq, ↓Keeps.at_eq] | intro _ _ _ | intro _ _

theorem State.haltPort_keeps {b : State} {s : State} (k : _) (h_s : Keeps b s) :
    Keeps b (State.haltPort s k) := by
  unfold State.haltPort
  try dsimp only
  repeat' first | with_reducible assumption | with_reducible apply State.highsOff_keeps | with_reducible apply State.setBit_keeps | with_reducible apply State.setPwmp_keeps | simp only [↓Keeps.mk_eq, ↓Keeps.at_eq]

theorem State.safeStateAxis_keeps {b : State} {s : State} (a : _) (h_s : Keeps b s) :
    Keeps b (State.safeStateAxis s a) := by
  unfold State.safeStateAxis
  try dsimp only
  repeat' first | with_reducible assumption | with_reducible apply Keeps.ite | with_reducible apply State.haltPort_keeps | with_reducible apply State.setAxis_keeps | simp only [↓Keeps.mk_eq, ↓Keeps.at_eq] | split

theorem State.haltAxes_keeps {b : State} {s : State} (e : _) (h_s : Keeps b s) :
    Keeps b (State.haltAxes s e) := by
  unfold State.haltAxes
  try dsimp only
  repeat' first | with_reducible assumption | with_reducible apply Keeps.ite | with_reducible apply Keeps.foldl | with_reducible apply State.haltPort_keeps | with_reducible apply State.safeStateAxis_keeps | intro _ _ _ | intro _ _

theorem State.evEngine_keeps {b : State} {s : State} (e : _) (code : _) (axis : _) (h_s : Keeps b s) :
    Keeps b (State.evEngine s e code axis) := by
  unfold State.evEngine
  try dsimp only
  repeat' first | with_reducible assumption | with_reducible apply State.ev_keeps

theorem State.stopEngine_keeps {b : State} {s : State} (e : _) (code : _) (h_s : Keeps b s) :
    Keeps b (State.stopEngine s e code) := by
  unfold State.stopEngine
  try dsimp only
  repeat' first | with_reducible assumption | with_reducible apply Keeps.ite | with_reducible apply Keeps.foldl | with_reducible apply State.evEngine_keeps | with_reducible apply State.haltAxes_keeps | with_reducible apply State.safeStateAxis_keeps | simp only [↓Keeps.mk_eq, ↓Keeps.at_eq] | intro _ _ _ | intro _ _

theorem State.rebuildResult_keeps {b : State} {s : State} (ring : _) (seq : _) (h_s : Keeps b s) :
    Keeps b (State.rebuildResult s ring seq) := by
  unfold State.rebuildResult
  try dsimp only
  repeat' first | with_reducible assumption | simp only [↓Keeps.mk_eq, ↓Keeps.at_eq] | split

theorem State.loseResult_keeps {b : State} {s : State} (ring : _) (seq : _) (h_s : Keeps b s) :
    Keeps b (State.loseResult s ring seq) := by
  unfold State.loseResult
  try dsimp only
  repeat' first | with_reducible assumption | simp only [↓Keeps.mk_eq, ↓Keeps.at_eq] | split

theorem State.sramDouble_keeps {b : State} {s : State} (r : _) (h_s : Keeps b s) :
    Keeps b (State.sramDouble s r) := by
  unfold State.sramDouble
  try dsimp only
  repeat' first | with_reducible assumption | with_reducible apply Keeps.ite | with_reducible apply State.evEngine_keeps | with_reducible apply State.loseResult_keeps | with_reducible apply State.raiseSource_keeps | with_reducible apply State.rebuildResult_keeps | with_reducible apply State.setAxis_keeps | with_reducible apply State.setBlockStat_keeps | with_reducible apply State.setPod_keeps | with_reducible apply State.stopEngine_keeps | simp only [↓Keeps.mk_eq, ↓Keeps.at_eq] | intro _ _ _ | intro _ _ | split

theorem scrubPassCmd_keeps {b : State} (errs : _) {s : State} (h_s : Keeps b s) :
    Keeps b (scrubPassCmd errs s) := by
  unfold scrubPassCmd
  try dsimp only
  repeat' first | with_reducible assumption | with_reducible apply Keeps.ite | with_reducible apply Keeps.foldl | with_reducible apply State.sramDouble_keeps | simp only [↓Keeps.mk_eq, ↓Keeps.at_eq] | intro _ _ _ | intro _ _

theorem State.dieSlots_keeps {b : State} {s : State} (h_s : Keeps b s) : Keeps b (State.dieSlots s).2.2.2 := h_s

theorem State.coreSends_keeps {b : State} {s : State} (h_s : Keeps b s) :
    Keeps b (State.coreSends s) := by
  unfold State.coreSends
  try dsimp only
  repeat' first | with_reducible assumption | with_reducible apply State.dieSlots_keeps | simp only [↓Keeps.mk_eq, ↓Keeps.at_eq] | split

theorem State.fieldSends_keeps {b : State} {s : State} (h_s : Keeps b s) :
    Keeps b (State.fieldSends s) := by
  unfold State.fieldSends
  try dsimp only
  repeat' first | with_reducible assumption | with_reducible apply State.dieSlots_keeps | simp only [↓Keeps.mk_eq, ↓Keeps.at_eq] | split

theorem State.coreTakes_keeps {b : State} {s : State} (f : _) (h_s : Keeps b s) :
    Keeps b (State.coreTakes s f) := by
  unfold State.coreTakes
  try dsimp only
  repeat' first | with_reducible assumption | with_reducible apply Keeps.ite | with_reducible apply State.setFld_keeps | simp only [↓Keeps.mk_eq, ↓Keeps.at_eq]

theorem State.fieldTakes_keeps {b : State} {s : State} (f : _) (h_s : Keeps b s) :
    Keeps b (State.fieldTakes s f) := by
  unfold State.fieldTakes
  try dsimp only
  repeat' first | with_reducible assumption | with_reducible apply Keeps.ite | simp only [↓Keeps.mk_eq, ↓Keeps.at_eq]

theorem linkFrameReceivedCmd_keeps {b : State} (x : _) {s : State} (h_s : Keeps b s) :
    Keeps b (linkFrameReceivedCmd x s) := by
  unfold linkFrameReceivedCmd
  try dsimp only
  repeat' first | with_reducible assumption | with_reducible apply Keeps.ite | with_reducible apply State.coreSends_keeps | with_reducible apply State.coreTakes_keeps | with_reducible apply State.fieldSends_keeps | with_reducible apply State.fieldTakes_keeps

/-! ## Pwm -/

theorem State.startPeriod_keeps {b : State} {s : State} (k : _) (i : _) (h_s : Keeps b s) :
    Keeps b (State.startPeriod s k i) := by
  unfold State.startPeriod
  try dsimp only
  repeat' first | with_reducible assumption | with_reducible apply Keeps.ite | with_reducible apply Keeps.foldl | with_reducible apply State.bumpFld_keeps | with_reducible apply State.setPwmp_keeps | with_reducible apply State.setReg_keeps | simp only [↓Keeps.mk_eq, ↓Keeps.at_eq] | intro _ _ _ | intro _ _

theorem pwmPeriodStartCmd_keeps {b : State} (k : _) {s : State} (h_s : Keeps b s) :
    Keeps b (pwmPeriodStartCmd k s) := by
  unfold pwmPeriodStartCmd
  try dsimp only
  repeat' first | with_reducible assumption | with_reducible apply Keeps.ite | with_reducible apply State.startPeriod_keeps

theorem State.writeTriple_keeps {b : State} {s : State} (k : _) (d : _) (i : _) (late : _) (h_s : Keeps b s) :
    Keeps b (State.writeTriple s k d i late) := by
  unfold State.writeTriple
  try dsimp only
  repeat' first | with_reducible assumption | with_reducible apply Keeps.ite | with_reducible apply State.setBit_keeps | with_reducible apply State.setPwmp_keeps

theorem State.axisTriple_keeps {b : State} {s : State} (k : _) (d : _) (i : _) (late : _) (h_s : Keeps b s) :
    Keeps b (State.axisTriple s k d i late) := by
  unfold State.axisTriple
  try dsimp only
  repeat' first | with_reducible assumption | with_reducible apply Keeps.ite | with_reducible apply State.writeTriple_keeps

theorem State.reload_keeps {b : State} {s : State} (k : _) (h_s : Keeps b s) :
    Keeps b (State.reload s k) := by
  unfold State.reload
  try dsimp only
  repeat' first | with_reducible assumption | with_reducible apply Keeps.ite | with_reducible apply State.startPeriod_keeps | with_reducible apply State.setPwmp_keeps

theorem manualTripleWriteCmd_keeps {b : State} (k : _) (w : _) {s : State} (h_s : Keeps b s) :
    Keeps b (manualTripleWriteCmd k w s) := by
  unfold manualTripleWriteCmd
  try dsimp only
  repeat' first | with_reducible assumption | with_reducible apply Keeps.ite | with_reducible apply State.setReg_keeps | with_reducible apply State.writeTriple_keeps | intro _ _ _ | intro _ _

theorem State.chopFollow_keeps {b : State} {s : State} (c : _) (h_s : Keeps b s) :
    Keeps b (State.chopFollow s c) := by
  unfold State.chopFollow
  try dsimp only
  repeat' first | with_reducible assumption | with_reducible apply Keeps.ite | with_reducible apply State.setChopper_keeps | simp only [↓Keeps.mk_eq, ↓Keeps.at_eq]

theorem State.choppersAfter_keeps {b : State} {s : State} (h_s : Keeps b s) :
    Keeps b (State.choppersAfter s) := by
  unfold State.choppersAfter
  try dsimp only
  repeat' first | with_reducible assumption | with_reducible apply Keeps.foldl | with_reducible apply State.chopFollow_keeps | intro _ _ _ | intro _ _

theorem State.chopTerminate_keeps {b : State} {s : State} (c : _) (h_s : Keeps b s) :
    Keeps b (State.chopTerminate s c) := by
  unfold State.chopTerminate
  try dsimp only
  repeat' first | with_reducible assumption | with_reducible apply Keeps.ite | with_reducible apply State.setBit_keeps | with_reducible apply State.setChopper_keeps | simp only [↓Keeps.mk_eq, ↓Keeps.at_eq]

theorem chopperPulseEndCmd_keeps {b : State} (c : _) (byComparator : _) {s : State} (h_s : Keeps b s) :
    Keeps b (chopperPulseEndCmd c byComparator s) := by
  unfold chopperPulseEndCmd
  try dsimp only
  repeat' first | with_reducible assumption | with_reducible apply Keeps.ite | with_reducible apply State.chopFollow_keeps | with_reducible apply State.chopTerminate_keeps | with_reducible apply State.setChopper_keeps | simp only [↓Keeps.mk_eq, ↓Keeps.at_eq]

theorem State.showTrip_keeps {b : State} {s : State} (k : _) (h_s : Keeps b s) :
    Keeps b (State.showTrip s k) := by
  unfold State.showTrip
  try dsimp only
  repeat' first | with_reducible assumption | with_reducible apply State.setBit_keeps

theorem State.tripCause_keeps {b : State} {s : State} (k : _) (h_s : Keeps b s) :
    Keeps b (State.tripCause s k) := by
  unfold State.tripCause
  try dsimp only
  repeat' first | with_reducible assumption | with_reducible apply State.showTrip_keeps | with_reducible apply State.setAxis_keeps | split

theorem State.raiseTrip_keeps {b : State} {s : State} (k : _) (h_s : Keeps b s) :
    Keeps b (State.raiseTrip s k) := by
  unfold State.raiseTrip
  try dsimp only
  repeat' first | with_reducible assumption | with_reducible apply State.showTrip_keeps | with_reducible apply State.ev_keeps | with_reducible apply State.setAxis_keeps | with_reducible apply State.raiseSource_keeps | split

theorem State.trip_keeps {b : State} {s : State} (k : _) (h_s : Keeps b s) :
    Keeps b (State.trip s k) := by
  unfold State.trip
  try dsimp only
  repeat' first | with_reducible assumption | with_reducible apply Keeps.ite | with_reducible apply State.highsOff_keeps | with_reducible apply State.raiseTrip_keeps | with_reducible apply State.setPwmp_keeps | with_reducible apply State.tripCause_keeps | simp only [↓Keeps.mk_eq, ↓Keeps.at_eq]

theorem State.pinsLoaded_keeps {b : State} {s : State} {t : State} (h_s : Keeps b s) (h_t : Keeps b t) :
    Keeps b (State.pinsLoaded s t) := by
  unfold State.pinsLoaded
  try dsimp only
  repeat' first | with_reducible assumption | with_reducible apply Keeps.ite | with_reducible apply Keeps.foldl | with_reducible apply State.setPwmp_keeps | intro _ _ _ | intro _ _

theorem State.raiseTrips_keeps {b : State} {s : State} (h_s : Keeps b s) :
    Keeps b (State.raiseTrips s) := by
  unfold State.raiseTrips
  try dsimp only
  repeat' first | with_reducible assumption | with_reducible apply Keeps.ite | with_reducible apply Keeps.foldl | with_reducible apply State.raiseTrip_keeps | intro _ _ _ | intro _ _

theorem tripInputCmd_keeps {b : State} (k : _) {s : State} (h_s : Keeps b s) :
    Keeps b (tripInputCmd k s) := by
  unfold tripInputCmd
  try dsimp only
  repeat' first | with_reducible assumption | with_reducible apply Keeps.ite | with_reducible apply State.setPwmp_keeps | with_reducible apply State.trip_keeps

theorem State.pinsAfter_keeps {b : State} {s : State} {t : State} (h_s : Keeps b s) (h_t : Keeps b t) :
    Keeps b (State.pinsAfter s t) := by
  unfold State.pinsAfter
  try dsimp only
  repeat' first | with_reducible assumption | with_reducible apply Keeps.ite | with_reducible apply Keeps.foldl | with_reducible apply State.tripCause_keeps | with_reducible apply State.setPwmp_keeps | with_reducible apply State.trip_keeps | intro _ _ _ | intro _ _

theorem tripInputInactiveCmd_keeps {b : State} (k : _) {s : State} (h_s : Keeps b s) :
    Keeps b (tripInputInactiveCmd k s) := by
  unfold tripInputInactiveCmd
  try dsimp only
  repeat' first | with_reducible assumption | with_reducible apply Keeps.ite | with_reducible apply State.tripCause_keeps | with_reducible apply State.setPwmp_keeps

theorem State.clearTrip_keeps {b : State} {s : State} (k : _) (h_s : Keeps b s) :
    Keeps b (State.clearTrip s k) := by
  unfold State.clearTrip
  try dsimp only
  repeat' first | with_reducible assumption | with_reducible apply Keeps.ite | with_reducible apply State.setBit_keeps | with_reducible apply State.showTrip_keeps | with_reducible apply State.setPwmp_keeps

theorem tripClearCmd_keeps {b : State} (k : _) {s : State} (h_s : Keeps b s) :
    Keeps b (tripClearCmd k s) := by
  unfold tripClearCmd
  try dsimp only
  repeat' first | with_reducible assumption | with_reducible apply Keeps.ite | with_reducible apply State.clearTrip_keeps

theorem State.clockLoss_keeps {b : State} {s : State} (h_s : Keeps b s) :
    Keeps b (State.clockLoss s) := by
  unfold State.clockLoss
  try dsimp only
  repeat' first | with_reducible assumption | with_reducible apply Keeps.foldl | with_reducible apply State.chopFollow_keeps | with_reducible apply State.highsOff_keeps | with_reducible apply State.setBit_keeps | simp only [↓Keeps.mk_eq, ↓Keeps.at_eq] | intro _ _ _ | intro _ _

theorem clockMonitorFailCmd_keeps {b : State} {s : State} (h_s : Keeps b s) :
    Keeps b (clockMonitorFailCmd s) := by
  unfold clockMonitorFailCmd
  try dsimp only
  repeat' first | with_reducible assumption | with_reducible apply State.clockLoss_keeps

/-! ## Supervision -/

theorem State.raiseIf_keeps {b : State} {s : State} (c : _) (a : _) (src : _) (value : _) (h_s : Keeps b s) :
    Keeps b (State.raiseIf s c a src value) := by
  unfold State.raiseIf
  try dsimp only
  repeat' first | with_reducible assumption | with_reducible apply Keeps.ite | with_reducible apply State.raiseSource_keeps

theorem State.sampleInvalid_keeps {b : State} {s : State} (a : _) (x : _) (fb : _) (h_s : Keeps b s) :
    Keeps b (State.sampleInvalid s a x fb) := by
  unfold State.sampleInvalid
  try dsimp only
  repeat' first | with_reducible assumption | with_reducible apply Keeps.ite | with_reducible apply State.raiseIf_keeps | with_reducible apply State.setAxis_keeps | simp only [↓Keeps.mk_eq, ↓Keeps.at_eq]

theorem State.judgeSample_keeps {b : State} {s : State} (a : _) (x : _) (pRaw : _) (h_s : Keeps b s) :
    Keeps b (State.judgeSample s a x pRaw) := by
  unfold State.judgeSample
  try dsimp only
  repeat' first | with_reducible assumption | with_reducible apply State.raiseIf_keeps | with_reducible apply State.setAxis_keeps

theorem State.judgeEntry_keeps {b : State} {s : State} (a : _) (h_s : Keeps b s) :
    Keeps b (State.judgeEntry s a) := by
  unfold State.judgeEntry
  try dsimp only
  repeat' first | with_reducible assumption | with_reducible apply Keeps.ite | with_reducible apply State.modAxis_keeps | with_reducible apply State.raiseIf_keeps | with_reducible apply State.raiseSource_keeps | with_reducible apply State.setAxis_keeps | simp only [↓Keeps.mk_eq, ↓Keeps.at_eq] | split

theorem State.injectionTrigger_keeps {b : State} {s : State} (a : _) (x : _) (y : _) (h_s : Keeps b s) :
    Keeps b (State.injectionTrigger s a x y) := by
  unfold State.injectionTrigger
  try dsimp only
  repeat' first | with_reducible assumption | with_reducible apply Keeps.ite | with_reducible apply State.timedTrigger_keeps

theorem State.raiseOpt_keeps {b : State} {s : State} (a : _) (src : _) (v : _) (h_s : Keeps b s) :
    Keeps b (State.raiseOpt s a src v) := by
  unfold State.raiseOpt
  try dsimp only
  repeat' first | with_reducible assumption | with_reducible apply State.raiseSource_keeps | split

theorem State.currentLoop_keeps {b : State} {s : State} (a : _) (h_s : Keeps b s) :
    Keeps b (State.currentLoop s a) := by
  unfold State.currentLoop
  try dsimp only
  repeat' first | with_reducible assumption | with_reducible apply Keeps.ite | with_reducible apply State.axisTriple_keeps | with_reducible apply State.injectionTrigger_keeps | with_reducible apply State.setAxis_keeps | simp only [↓Keeps.mk_eq, ↓Keeps.at_eq] | split

theorem State.splitVoltage_keeps {b : State} {s : State} (a : _) (h_s : Keeps b s) :
    Keeps b (State.splitVoltage s a) := by
  unfold State.splitVoltage
  try dsimp only
  repeat' first | with_reducible assumption | with_reducible apply Keeps.ite | with_reducible apply State.freeW_keeps | refine State.freeW_of ?_ (by assumption) | with_reducible apply State.setAxis_keeps | simp only [↓Keeps.mk_eq, ↓Keeps.at_eq] | split

theorem State.criticalPart_keeps {b : State} {s : State} (a : _) (h_s : Keeps b s) :
    Keeps b (State.criticalPart s a) := by
  unfold State.criticalPart
  try dsimp only
  repeat' first | with_reducible assumption | with_reducible apply Keeps.ite | with_reducible apply State.currentLoop_keeps | with_reducible apply State.judgeEntry_keeps | with_reducible apply State.judgeSample_keeps | with_reducible apply State.sampleInvalid_keeps | with_reducible apply State.splitVoltage_keeps | simp only [↓Keeps.mk_eq, ↓Keeps.at_eq] | split

theorem State.nodeCritical_keeps {b : State} {s : State} (i : _) (h_s : Keeps b s) :
    Keeps b (State.nodeCritical s i) := by
  unfold State.nodeCritical
  try dsimp only
  repeat' first | with_reducible assumption | with_reducible apply Keeps.ite | with_reducible apply State.axisTriple_keeps | with_reducible apply State.setAxis_keeps | simp only [↓Keeps.mk_eq, ↓Keeps.at_eq] | split

theorem loopCriticalPartCmd_keeps {b : State} (a : _) {s : State} (h_s : Keeps b s) :
    Keeps b (loopCriticalPartCmd a s) := by
  unfold loopCriticalPartCmd
  try dsimp only
  repeat' first | with_reducible assumption | with_reducible apply Keeps.ite | with_reducible apply State.criticalPart_keeps | with_reducible apply State.nodeCritical_keeps

theorem criticalPartOverrunCmd_keeps {b : State} (a : _) {s : State} (h_s : Keeps b s) :
    Keeps b (criticalPartOverrunCmd a s) := by
  unfold criticalPartOverrunCmd
  try dsimp only
  repeat' first | with_reducible assumption | with_reducible apply Keeps.ite | with_reducible apply State.raiseIf_keeps | with_reducible apply State.setAxis_keeps | with_reducible apply State.evEngine_keeps

theorem State.nodeBackground_keeps {b : State} {s : State} (i : _) (h_s : Keeps b s) :
    Keeps b (State.nodeBackground s i) := by
  unfold State.nodeBackground
  try dsimp only
  repeat' first | with_reducible assumption | with_reducible apply Keeps.ite | with_reducible apply State.setAxis_keeps | simp only [↓Keeps.mk_eq, ↓Keeps.at_eq]

theorem loopBackgroundPartCmd_keeps {b : State} (a : _) {s : State} (h_s : Keeps b s) :
    Keeps b (loopBackgroundPartCmd a s) := by
  unfold loopBackgroundPartCmd
  try dsimp only
  repeat' first | with_reducible assumption | with_reducible apply Keeps.ite | with_reducible apply State.injectionTrigger_keeps | with_reducible apply State.nodeBackground_keeps | with_reducible apply State.raiseOpt_keeps | with_reducible apply State.setAxis_keeps | simp only [↓Keeps.mk_eq, ↓Keeps.at_eq] | split

theorem standstillReachedCmd_keeps {b : State} (a : _) {s : State} (h_s : Keeps b s) :
    Keeps b (standstillReachedCmd a s) := by
  unfold standstillReachedCmd
  try dsimp only
  repeat' first | with_reducible assumption | with_reducible apply Keeps.ite | with_reducible apply State.modAxis_keeps | with_reducible apply State.setAxis_keeps | with_reducible apply State.suspendMove_keeps | with_reducible apply State.takeRemain_keeps | simp only [↓Keeps.mk_eq, ↓Keeps.at_eq] | intro _ _ _ | intro _ _

theorem State.replaceReaction_keeps {b : State} {s : State} (a : _) (r : _) (h_s : Keeps b s) :
    Keeps b (State.replaceReaction s a r) := by
  unfold State.replaceReaction
  try dsimp only
  repeat' first | with_reducible assumption | with_reducible apply State.applyReaction_keeps | with_reducible apply State.ev_keeps

theorem qstopTimeoutCmd_keeps {b : State} (a : _) {s : State} (h_s : Keeps b s) :
    Keeps b (qstopTimeoutCmd a s) := by
  unfold qstopTimeoutCmd
  try dsimp only
  repeat' first | with_reducible assumption | with_reducible apply Keeps.ite | with_reducible apply State.replaceReaction_keeps

theorem tstopTimeoutCmd_keeps {b : State} (a : _) {s : State} (h_s : Keeps b s) :
    Keeps b (tstopTimeoutCmd a s) := by
  unfold tstopTimeoutCmd
  try dsimp only
  repeat' first | with_reducible assumption | with_reducible apply Keeps.ite | with_reducible apply State.replaceReaction_keeps

/-! ## Feedback -/

theorem State.portStartAt_keeps {b : State} {s : State} (k : _) (c : _) (h_s : Keeps b s) :
    Keeps b (State.portStartAt s k c) := by
  unfold State.portStartAt
  try dsimp only
  repeat' first | with_reducible assumption | with_reducible apply State.latchRestore_keeps | with_reducible apply State.setAxis_keeps | with_reducible apply State.setBit_keeps | with_reducible apply State.setFbp_keeps | with_reducible apply State.setReg_keeps | simp only [↓Keeps.mk_eq, ↓Keeps.at_eq] | split

theorem State.portStart_keeps {b : State} {s : State} (k : _) (h_s : Keeps b s) :
    Keeps b (State.portStart s k) := by
  unfold State.portStart
  try dsimp only
  repeat' first | with_reducible assumption | with_reducible apply State.portStartAt_keeps

theorem illegalTransitionCmd_keeps {b : State} (x : _) {s : State} (h_s : Keeps b s) :
    Keeps b (illegalTransitionCmd x s) := by
  unfold illegalTransitionCmd
  try dsimp only
  repeat' first | with_reducible assumption | with_reducible apply Keeps.ite | with_reducible apply State.illegalAt_keeps | with_reducible apply State.linesAt_keeps | with_reducible apply State.pinsRun_keeps

theorem indexPulseCmd_keeps {b : State} (k : _) (run : _) {s : State} (h_s : Keeps b s) :
    Keeps b (indexPulseCmd k run s) := by
  unfold indexPulseCmd
  try dsimp only
  repeat' first | with_reducible assumption | with_reducible apply Keeps.ite | with_reducible apply State.indexAt_keeps | with_reducible apply State.pinsRun_keeps

theorem State.judgeAmp_keeps {b : State} {s : State} (k : _) (sn : _) (cs : _) (h_s : Keeps b s) :
    Keeps b (State.judgeAmp s k sn cs).2 := by
  unfold State.judgeAmp
  try dsimp only
  repeat' first | with_reducible assumption | with_reducible apply Keeps.ite | with_reducible apply State.feedbackFault_keeps | with_reducible apply State.setBit_keeps | with_reducible apply State.setFld_keeps | with_reducible apply State.setFbp_keeps | split

theorem State.judgeAmp_of {b t_ : State} {x_ : _} {s : State} {k : _} {sn : _} {cs : _} (h_s : Keeps b s) (e_ : State.judgeAmp s k sn cs = (x_, t_)) :
    Keeps b t_ := by
  have h_ := State.judgeAmp_keeps k sn cs h_s
  rw [e_] at h_
  exact h_

theorem State.sincosSample_keeps {b : State} {s : State} (k : _) (sin : _) (cos : _) (h_s : Keeps b s) :
    Keeps b (State.sincosSample s k sin cos) := by
  unfold State.sincosSample
  try dsimp only
  repeat' first | with_reducible assumption | with_reducible apply Keeps.ite | with_reducible apply State.feedbackFault_keeps | with_reducible apply State.setBit_keeps | with_reducible apply State.judgeAmp_keeps | with_reducible apply State.setFbp_keeps | with_reducible apply State.freeW_keeps | refine State.judgeAmp_of ?_ (by assumption) | refine State.freeW_of ?_ (by assumption) | split

theorem emulationBacklogOverflowCmd_keeps {b : State} (k : _) {s : State} (h_s : Keeps b s) :
    Keeps b (emulationBacklogOverflowCmd k s) := by
  unfold emulationBacklogOverflowCmd
  try dsimp only
  repeat' first | with_reducible assumption | with_reducible apply Keeps.ite | with_reducible apply State.emuPush_keeps

theorem State.leakLevel_keeps {b : State} {s : State} (k : _) (h_s : Keeps b s) :
    Keeps b (State.leakLevel s k) := by
  unfold State.leakLevel
  try dsimp only
  repeat' first | with_reducible assumption | with_reducible apply Keeps.ite | with_reducible apply State.setFld_keeps | with_reducible apply State.setFbp_keeps

theorem State.portSample_keeps {b : State} {s : State} (k : _) (sin : _) (cos : _) (h_s : Keeps b s) :
    Keeps b (State.portSample s k sin cos) := by
  unfold State.portSample
  try dsimp only
  repeat' first | with_reducible assumption | with_reducible apply Keeps.ite | with_reducible apply State.latchWrites_keeps | with_reducible apply State.leakLevel_keeps | with_reducible apply State.setBit_keeps | with_reducible apply State.setFbp_keeps | with_reducible apply State.setReg72_keeps | with_reducible apply State.sincosSample_keeps | simp only [↓Keeps.mk_eq, ↓Keeps.at_eq] | split

theorem State.feedbackPhi0_keeps {b : State} {s : State} (sin : _) (cos : _) (h_s : Keeps b s) :
    Keeps b (State.feedbackPhi0 s sin cos) := by
  unfold State.feedbackPhi0
  try dsimp only
  repeat' first | with_reducible assumption | with_reducible apply Keeps.foldl | with_reducible apply State.emuPhi0_keeps | with_reducible apply State.portSample_keeps | intro _ _ _ | intro _ _

theorem ssiLoopMeasurementCmd_keeps {b : State} (k : _) (delays : _) {s : State} (h_s : Keeps b s) :
    Keeps b (ssiLoopMeasurementCmd k delays s) := by
  unfold ssiLoopMeasurementCmd
  try dsimp only
  repeat' first | with_reducible assumption | with_reducible apply Keeps.ite | with_reducible apply State.feedbackFault_keeps | with_reducible apply State.setBit_keeps | with_reducible apply State.setFld_keeps | with_reducible apply State.setFbp_keeps | split

theorem ssiFrameCmd_keeps {b : State} (k : _) (bits : _) (stopBit : _) {s : State} (h_s : Keeps b s) :
    Keeps b (ssiFrameCmd k bits stopBit s) := by
  unfold ssiFrameCmd
  try dsimp only
  repeat' first | with_reducible assumption | with_reducible apply Keeps.ite | with_reducible apply State.feedbackFault_keeps | with_reducible apply State.latchWrites_keeps | with_reducible apply State.setBit_keeps | with_reducible apply State.setFbp_keeps | with_reducible apply State.setReg72_keeps | simp only [↓Keeps.mk_eq, ↓Keeps.at_eq] | split

theorem State.writeLatCtl_keeps {b : State} {s : State} (k : _) (j : _) (v : _) (h_s : Keeps b s) :
    Keeps b (State.writeLatCtl s k j v) := by
  unfold State.writeLatCtl
  try dsimp only
  repeat' first | with_reducible assumption | with_reducible apply Keeps.ite | with_reducible apply State.setFbp_keeps | with_reducible apply State.setReg_keeps

theorem latchArmCmd_keeps {b : State} (k : _) (j : _) (v : _) {s : State} (h_s : Keeps b s) :
    Keeps b (latchArmCmd k j v s) := by
  unfold latchArmCmd
  try dsimp only
  repeat' first | with_reducible assumption | with_reducible apply Keeps.ite | with_reducible apply State.writeLatCtl_keeps

theorem latchTriggerCmd_keeps {b : State} (k : _) (j : _) (run : _) (t : _) (rise : _) {s : State} (h_s : Keeps b s) :
    Keeps b (latchTriggerCmd k j run t rise s) := by
  unfold latchTriggerCmd
  try dsimp only
  repeat' first | with_reducible assumption | with_reducible apply Keeps.ite | with_reducible apply State.latchMeet_keeps | with_reducible apply State.pinsRun_keeps

theorem compareHitCmd_keeps {b : State} (k : _) (j : _) (run : _) {s : State} (h_s : Keeps b s) :
    Keeps b (compareHitCmd k j run s) := by
  unfold compareHitCmd
  try dsimp only
  repeat' first | with_reducible assumption | with_reducible apply Keeps.ite | with_reducible apply State.countStep_keeps | with_reducible apply State.fbTick_keeps | with_reducible apply State.linesAt_keeps | with_reducible apply State.pinsRun_keeps

theorem State.commitWide_keeps {b : State} {s : State} (lo : _) (w : _) (hi : _) (h_s : Keeps b s) :
    Keeps b (State.commitWide s lo w hi) := by
  unfold State.commitWide
  try dsimp only
  repeat' first | with_reducible assumption | with_reducible apply Keeps.ite | with_reducible apply State.setReg_keeps | with_reducible apply State.setReg72_keeps

theorem compareValCommitCmd_keeps {b : State} (k : _) (j : _) (hi : _) (run : _) {s : State} (h_s : Keeps b s) :
    Keeps b (compareValCommitCmd k j hi run s) := by
  unfold compareValCommitCmd
  try dsimp only
  repeat' first | with_reducible assumption | with_reducible apply Keeps.ite | with_reducible apply State.cmpSkipBy_keeps | with_reducible apply State.commitWide_keeps | with_reducible apply State.freeStep_keeps | with_reducible apply State.pinsRun_keeps | with_reducible apply State.setBit_keeps

theorem comparePulseEndCmd_keeps {b : State} (k : _) (j : _) {s : State} (h_s : Keeps b s) :
    Keeps b (comparePulseEndCmd k j s) := by
  unfold comparePulseEndCmd
  try dsimp only
  repeat' first | with_reducible assumption | with_reducible apply Keeps.ite | with_reducible apply State.setFbp_keeps

/-! ## Power -/

theorem State.sdmSettle_keeps {b : State} {s : State} (c : _) (h_s : Keeps b s) :
    Keeps b (State.sdmSettle s c) := by
  unfold State.sdmSettle
  try dsimp only
  repeat' first | with_reducible assumption | with_reducible apply Keeps.ite | with_reducible apply State.setSdmc_keeps

theorem State.sdmSample_keeps {b : State} {s : State} (c : _) (x : _) (h_s : Keeps b s) :
    Keeps b (State.sdmSample s c x) := by
  unfold State.sdmSample
  try dsimp only
  repeat' first | with_reducible assumption | with_reducible apply Keeps.ite | with_reducible apply State.setBit_keeps | with_reducible apply State.setReg_keeps | with_reducible apply State.setSdmc_keeps | simp only [↓Keeps.mk_eq, ↓Keeps.at_eq]

theorem State.sdmPhi0_keeps {b : State} {s : State} (xs : _) (h_s : Keeps b s) :
    Keeps b (State.sdmPhi0 s xs) := by
  unfold State.sdmPhi0
  try dsimp only
  repeat' first | with_reducible assumption | with_reducible apply Keeps.foldl | with_reducible apply State.sdmSample_keeps | intro _ _ _ | intro _ _

theorem sdmStuckCmd_keeps {b : State} (c : _) {s : State} (h_s : Keeps b s) :
    Keeps b (sdmStuckCmd c s) := by
  unfold sdmStuckCmd
  try dsimp only
  repeat' first | with_reducible assumption | with_reducible apply Keeps.ite | with_reducible apply State.setBit_keeps | with_reducible apply State.setSdmc_keeps

theorem State.cmpTripInput_keeps {b : State} {s : State} (k : _) (h_s : Keeps b s) :
    Keeps b (State.cmpTripInput s k) := by
  unfold State.cmpTripInput
  try dsimp only
  repeat' first | with_reducible assumption | with_reducible apply Keeps.ite | with_reducible apply State.setPwmp_keeps | with_reducible apply State.trip_keeps | with_reducible apply State.tripCause_keeps | simp only [↓Keeps.mk_eq, ↓Keeps.at_eq]

theorem State.brakeRequest_keeps {b : State} {s : State} (k : _) (h_s : Keeps b s) :
    Keeps b (State.brakeRequest s k) := by
  unfold State.brakeRequest
  try dsimp only
  repeat' first | with_reducible assumption | with_reducible apply Keeps.ite | with_reducible apply State.chopFollow_keeps | with_reducible apply State.setChopper_keeps | simp only [↓Keeps.mk_eq, ↓Keeps.at_eq]

theorem State.judgeCmp_keeps {b : State} {s : State} (c : _) (crossing : _) (h_s : Keeps b s) :
    Keeps b (State.judgeCmp s c crossing) := by
  unfold State.judgeCmp
  try dsimp only
  repeat' first | with_reducible assumption | with_reducible apply Keeps.ite | with_reducible apply Keeps.foldl | with_reducible apply State.brakeRequest_keeps | with_reducible apply State.chopTerminate_keeps | with_reducible apply State.cmpTripInput_keeps | with_reducible apply State.setBit_keeps | with_reducible apply State.setSdmc_keeps | simp only [↓Keeps.mk_eq, ↓Keeps.at_eq] | intro _ _ _ | intro _ _

theorem State.judgeCmps_keeps {b : State} {s : State} (h_s : Keeps b s) :
    Keeps b (State.judgeCmps s) := by
  unfold State.judgeCmps
  try dsimp only
  repeat' first | with_reducible assumption | with_reducible apply Keeps.foldl | with_reducible apply State.judgeCmp_keeps | intro _ _ _ | intro _ _

theorem fastComparatorCrossingCmd_keeps {b : State} (c : _) (x : _) {s : State} (h_s : Keeps b s) :
    Keeps b (fastComparatorCrossingCmd c x s) := by
  unfold fastComparatorCrossingCmd
  try dsimp only
  repeat' first | with_reducible assumption | with_reducible apply Keeps.ite | with_reducible apply State.judgeCmp_keeps | with_reducible apply State.setSdmc_keeps | simp only [↓Keeps.mk_eq, ↓Keeps.at_eq]

theorem chopperThresholdCmd_keeps {b : State} (k : _) (udc : _) {s : State} (h_s : Keeps b s) :
    Keeps b (chopperThresholdCmd k udc s) := by
  unfold chopperThresholdCmd
  try dsimp only
  repeat' first | with_reducible assumption | with_reducible apply Keeps.ite | with_reducible apply State.judgeCmp_keeps | with_reducible apply State.setSdmc_keeps | simp only [↓Keeps.mk_eq, ↓Keeps.at_eq]

theorem chopperOpenDetectCmd_keeps {b : State} (k : _) (uStart : _) (uEnd : _) {s : State} (h_s : Keeps b s) :
    Keeps b (chopperOpenDetectCmd k uStart uEnd s) := by
  unfold chopperOpenDetectCmd
  try dsimp only
  repeat' first | with_reducible assumption | with_reducible apply Keeps.ite | with_reducible apply State.chopFollow_keeps | with_reducible apply State.setChopper_keeps | with_reducible apply State.setAxis_keeps | with_reducible apply State.raiseSource_keeps | split

theorem State.chopperPhi0_keeps {b : State} {s : State} (k : _) (share : _) (h_s : Keeps b s) :
    Keeps b (State.chopperPhi0 s k share) := by
  unfold State.chopperPhi0
  try dsimp only
  repeat' first | with_reducible assumption | with_reducible apply Keeps.ite | with_reducible apply State.chopFollow_keeps | with_reducible apply State.raiseSource_keeps | with_reducible apply State.setAxis_keeps | with_reducible apply State.setChopper_keeps | simp only [↓Keeps.mk_eq, ↓Keeps.at_eq] | split

theorem State.leaveHaltSafe_keeps {b : State} {s : State} (a : _) (h_s : Keeps b s) :
    Keeps b (State.leaveHaltSafe s a) := by
  unfold State.leaveHaltSafe
  try dsimp only
  repeat' first | with_reducible assumption | with_reducible apply Keeps.ite | with_reducible apply State.setBit_keeps | with_reducible apply State.setPwmp_keeps | with_reducible apply State.setAxis_keeps | split

theorem State.applyEnable_keeps {b : State} {s : State} (a : _) (fly : _) (c : _) (h_s : Keeps b s) :
    Keeps b (State.applyEnable s a fly c) := by
  unfold State.applyEnable
  try dsimp only
  repeat' first | with_reducible assumption | with_reducible apply Keeps.ite | with_reducible apply State.leaveHaltSafe_keeps | with_reducible apply State.raiseSource_keeps | with_reducible apply State.setAxis_keeps | simp only [↓Keeps.mk_eq, ↓Keeps.at_eq]

theorem flyingStartWindowEndCmd_keeps {b : State} (a : _) (us : _) (vs : _) (atLimit : _) (ns : _) {s : State} (h_s : Keeps b s) :
    Keeps b (flyingStartWindowEndCmd a us vs atLimit ns s) := by
  unfold flyingStartWindowEndCmd
  try dsimp only
  repeat' first | with_reducible assumption | with_reducible apply Keeps.ite | with_reducible apply State.raiseSource_keeps | with_reducible apply State.setAxis_keeps | simp only [↓Keeps.mk_eq, ↓Keeps.at_eq] | split

theorem flyingStartTakeoverCmd_keeps {b : State} (a : _) {s : State} (h_s : Keeps b s) :
    Keeps b (flyingStartTakeoverCmd a s) := by
  unfold flyingStartTakeoverCmd
  try dsimp only
  repeat' first | with_reducible assumption | with_reducible apply Keeps.ite | with_reducible apply State.currentLoop_keeps | with_reducible apply State.ev_keeps | with_reducible apply State.request_keeps | with_reducible apply State.setAxis_keeps

theorem State.identNext_keeps {b : State} {s : State} (a : _) (i : _) (h_s : Keeps b s) :
    Keeps b (State.identNext s a i) := by
  unfold State.identNext
  try dsimp only
  repeat' first | with_reducible assumption | with_reducible apply Keeps.ite | with_reducible apply State.modAxis_keeps | with_reducible apply State.request_keeps | simp only [↓Keeps.mk_eq, ↓Keeps.at_eq] | intro _ _ _ | intro _ _

theorem loadIdentCmd_keeps {b : State} (h : _) (steps : _) (iTest : _) (vTest : _) {s : State} (h_s : Keeps b s) :
    Keeps b (loadIdentCmd h steps iTest vTest s) := by
  unfold loadIdentCmd
  try dsimp only
  repeat' first | with_reducible assumption | with_reducible apply Keeps.ite | with_reducible apply State.acceptLong_keeps | with_reducible apply State.applyEnable_keeps | with_reducible apply State.hostCmd_keeps | with_reducible apply State.identNext_keeps | intro _ _ _ | intro _ _

theorem State.endIdent_keeps {b : State} {s : State} (a : _) (own : _) (status : _) (code : _) (ext : _) (h_s : Keeps b s) :
    Keeps b (State.endIdent s a own status code ext) := by
  unfold State.endIdent
  try dsimp only
  repeat' first | with_reducible assumption | with_reducible apply State.disableAxis_keeps | with_reducible apply State.final_keeps | with_reducible apply State.modAxis_keeps

theorem loadIdentStepEndCmd_keeps {b : State} (a : _) (short : _) (slopes : _) {s : State} (h_s : Keeps b s) :
    Keeps b (loadIdentStepEndCmd a short slopes s) := by
  unfold loadIdentStepEndCmd
  try dsimp only
  repeat' first | with_reducible assumption | with_reducible apply Keeps.ite | with_reducible apply Keeps.foldl | with_reducible apply State.endIdent_keeps | with_reducible apply State.identNext_keeps | simp only [↓Keeps.mk_eq, ↓Keeps.at_eq] | intro _ _ _ | intro _ _ | split

/-! ## Check -/

theorem State.modSettings_keeps {b : State} {s : State} (f : _) (h_s : Keeps b s) :
    Keeps b (State.modSettings s f) := by
  unfold State.modSettings
  try dsimp only
  repeat' first | with_reducible assumption | simp only [↓Keeps.mk_eq, ↓Keeps.at_eq]

theorem State.withItem_keeps {b : State} {s : State} (it : _) (h_s : Keeps b s) :
    Keeps b (State.withItem s it) := by
  unfold State.withItem
  try dsimp only
  repeat' first | with_reducible assumption | with_reducible apply Keeps.ite | with_reducible apply State.modAxis_keeps | with_reducible apply State.modSettings_keeps | with_reducible apply State.setReg_keeps | simp only [↓Keeps.mk_eq, ↓Keeps.at_eq] | intro _ _ _ | intro _ _ | split

theorem State.withItems_keeps {b : State} {s : State} (items : _) (h_s : Keeps b s) :
    Keeps b (State.withItems s items) := by
  unfold State.withItems
  try dsimp only
  repeat' first | with_reducible assumption | with_reducible apply Keeps.foldl | with_reducible apply State.withItem_keeps | intro _ _ _ | intro _ _

/-! ## Stage -/

theorem State.setStage_keeps {b : State} {s : State} (n : _) (x : _) (h_s : Keeps b s) :
    Keeps b (State.setStage s n x) := by
  unfold State.setStage
  try dsimp only
  repeat' first | with_reducible assumption | simp only [↓Keeps.mk_eq, ↓Keeps.at_eq]

theorem stageWriteCmd_keeps {b : State} (h0 : _) (set : _) (addr : _) (len : _) {s : State} (h_s : Keeps b s) :
    Keeps b (stageWriteCmd h0 set addr len s) := by
  unfold stageWriteCmd
  try dsimp only
  repeat' first | with_reducible assumption | with_reducible apply Keeps.foldl | with_reducible apply State.setStage_keeps | with_reducible apply State.hostCmd_keeps | with_reducible apply State.acceptImm_keeps | intro _ _ _ | intro _ _ | split

theorem stageDiscardCmd_keeps {b : State} (h0 : _) (set : _) {s : State} (h_s : Keeps b s) :
    Keeps b (stageDiscardCmd h0 set s) := by
  unfold stageDiscardCmd
  try dsimp only
  repeat' first | with_reducible assumption | with_reducible apply Keeps.ite | with_reducible apply State.setStage_keeps | with_reducible apply State.hostCmd_keeps | with_reducible apply State.acceptImm_keeps | intro _ _ _ | intro _ _

theorem stageCheckCmd_keeps {b : State} (h0 : _) (set : _) {s : State} (h_s : Keeps b s) :
    Keeps b (stageCheckCmd h0 set s) := by
  unfold stageCheckCmd
  try dsimp only
  repeat' first | with_reducible assumption | with_reducible apply Keeps.ite | with_reducible apply State.setStage_keeps | with_reducible apply State.hostCmd_keeps | with_reducible apply State.acceptLong_keeps | simp only [↓Keeps.mk_eq, ↓Keeps.at_eq] | intro _ _ _ | intro _ _

theorem State.checkFinal_keeps {b : State} {s : State} (own : _) (f : _) (h_s : Keeps b s) :
    Keeps b (State.checkFinal s own f) := by
  unfold State.checkFinal
  try dsimp only
  repeat' first | with_reducible assumption | with_reducible apply State.final_keeps | with_reducible apply State.finalPlain_keeps | split

theorem State.camEvents_keeps {b : State} {s : State} (items : _) (ring : _) (h_s : Keeps b s) :
    Keeps b (State.camEvents s items ring) := by
  unfold State.camEvents
  try dsimp only
  repeat' first | with_reducible assumption | with_reducible apply Keeps.foldl | with_reducible apply State.evC_keeps | intro _ _ _ | intro _ _

theorem stageCheckCompleteCmd_keeps {b : State} {s : State} (h_s : Keeps b s) :
    Keeps b (stageCheckCompleteCmd s) := by
  unfold stageCheckCompleteCmd
  try dsimp only
  repeat' first | with_reducible assumption | with_reducible apply Keeps.ite | with_reducible apply State.camEvents_keeps | with_reducible apply State.checkFinal_keeps | with_reducible apply State.setStage_keeps | simp only [↓Keeps.mk_eq, ↓Keeps.at_eq] | split

theorem State.nameCommit_keeps {b : State} {s : State} (c : _) (gen : _) (items : _) (h_s : Keeps b s) :
    Keeps b (State.nameCommit s c gen items) := by
  unfold State.nameCommit
  try dsimp only
  repeat' first | with_reducible assumption | with_reducible apply Keeps.foldl | with_reducible apply State.setLane_keeps | simp only [↓Keeps.mk_eq, ↓Keeps.at_eq] | intro _ _ _ | intro _ _ | split

theorem State.unnameCommit_keeps {b : State} {s : State} (h_s : Keeps b s) :
    Keeps b (State.unnameCommit s) := by
  unfold State.unnameCommit
  try dsimp only
  repeat' first | with_reducible assumption | with_reducible apply Keeps.ite | with_reducible apply Keeps.foldl | with_reducible apply State.setLane_keeps | simp only [↓Keeps.mk_eq, ↓Keeps.at_eq] | intro _ _ _ | intro _ _

theorem State.failCommit_keeps {b : State} {s : State} (set : _) (own : _) (status : _) (detail : _) (ext : _) (h_s : Keeps b s) :
    Keeps b (State.failCommit s set own status detail ext) := by
  unfold State.failCommit
  try dsimp only
  repeat' first | with_reducible assumption | with_reducible apply State.final_keeps | with_reducible apply State.setStage_keeps

theorem State.tryCommit_keeps {b : State} {s : State} (set : _) (own : _) (named : _) (h_s : Keeps b s) :
    Keeps b (State.tryCommit s set own named).1 := by
  unfold State.tryCommit
  try dsimp only
  repeat' first | with_reducible assumption | with_reducible apply Keeps.ite | with_reducible apply State.camEvents_keeps | with_reducible apply State.failCommit_keeps | with_reducible apply State.nameCommit_keeps | with_reducible apply State.withItems_keeps | simp only [↓Keeps.mk_eq, ↓Keeps.at_eq] | intro _ _ _ | intro _ _ | split

theorem State.tryCommit_of {b t_ : State} {x_ : _} {s : State} {set : _} {own : _} {named : _} (h_s : Keeps b s) (e_ : State.tryCommit s set own named = (t_, x_)) :
    Keeps b t_ := by
  have h_ := State.tryCommit_keeps set own named h_s
  rw [e_] at h_
  exact h_

theorem State.startWaiting_keeps {b s : State} (l : List (Nat × Open × Nat)) (h : Keeps b s) : Keeps b (State.startWaiting s l) := by
  induction l generalizing s with
  | nil =>
    unfold State.startWaiting
    simp only [↓Keeps.mk_eq, ↓Keeps.at_eq]
    exact h
  | cons e l ih =>
    unfold State.startWaiting
    dsimp only
    split
    · simp only [↓Keeps.mk_eq, ↓Keeps.at_eq]
      exact State.tryCommit_of h (by assumption)
    · exact ih (State.tryCommit_of h (by assumption))

theorem State.nextCommit_keeps {b : State} {s : State} (h_s : Keeps b s) :
    Keeps b (State.nextCommit s) := by
  unfold State.nextCommit
  try dsimp only
  repeat' first | with_reducible assumption | with_reducible apply State.unnameCommit_keeps | with_reducible apply State.startWaiting_keeps | simp only [↓Keeps.mk_eq, ↓Keeps.at_eq]

theorem stageCommitCmd_keeps {b : State} (h0 : _) (set : _) (cycle : _) {s : State} (h_s : Keeps b s) :
    Keeps b (stageCommitCmd h0 set cycle s) := by
  unfold stageCommitCmd
  try dsimp only
  repeat' first | with_reducible assumption | with_reducible apply Keeps.ite | with_reducible apply State.startWaiting_keeps | with_reducible apply State.setStage_keeps | with_reducible apply State.hostCmd_keeps | with_reducible apply State.acceptLong_keeps | simp only [↓Keeps.mk_eq, ↓Keeps.at_eq] | intro _ _ _ | intro _ _

theorem State.commitNoAck_keeps {b : State} {s : State} (k : _) (skind : _) (subject : _) (h_s : Keeps b s) :
    Keeps b (State.commitNoAck s k skind subject) := by
  unfold State.commitNoAck
  try dsimp only
  repeat' first | with_reducible assumption | with_reducible apply State.nextCommit_keeps | with_reducible apply State.failCommit_keeps

theorem commitAnswerTimeoutCmd_keeps {b : State} {s : State} (h_s : Keeps b s) :
    Keeps b (commitAnswerTimeoutCmd s) := by
  unfold commitAnswerTimeoutCmd
  try dsimp only
  repeat' first | with_reducible assumption | with_reducible apply Keeps.ite | with_reducible apply State.commitNoAck_keeps | with_reducible apply State.evC_keeps | split

theorem commitReadyMissCmd_keeps {b : State} (isNode : _) (subject : _) {s : State} (h_s : Keeps b s) :
    Keeps b (commitReadyMissCmd isNode subject s) := by
  unfold commitReadyMissCmd
  try dsimp only
  repeat' first | with_reducible assumption | with_reducible apply Keeps.ite | with_reducible apply State.commitNoAck_keeps | split

theorem State.addDirect_keeps {b : State} {s : State} (a : _) (ws : _) (h_s : Keeps b s) :
    Keeps b (State.addDirect s a ws) := by
  unfold State.addDirect
  try dsimp only
  repeat' first | with_reducible assumption | simp only [↓Keeps.mk_eq, ↓Keeps.at_eq]

theorem paramWriteCmd_keeps {b : State} (h0 : _) (count : _) (writes : _) {s : State} (h_s : Keeps b s) :
    Keeps b (paramWriteCmd h0 count writes s) := by
  unfold paramWriteCmd
  try dsimp only
  repeat' first | with_reducible assumption | with_reducible apply Keeps.ite | with_reducible apply State.addDirect_keeps | with_reducible apply State.hostCmd_keeps | with_reducible apply State.acceptImm_keeps | intro _ _ _ | intro _ _ | split

theorem State.applyDirect_keeps {b : State} {s : State} (a : _) (pn : _) (v : _) (h_s : Keeps b s) :
    Keeps b (State.applyDirect s a pn v) := by
  unfold State.applyDirect
  try dsimp only
  repeat' first | with_reducible assumption | with_reducible apply Keeps.ite | with_reducible apply State.setAxis_keeps

theorem paramWriteEffectCmd_keeps {b : State} {s : State} (h_s : Keeps b s) :
    Keeps b (paramWriteEffectCmd s) := by
  unfold paramWriteEffectCmd
  try dsimp only
  repeat' first | with_reducible assumption | with_reducible apply Keeps.foldl | with_reducible apply State.applyDirect_keeps | simp only [↓Keeps.mk_eq, ↓Keeps.at_eq] | intro _ _ _ | intro _ _

theorem paramReadCmd_keeps {b : State} (h0 : _) (pn : _) (count : _) (buf : _) {s : State} (h_s : Keeps b s) :
    Keeps b (paramReadCmd h0 pn count buf s) := by
  unfold paramReadCmd
  try dsimp only
  repeat' first | with_reducible assumption | with_reducible apply Keeps.ite | with_reducible apply Keeps.foldl | with_reducible apply State.memWr_keeps | with_reducible apply State.modAxis_keeps | with_reducible apply State.hostCmd_keeps | with_reducible apply State.answerOk_keeps | intro _ _ _ | intro _ _

theorem sigStatusCmd_keeps {b : State} (h0 : _) (block : _) (count : _) (buf : _) {s : State} (h_s : Keeps b s) :
    Keeps b (sigStatusCmd h0 block count buf s) := by
  unfold sigStatusCmd
  try dsimp only
  repeat' first | with_reducible assumption | with_reducible apply Keeps.ite | with_reducible apply State.memWr_keeps | with_reducible apply State.hostCmd_keeps | with_reducible apply State.answerOk_keeps | intro _ _ _ | intro _ _

theorem State.setBank_keeps {b : State} {s : State} (b_ : _) (m : _) (h_s : Keeps b s) :
    Keeps b (State.setBank s b_ m) := by
  unfold State.setBank
  try dsimp only
  repeat' first | with_reducible assumption | with_reducible apply Keeps.ite | simp only [↓Keeps.mk_eq, ↓Keeps.at_eq]

theorem State.writeSlot_keeps {b : State} {s : State} (b_ : _) (r : _) (h_s : Keeps b s) :
    Keeps b (State.writeSlot s b_ r) := by
  unfold State.writeSlot
  try dsimp only
  repeat' first | with_reducible assumption | with_reducible apply Keeps.ite | with_reducible apply State.setBank_keeps | simp only [↓Keeps.mk_eq, ↓Keeps.at_eq]

theorem State.copyLive_keeps {b : State} {s : State} (b_ : _) (h_s : Keeps b s) :
    Keeps b (State.copyLive s b_) := by
  unfold State.copyLive
  try dsimp only
  repeat' first | with_reducible assumption | with_reducible apply Keeps.ite | with_reducible apply Keeps.foldl | with_reducible apply State.writeSlot_keeps | simp only [↓Keeps.mk_eq, ↓Keeps.at_eq] | intro _ _ _ | intro _ _ | split

theorem State.copyNow_keeps {b : State} {s : State} (h_s : Keeps b s) :
    Keeps b (State.copyNow s) := by
  unfold State.copyNow
  try dsimp only
  repeat' first | with_reducible assumption | with_reducible apply Keeps.ite | with_reducible apply State.copyLive_keeps | simp only [↓Keeps.mk_eq, ↓Keeps.at_eq] | split

theorem State.bankFault_keeps {b : State} {s : State} (b_ : _) (h_s : Keeps b s) :
    Keeps b (State.bankFault s b_) := by
  unfold State.bankFault
  try dsimp only
  repeat' first | with_reducible assumption | with_reducible apply Keeps.ite | with_reducible apply State.copyNow_keeps | with_reducible apply State.evC_keeps | with_reducible apply State.setBit_keeps | simp only [↓Keeps.mk_eq, ↓Keeps.at_eq]

theorem State.writeRecord_keeps {b : State} {s : State} (r : _) (badBank : _) (h_s : Keeps b s) :
    Keeps b (State.writeRecord s r badBank) := by
  unfold State.writeRecord
  try dsimp only
  repeat' first | with_reducible assumption | with_reducible apply Keeps.ite | with_reducible apply Keeps.foldl | with_reducible apply State.bankFault_keeps | with_reducible apply State.writeSlot_keeps | simp only [↓Keeps.mk_eq, ↓Keeps.at_eq] | intro _ _ _ | intro _ _ | split

theorem State.flushSetups_keeps {b : State} {s : State} (h_s : Keeps b s) :
    Keeps b (State.flushSetups s) := by
  unfold State.flushSetups
  try dsimp only
  repeat' first | with_reducible assumption | with_reducible apply Keeps.foldl | with_reducible apply State.writeRecord_keeps | simp only [↓Keeps.mk_eq, ↓Keeps.at_eq] | intro _ _ _ | intro _ _

theorem State.writeBackCi_keeps {b : State} {s : State} (n : _) (h_s : Keeps b s) :
    Keeps b (State.writeBackCi s n) := by
  unfold State.writeBackCi
  try dsimp only
  repeat' first | with_reducible assumption | with_reducible apply Keeps.ite | with_reducible apply State.memWr_keeps

theorem journalRecordWriteCmd_keeps {b : State} (badBank : _) {s : State} (h_s : Keeps b s) :
    Keeps b (journalRecordWriteCmd badBank s) := by
  unfold journalRecordWriteCmd
  try dsimp only
  repeat' first | with_reducible assumption | with_reducible apply Keeps.ite | with_reducible apply Keeps.foldl | with_reducible apply State.drain_keeps | with_reducible apply State.final_keeps | with_reducible apply State.flushSetups_keeps | with_reducible apply State.writeBackCi_keeps | with_reducible apply State.writeRecord_keeps | simp only [↓Keeps.mk_eq, ↓Keeps.at_eq] | intro _ _ _ | intro _ _ | split

theorem journalRecordScrubCmd_keeps {b : State} (badBank : _) {s : State} (h_s : Keeps b s) :
    Keeps b (journalRecordScrubCmd badBank s) := by
  unfold journalRecordScrubCmd
  try dsimp only
  repeat' first | with_reducible assumption | with_reducible apply Keeps.ite | with_reducible apply State.bankFault_keeps | with_reducible apply State.copyNow_keeps | simp only [↓Keeps.mk_eq, ↓Keeps.at_eq] | split

theorem jnlRateUpdateCmd_keeps {b : State} {s : State} (h_s : Keeps b s) :
    Keeps b (jnlRateUpdateCmd s) := by
  unfold jnlRateUpdateCmd
  try dsimp only
  repeat' first | with_reducible assumption | with_reducible apply Keeps.ite | with_reducible apply State.setReg_keeps | with_reducible apply State.evC_keeps | simp only [↓Keeps.mk_eq, ↓Keeps.at_eq]

theorem State.freeBytes_keeps {b : State} {s : State} (n : _) (h_s : Keeps b s) :
    Keeps b (State.freeBytes s n).2 := by
  unfold State.freeBytes
  try dsimp only
  repeat' first | with_reducible assumption | simp only [↓Keeps.mk_eq, ↓Keeps.at_eq] | split

theorem State.freeBytes_of {b t_ : State} {x_ : _} {s : State} {n : _} (h_s : Keeps b s) (e_ : State.freeBytes s n = (x_, t_)) :
    Keeps b t_ := by
  have h_ := State.freeBytes_keeps n h_s
  rw [e_] at h_
  exact h_

theorem jnlStatusCmd_keeps {b : State} (h0 : _) (buf : _) {s : State} (h_s : Keeps b s) :
    Keeps b (jnlStatusCmd h0 buf s) := by
  unfold jnlStatusCmd
  try dsimp only
  repeat' first | with_reducible assumption | with_reducible apply Keeps.ite | with_reducible apply State.freeBytes_keeps | with_reducible apply State.memWr_keeps | with_reducible apply State.hostCmd_keeps | with_reducible apply State.answerOk_keeps | refine State.freeBytes_of ?_ (by assumption) | intro _ _ _ | intro _ _ | split

theorem logReadCmd_keeps {b : State} (h0 : _) (start : _) (count : _) (buf : _) {s : State} (h_s : Keeps b s) :
    Keeps b (logReadCmd h0 start count buf s) := by
  unfold logReadCmd
  try dsimp only
  repeat' first | with_reducible assumption | with_reducible apply Keeps.ite | with_reducible apply State.freeBytes_keeps | with_reducible apply State.memWr_keeps | with_reducible apply State.hostCmd_keeps | with_reducible apply State.answerOk_keeps | refine State.freeBytes_of ?_ (by assumption) | intro _ _ _ | intro _ _ | split

/-! ## Enable -/

theorem axisEnableCmd_keeps {b : State} (h0 : _) {s : State} (h_s : Keeps b s) :
    Keeps b (axisEnableCmd h0 s) := by
  unfold axisEnableCmd
  try dsimp only
  repeat' first | with_reducible assumption | with_reducible apply Keeps.ite | with_reducible apply State.modAxis_keeps | with_reducible apply State.hostCmd_keeps | with_reducible apply State.acceptImm_keeps | intro _ _ _ | intro _ _ | split

theorem State.enableEffect_keeps {b : State} {s : State} (a : _) (c : _) (h_s : Keeps b s) :
    Keeps b (State.enableEffect s a c) := by
  unfold State.enableEffect
  try dsimp only
  repeat' first | with_reducible assumption | with_reducible apply Keeps.ite | with_reducible apply State.applyEnable_keeps | with_reducible apply State.ev_keeps

theorem axisEnableEffectCmd_keeps {b : State} (a : _) {s : State} (h_s : Keeps b s) :
    Keeps b (axisEnableEffectCmd a s) := by
  unfold axisEnableEffectCmd
  try dsimp only
  repeat' first | with_reducible assumption | with_reducible apply Keeps.ite | with_reducible apply Keeps.foldl | with_reducible apply State.atPhi0_keeps | with_reducible apply State.modAxis_keeps | with_reducible apply State.enableEffect_keeps | intro _ _ _ | intro _ _

theorem axisDisableCmd_keeps {b : State} (h : _) {s : State} (h_s : Keeps b s) :
    Keeps b (axisDisableCmd h s) := by
  unfold axisDisableCmd
  try dsimp only
  repeat' first | with_reducible assumption | with_reducible apply State.acceptImm_keeps | with_reducible apply State.axisHighsOff_keeps | with_reducible apply State.disableAxis_keeps | with_reducible apply State.hostCmd_keeps | with_reducible apply State.modAxis_keeps | simp only [↓Keeps.mk_eq, ↓Keeps.at_eq] | intro _ _ _ | intro _ _

theorem State.clearUnits_keeps {b : State} {s : State} (x : _) (h_s : Keeps b s) :
    Keeps b (State.clearUnits s x) := by
  unfold State.clearUnits
  try dsimp only
  repeat' first | with_reducible assumption | with_reducible apply Keeps.ite | with_reducible apply State.clearTrip_keeps | with_reducible apply State.chopFollow_keeps | with_reducible apply State.setChopper_keeps | with_reducible apply State.portStart_keeps | split

theorem State.clearRefused_keeps {b : State} {s : State} (h : _) (h_s : Keeps b s) :
    Keeps b (State.clearRefused s h) := by
  unfold State.clearRefused
  try dsimp only
  repeat' first | with_reducible assumption | with_reducible apply Keeps.ite | with_reducible apply State.setBit_keeps | simp only [↓Keeps.mk_eq, ↓Keeps.at_eq] | split

theorem faultClearCmd_keeps {b : State} (h : _) {s : State} (h_s : Keeps b s) :
    Keeps b (faultClearCmd h s) := by
  unfold faultClearCmd
  try dsimp only
  repeat' first | with_reducible assumption | with_reducible apply Keeps.ite | with_reducible apply State.acceptImm_keeps | with_reducible apply State.clearRefused_keeps | with_reducible apply State.clearUnits_keeps | with_reducible apply State.hostCmd_keeps | with_reducible apply State.modAxis_keeps | simp only [↓Keeps.mk_eq, ↓Keeps.at_eq] | intro _ _ _ | intro _ _

/-! ## Moves -/

theorem State.startMove_keeps {b : State} {s : State} (a : _) (m : _) (h_s : Keeps b s) :
    Keeps b (State.startMove s a m) := by
  unfold State.startMove
  try dsimp only
  repeat' first | with_reducible assumption | with_reducible apply State.request_keeps | with_reducible apply State.modAxis_keeps

theorem State.takeMove_keeps {b : State} {s : State} (a : _) (m : _) (h_s : Keeps b s) :
    Keeps b (State.takeMove s a m) := by
  unfold State.takeMove
  try dsimp only
  repeat' first | with_reducible assumption | with_reducible apply Keeps.ite | with_reducible apply State.setAxis_keeps | with_reducible apply State.startMove_keeps | simp only [↓Keeps.mk_eq, ↓Keeps.at_eq]

theorem moveCmd_keeps {b : State} (h0 : _) (flags : _) (target : _) (v : _) (a : _) (j : _) {s : State} (h_s : Keeps b s) :
    Keeps b (moveCmd h0 flags target v a j s) := by
  unfold moveCmd
  try dsimp only
  repeat' first | with_reducible assumption | with_reducible apply Keeps.ite | with_reducible apply State.takeMove_keeps | with_reducible apply State.hostCmd_keeps | with_reducible apply State.acceptLong_keeps | intro _ _ _ | intro _ _

theorem State.stopGroup_keeps {b : State} {s : State} (g : _) (h_s : Keeps b s) :
    Keeps b (State.stopGroup s g) := by
  unfold State.stopGroup
  try dsimp only
  repeat' first | with_reducible assumption | with_reducible apply Keeps.ite | with_reducible apply State.setGroup_keeps | with_reducible apply State.requestGroup_keeps

theorem State.stopMove_keeps {b : State} {s : State} (a : _) (h_s : Keeps b s) :
    Keeps b (State.stopMove s a) := by
  unfold State.stopMove
  try dsimp only
  repeat' first | with_reducible assumption | with_reducible apply State.modAxis_keeps | with_reducible apply State.request_keeps | simp only [↓Keeps.mk_eq, ↓Keeps.at_eq] | intro _ _ _ | intro _ _

theorem State.stopAxis_keeps {b : State} {s : State} (a : _) (h_s : Keeps b s) :
    Keeps b (State.stopAxis s a) := by
  unfold State.stopAxis
  try dsimp only
  repeat' first | with_reducible assumption | with_reducible apply Keeps.ite | with_reducible apply State.disableAxis_keeps | with_reducible apply State.endHoming_keeps | with_reducible apply State.failIdent_keeps | with_reducible apply State.modAxis_keeps | with_reducible apply State.request_keeps | with_reducible apply State.setAxis_keeps | with_reducible apply State.stopGroup_keeps | with_reducible apply State.stopMove_keeps | simp only [↓Keeps.mk_eq, ↓Keeps.at_eq] | intro _ _ _ | intro _ _

theorem stopCmd_keeps {b : State} (h : _) {s : State} (h_s : Keeps b s) :
    Keeps b (stopCmd h s) := by
  unfold stopCmd
  try dsimp only
  repeat' first | with_reducible assumption | with_reducible apply Keeps.ite | with_reducible apply State.acceptImm_keeps | with_reducible apply State.hostCmd_keeps | with_reducible apply State.stopAxis_keeps | intro _ _ _ | intro _ _

theorem State.resumeAxis_keeps {b : State} {s : State} (a : _) (own : _) (h_s : Keeps b s) :
    Keeps b (State.resumeAxis s a own) := by
  unfold State.resumeAxis
  try dsimp only
  repeat' first | with_reducible assumption | with_reducible apply State.startMove_keeps | with_reducible apply State.setAxis_keeps | with_reducible apply State.request_keeps | with_reducible apply State.finalPlain_keeps | split

theorem resumeCmd_keeps {b : State} (h : _) {s : State} (h_s : Keeps b s) :
    Keeps b (resumeCmd h s) := by
  unfold resumeCmd
  try dsimp only
  repeat' first | with_reducible assumption | with_reducible apply Keeps.ite | with_reducible apply State.acceptImm_keeps | with_reducible apply State.acceptLong_keeps | with_reducible apply State.hostCmd_keeps | with_reducible apply State.modAxis_keeps | with_reducible apply State.resumeAxis_keeps | simp only [↓Keeps.mk_eq, ↓Keeps.at_eq] | intro _ _ _ | intro _ _

theorem State.flushAxis_keeps {b : State} {s : State} (a : _) (h_s : Keeps b s) :
    Keeps b (State.flushAxis s a) := by
  unfold State.flushAxis
  try dsimp only
  repeat' first | with_reducible assumption | with_reducible apply Keeps.ite | with_reducible apply Keeps.foldl | with_reducible apply State.finalMove_keeps | with_reducible apply State.setAxis_keeps | simp only [↓Keeps.mk_eq, ↓Keeps.at_eq] | intro _ _ _ | intro _ _

theorem flushCmd_keeps {b : State} (h0 : _) {s : State} (h_s : Keeps b s) :
    Keeps b (flushCmd h0 s) := by
  unfold flushCmd
  try dsimp only
  repeat' first | with_reducible assumption | with_reducible apply State.hostCmd_keeps | with_reducible apply State.acceptImm_keeps | with_reducible apply State.flushAxis_keeps | intro _ _ _ | intro _ _

theorem setLimitsCmd_keeps {b : State} (h0 : _) (v : _) (a : _) (j : _) {s : State} (h_s : Keeps b s) :
    Keeps b (setLimitsCmd h0 v a j s) := by
  unfold setLimitsCmd
  try dsimp only
  repeat' first | with_reducible assumption | with_reducible apply Keeps.ite | with_reducible apply State.addDirect_keeps | with_reducible apply State.request_keeps | with_reducible apply State.hostCmd_keeps | with_reducible apply State.acceptLong_keeps | with_reducible apply State.acceptImm_keeps | intro _ _ _ | intro _ _

theorem setVelocityCmd_keeps {b : State} (h : _) (v : _) {s : State} (h_s : Keeps b s) :
    Keeps b (setVelocityCmd h v s) := by
  unfold setVelocityCmd
  try dsimp only
  repeat' first | with_reducible assumption | with_reducible apply State.acceptImm_keeps | with_reducible apply State.hostCmd_keeps | with_reducible apply State.request_keeps | intro _ _ _ | intro _ _

theorem setCurrentCmd_keeps {b : State} (h0 : _) (iq : _) {s : State} (h_s : Keeps b s) :
    Keeps b (setCurrentCmd h0 iq s) := by
  unfold setCurrentCmd
  try dsimp only
  repeat' first | with_reducible assumption | with_reducible apply State.modAxis_keeps | with_reducible apply State.hostCmd_keeps | with_reducible apply State.acceptImm_keeps | intro _ _ _ | intro _ _

/-! ## Couple -/

theorem State.claimSlave_keeps {b : State} {s : State} (a : _) (k : _) (mkind : _) (master : _) (h_s : Keeps b s) :
    Keeps b (State.claimSlave s a k mkind master) := by
  unfold State.claimSlave
  try dsimp only
  repeat' first | with_reducible assumption | with_reducible apply State.modAxis_keeps | split

theorem gearEngageCmd_keeps {b : State} (h : _) (mkind : _) (master : _) (num : _) (den : _) (b_ : _) {s : State} (h_s : Keeps b s) :
    Keeps b (gearEngageCmd h mkind master num den b_ s) := by
  unfold gearEngageCmd
  try dsimp only
  repeat' first | with_reducible assumption | with_reducible apply Keeps.ite | with_reducible apply State.acceptLong_keeps | with_reducible apply State.claimSlave_keeps | with_reducible apply State.hostCmd_keeps | with_reducible apply State.request_keeps | intro _ _ _ | intro _ _

theorem camEngageCmd_keeps {b : State} (h : _) (mkind : _) (table : _) (master : _) (mOrg : _) (offset : _) (scale : _) (b_ : _) {s : State} (h_s : Keeps b s) :
    Keeps b (camEngageCmd h mkind table master mOrg offset scale b_ s) := by
  unfold camEngageCmd
  try dsimp only
  repeat' first | with_reducible assumption | with_reducible apply Keeps.ite | with_reducible apply State.acceptLong_keeps | with_reducible apply State.claimSlave_keeps | with_reducible apply State.hostCmd_keeps | with_reducible apply State.request_keeps | simp only [↓Keeps.mk_eq, ↓Keeps.at_eq] | intro _ _ _ | intro _ _ | split

theorem State.beginUncouple_keeps {b : State} {s : State} (a : _) (own : _) (h_s : Keeps b s) :
    Keeps b (State.beginUncouple s a own) := by
  unfold State.beginUncouple
  try dsimp only
  repeat' first | with_reducible assumption | with_reducible apply State.request_keeps | with_reducible apply State.modAxis_keeps

theorem decoupleCmd_keeps {b : State} (h0 : _) (mode : _) (b_ : _) {s : State} (h_s : Keeps b s) :
    Keeps b (decoupleCmd h0 mode b_ s) := by
  unfold decoupleCmd
  try dsimp only
  repeat' first | with_reducible assumption | with_reducible apply Keeps.ite | with_reducible apply State.request_keeps | with_reducible apply State.hostCmd_keeps | with_reducible apply State.acceptLong_keeps | with_reducible apply State.beginUncouple_keeps | intro _ _ _ | intro _ _

/-! ## Groups -/

theorem State.startGroup_keeps {b : State} {s : State} (g : _) (m : _) (h_s : Keeps b s) :
    Keeps b (State.startGroup s g m) := by
  unfold State.startGroup
  try dsimp only
  repeat' first | with_reducible assumption | with_reducible apply State.setGroup_keeps | with_reducible apply State.requestGroup_keeps

theorem State.takeGroup_keeps {b : State} {s : State} (g : _) (m : _) (h_s : Keeps b s) :
    Keeps b (State.takeGroup s g m) := by
  unfold State.takeGroup
  try dsimp only
  repeat' first | with_reducible assumption | with_reducible apply Keeps.ite | with_reducible apply State.setGroup_keeps | with_reducible apply State.startGroup_keeps | simp only [↓Keeps.mk_eq, ↓Keeps.at_eq]

theorem groupMoveCmd_keeps {b : State} (h0 : _) (list : _) {s : State} (h_s : Keeps b s) :
    Keeps b (groupMoveCmd h0 list s) := by
  unfold groupMoveCmd
  try dsimp only
  repeat' first | with_reducible assumption | with_reducible apply Keeps.ite | with_reducible apply State.hostCmd_keeps | with_reducible apply State.acceptLong_keeps | with_reducible apply State.takeGroup_keeps | intro _ _ _ | intro _ _ | split

theorem groupStopCmd_keeps {b : State} (h : _) {s : State} (h_s : Keeps b s) :
    Keeps b (groupStopCmd h s) := by
  unfold groupStopCmd
  try dsimp only
  repeat' first | with_reducible assumption | with_reducible apply State.acceptImm_keeps | with_reducible apply State.hostCmd_keeps | with_reducible apply State.stopGroup_keeps | intro _ _ _ | intro _ _

theorem State.resumeGroup_keeps {b : State} {s : State} (g : _) (own : _) (h_s : Keeps b s) :
    Keeps b (State.resumeGroup s g own) := by
  unfold State.resumeGroup
  try dsimp only
  repeat' first | with_reducible assumption | with_reducible apply State.setGroup_keeps | with_reducible apply State.startGroup_keeps | with_reducible apply State.requestGroup_keeps | with_reducible apply State.finalMove_keeps | split

theorem groupResumeCmd_keeps {b : State} (h0 : _) {s : State} (h_s : Keeps b s) :
    Keeps b (groupResumeCmd h0 s) := by
  unfold groupResumeCmd
  try dsimp only
  repeat' first | with_reducible assumption | with_reducible apply State.hostCmd_keeps | with_reducible apply State.acceptLong_keeps | with_reducible apply State.resumeGroup_keeps | intro _ _ _ | intro _ _

theorem State.flushGroup_keeps {b : State} {s : State} (g : _) (h_s : Keeps b s) :
    Keeps b (State.flushGroup s g) := by
  unfold State.flushGroup
  try dsimp only
  repeat' first | with_reducible assumption | with_reducible apply Keeps.ite | with_reducible apply Keeps.foldl | with_reducible apply State.setGroup_keeps | with_reducible apply State.finalMove_keeps | intro _ _ _ | intro _ _ | split

theorem groupFlushCmd_keeps {b : State} (h0 : _) {s : State} (h_s : Keeps b s) :
    Keeps b (groupFlushCmd h0 s) := by
  unfold groupFlushCmd
  try dsimp only
  repeat' first | with_reducible assumption | with_reducible apply State.flushGroup_keeps | with_reducible apply State.hostCmd_keeps | with_reducible apply State.acceptImm_keeps | intro _ _ _ | intro _ _

/-! ## Homing -/

theorem State.armIndex_keeps {b : State} {s : State} (a : _) (h_s : Keeps b s) :
    Keeps b (State.armIndex s a) := by
  unfold State.armIndex
  try dsimp only
  repeat' first | with_reducible assumption | with_reducible apply Keeps.ite | with_reducible apply State.setFbp_keeps | with_reducible apply State.setReg_keeps

theorem State.homePhase_keeps {b : State} {s : State} (a : _) (h : _) (p : _) (h_s : Keeps b s) :
    Keeps b (State.homePhase s a h p) := by
  unfold State.homePhase
  try dsimp only
  repeat' first | with_reducible assumption | with_reducible apply Keeps.ite | with_reducible apply State.armIndex_keeps | with_reducible apply State.modAxis_keeps | with_reducible apply State.request_keeps | simp only [↓Keeps.mk_eq, ↓Keeps.at_eq] | intro _ _ _ | intro _ _

theorem State.homeFail_keeps {b : State} {s : State} (a : _) (h0 : _) (code : _) (h_s : Keeps b s) :
    Keeps b (State.homeFail s a h0 code) := by
  unfold State.homeFail
  try dsimp only
  repeat' first | with_reducible assumption | with_reducible apply State.homePhase_keeps

theorem State.homeRef_keeps {b : State} {s : State} (a : _) (h0 : _) (pRef : _) (h_s : Keeps b s) :
    Keeps b (State.homeRef s a h0 pRef) := by
  unfold State.homeRef
  try dsimp only
  repeat' first | with_reducible assumption | with_reducible apply State.homePhase_keeps

theorem State.homeSearch_keeps {b : State} {s : State} (a : _) (h0 : _) (h_s : Keeps b s) :
    Keeps b (State.homeSearch s a h0) := by
  unfold State.homeSearch
  try dsimp only
  repeat' first | with_reducible assumption | with_reducible apply Keeps.ite | with_reducible apply State.homePhase_keeps | simp only [↓Keeps.mk_eq, ↓Keeps.at_eq]

theorem State.homeReverse_keeps {b : State} {s : State} (a : _) (h : _) (d : _) (h_s : Keeps b s) :
    Keeps b (State.homeReverse s a h d) := by
  unfold State.homeReverse
  try dsimp only
  repeat' first | with_reducible assumption | with_reducible apply Keeps.ite | with_reducible apply State.homeFail_keeps | with_reducible apply State.homePhase_keeps | with_reducible apply State.modAxis_keeps | simp only [↓Keeps.mk_eq, ↓Keeps.at_eq] | intro _ _ _ | intro _ _

theorem State.homeStart_keeps {b : State} {s : State} (a : _) (own : _) (h_s : Keeps b s) :
    Keeps b (State.homeStart s a own) := by
  unfold State.homeStart
  try dsimp only
  repeat' first | with_reducible assumption | with_reducible apply Keeps.ite | with_reducible apply State.homeFail_keeps | with_reducible apply State.homeRef_keeps | with_reducible apply State.homeSearch_keeps | with_reducible apply State.modAxis_keeps | simp only [↓Keeps.mk_eq, ↓Keeps.at_eq] | intro _ _ _ | intro _ _

theorem homeCmd_keeps {b : State} (h0 : _) {s : State} (h_s : Keeps b s) :
    Keeps b (homeCmd h0 s) := by
  unfold homeCmd
  try dsimp only
  repeat' first | with_reducible assumption | with_reducible apply State.homeStart_keeps | with_reducible apply State.hostCmd_keeps | with_reducible apply State.acceptLong_keeps | intro _ _ _ | intro _ _

theorem State.switchOne_keeps {b : State} {s : State} (a : _) (i : _) (h_s : Keeps b s) :
    Keeps b (State.switchOne s a i) := by
  unfold State.switchOne
  try dsimp only
  repeat' first | with_reducible assumption | with_reducible apply Keeps.ite | with_reducible apply State.setAxis_keeps | simp only [↓Keeps.mk_eq, ↓Keeps.at_eq] | split

theorem State.switchStep_keeps {b : State} {s : State} (a : _) (h_s : Keeps b s) :
    Keeps b (State.switchStep s a) := by
  unfold State.switchStep
  try dsimp only
  repeat' first | with_reducible assumption | with_reducible apply Keeps.foldl | with_reducible apply State.switchOne_keeps | intro _ _ _ | intro _ _

theorem State.homeActive_keeps {b : State} {s : State} (a : _) (h : _) (sw : _) (h_s : Keeps b s) :
    Keeps b (State.homeActive s a h sw) := by
  unfold State.homeActive
  try dsimp only
  repeat' first | with_reducible assumption | with_reducible apply Keeps.ite | with_reducible apply State.homeFail_keeps | with_reducible apply State.homePhase_keeps | with_reducible apply State.homeReverse_keeps | simp only [↓Keeps.mk_eq, ↓Keeps.at_eq] | split

theorem State.homeInactive_keeps {b : State} {s : State} (a : _) (h0 : _) (sw : _) (pos : _) (h_s : Keeps b s) :
    Keeps b (State.homeInactive s a h0 sw pos) := by
  unfold State.homeInactive
  try dsimp only
  repeat' first | with_reducible assumption | with_reducible apply Keeps.ite | with_reducible apply State.homeRef_keeps | with_reducible apply State.modAxis_keeps | with_reducible apply State.homePhase_keeps

theorem switchEdgeConfirmedCmd_keeps {b : State} (a : _) (sw : _) (active : _) (pos : _) {s : State} (h_s : Keeps b s) :
    Keeps b (switchEdgeConfirmedCmd a sw active pos s) := by
  unfold switchEdgeConfirmedCmd
  try dsimp only
  repeat' first | with_reducible assumption | with_reducible apply Keeps.ite | with_reducible apply State.homeActive_keeps | with_reducible apply State.homeInactive_keeps | with_reducible apply State.raiseSource_keeps | with_reducible apply State.setAxis_keeps | simp only [↓Keeps.mk_eq, ↓Keeps.at_eq] | split

theorem homingStallDetectedCmd_keeps {b : State} (a : _) {s : State} (h_s : Keeps b s) :
    Keeps b (homingStallDetectedCmd a s) := by
  unfold homingStallDetectedCmd
  try dsimp only
  repeat' first | with_reducible assumption | with_reducible apply Keeps.ite | with_reducible apply State.homeRef_keeps | split

/-! ## ProfileEval -/

theorem State.ageReqs_keeps {b : State} {s : State} (a : _) (h_s : Keeps b s) :
    Keeps b (State.ageReqs s a) := by
  unfold State.ageReqs
  try dsimp only
  repeat' first | with_reducible assumption | with_reducible apply State.modAxis_keeps

theorem State.requestQueued_keeps {b : State} {s : State} (a : _) (m : _) (h_s : Keeps b s) :
    Keeps b (State.requestQueued s a m) := by
  unfold State.requestQueued
  try dsimp only
  repeat' first | with_reducible assumption | with_reducible apply State.modAxis_keeps | simp only [↓Keeps.mk_eq, ↓Keeps.at_eq] | intro _ _ _ | intro _ _

theorem State.requestNow_keeps {b : State} {s : State} (a : _) (w : _) (h_s : Keeps b s) :
    Keeps b (State.requestNow s a w) := by
  unfold State.requestNow
  try dsimp only
  repeat' first | with_reducible assumption | with_reducible apply State.modAxis_keeps | simp only [↓Keeps.mk_eq, ↓Keeps.at_eq]

theorem State.requestGroupQueued_keeps {b : State} {s : State} (g : _) (m : _) (h_s : Keeps b s) :
    Keeps b (State.requestGroupQueued s g m) := by
  unfold State.requestGroupQueued
  try dsimp only
  repeat' first | with_reducible assumption | with_reducible apply State.setGroup_keeps | simp only [↓Keeps.mk_eq, ↓Keeps.at_eq]

theorem State.serveQueue_keeps {b : State} {s : State} (a : _) (held : _) (h_s : Keeps b s) :
    Keeps b (State.serveQueue s a held) := by
  unfold State.serveQueue
  try dsimp only
  repeat' first | with_reducible assumption | with_reducible apply Keeps.ite | with_reducible apply State.requestQueued_keeps | with_reducible apply State.setAxis_keeps | simp only [↓Keeps.mk_eq, ↓Keeps.at_eq] | split

theorem State.endStop_keeps {b : State} {s : State} (a : _) (m : _) (h_s : Keeps b s) :
    Keeps b (State.endStop s a m) := by
  unfold State.endStop
  try dsimp only
  repeat' first | with_reducible assumption | with_reducible apply Keeps.ite | with_reducible apply State.suspendMove_keeps | with_reducible apply State.serveQueue_keeps | with_reducible apply State.setAxis_keeps | with_reducible apply State.finalMove_keeps

theorem State.endHome_keeps {b : State} {s : State} (a : _) (status : _) (code : _) (h_s : Keeps b s) :
    Keeps b (State.endHome s a status code) := by
  unfold State.endHome
  try dsimp only
  repeat' first | with_reducible assumption | with_reducible apply Keeps.ite | with_reducible apply State.endHoming_keeps | with_reducible apply State.modAxis_keeps

theorem State.homeAfter_keeps {b : State} {s : State} (a : _) (h : _) (h_s : Keeps b s) :
    Keeps b (State.homeAfter s a h) := by
  unfold State.homeAfter
  try dsimp only
  repeat' first | with_reducible assumption | with_reducible apply Keeps.ite | with_reducible apply State.endHome_keeps | with_reducible apply State.requestNow_keeps | with_reducible apply State.setAxis_keeps | simp only [↓Keeps.mk_eq, ↓Keeps.at_eq]

theorem State.homeNext_keeps {b : State} {s : State} (a : _) (h0 : _) (h_s : Keeps b s) :
    Keeps b (State.homeNext s a h0) := by
  unfold State.homeNext
  try dsimp only
  repeat' first | with_reducible assumption | with_reducible apply State.homeSearch_keeps | with_reducible apply State.homeAfter_keeps | with_reducible apply State.endHome_keeps | with_reducible apply State.modAxis_keeps | with_reducible apply State.ageReqs_keeps | with_reducible apply State.homePhase_keeps | split

theorem State.endUncouple_keeps {b : State} {s : State} (a : _) (own : _) (h_s : Keeps b s) :
    Keeps b (State.endUncouple s a own) := by
  unfold State.endUncouple
  try dsimp only
  repeat' first | with_reducible assumption | with_reducible apply State.finalOpt_keeps | with_reducible apply State.modAxis_keeps

theorem State.finishAxis_keeps {b : State} {s : State} (a : _) (h_s : Keeps b s) :
    Keeps b (State.finishAxis s a) := by
  unfold State.finishAxis
  try dsimp only
  repeat' first | with_reducible assumption | with_reducible apply Keeps.ite | with_reducible apply State.endMove_keeps | with_reducible apply State.endStop_keeps | with_reducible apply State.endUncouple_keeps | with_reducible apply State.homeNext_keeps | with_reducible apply State.serveQueue_keeps | with_reducible apply State.setAxis_keeps | simp only [↓Keeps.mk_eq, ↓Keeps.at_eq] | split

theorem State.setRemains_keeps {b : State} {s : State} (m : _) (stopped : _) (h_s : Keeps b s) :
    Keeps b (State.setRemains s m stopped) := by
  unfold State.setRemains
  try dsimp only
  repeat' first | with_reducible assumption | with_reducible apply Keeps.ite | with_reducible apply Keeps.foldl | with_reducible apply State.modAxis_keeps | simp only [↓Keeps.mk_eq, ↓Keeps.at_eq] | intro _ _ _ | intro _ _

theorem State.serveGroupQueue_keeps {b : State} {s : State} (g : _) (held : _) (h_s : Keeps b s) :
    Keeps b (State.serveGroupQueue s g held) := by
  unfold State.serveGroupQueue
  try dsimp only
  repeat' first | with_reducible assumption | with_reducible apply Keeps.ite | with_reducible apply State.requestGroupQueued_keeps | with_reducible apply State.setGroup_keeps | simp only [↓Keeps.mk_eq, ↓Keeps.at_eq] | split

theorem State.finishGroup_keeps {b : State} {s : State} (g : _) (h_s : Keeps b s) :
    Keeps b (State.finishGroup s g) := by
  unfold State.finishGroup
  try dsimp only
  repeat' first | with_reducible assumption | with_reducible apply Keeps.ite | with_reducible apply State.setRemains_keeps | with_reducible apply State.setGroup_keeps | with_reducible apply State.serveGroupQueue_keeps | with_reducible apply State.finalMove_keeps | split

theorem State.supersede_keeps {b : State} {s : State} (a : _) (h_s : Keeps b s) :
    Keeps b (State.supersede s a) := by
  unfold State.supersede
  try dsimp only
  repeat' first | with_reducible assumption | with_reducible apply State.finalOpt_keeps | simp only [↓Keeps.mk_eq, ↓Keeps.at_eq] | split

theorem State.changeCoupling_keeps {b : State} {s : State} (a : _) (own : _) (f : _) (h_s : Keeps b s) :
    Keeps b (State.changeCoupling s a own f) := by
  unfold State.changeCoupling
  try dsimp only
  repeat' first | with_reducible assumption | with_reducible apply State.supersede_keeps | with_reducible apply State.modAxis_keeps | with_reducible apply State.finalPlain_keeps | split

theorem State.planAxis_keeps {b : State} {s : State} (a : _) (w : _) (h_s : Keeps b s) :
    Keeps b (State.planAxis s a w) := by
  unfold State.planAxis
  try dsimp only
  repeat' first | with_reducible assumption | with_reducible apply Keeps.ite | with_reducible apply State.changeCoupling_keeps | with_reducible apply State.final_keeps | with_reducible apply State.finalOpt_keeps | with_reducible apply State.modAxis_keeps | with_reducible apply State.setAxis_keeps | simp only [↓Keeps.mk_eq, ↓Keeps.at_eq] | intro _ _ _ | intro _ _ | split

theorem State.planGroup_keeps {b : State} {s : State} (g : _) (w : _) (h_s : Keeps b s) :
    Keeps b (State.planGroup s g w) := by
  unfold State.planGroup
  try dsimp only
  repeat' first | with_reducible assumption | with_reducible apply Keeps.ite | with_reducible apply State.modAxis_keeps | with_reducible apply State.setGroup_keeps | simp only [↓Keeps.mk_eq, ↓Keeps.at_eq] | intro _ _ _ | intro _ _ | split

theorem State.serveAxis_keeps {b : State} {s : State} (a : _) (no : _) (h_s : Keeps b s) :
    Keeps b (State.serveAxis s a no) := by
  unfold State.serveAxis
  try dsimp only
  repeat' first | with_reducible assumption | with_reducible apply State.setAxis_keeps | with_reducible apply State.finishAxis_keeps | with_reducible apply State.planAxis_keeps | split

theorem State.serveGroup_keeps {b : State} {s : State} (g : _) (no : _) (h_s : Keeps b s) :
    Keeps b (State.serveGroup s g no) := by
  unfold State.serveGroup
  try dsimp only
  repeat' first | with_reducible assumption | with_reducible apply State.setGroup_keeps | with_reducible apply State.planGroup_keeps | with_reducible apply State.finishGroup_keeps | split

theorem State.serveSlots_keeps {b s : State} (pe k : Nat) (h : Keeps b s) : Keeps b (State.serveSlots s pe k) := by
  induction k generalizing s with
  | zero =>
    unfold State.serveSlots
    refine Keeps.foldl (fun s r hs => Keeps.ite (Keeps.foldl (fun s a hs => State.modAxis_keeps _ _ hs) _ hs) (State.modAxis_keeps _ _ hs)) _ h
  | succ k ih =>
    unfold State.serveSlots
    split
    · exact h
    · exact ih (Keeps.ite (State.serveGroup_keeps _ _ h) (State.serveAxis_keeps _ _ h))

theorem State.checkMaster_keeps {b : State} {s : State} (a : _) (h_s : Keeps b s) :
    Keeps b (State.checkMaster s a) := by
  unfold State.checkMaster
  try dsimp only
  repeat' first | with_reducible assumption | with_reducible apply Keeps.ite | with_reducible apply State.evFree_keeps | with_reducible apply State.requestNow_keeps | with_reducible apply State.setAxis_keeps | with_reducible apply State.modAxis_keeps | split

theorem State.slaveSet_keeps {b : State} {s : State} (a : _) (c : _) (h_s : Keeps b s) :
    Keeps b (State.slaveSet s a c) := by
  unfold State.slaveSet
  try dsimp only
  repeat' first | with_reducible assumption | with_reducible apply Keeps.ite | with_reducible apply State.final_keeps | with_reducible apply State.setAxis_keeps | simp only [↓Keeps.mk_eq, ↓Keeps.at_eq] | split

theorem State.coastSet_keeps {b : State} {s : State} (a : _) (c : _) (h_s : Keeps b s) :
    Keeps b (State.coastSet s a c) := by
  unfold State.coastSet
  try dsimp only
  repeat' first | with_reducible assumption | with_reducible apply State.setAxis_keeps | simp only [↓Keeps.mk_eq, ↓Keeps.at_eq] | split

theorem State.homeWatch_keeps {b : State} {s : State} (a : _) (h_s : Keeps b s) :
    Keeps b (State.homeWatch s a) := by
  unfold State.homeWatch
  try dsimp only
  repeat' first | with_reducible assumption | with_reducible apply Keeps.ite | with_reducible apply State.ageReqs_keeps | with_reducible apply State.homeFail_keeps | with_reducible apply State.homePhase_keeps | simp only [↓Keeps.mk_eq, ↓Keeps.at_eq] | split

theorem State.samplePos_keeps {b : State} {s : State} (a : _) (x : _) (t : _) (h_s : Keeps b s) :
    Keeps b (State.samplePos s a x t) := by
  unfold State.samplePos
  try dsimp only
  repeat' first | with_reducible assumption | with_reducible apply Keeps.ite | with_reducible apply State.coastSet_keeps | with_reducible apply State.setAxis_keeps | with_reducible apply State.slaveSet_keeps | simp only [↓Keeps.mk_eq, ↓Keeps.at_eq] | split

theorem State.sampleModes_keeps {b : State} {s : State} (a : _) (h_s : Keeps b s) :
    Keeps b (State.sampleModes s a) := by
  unfold State.sampleModes
  try dsimp only
  repeat' first | with_reducible assumption | with_reducible apply Keeps.ite | with_reducible apply State.samplePos_keeps | with_reducible apply State.setAxis_keeps | simp only [↓Keeps.mk_eq, ↓Keeps.at_eq] | split

theorem State.sampleAxis_keeps {b : State} {s : State} (a : _) (h_s : Keeps b s) :
    Keeps b (State.sampleAxis s a) := by
  unfold State.sampleAxis
  try dsimp only
  repeat' first | with_reducible assumption | with_reducible apply State.modAxis_keeps | with_reducible apply State.sampleModes_keeps

theorem State.withNextPns_keeps {b : State} {s : State} (h_s : Keeps b s) :
    Keeps b (State.withNextPns s) := by
  unfold State.withNextPns
  try dsimp only
  repeat' first | with_reducible assumption | with_reducible apply Keeps.foldl | with_reducible apply State.modAxis_keeps | intro _ _ _ | intro _ _

theorem State.withPnsOf_keeps {b : State} {s : State} {t : State} (h_s : Keeps b s) (h_t : Keeps b t) :
    Keeps b (State.withPnsOf s t) := by
  unfold State.withPnsOf
  try dsimp only
  repeat' first | with_reducible assumption | with_reducible apply Keeps.foldl | with_reducible apply State.modAxis_keeps | intro _ _ _ | intro _ _

theorem State.readSignals_keeps {b : State} {s : State} (pe : _) (h_s : Keeps b s) :
    Keeps b (State.readSignals s pe) := by
  unfold State.readSignals
  try dsimp only
  repeat' first | with_reducible assumption | with_reducible apply Keeps.ite | simp only [↓Keeps.mk_eq, ↓Keeps.at_eq]

theorem State.evaluate_keeps {b : State} {s : State} (pe : _) (h_s : Keeps b s) :
    Keeps b (State.evaluate s pe) := by
  unfold State.evaluate
  try dsimp only
  repeat' first | with_reducible assumption | with_reducible apply Keeps.ite | with_reducible apply Keeps.foldl | with_reducible apply State.checkMaster_keeps | with_reducible apply State.finishAxis_keeps | with_reducible apply State.finishGroup_keeps | with_reducible apply State.homeWatch_keeps | with_reducible apply State.readSignals_keeps | with_reducible apply State.requestNow_keeps | with_reducible apply State.sampleAxis_keeps | with_reducible apply State.serveSlots_keeps | with_reducible apply State.switchStep_keeps | intro _ _ _ | intro _ _

theorem profileEvaluationCmd_keeps {b : State} (pe : _) {s : State} (h_s : Keeps b s) :
    Keeps b (profileEvaluationCmd pe s) := by
  unfold profileEvaluationCmd
  try dsimp only
  repeat' first | with_reducible assumption | with_reducible apply Keeps.ite | with_reducible apply State.withPnsOf_keeps | with_reducible apply State.evaluate_keeps | with_reducible apply State.withNextPns_keeps

theorem streamLostCmd_keeps {b : State} (a : _) {s : State} (h_s : Keeps b s) :
    Keeps b (streamLostCmd a s) := by
  unfold streamLostCmd
  try dsimp only
  repeat' first | with_reducible assumption | with_reducible apply Keeps.ite | with_reducible apply State.evFree_keeps | with_reducible apply State.setAxis_keeps | with_reducible apply State.request_keeps

theorem profileMissCmd_keeps {b : State} (a : _) {s : State} (h_s : Keeps b s) :
    Keeps b (profileMissCmd a s) := by
  unfold profileMissCmd
  try dsimp only
  repeat' first | with_reducible assumption | with_reducible apply Keeps.ite | with_reducible apply State.setAxis_keeps | with_reducible apply State.raiseSource_keeps | with_reducible apply State.evEngine_keeps

/-! ## Session -/

theorem State.evDebug_keeps {b : State} {s : State} (engine : _) (code : _) (h_s : Keeps b s) :
    Keeps b (State.evDebug s engine code) := by
  unfold State.evDebug
  try dsimp only
  repeat' first | with_reducible assumption | with_reducible apply State.evC_keeps

theorem State.dbgRefuse_keeps {b : State} {s : State} (req : _) (reason : _) (engine : _) (h_s : Keeps b s) :
    Keeps b (State.dbgRefuse s req reason engine) := by
  unfold State.dbgRefuse
  try dsimp only
  repeat' first | with_reducible assumption | with_reducible apply State.setReg_keeps | with_reducible apply State.evDebug_keeps

theorem State.haltEngine_keeps {b : State} {s : State} (e : _) (h_s : Keeps b s) :
    Keeps b (State.haltEngine s e) := by
  unfold State.haltEngine
  try dsimp only
  repeat' first | with_reducible assumption | with_reducible apply Keeps.ite | with_reducible apply State.evDebug_keeps | with_reducible apply State.haltAxes_keeps | simp only [↓Keeps.mk_eq, ↓Keeps.at_eq]

theorem State.podsPartial_keeps {b : State} {s : State} (h_s : Keeps b s) :
    Keeps b (State.podsPartial s) := by
  unfold State.podsPartial
  try dsimp only
  repeat' first | with_reducible assumption | with_reducible apply Keeps.ite | with_reducible apply Keeps.foldl | with_reducible apply State.setPod_keeps | intro _ _ _ | intro _ _ | split

theorem State.dropData_keeps {b : State} {s : State} (e : _) (h_s : Keeps b s) :
    Keeps b (State.dropData s e) := by
  unfold State.dropData
  try dsimp only
  repeat' first | with_reducible assumption | simp only [↓Keeps.mk_eq, ↓Keeps.at_eq] | intro _ _ _ | intro _ _

theorem State.resumeEngine_keeps {b : State} {s : State} (e : _) (h_s : Keeps b s) :
    Keeps b (State.resumeEngine s e) := by
  unfold State.resumeEngine
  try dsimp only
  repeat' first | with_reducible assumption | with_reducible apply Keeps.ite | with_reducible apply State.dropData_keeps | with_reducible apply State.evDebug_keeps | with_reducible apply State.podsPartial_keeps | simp only [↓Keeps.mk_eq, ↓Keeps.at_eq]

theorem State.endSession_keeps {b : State} {s : State} (h_s : Keeps b s) :
    Keeps b (State.endSession s) := by
  unfold State.endSession
  try dsimp only
  repeat' first | with_reducible assumption | with_reducible apply Keeps.ite | with_reducible apply Keeps.foldl | with_reducible apply State.evDebug_keeps | with_reducible apply State.resumeEngine_keeps | simp only [↓Keeps.mk_eq, ↓Keeps.at_eq] | intro _ _ _ | intro _ _

theorem State.openByAccess_keeps {b : State} {s : State} (r : _) (h_s : Keeps b s) :
    Keeps b (State.openByAccess s r) := by
  unfold State.openByAccess
  try dsimp only
  repeat' first | with_reducible assumption | with_reducible apply Keeps.ite | simp only [↓Keeps.mk_eq, ↓Keeps.at_eq]

theorem engineHaltCmd_keeps {b : State} (e : _) {s : State} (h_s : Keeps b s) :
    Keeps b (engineHaltCmd e s) := by
  unfold engineHaltCmd
  try dsimp only
  repeat' first | with_reducible assumption | with_reducible apply Keeps.ite | with_reducible apply State.openByAccess_keeps | with_reducible apply State.haltEngine_keeps

theorem engineResumeCmd_keeps {b : State} (e : _) {s : State} (h_s : Keeps b s) :
    Keeps b (engineResumeCmd e s) := by
  unfold engineResumeCmd
  try dsimp only
  repeat' first | with_reducible assumption | with_reducible apply Keeps.ite | with_reducible apply State.openByAccess_keeps | with_reducible apply State.resumeEngine_keeps

theorem tapResetCmd_keeps {b : State} {s : State} (h_s : Keeps b s) :
    Keeps b (tapResetCmd s) := by
  unfold tapResetCmd
  try dsimp only
  repeat' first | with_reducible assumption | with_reducible apply State.endSession_keeps

theorem State.setLock_keeps {b : State} {s : State} (h_s : Keeps b s) :
    Keeps b (State.setLock s) := by
  unfold State.setLock
  try dsimp only
  repeat' first | with_reducible assumption | with_reducible apply State.endSession_keeps | simp only [↓Keeps.mk_eq, ↓Keeps.at_eq]

theorem dbgCtlWriteCmd_keeps {b : State} (v : _) {s : State} (h_s : Keeps b s) :
    Keeps b (dbgCtlWriteCmd v s) := by
  unfold dbgCtlWriteCmd
  try dsimp only
  repeat' first | with_reducible assumption | with_reducible apply Keeps.ite | with_reducible apply State.endSession_keeps | with_reducible apply State.setLock_keeps

theorem dbgAuthCmd_keeps {b : State} (answer : _) (late : _) {s : State} (h_s : Keeps b s) :
    Keeps b (dbgAuthCmd answer late s) := by
  unfold dbgAuthCmd
  try dsimp only
  repeat' first | with_reducible assumption | with_reducible apply Keeps.ite | with_reducible apply State.evDebug_keeps | with_reducible apply State.dbgRefuse_keeps | with_reducible apply State.freeW_keeps | refine State.freeW_of ?_ (by assumption) | simp only [↓Keeps.mk_eq, ↓Keeps.at_eq] | split | with_reducible refine Keeps.sec ?_ (Nat.le_refl _) (Nat.le_succ _)

/-! ## Sleep -/

theorem State.setPower_keeps {b : State} {s : State} (v : _) (h_s : Keeps b s) :
    Keeps b (State.setPower s v) := by
  unfold State.setPower
  try dsimp only
  repeat' first | with_reducible assumption | with_reducible apply State.setFld_keeps

theorem State.setTransit_keeps {b : State} {s : State} (b_ : _) (h_s : Keeps b s) :
    Keeps b (State.setTransit s b_) := by
  unfold State.setTransit
  try dsimp only
  repeat' first | with_reducible assumption | with_reducible apply State.setBit_keeps

theorem State.setWakeCause_keeps {b : State} {s : State} (c : _) (h_s : Keeps b s) :
    Keeps b (State.setWakeCause s c) := by
  unfold State.setWakeCause
  try dsimp only
  repeat' first | with_reducible assumption | with_reducible apply State.setFld_keeps

theorem powerStateCmd_keeps {b : State} (h0 : _) (target : _) {s : State} (h_s : Keeps b s) :
    Keeps b (powerStateCmd h0 target s) := by
  unfold powerStateCmd
  try dsimp only
  repeat' first | with_reducible assumption | with_reducible apply Keeps.ite | with_reducible apply State.final_keeps | with_reducible apply State.setTransit_keeps | with_reducible apply State.hostCmd_keeps | with_reducible apply State.acceptLong_keeps | simp only [↓Keeps.mk_eq, ↓Keeps.at_eq] | intro _ _ _ | intro _ _

theorem State.powerChange_keeps {b : State} {s : State} (h_s : Keeps b s) :
    Keeps b (State.powerChange s) := by
  unfold State.powerChange
  try dsimp only
  repeat' first | with_reducible assumption | with_reducible apply Keeps.ite | with_reducible apply State.final_keeps | with_reducible apply State.setWakeCause_keeps | with_reducible apply State.setTransit_keeps | with_reducible apply State.evC_keeps | with_reducible apply State.setPower_keeps | simp only [↓Keeps.mk_eq, ↓Keeps.at_eq] | split

theorem State.saveThermal_keeps {b : State} {s : State} (h_s : Keeps b s) :
    Keeps b (State.saveThermal s) := by
  unfold State.saveThermal
  try dsimp only
  repeat' first | with_reducible assumption | with_reducible apply Keeps.ite | simp only [↓Keeps.mk_eq, ↓Keeps.at_eq] | intro _ _ _ | intro _ _

theorem State.silenceLanes_keeps {b : State} {s : State} (h_s : Keeps b s) :
    Keeps b (State.silenceLanes s) := by
  unfold State.silenceLanes
  try dsimp only
  repeat' first | with_reducible assumption | with_reducible apply Keeps.ite | with_reducible apply Keeps.foldl | with_reducible apply State.setFld_keeps | simp only [↓Keeps.mk_eq, ↓Keeps.at_eq] | intro _ _ _ | intro _ _

theorem State.evWake_keeps {b : State} {s : State} (c : _) (h_s : Keeps b s) :
    Keeps b (State.evWake s c) := by
  unfold State.evWake
  try dsimp only
  repeat' first | with_reducible assumption | with_reducible apply State.ev_keeps | with_reducible apply State.evC_keeps | split

theorem State.wakePin_keeps {b : State} {s : State} (l2 : _) (h_s : Keeps b s) :
    Keeps b (State.wakePin s l2) := by
  unfold State.wakePin
  try dsimp only
  repeat' first | with_reducible assumption | with_reducible apply Keeps.ite | simp only [↓Keeps.mk_eq, ↓Keeps.at_eq]

theorem State.wakeUp_keeps {b : State} {s : State} (c : _) (h_s : Keeps b s) :
    Keeps b (State.wakeUp s c) := by
  unfold State.wakeUp
  try dsimp only
  repeat' first | with_reducible assumption | with_reducible apply Keeps.ite | with_reducible apply Keeps.foldl | with_reducible apply State.evWake_keeps | with_reducible apply State.freeW_keeps | refine State.freeW_of ?_ (by assumption) | with_reducible apply State.modAxis_keeps | with_reducible apply State.setFld_keeps | with_reducible apply State.setPower_keeps | with_reducible apply State.setTransit_keeps | with_reducible apply State.setWakeCause_keeps | with_reducible apply State.wakePin_keeps | simp only [↓Keeps.mk_eq, ↓Keeps.at_eq] | intro _ _ _ | intro _ _ | split

theorem standbyEntryCmd_keeps {b : State} {s : State} (h_s : Keeps b s) :
    Keeps b (standbyEntryCmd s) := by
  unfold standbyEntryCmd
  try dsimp only
  repeat' first | with_reducible assumption | with_reducible apply Keeps.ite | with_reducible apply State.canStandby_keeps | with_reducible apply State.endSession_keeps | with_reducible apply State.evC_keeps | with_reducible apply State.saveThermal_keeps | with_reducible apply State.setFld_keeps | with_reducible apply State.setPower_keeps | with_reducible apply State.setTransit_keeps | with_reducible apply State.silenceLanes_keeps | with_reducible apply State.wakeUp_keeps | simp only [↓Keeps.mk_eq, ↓Keeps.at_eq] | split

theorem standbyWakeCmd_keeps {b : State} (c : _) {s : State} (h_s : Keeps b s) :
    Keeps b (standbyWakeCmd c s) := by
  unfold standbyWakeCmd
  try dsimp only
  repeat' first | with_reducible assumption | with_reducible apply State.wakeUp_keeps

/-! ## CanBus -/

theorem canInitWriteCmd_keeps {b : State} (k : _) (v : _) {s : State} (h_s : Keeps b s) :
    Keeps b (canInitWriteCmd k v s) := by
  unfold canInitWriteCmd
  try dsimp only
  repeat' first | with_reducible assumption | with_reducible apply Keeps.ite | with_reducible apply State.setBit_keeps | with_reducible apply State.setFld_keeps | with_reducible apply State.evBadReg_keeps | with_reducible apply State.canStart_keeps | with_reducible apply State.canStop_keeps | with_reducible apply State.canSleepNow_keeps | split

theorem canBusJoinCmd_keeps {b : State} (k : _) {s : State} (h_s : Keeps b s) :
    Keeps b (canBusJoinCmd k s) := by
  unfold canBusJoinCmd
  try dsimp only
  repeat' first | with_reducible assumption | with_reducible apply Keeps.ite | with_reducible apply State.setCanc_keeps | with_reducible apply State.canShow_keeps

theorem State.canCounts_keeps {b : State} {s : State} (k : _) (tec : _) (rec_ : _) (h_s : Keeps b s) :
    Keeps b (State.canCounts s k tec rec_) := by
  unfold State.canCounts
  try dsimp only
  repeat' first | with_reducible assumption | with_reducible apply Keeps.ite | with_reducible apply State.setCanc_keeps | with_reducible apply State.canShow_keeps | with_reducible apply State.canErrEv_keeps

theorem canBusErrorCmd_keeps {b : State} (k : _) (e : _) {s : State} (h_s : Keeps b s) :
    Keeps b (canBusErrorCmd k e s) := by
  unfold canBusErrorCmd
  try dsimp only
  repeat' first | with_reducible assumption | with_reducible apply Keeps.ite | with_reducible apply State.canCounts_keeps | with_reducible apply State.setFld_keeps

theorem canBusOffCmd_keeps {b : State} (k : _) {s : State} (h_s : Keeps b s) :
    Keeps b (canBusOffCmd k s) := by
  unfold canBusOffCmd
  try dsimp only
  repeat' first | with_reducible assumption | with_reducible apply Keeps.ite | with_reducible apply State.setCanc_keeps | with_reducible apply State.setBit_keeps | with_reducible apply State.canFailAll_keeps | with_reducible apply State.bumpFld_keeps | with_reducible apply State.canShow_keeps | with_reducible apply State.canErrEv_keeps

theorem canBusOffRecoveryCmd_keeps {b : State} (k : _) {s : State} (h_s : Keeps b s) :
    Keeps b (canBusOffRecoveryCmd k s) := by
  unfold canBusOffRecoveryCmd
  try dsimp only
  repeat' first | with_reducible assumption | with_reducible apply Keeps.ite | with_reducible apply State.setCanc_keeps | with_reducible apply State.canShow_keeps | with_reducible apply State.canErrEv_keeps

theorem State.canStore_keeps {b : State} {s : State} (k : _) (b_ : _) (flt : _) (f : _) (t : _) (h_s : Keeps b s) :
    Keeps b (State.canStore s k b_ flt f t) := by
  unfold State.canStore
  try dsimp only
  repeat' first | with_reducible assumption | with_reducible apply Keeps.ite | with_reducible apply Keeps.foldl | with_reducible apply State.localSig_keeps | with_reducible apply State.setCanc_keeps | with_reducible apply State.canTraffic_keeps | with_reducible apply State.setBit_keeps | intro _ _ _ | intro _ _

theorem State.canTake_keeps {b : State} {s : State} (k : _) (f : _) (t : _) (h_s : Keeps b s) :
    Keeps b (State.canTake s k f t) := by
  unfold State.canTake
  try dsimp only
  repeat' first | with_reducible assumption | with_reducible apply State.bumpFld_keeps | with_reducible apply State.canStore_keeps | split

theorem canFrameReceivedCmd_keeps {b : State} (k : _) (f : _) (t : _) {s : State} (h_s : Keeps b s) :
    Keeps b (canFrameReceivedCmd k f t s) := by
  unfold canFrameReceivedCmd
  try dsimp only
  repeat' first | with_reducible assumption | with_reducible apply Keeps.ite | with_reducible apply State.canCounts_keeps | with_reducible apply State.canTake_keeps | with_reducible apply State.setFld_keeps

theorem canTxreqCmd_keeps {b : State} (k : _) (high : _) (v : _) {s : State} (h_s : Keeps b s) :
    Keeps b (canTxreqCmd k high v s) := by
  unfold canTxreqCmd
  try dsimp only
  repeat' first | with_reducible assumption | with_reducible apply Keeps.ite | with_reducible apply Keeps.foldl | with_reducible apply State.canRequest_keeps | intro _ _ _ | intro _ _

theorem canFrameSentCmd_keeps {b : State} (k : _) (b_ : _) (t : _) {s : State} (h_s : Keeps b s) :
    Keeps b (canFrameSentCmd k b_ t s) := by
  unfold canFrameSentCmd
  try dsimp only
  repeat' first | with_reducible assumption | with_reducible apply Keeps.ite | with_reducible apply State.canCounts_keeps | with_reducible apply State.canTake_keeps | with_reducible apply State.canTraffic_keeps | with_reducible apply State.localSig_keeps | with_reducible apply State.setBit_keeps | with_reducible apply State.setCanPending_keeps | simp only [↓Keeps.mk_eq, ↓Keeps.at_eq] | split

theorem canTxFailCmd_keeps {b : State} (k : _) (b_ : _) (cause : _) (lec : _) {s : State} (h_s : Keeps b s) :
    Keeps b (canTxFailCmd k b_ cause lec s) := by
  unfold canTxFailCmd
  try dsimp only
  repeat' first | with_reducible assumption | with_reducible apply Keeps.ite | with_reducible apply State.setFld_keeps | with_reducible apply State.canFail_keeps

theorem canSleepCmd_keeps {b : State} (k : _) {s : State} (h_s : Keeps b s) :
    Keeps b (canSleepCmd k s) := by
  unfold canSleepCmd
  try dsimp only
  repeat' first | with_reducible assumption | with_reducible apply Keeps.ite | with_reducible apply State.canSleepNow_keeps

theorem State.canDecodeErrors_keeps {b : State} {s : State} (k : _) (cause : _) (h_s : Keeps b s) :
    Keeps b (State.canDecodeErrors s k cause) := by
  unfold State.canDecodeErrors
  try dsimp only
  repeat' first | with_reducible assumption | with_reducible apply Keeps.ite | with_reducible apply State.freeW_keeps | refine State.freeW_of ?_ (by assumption) | with_reducible apply State.setFld_keeps | split

theorem canWakeCmd_keeps {b : State} (k : _) (cause : _) {s : State} (h_s : Keeps b s) :
    Keeps b (canWakeCmd k cause s) := by
  unfold canWakeCmd
  try dsimp only
  repeat' first | with_reducible assumption | with_reducible apply Keeps.ite | with_reducible apply State.canDecodeErrors_keeps | with_reducible apply State.setCanc_keeps | with_reducible apply State.setBit_keeps | with_reducible apply State.wakeUp_keeps | with_reducible apply State.ev_keeps | with_reducible apply State.canShow_keeps | with_reducible apply State.canStart_keeps

/-! ## Field -/

theorem State.evSupply_keeps {b : State} {s : State} (code : _) (mv10 : _) (h_s : Keeps b s) :
    Keeps b (State.evSupply s code mv10) := by
  unfold State.evSupply
  try dsimp only
  repeat' first | with_reducible assumption | with_reducible apply State.ev_keeps | with_reducible apply State.freeW_keeps | refine State.freeW_of ?_ (by assumption) | split

theorem State.outOff_keeps {b : State} {s : State} (c : _) (lasting : _) (h_s : Keeps b s) :
    Keeps b (State.outOff s c lasting) := by
  unfold State.outOff
  try dsimp only
  repeat' first | with_reducible assumption | with_reducible apply Keeps.ite | with_reducible apply State.setBit_keeps | simp only [↓Keeps.mk_eq, ↓Keeps.at_eq]

theorem State.outCheck_keeps {b : State} {s : State} (c : _) (code : _) (h_s : Keeps b s) :
    Keeps b (State.outCheck s c code) := by
  unfold State.outCheck
  try dsimp only
  repeat' first | with_reducible assumption | simp only [↓Keeps.mk_eq, ↓Keeps.at_eq]

theorem State.outOn_keeps {b : State} {s : State} (c : _) (h_s : Keeps b s) :
    Keeps b (State.outOn s c) := by
  unfold State.outOn
  try dsimp only
  repeat' first | with_reducible assumption | with_reducible apply Keeps.ite | with_reducible apply State.setBit_keeps | with_reducible apply State.outCheck_keeps | simp only [↓Keeps.mk_eq, ↓Keeps.at_eq]

theorem State.fogOutputs_keeps {b : State} {s : State} (h_s : Keeps b s) :
    Keeps b (State.fogOutputs s) := by
  unfold State.fogOutputs
  try dsimp only
  repeat' first | with_reducible assumption | with_reducible apply Keeps.ite | with_reducible apply Keeps.foldl | with_reducible apply State.outOff_keeps | simp only [↓Keeps.mk_eq, ↓Keeps.at_eq] | intro _ _ _ | intro _ _

theorem State.fogRelease_keeps {b : State} {s : State} (h_s : Keeps b s) :
    Keeps b (State.fogRelease s) := by
  unfold State.fogRelease
  try dsimp only
  repeat' first | with_reducible assumption | simp only [↓Keeps.mk_eq, ↓Keeps.at_eq]

theorem State.dropClaimed_keeps {b : State} {s : State} (h_s : Keeps b s) :
    Keeps b (State.dropClaimed s) := by
  unfold State.dropClaimed
  try dsimp only
  repeat' first | with_reducible assumption | with_reducible apply Keeps.ite | with_reducible apply Keeps.foldl | with_reducible apply State.outOff_keeps | intro _ _ _ | intro _ _

theorem State.fieldWrite_keeps {b : State} {s : State} (enables : _) (v : _) (h_s : Keeps b s) :
    Keeps b (State.fieldWrite s enables v) := by
  unfold State.fieldWrite
  try dsimp only
  repeat' first | with_reducible assumption | with_reducible apply Keeps.ite | with_reducible apply Keeps.foldl | with_reducible apply State.outOn_keeps | with_reducible apply State.setBit_keeps | with_reducible apply State.outOff_keeps | intro _ _ _ | intro _ _

theorem fieldOutputWriteCmd_keeps {b : State} (enables : _) (v : _) {s : State} (h_s : Keeps b s) :
    Keeps b (fieldOutputWriteCmd enables v s) := by
  unfold fieldOutputWriteCmd
  try dsimp only
  repeat' first | with_reducible assumption | with_reducible apply Keeps.ite | with_reducible apply State.fieldWrite_keeps | with_reducible apply State.wake_keeps | simp only [↓Keeps.mk_eq, ↓Keeps.at_eq]

theorem State.fieldDeliver_keeps {b : State} {s : State} (h_s : Keeps b s) :
    Keeps b (State.fieldDeliver s) := by
  unfold State.fieldDeliver
  try dsimp only
  repeat' first | with_reducible assumption | with_reducible apply Keeps.ite | with_reducible apply State.fieldWrite_keeps | simp only [↓Keeps.mk_eq, ↓Keeps.at_eq] | split

theorem outputOverloadCmd_keeps {b : State} (ch : _) (overTemp : _) {s : State} (h_s : Keeps b s) :
    Keeps b (outputOverloadCmd ch overTemp s) := by
  unfold outputOverloadCmd
  try dsimp only
  repeat' first | with_reducible assumption | with_reducible apply Keeps.ite | with_reducible apply State.setBit_keeps | with_reducible apply State.outOff_keeps | with_reducible apply State.evC_keeps

theorem dioTestCmd_keeps {b : State} (mask : _) {s : State} (h_s : Keeps b s) :
    Keeps b (dioTestCmd mask s) := by
  unfold dioTestCmd
  try dsimp only
  repeat' first | with_reducible assumption | with_reducible apply Keeps.ite | with_reducible apply Keeps.foldl | with_reducible apply State.setBit_keeps | simp only [↓Keeps.mk_eq, ↓Keeps.at_eq] | intro _ _ _ | intro _ _

theorem State.checkDone_keeps {b : State} {s : State} (ch : _) (code : _) (good : _) (h_s : Keeps b s) :
    Keeps b (State.checkDone s ch code good) := by
  unfold State.checkDone
  try dsimp only
  repeat' first | with_reducible assumption | with_reducible apply Keeps.ite | with_reducible apply State.setBit_keeps | simp only [↓Keeps.mk_eq, ↓Keeps.at_eq]

theorem readbackCheckCmd_keeps {b : State} (ch : _) (rb : _) {s : State} (h_s : Keeps b s) :
    Keeps b (readbackCheckCmd ch rb s) := by
  unfold readbackCheckCmd
  try dsimp only
  repeat' first | with_reducible assumption | with_reducible apply Keeps.ite | with_reducible apply State.checkDone_keeps | with_reducible apply State.ev_keeps | with_reducible apply State.outOff_keeps | with_reducible apply State.setBit_keeps | simp only [↓Keeps.mk_eq, ↓Keeps.at_eq] | split

theorem State.fieldSignals_keeps {b : State} {s : State} (h_s : Keeps b s) :
    Keeps b (State.fieldSignals s) := by
  unfold State.fieldSignals
  try dsimp only
  repeat' first | with_reducible assumption | with_reducible apply Keeps.ite | with_reducible apply Keeps.foldl | with_reducible apply State.setBit_keeps | with_reducible apply State.fieldDeliver_keeps | with_reducible apply State.setBlockStat_keeps | with_reducible apply State.setSigWord_keeps | intro _ _ _ | intro _ _

theorem State.chatter_keeps {b : State} {s : State} (ch : _) (level : _) (h_s : Keeps b s) :
    Keeps b (State.chatter s ch level) := by
  unfold State.chatter
  try dsimp only
  repeat' first | with_reducible assumption | with_reducible apply Keeps.ite | with_reducible apply Keeps.foldl | with_reducible apply State.setAxis_keeps | intro _ _ _ | intro _ _

theorem State.stampLost_keeps {b : State} {s : State} (ch : _) (h_s : Keeps b s) :
    Keeps b (State.stampLost s ch) := by
  unfold State.stampLost
  try dsimp only
  repeat' first | with_reducible assumption | with_reducible apply Keeps.ite | with_reducible apply Keeps.foldl | with_reducible apply State.setBit_keeps | intro _ _ _ | intro _ _

theorem State.fieldLatches_keeps {b : State} {s : State} (ch : _) (level : _) (t : _) (h_s : Keeps b s) :
    Keeps b (State.fieldLatches s ch level t) := by
  unfold State.fieldLatches
  try dsimp only
  repeat' first | with_reducible assumption | with_reducible apply Keeps.ite | with_reducible apply State.latchesMeet_keeps

theorem State.showReadback_keeps {b : State} {s : State} (ch : _) (level : _) (h_s : Keeps b s) :
    Keeps b (State.showReadback s ch level) := by
  unfold State.showReadback
  try dsimp only
  repeat' first | with_reducible assumption | with_reducible apply Keeps.ite | with_reducible apply State.setBit_keeps | simp only [↓Keeps.mk_eq, ↓Keeps.at_eq]

theorem fieldInputChangeCmd_keeps {b : State} (ch : _) (level : _) (t : _) {s : State} (h_s : Keeps b s) :
    Keeps b (fieldInputChangeCmd ch level t s) := by
  unfold fieldInputChangeCmd
  try dsimp only
  repeat' first | with_reducible assumption | with_reducible apply Keeps.ite | with_reducible apply State.bumpFld_keeps | with_reducible apply State.chatter_keeps | with_reducible apply State.evFree_keeps | with_reducible apply State.fieldLatches_keeps | with_reducible apply State.setBit_keeps | with_reducible apply State.showReadback_keeps | with_reducible apply State.stampLost_keeps | with_reducible apply State.wakeUp_keeps | simp only [↓Keeps.mk_eq, ↓Keeps.at_eq]

theorem State.setVf_keeps {b : State} {s : State} (mv10 : _) (h_s : Keeps b s) :
    Keeps b (State.setVf s mv10) := by
  unfold State.setVf
  try dsimp only
  repeat' first | with_reducible assumption | with_reducible apply State.setFld_keeps

theorem State.allOutputsOff_keeps {b : State} {s : State} (lasting : _) (h_s : Keeps b s) :
    Keeps b (State.allOutputsOff s lasting) := by
  unfold State.allOutputsOff
  try dsimp only
  repeat' first | with_reducible assumption | with_reducible apply Keeps.ite | with_reducible apply Keeps.foldl | with_reducible apply State.outOff_keeps | intro _ _ _ | intro _ _

theorem State.autoRestore_keeps {b : State} {s : State} (h_s : Keeps b s) :
    Keeps b (State.autoRestore s) := by
  unfold State.autoRestore
  try dsimp only
  repeat' first | with_reducible assumption | with_reducible apply Keeps.ite | with_reducible apply Keeps.foldl | with_reducible apply State.outOn_keeps | simp only [↓Keeps.mk_eq, ↓Keeps.at_eq] | intro _ _ _ | intro _ _

theorem State.supplySeen_keeps {b : State} {s : State} (code : _) (mv10 : _) (h_s : Keeps b s) :
    Keeps b (State.supplySeen s code mv10) := by
  unfold State.supplySeen
  try dsimp only
  repeat' first | with_reducible assumption | with_reducible apply Keeps.ite | with_reducible apply State.autoRestore_keeps | with_reducible apply State.bumpFld_keeps | with_reducible apply State.evSupply_keeps | with_reducible apply State.setBit_keeps | with_reducible apply State.setVf_keeps

theorem State.supplyReport_keeps {b : State} {s : State} (code : _) (mv10 : _) (h_s : Keeps b s) :
    Keeps b (State.supplyReport s code mv10) := by
  unfold State.supplyReport
  try dsimp only
  repeat' first | with_reducible assumption | with_reducible apply Keeps.ite | with_reducible apply State.supplySeen_keeps | simp only [↓Keeps.mk_eq, ↓Keeps.at_eq]

theorem State.supplyLate_keeps {b : State} {s : State} (h_s : Keeps b s) :
    Keeps b (State.supplyLate s) := by
  unfold State.supplyLate
  try dsimp only
  repeat' first | with_reducible assumption | with_reducible apply Keeps.foldl | with_reducible apply State.supplySeen_keeps | simp only [↓Keeps.mk_eq, ↓Keeps.at_eq] | intro _ _ _ | intro _ _

theorem vfieldWarnCmd_keeps {b : State} (mv10 : _) {s : State} (h_s : Keeps b s) :
    Keeps b (vfieldWarnCmd mv10 s) := by
  unfold vfieldWarnCmd
  try dsimp only
  repeat' first | with_reducible assumption | with_reducible apply Keeps.ite | with_reducible apply State.supplyReport_keeps | simp only [↓Keeps.mk_eq, ↓Keeps.at_eq]

theorem vfieldWarnClearCmd_keeps {b : State} (mv10 : _) {s : State} (h_s : Keeps b s) :
    Keeps b (vfieldWarnClearCmd mv10 s) := by
  unfold vfieldWarnClearCmd
  try dsimp only
  repeat' first | with_reducible assumption | with_reducible apply Keeps.ite | with_reducible apply State.supplyReport_keeps | simp only [↓Keeps.mk_eq, ↓Keeps.at_eq]

theorem vfieldTripCmd_keeps {b : State} (mv10 : _) {s : State} (h_s : Keeps b s) :
    Keeps b (vfieldTripCmd mv10 s) := by
  unfold vfieldTripCmd
  try dsimp only
  repeat' first | with_reducible assumption | with_reducible apply Keeps.ite | with_reducible apply State.allOutputsOff_keeps | with_reducible apply State.supplyReport_keeps | simp only [↓Keeps.mk_eq, ↓Keeps.at_eq]

theorem vfieldOvervoltageCmd_keeps {b : State} (mv10 : _) {s : State} (h_s : Keeps b s) :
    Keeps b (vfieldOvervoltageCmd mv10 s) := by
  unfold vfieldOvervoltageCmd
  try dsimp only
  repeat' first | with_reducible assumption | with_reducible apply Keeps.ite | with_reducible apply State.supplyReport_keeps

theorem vfieldRecoverCmd_keeps {b : State} (mv10 : _) {s : State} (h_s : Keeps b s) :
    Keeps b (vfieldRecoverCmd mv10 s) := by
  unfold vfieldRecoverCmd
  try dsimp only
  repeat' first | with_reducible assumption | with_reducible apply Keeps.ite | with_reducible apply State.supplyReport_keeps | simp only [↓Keeps.mk_eq, ↓Keeps.at_eq]

theorem State.fieldFound_keeps {b : State} {s : State} (h_s : Keeps b s) :
    Keeps b (State.fieldFound s) := by
  unfold State.fieldFound
  try dsimp only
  repeat' first | with_reducible assumption | with_reducible apply State.setBit_keeps

theorem State.outputsLost_keeps {b : State} {s : State} (h_s : Keeps b s) :
    Keeps b (State.outputsLost s) := by
  unfold State.outputsLost
  try dsimp only
  repeat' first | with_reducible assumption | with_reducible apply State.allOutputsOff_keeps | simp only [↓Keeps.mk_eq, ↓Keeps.at_eq]

/-! ## SafetyOps -/

theorem State.latchGlobal_keeps {b : State} {s : State} (i : _) (h_s : Keeps b s) :
    Keeps b (State.latchGlobal s i) := by
  unfold State.latchGlobal
  try dsimp only
  repeat' first | with_reducible assumption | with_reducible apply Keeps.ite | with_reducible apply State.ev_keeps | simp only [↓Keeps.mk_eq, ↓Keeps.at_eq]

theorem State.globalSto_keeps {b : State} {s : State} (i : _) (h_s : Keeps b s) :
    Keeps b (State.globalSto s i) := by
  unfold State.globalSto
  try dsimp only
  repeat' first | with_reducible assumption | with_reducible apply State.stoAll_keeps | with_reducible apply State.latchGlobal_keeps

theorem State.demandTests_keeps {b : State} {s : State} (h_s : Keeps b s) :
    Keeps b (State.demandTests s) := by
  unfold State.demandTests
  try dsimp only
  repeat' first | with_reducible assumption | with_reducible apply Keeps.foldl | simp only [↓Keeps.mk_eq, ↓Keeps.at_eq] | intro _ _ _ | intro _ _ | split

theorem State.releaseChan_keeps {b : State} {s : State} (c : _) (sx : _) (r : _) (h_s : Keeps b s) :
    Keeps b (State.releaseChan s c sx r) := by
  unfold State.releaseChan
  try dsimp only
  repeat' first | with_reducible assumption | with_reducible apply Keeps.ite | with_reducible apply State.setChan_keeps

theorem State.releaseOne_keeps {b : State} {s : State} (sx : _) (r : _) (h_s : Keeps b s) :
    Keeps b (State.releaseOne s sx r) := by
  unfold State.releaseOne
  try dsimp only
  repeat' first | with_reducible assumption | with_reducible apply Keeps.ite | with_reducible apply State.unack_keeps | with_reducible apply State.ev_keeps | with_reducible apply State.releaseChan_keeps

theorem State.setPins_keeps {b : State} {s : State} (h_s : Keeps b s) :
    Keeps b (State.setPins s) := by
  unfold State.setPins
  try dsimp only
  repeat' first | with_reducible assumption | with_reducible apply State.setChan_keeps | simp only [↓Keeps.mk_eq, ↓Keeps.at_eq] | intro _ _ _ | intro _ _ | split

theorem State.tryRelease_keeps {b : State} {s : State} (h_s : Keeps b s) :
    Keeps b (State.tryRelease s) := by
  unfold State.tryRelease
  try dsimp only
  repeat' first | with_reducible assumption | with_reducible apply Keeps.ite | with_reducible apply Keeps.foldl | with_reducible apply State.setPins_keeps | with_reducible apply State.releaseOne_keeps | intro _ _ _ | intro _ _ | split

theorem State.nameAxes_keeps {b : State} {s : State} (h_s : Keeps b s) :
    Keeps b (State.nameAxes s) := by
  unfold State.nameAxes
  try dsimp only
  repeat' first | with_reducible assumption | with_reducible apply Keeps.ite | with_reducible apply State.setChan_keeps | split

theorem State.stoGone_keeps {b : State} {s : State} (was : _) (h_s : Keeps b s) :
    Keeps b (State.stoGone s was) := by
  unfold State.stoGone
  try dsimp only
  repeat' first | with_reducible assumption | with_reducible apply State.ev_keeps | with_reducible apply State.freeW_keeps | refine State.freeW_of ?_ (by assumption) | simp only [↓Keeps.mk_eq, ↓Keeps.at_eq] | split

theorem State.forceChanged_keeps {b : State} {before : State} {s : State} (h_s : Keeps b before) (h_s : Keeps b s) :
    Keeps b (State.forceChanged before s) := by
  unfold State.forceChanged
  try dsimp only
  repeat' first | with_reducible assumption | with_reducible apply Keeps.ite | with_reducible apply Keeps.foldl | with_reducible apply State.evC_keeps | with_reducible apply State.modAxis_keeps | with_reducible apply State.nameAxes_keeps | with_reducible apply State.stoAll_keeps | with_reducible apply State.stoGone_keeps | with_reducible apply State.tryRelease_keeps | simp only [↓Keeps.mk_eq, ↓Keeps.at_eq] | intro _ _ _ | intro _ _ | split

theorem State.startSs1_keeps {b : State} {s : State} (st : _) (c : _) (sx : _) (h_s : Keeps b s) :
    Keeps b (State.startSs1 s st c sx) := by
  unfold State.startSs1
  try dsimp only
  repeat' first | with_reducible assumption | with_reducible apply Keeps.ite | with_reducible apply State.torqueOff_keeps | with_reducible apply State.setChan_keeps | with_reducible apply State.ev_keeps | with_reducible apply State.setAxis_keeps | with_reducible apply State.beginQstop_keeps | with_reducible apply State.modAxis_keeps | split

theorem State.safReact_keeps {b : State} {s : State} (st : _) (c : _) (sx : _) (r : _) (h_s : Keeps b s) :
    Keeps b (State.safReact s st c sx r) := by
  unfold State.safReact
  try dsimp only
  repeat' first | with_reducible assumption | with_reducible apply Keeps.ite | with_reducible apply State.stoEnter_keeps | with_reducible apply State.startSs1_keeps

theorem State.violate_keeps {b : State} {s : State} (sx : _) (i : _) (h_s : Keeps b s) :
    Keeps b (State.violate s sx i) := by
  unfold State.violate
  try dsimp only
  repeat' first | with_reducible assumption | with_reducible apply Keeps.ite | with_reducible apply State.ev_keeps | with_reducible apply State.latchCause_keeps

/-! ## Commit -/

theorem State.commitItem_keeps {b : State} {s : State} (cams : _) (it : _) (h_s : Keeps b s) :
    Keeps b (State.commitItem s cams it) := by
  unfold State.commitItem
  try dsimp only
  repeat' first | with_reducible assumption | with_reducible apply Keeps.ite | with_reducible apply State.withItem_keeps | with_reducible apply State.modSettings_keeps | split

theorem State.streamEnds_keeps {b : State} {s : State} (a : _) (x : _) (h_s : Keeps b s) :
    Keeps b (State.streamEnds s a x) := by
  unfold State.streamEnds
  try dsimp only
  repeat' first | with_reducible assumption | with_reducible apply Keeps.ite | with_reducible apply State.request_keeps

theorem State.axesAfter_keeps {b : State} {s : State} {t : State} (rung : _) (h_s : Keeps b s) (h_t : Keeps b t) :
    Keeps b (State.axesAfter s t rung) := by
  unfold State.axesAfter
  try dsimp only
  repeat' first | with_reducible assumption | with_reducible apply Keeps.ite | with_reducible apply Keeps.foldl | with_reducible apply State.streamEnds_keeps | with_reducible apply State.setAxis_keeps | intro _ _ _ | intro _ _

theorem State.portsAfter_keeps {b : State} {s : State} {t : State} (c : _) (h_s : Keeps b s) (h_t : Keeps b t) :
    Keeps b (State.portsAfter s t c) := by
  unfold State.portsAfter
  try dsimp only
  repeat' first | with_reducible assumption | with_reducible apply Keeps.ite | with_reducible apply Keeps.foldl | with_reducible apply State.adcGainChange_keeps | with_reducible apply State.portStartAt_keeps | with_reducible apply State.sdmSettle_keeps | intro _ _ _ | intro _ _

theorem State.remotesAfter_keeps {b : State} {s : State} {t : State} (h_s : Keeps b s) (h_t : Keeps b t) :
    Keeps b (State.remotesAfter s t) := by
  unfold State.remotesAfter
  try dsimp only
  repeat' first | with_reducible assumption | with_reducible apply Keeps.ite | with_reducible apply Keeps.foldl | with_reducible apply State.setAxis_keeps | intro _ _ _ | intro _ _

theorem State.buoysAfter_keeps {b : State} {t : State} (h_s : Keeps b t) :
    Keeps b (State.buoysAfter t) := by
  unfold State.buoysAfter
  try dsimp only
  repeat' first | with_reducible assumption | with_reducible apply Keeps.ite | with_reducible apply Keeps.foldl | simp only [↓Keeps.mk_eq, ↓Keeps.at_eq] | intro _ _ _ | intro _ _

theorem State.lanesAfter_keeps {b : State} {t : State} (h_t : Keeps b t) :
    Keeps b (State.lanesAfter t) := by
  unfold State.lanesAfter
  try dsimp only
  repeat' first | with_reducible assumption | with_reducible apply Keeps.ite | with_reducible apply Keeps.foldl | with_reducible apply State.linkDown_keeps | intro _ _ _ | intro _ _

theorem State.admitNode_keeps {b : State} (c : _) {t : State} (it : _) (h_s : Keeps b t) :
    Keeps b (State.admitNode c t it) := by
  unfold State.admitNode
  try dsimp only
  repeat' first | with_reducible assumption | with_reducible apply Keeps.ite | with_reducible apply State.atPhi0_keeps | with_reducible apply State.ev_keeps | with_reducible apply State.markLost_keeps | with_reducible apply State.memberAgain_keeps | with_reducible apply State.raiseNodeLost_keeps | with_reducible apply State.setNoderec_keeps | simp only [↓Keeps.mk_eq, ↓Keeps.at_eq] | intro _ _ _ | intro _ _

theorem State.blocksAfter_keeps {b : State} {s : State} {t : State} (items : _) (h_s : Keeps b s) (h_t : Keeps b t) :
    Keeps b (State.blocksAfter s t items) := by
  unfold State.blocksAfter
  try dsimp only
  repeat' first | with_reducible assumption | with_reducible apply Keeps.ite | with_reducible apply Keeps.foldl | with_reducible apply State.setBlockStat_keeps | intro _ _ _ | intro _ _

theorem State.designBefore_keeps {b : State} {s : State} (items : _) (h_s : Keeps b s) :
    Keeps b (State.designBefore s items) := by
  unfold State.designBefore
  try dsimp only
  repeat' first | with_reducible assumption | with_reducible apply Keeps.ite | with_reducible apply Keeps.foldl | with_reducible apply State.modAxis_keeps | intro _ _ _ | intro _ _

theorem State.tracesAfter_keeps {b : State} {t : State} (items : _) (h_s : Keeps b t) :
    Keeps b (State.tracesAfter t items) := by
  unfold State.tracesAfter
  try dsimp only
  repeat' first | with_reducible assumption | with_reducible apply Keeps.ite | with_reducible apply Keeps.foldl | with_reducible apply State.modAxis_keeps | intro _ _ _ | intro _ _

theorem State.lanesGen_keeps {b : State} {t : State} (k : _) (h_s : Keeps b t) :
    Keeps b (State.lanesGen t k) := by
  unfold State.lanesGen
  try dsimp only
  repeat' first | with_reducible assumption | with_reducible apply Keeps.ite | with_reducible apply Keeps.foldl | with_reducible apply State.setLane_keeps | simp only [↓Keeps.mk_eq, ↓Keeps.at_eq] | intro _ _ _ | intro _ _

theorem State.numberConductors_keeps {b : State} {t : State} (h_s : Keeps b t) :
    Keeps b (State.numberConductors t) := by
  unfold State.numberConductors
  try dsimp only
  repeat' first | with_reducible assumption | with_reducible apply Keeps.ite | with_reducible apply Keeps.foldl | with_reducible apply State.setNoderec_keeps | simp only [↓Keeps.mk_eq, ↓Keeps.at_eq] | intro _ _ _ | intro _ _ | split

theorem State.applyCommit_keeps {b : State} {s : State} (k : _) (c : _) (h_s : Keeps b s) :
    Keeps b (State.applyCommit s k c) := by
  unfold State.applyCommit
  try dsimp only
  repeat' first | with_reducible assumption | with_reducible apply Keeps.ite | with_reducible apply Keeps.foldl | with_reducible apply State.admitNode_keeps | with_reducible apply State.axesAfter_keeps | with_reducible apply State.blocksAfter_keeps | with_reducible apply State.buoysAfter_keeps | with_reducible apply State.choppersAfter_keeps | with_reducible apply State.commitItem_keeps | with_reducible apply State.designBefore_keeps | with_reducible apply State.dropClaimed_keeps | with_reducible apply State.forceChanged_keeps | with_reducible apply State.judgeCmps_keeps | with_reducible apply State.lanesAfter_keeps | with_reducible apply State.lanesGen_keeps | with_reducible apply State.numberConductors_keeps | with_reducible apply State.pinsAfter_keeps | with_reducible apply State.podsNewRung_keeps | with_reducible apply State.portsAfter_keeps | with_reducible apply State.remotesAfter_keeps | with_reducible apply State.tracesAfter_keeps | simp only [↓Keeps.mk_eq, ↓Keeps.at_eq] | intro _ _ _ | intro _ _

theorem commitApplyCmd_keeps {b : State} {s : State} (h_s : Keeps b s) :
    Keeps b (commitApplyCmd s) := by
  unfold commitApplyCmd
  try dsimp only
  repeat' first | with_reducible assumption | with_reducible apply Keeps.ite | with_reducible apply State.applyCommit_keeps | with_reducible apply State.commitNoAck_keeps | split

theorem paramStoreWriteDoneCmd_keeps {b : State} {s : State} (h_s : Keeps b s) :
    Keeps b (paramStoreWriteDoneCmd s) := by
  unfold paramStoreWriteDoneCmd
  try dsimp only
  repeat' first | with_reducible assumption | with_reducible apply Keeps.ite | with_reducible apply State.final_keeps | with_reducible apply State.nextCommit_keeps | with_reducible apply State.setStage_keeps | simp only [↓Keeps.mk_eq, ↓Keeps.at_eq] | split

/-! ## Frames -/

theorem State.eachCopy_keeps {b : State} {s : State} (n : _) (f : _) (h_s : Keeps b s) :
    Keeps b (State.eachCopy s n f) := by
  unfold State.eachCopy
  try dsimp only
  repeat' first | with_reducible assumption | with_reducible apply Keeps.ite | with_reducible apply Keeps.foldl | with_reducible apply State.setLane_keeps | intro _ _ _ | intro _ _

theorem gatherDepartureCmd_keeps {b : State} (n : _) (tx : _) {s : State} (h_s : Keeps b s) :
    Keeps b (gatherDepartureCmd n tx s) := by
  unfold gatherDepartureCmd
  try dsimp only
  repeat' first | with_reducible assumption | with_reducible apply Keeps.ite | with_reducible apply State.eachCopy_keeps | simp only [↓Keeps.mk_eq, ↓Keeps.at_eq] | intro _ _ _ | intro _ _

theorem flashRelayCmd_keeps {b : State} (n : _) (residence : _) {s : State} (h_s : Keeps b s) :
    Keeps b (flashRelayCmd n residence s) := by
  unfold flashRelayCmd
  try dsimp only
  repeat' first | with_reducible assumption | with_reducible apply Keeps.ite | with_reducible apply State.eachCopy_keeps | simp only [↓Keeps.mk_eq, ↓Keeps.at_eq] | intro _ _ _ | intro _ _

theorem scatterDepartureCmd_keeps {b : State} (n : _) {s : State} (h_s : Keeps b s) :
    Keeps b (scatterDepartureCmd n s) := by
  unfold scatterDepartureCmd
  try dsimp only
  repeat' first | with_reducible assumption | with_reducible apply Keeps.ite | with_reducible apply State.eachCopy_keeps | with_reducible apply State.setLane_keeps | simp only [↓Keeps.mk_eq, ↓Keeps.at_eq] | intro _ _ _ | intro _ _

theorem State.takeEntry_keeps {b : State} {s : State} (present : _) (good : _) (e : _) (h_s : Keeps b s) :
    Keeps b (State.takeEntry s present good e) := by
  unfold State.takeEntry
  try dsimp only
  repeat' first | with_reducible assumption | with_reducible apply Keeps.ite | with_reducible apply State.modAxis_keeps | split

theorem State.judgeNode_keeps {b : State} {s : State} (good : _) (m : _) (h_s : Keeps b s) :
    Keeps b (State.judgeNode s good m) := by
  unfold State.judgeNode
  try dsimp only
  repeat' first | with_reducible assumption | with_reducible apply Keeps.ite | with_reducible apply State.setNoderec_keeps | simp only [↓Keeps.mk_eq, ↓Keeps.at_eq] | intro _ _ _ | intro _ _ | split

theorem State.storeBlock_keeps {b : State} {s : State} (b_ : _) (kind : _) (bseq : _) (payload : _) (h_s : Keeps b s) :
    Keeps b (State.storeBlock s b_ kind bseq payload) := by
  unfold State.storeBlock
  try dsimp only
  repeat' first | with_reducible assumption | with_reducible apply Keeps.foldl | with_reducible apply State.setBlockStat_keeps | with_reducible apply State.setSigWord_keeps | intro _ _ _ | intro _ _

theorem State.takeBlock_keeps {b : State} {s : State} (found : _) (e : _) (h_s : Keeps b s) :
    Keeps b (State.takeBlock s found e) := by
  unfold State.takeBlock
  try dsimp only
  repeat' first | with_reducible assumption | with_reducible apply Keeps.ite | with_reducible apply State.setBlockStat_keeps | with_reducible apply State.storeBlock_keeps | simp only [↓Keeps.mk_eq, ↓Keeps.at_eq] | split

theorem State.takeTurns_keeps {b : State} {s : State} (n : _) (good : _) (h_s : Keeps b s) :
    Keeps b (State.takeTurns s n good) := by
  unfold State.takeTurns
  try dsimp only
  repeat' first | with_reducible assumption | with_reducible apply Keeps.ite | with_reducible apply Keeps.foldl | with_reducible apply State.setFld_keeps | with_reducible apply State.openRing_keeps | intro _ _ _ | intro _ _ | split

theorem State.noticeRepair_keeps {b : State} {s : State} (n : _) (h_s : Keeps b s) :
    Keeps b (State.noticeRepair s n) := by
  unfold State.noticeRepair
  try dsimp only
  repeat' first | with_reducible assumption | with_reducible apply Keeps.ite | with_reducible apply State.freeW_keeps | refine State.freeW_of ?_ (by assumption) | with_reducible apply State.nameClosing_keeps | simp only [↓Keeps.mk_eq, ↓Keeps.at_eq] | split

theorem State.handConts_keeps {b : State} {s : State} (cs : _) (h_s : Keeps b s) :
    Keeps b (State.handConts s cs) := by
  unfold State.handConts
  try dsimp only
  repeat' first | with_reducible assumption | with_reducible apply Keeps.ite | with_reducible apply Keeps.foldl | with_reducible apply State.setChan_keeps | simp only [↓Keeps.mk_eq, ↓Keeps.at_eq] | intro _ _ _ | intro _ _

theorem gatherFrameReturnCmd_keeps {b : State} (n : _) (copies : _) {s : State} (h_s : Keeps b s) :
    Keeps b (gatherFrameReturnCmd n copies s) := by
  unfold gatherFrameReturnCmd
  try dsimp only
  repeat' first | with_reducible assumption | with_reducible apply Keeps.ite | with_reducible apply Keeps.foldl | with_reducible apply State.countBad_keeps | with_reducible apply State.evC_keeps | with_reducible apply State.handConts_keeps | with_reducible apply State.judgeNode_keeps | with_reducible apply State.noticeRepair_keeps | with_reducible apply State.takeBlock_keeps | with_reducible apply State.takeEntry_keeps | with_reducible apply State.takeTurns_keeps | intro _ _ _ | intro _ _

theorem slowFrameDepartureCmd_keeps {b : State} (n : _) {s : State} (h_s : Keeps b s) :
    Keeps b (slowFrameDepartureCmd n s) := by
  unfold slowFrameDepartureCmd
  try dsimp only
  repeat' first | with_reducible assumption | with_reducible apply Keeps.ite | with_reducible apply State.eachCopy_keeps | simp only [↓Keeps.mk_eq, ↓Keeps.at_eq] | intro _ _ _ | intro _ _

theorem State.takeAck_keeps {b : State} {s : State} (r : _) (h_s : Keeps b s) :
    Keeps b (State.takeAck s r) := by
  unfold State.takeAck
  try dsimp only
  repeat' first | with_reducible assumption | with_reducible apply Keeps.ite | with_reducible apply State.nameCommit_keeps | simp only [↓Keeps.mk_eq, ↓Keeps.at_eq] | intro _ _ _ | intro _ _ | split

theorem slowFrameReturnCmd_keeps {b : State} (n : _) (copies : _) {s : State} (h_s : Keeps b s) :
    Keeps b (slowFrameReturnCmd n copies s) := by
  unfold slowFrameReturnCmd
  try dsimp only
  repeat' first | with_reducible assumption | with_reducible apply Keeps.ite | with_reducible apply Keeps.foldl | with_reducible apply State.countBad_keeps | with_reducible apply State.takeAck_keeps | with_reducible apply State.takeBlock_keeps | simp only [↓Keeps.mk_eq, ↓Keeps.at_eq] | intro _ _ _ | intro _ _ | split

theorem State.takeFoghorn_keeps {b : State} {s : State} (from_ : _) (origin : _) (seq : _) (reason : _) (cause : _) (cycle : _) (h_s : Keeps b s) :
    Keeps b (State.takeFoghorn s from_ origin seq reason cause cycle) := by
  unfold State.takeFoghorn
  try dsimp only
  repeat' first | with_reducible assumption | with_reducible apply Keeps.ite | with_reducible apply Keeps.foldl | with_reducible apply State.fogOutputs_keeps | with_reducible apply State.setLane_keeps | simp only [↓Keeps.mk_eq, ↓Keeps.at_eq] | intro _ _ _ | intro _ _

theorem State.raiseFoghorn_keeps {b : State} {s : State} (reason : _) (cause : _) (h_s : Keeps b s) :
    Keeps b (State.raiseFoghorn s reason cause) := by
  unfold State.raiseFoghorn
  try dsimp only
  repeat' first | with_reducible assumption | with_reducible apply Keeps.ite | with_reducible apply State.takeFoghorn_keeps | simp only [↓Keeps.mk_eq, ↓Keeps.at_eq]

theorem bbFoghornCmd_keeps {b : State} (h0 : _) (reason : _) {s : State} (h_s : Keeps b s) :
    Keeps b (bbFoghornCmd h0 reason s) := by
  unfold bbFoghornCmd
  try dsimp only
  repeat' first | with_reducible assumption | with_reducible apply State.raiseFoghorn_keeps | with_reducible apply State.hostCmd_keeps | with_reducible apply State.acceptImm_keeps | intro _ _ _ | intro _ _

theorem bbFogClearCmd_keeps {b : State} (h0 : _) {s : State} (h_s : Keeps b s) :
    Keeps b (bbFogClearCmd h0 s) := by
  unfold bbFogClearCmd
  try dsimp only
  repeat' first | with_reducible assumption | with_reducible apply State.fogRelease_keeps | with_reducible apply State.hostCmd_keeps | with_reducible apply State.acceptImm_keeps | simp only [↓Keeps.mk_eq, ↓Keeps.at_eq] | intro _ _ _ | intro _ _

theorem fogNodeRequestCmd_keeps {b : State} (m : _) {s : State} (h_s : Keeps b s) :
    Keeps b (fogNodeRequestCmd m s) := by
  unfold fogNodeRequestCmd
  try dsimp only
  repeat' first | with_reducible assumption | with_reducible apply Keeps.ite | with_reducible apply State.raiseFoghorn_keeps

theorem State.latchFog_keeps {b : State} {s : State} (seq : _) (h_s : Keeps b s) :
    Keeps b (State.latchFog s seq) := by
  unfold State.latchFog
  try dsimp only
  repeat' first | with_reducible assumption | with_reducible apply Keeps.ite | simp only [↓Keeps.mk_eq, ↓Keeps.at_eq]

theorem foghornFrameCmd_keeps {b : State} (n : _) (origin : _) (seq : _) (cause : _) (reason : _) (cycle : _) {s0 : State} (h_s : Keeps b s0) :
    Keeps b (foghornFrameCmd n origin seq cause reason cycle s0) := by
  unfold foghornFrameCmd
  try dsimp only
  repeat' first | with_reducible assumption | with_reducible apply Keeps.ite | with_reducible apply State.countBad_keeps | with_reducible apply State.latchFog_keeps | with_reducible apply State.takeFoghorn_keeps

theorem foghornSendCmd_keeps {b : State} (n : _) {s : State} (h_s : Keeps b s) :
    Keeps b (foghornSendCmd n s) := by
  unfold foghornSendCmd
  try dsimp only
  repeat' first | with_reducible assumption | with_reducible apply Keeps.ite | with_reducible apply State.setLane_keeps | simp only [↓Keeps.mk_eq, ↓Keeps.at_eq] | split

/-! ## NodeRole -/

theorem State.takeGen_keeps {b : State} {s : State} (gen : _) (h_s : Keeps b s) :
    Keeps b (State.takeGen s gen) := by
  unfold State.takeGen
  try dsimp only
  repeat' first | with_reducible assumption | with_reducible apply Keeps.ite | simp only [↓Keeps.mk_eq, ↓Keeps.at_eq] | split

theorem State.takeScatterBlock_keeps {b : State} {s : State} (b_ : _) (h_s : Keeps b s) :
    Keeps b (State.takeScatterBlock s b_) := by
  unfold State.takeScatterBlock
  try dsimp only
  repeat' first | with_reducible assumption | with_reducible apply Keeps.ite | with_reducible apply State.setBlockStat_keeps | with_reducible apply State.storeBlock_keeps

theorem State.takeSlowBlocks_keeps {b : State} {s : State} (f : _) (h_s : Keeps b s) :
    Keeps b (State.takeSlowBlocks s f) := by
  unfold State.takeSlowBlocks
  try dsimp only
  repeat' first | with_reducible assumption | with_reducible apply Keeps.ite | with_reducible apply Keeps.foldl | with_reducible apply State.takeScatterBlock_keeps | simp only [↓Keeps.mk_eq, ↓Keeps.at_eq] | intro _ _ _ | intro _ _ | split

theorem nodeFrameForwardCmd_keeps {b : State} (port : _) (f : _) (residence : _) {s : State} (h_s : Keeps b s) :
    Keeps b (nodeFrameForwardCmd port f residence s) := by
  unfold nodeFrameForwardCmd
  try dsimp only
  repeat' first | with_reducible assumption | with_reducible apply Keeps.ite | with_reducible apply State.countBad_keeps | with_reducible apply State.takeGen_keeps | with_reducible apply State.takeSlowBlocks_keeps | simp only [↓Keeps.mk_eq, ↓Keeps.at_eq] | split

theorem State.takeControl_keeps {b : State} {s : State} (c : _) (h_s : Keeps b s) :
    Keeps b (State.takeControl s c) := by
  unfold State.takeControl
  try dsimp only
  repeat' first | with_reducible assumption | with_reducible apply Keeps.ite | simp only [↓Keeps.mk_eq, ↓Keeps.at_eq]

theorem State.takeFog_keeps {b : State} {s : State} (fog : _) (clr : _) (h_s : Keeps b s) :
    Keeps b (State.takeFog s fog clr) := by
  unfold State.takeFog
  try dsimp only
  repeat' first | with_reducible assumption | with_reducible apply Keeps.ite | with_reducible apply State.fogRelease_keeps | with_reducible apply State.latchFog_keeps | simp only [↓Keeps.mk_eq, ↓Keeps.at_eq]

theorem State.setNodeAxis_keeps {b : State} {s : State} (i : _) (x : _) (h_s : Keeps b s) :
    Keeps b (State.setNodeAxis s i x) := by
  unfold State.setNodeAxis
  try dsimp only
  repeat' first | with_reducible assumption | simp only [↓Keeps.mk_eq, ↓Keeps.at_eq]

theorem State.nodeLeaveHalt_keeps {b : State} {s : State} (i : _) (h_s : Keeps b s) :
    Keeps b (State.nodeLeaveHalt s i) := by
  unfold State.nodeLeaveHalt
  try dsimp only
  repeat' first | with_reducible assumption | with_reducible apply Keeps.ite | with_reducible apply State.setBit_keeps | with_reducible apply State.setPwmp_keeps

theorem State.nodeEnable_keeps {b : State} {s : State} (i : _) (h_s : Keeps b s) :
    Keeps b (State.nodeEnable s i) := by
  unfold State.nodeEnable
  try dsimp only
  repeat' first | with_reducible assumption | with_reducible apply State.modAxis_keeps | with_reducible apply State.nodeLeaveHalt_keeps | with_reducible apply State.setPwmp_keeps | simp only [↓Keeps.mk_eq, ↓Keeps.at_eq] | intro _ _ _ | intro _ _

theorem State.takeScatterEntry_keeps {b : State} {s : State} (late : _) (e : _) (h_s : Keeps b s) :
    Keeps b (State.takeScatterEntry s late e) := by
  unfold State.takeScatterEntry
  try dsimp only
  repeat' first | with_reducible assumption | with_reducible apply Keeps.ite | with_reducible apply State.axisTriple_keeps | with_reducible apply State.highsOff_keeps | with_reducible apply State.nodeEnable_keeps | with_reducible apply State.setNodeAxis_keeps | intro _ _ _ | intro _ _

theorem nodeScatterReceivedCmd_keeps {b : State} (port : _) (f : _) (late : _) {s : State} (h_s : Keeps b s) :
    Keeps b (nodeScatterReceivedCmd port f late s) := by
  unfold nodeScatterReceivedCmd
  try dsimp only
  repeat' first | with_reducible assumption | with_reducible apply Keeps.ite | with_reducible apply Keeps.foldl | with_reducible apply State.handConts_keeps | with_reducible apply State.takeControl_keeps | with_reducible apply State.takeFog_keeps | with_reducible apply State.takeGen_keeps | with_reducible apply State.takeScatterBlock_keeps | with_reducible apply State.takeScatterEntry_keeps | simp only [↓Keeps.mk_eq, ↓Keeps.at_eq] | intro _ _ _ | intro _ _ | split

theorem nodeScatterMissCmd_keeps {b : State} (i : _) {s : State} (h_s : Keeps b s) :
    Keeps b (nodeScatterMissCmd i s) := by
  unfold nodeScatterMissCmd
  try dsimp only
  repeat' first | with_reducible assumption | with_reducible apply Keeps.ite | with_reducible apply State.setNodeAxis_keeps | simp only [↓Keeps.mk_eq, ↓Keeps.at_eq]

theorem scheduleRecordCmd_keeps {b : State} (r : _) {s : State} (h_s : Keeps b s) :
    Keeps b (scheduleRecordCmd r s) := by
  unfold scheduleRecordCmd
  try dsimp only
  repeat' first | with_reducible assumption | with_reducible apply Keeps.ite | simp only [↓Keeps.mk_eq, ↓Keeps.at_eq] | split

theorem State.applyConfig_keeps {b : State} {s : State} (i : _) (h_s : Keeps b s) :
    Keeps b (State.applyConfig s i) := by
  unfold State.applyConfig
  try dsimp only
  repeat' first | with_reducible assumption | with_reducible apply State.modAxis_keeps | with_reducible apply State.setReg_keeps | simp only [↓Keeps.mk_eq, ↓Keeps.at_eq] | intro _ _ _ | intro _ _ | split

theorem configRecordCmd_keeps {b : State} (r : _) {s : State} (h_s : Keeps b s) :
    Keeps b (configRecordCmd r s) := by
  unfold configRecordCmd
  try dsimp only
  repeat' first | with_reducible assumption | with_reducible apply Keeps.ite | simp only [↓Keeps.mk_eq, ↓Keeps.at_eq] | split

theorem ackRecordCmd_keeps {b : State} (n : _) (r : _) {s : State} (h_s : Keeps b s) :
    Keeps b (ackRecordCmd n r s) := by
  unfold ackRecordCmd
  try dsimp only
  repeat' first | with_reducible assumption | with_reducible apply Keeps.ite | with_reducible apply State.takeAck_keeps | simp only [↓Keeps.mk_eq, ↓Keeps.at_eq]

theorem State.becomeMember_keeps {b : State} {s : State} (h_s : Keeps b s) :
    Keeps b (State.becomeMember s) := by
  unfold State.becomeMember
  try dsimp only
  repeat' first | with_reducible assumption | with_reducible apply Keeps.ite | with_reducible apply State.freeW_keeps | refine State.freeW_of ?_ (by assumption) | with_reducible apply State.setFld_keeps | simp only [↓Keeps.mk_eq, ↓Keeps.at_eq] | split

theorem State.traceAdopted_keeps {b : State} {s : State} {t : State} (h_s : Keeps b s) (h_t : Keeps b t) :
    Keeps b (State.traceAdopted s t) := by
  unfold State.traceAdopted
  try dsimp only
  repeat' first | with_reducible assumption | with_reducible apply Keeps.ite | with_reducible apply Keeps.foldl | with_reducible apply State.modAxis_keeps | intro _ _ _ | intro _ _

theorem State.adopt_keeps {b : State} {s : State} (g : _) (c : _) (h_s : Keeps b s) :
    Keeps b (State.adopt s g c) := by
  unfold State.adopt
  try dsimp only
  repeat' first | with_reducible assumption | with_reducible apply Keeps.ite | with_reducible apply Keeps.foldl | with_reducible apply State.applyConfig_keeps | with_reducible apply State.becomeMember_keeps | with_reducible apply State.portsAfter_keeps | with_reducible apply State.traceAdopted_keeps | simp only [↓Keeps.mk_eq, ↓Keeps.at_eq] | intro _ _ _ | intro _ _ | split

theorem generationAdoptCmd_keeps {b : State} {s : State} (h_s : Keeps b s) :
    Keeps b (generationAdoptCmd s) := by
  unfold generationAdoptCmd
  try dsimp only
  repeat' first | with_reducible assumption | with_reducible apply Keeps.ite | with_reducible apply State.adopt_keeps | split

/-! ## HostIf -/

theorem nopCmd_keeps {b : State} (h0 : _) {s : State} (h_s : Keeps b s) :
    Keeps b (nopCmd h0 s) := by
  unfold nopCmd
  try dsimp only
  repeat' first | with_reducible assumption | with_reducible apply State.hostCmd_keeps | with_reducible apply State.acceptImm_keeps | intro _ _ _ | intro _ _

theorem State.setFence_keeps {b : State} {s : State} (n : _) (f : _) (h_s : Keeps b s) :
    Keeps b (State.setFence s n f) := by
  unfold State.setFence
  try dsimp only
  repeat' first | with_reducible assumption | with_reducible apply State.setRing_keeps

theorem fenceCmd_keeps {b : State} (h0 : _) (mask : _) (mode : _) {s : State} (h_s : Keeps b s) :
    Keeps b (fenceCmd h0 mask mode s) := by
  unfold fenceCmd
  try dsimp only
  repeat' first | with_reducible assumption | with_reducible apply Keeps.ite | with_reducible apply State.setFence_keeps | with_reducible apply State.hostCmd_keeps | with_reducible apply State.acceptImm_keeps | intro _ _ _ | intro _ _

theorem State.queryFinal_keeps {b : State} {s : State} (h0 : _) (hd : _) (buf : _) (h_s : Keeps b s) :
    Keeps b (State.queryFinal s h0 hd buf) := by
  unfold State.queryFinal
  try dsimp only
  repeat' first | with_reducible assumption | with_reducible apply Keeps.ite | with_reducible apply State.answer_keeps | with_reducible apply State.memWr_keeps | with_reducible apply State.rebuildResult_keeps | split

theorem queryCmd_keeps {b : State} (h0 : _) (hd : _) (buf : _) {s : State} (h_s : Keeps b s) :
    Keeps b (queryCmd h0 hd buf s) := by
  unfold queryCmd
  try dsimp only
  repeat' first | with_reducible assumption | with_reducible apply Keeps.ite | with_reducible apply State.answer_keeps | with_reducible apply State.queryFinal_keeps | with_reducible apply State.hostCmd_keeps | intro _ _ _ | intro _ _

theorem hostHeartbeatLostCmd_keeps {b : State} {s : State} (h_s : Keeps b s) :
    Keeps b (hostHeartbeatLostCmd s) := by
  unfold hostHeartbeatLostCmd
  try dsimp only
  repeat' first | with_reducible assumption | with_reducible apply Keeps.ite | with_reducible apply State.raiseFoghorn_keeps | with_reducible apply State.evC_keeps | simp only [↓Keeps.mk_eq, ↓Keeps.at_eq]

theorem State.putEvent_keeps {b : State} {s : State} (e : _) (h_s : Keeps b s) :
    Keeps b (State.putEvent s e) := by
  unfold State.putEvent
  try dsimp only
  repeat' first | with_reducible assumption | with_reducible apply Keeps.ite | with_reducible apply State.memWr_keeps | simp only [↓Keeps.mk_eq, ↓Keeps.at_eq]

theorem State.drainEvents_keeps {b s : State} (l : List Event) (h : Keeps b s) : Keeps b (State.drainEvents s l) := by
  induction l generalizing s with
  | nil =>
    unfold State.drainEvents
    simp only [↓Keeps.mk_eq, ↓Keeps.at_eq]
    exact h
  | cons e l ih =>
    unfold State.drainEvents
    refine Keeps.ite (ih (State.putEvent_keeps _ h)) ?_
    simp only [↓Keeps.mk_eq, ↓Keeps.at_eq]
    exact h

theorem State.recordEvent_keeps {b : State} {s : State} (e : _) (h_s : Keeps b s) :
    Keeps b (State.recordEvent s e) := by
  unfold State.recordEvent
  try dsimp only
  repeat' first | with_reducible assumption | with_reducible apply Keeps.ite | with_reducible apply State.putEvent_keeps | with_reducible apply State.drainEvents_keeps | simp only [↓Keeps.mk_eq, ↓Keeps.at_eq]

theorem eventRecordWriteCmd_keeps {b : State} {s : State} (h_s : Keeps b s) :
    Keeps b (eventRecordWriteCmd s) := by
  unfold eventRecordWriteCmd
  try dsimp only
  repeat' first | with_reducible assumption | with_reducible apply Keeps.ite | with_reducible apply State.setBit_keeps | with_reducible apply State.recordEvent_keeps | with_reducible apply State.signalVec_keeps | simp only [↓Keeps.mk_eq, ↓Keeps.at_eq] | split

theorem snapshotWriteCmd_keeps {b : State} {s : State} (h_s : Keeps b s) :
    Keeps b (snapshotWriteCmd s) := by
  unfold snapshotWriteCmd
  try dsimp only
  repeat' first | with_reducible assumption | with_reducible apply Keeps.ite | with_reducible apply State.memWr_keeps | simp only [↓Keeps.mk_eq, ↓Keeps.at_eq]

theorem hifWakeCmd_keeps {b : State} (v : _) {s : State} (h_s : Keeps b s) :
    Keeps b (hifWakeCmd v s) := by
  unfold hifWakeCmd
  try dsimp only
  repeat' first | with_reducible assumption | with_reducible apply Keeps.ite | with_reducible apply State.wakeUp_keeps | simp only [↓Keeps.mk_eq, ↓Keeps.at_eq]

theorem State.gated_keeps {b : State} {s : State} (subj : _) (h_s : Keeps b s) :
    Keeps b (State.gated s subj) := by
  unfold State.gated
  try dsimp only
  repeat' first | with_reducible assumption | with_reducible apply State.evC_keeps

theorem State.journalSetup_keeps {b : State} {s : State} (n : _) (en : _) (h_s : Keeps b s) :
    Keeps b (State.journalSetup s n en) := by
  unfold State.journalSetup
  try dsimp only
  repeat' first | with_reducible assumption | with_reducible apply Keeps.ite | with_reducible apply State.flushSetups_keeps | simp only [↓Keeps.mk_eq, ↓Keeps.at_eq]

theorem State.writeCqCfg_keeps {b : State} {s : State} (n : _) (v : _) (h_s : Keeps b s) :
    Keeps b (State.writeCqCfg s n v) := by
  unfold State.writeCqCfg
  try dsimp only
  repeat' first | with_reducible assumption | with_reducible apply Keeps.ite | with_reducible apply State.gated_keeps | with_reducible apply State.journalSetup_keeps | with_reducible apply State.setBit_keeps | with_reducible apply State.setFence_keeps | with_reducible apply State.setFld_keeps | with_reducible apply State.setReg_keeps | with_reducible apply State.setRing_keeps | simp only [↓Keeps.mk_eq, ↓Keeps.at_eq]

theorem hifCqCfgWriteCmd_keeps {b : State} (n : _) (v : _) {s : State} (h_s : Keeps b s) :
    Keeps b (hifCqCfgWriteCmd n v s) := by
  unfold hifCqCfgWriteCmd
  try dsimp only
  repeat' first | with_reducible assumption | with_reducible apply Keeps.ite | with_reducible apply State.writeCqCfg_keeps

theorem State.flushRaised_keeps {b : State} {s : State} (h_s : Keeps b s) :
    Keeps b (State.flushRaised s) := by
  unfold State.flushRaised
  try dsimp only
  repeat' first | with_reducible assumption | with_reducible apply Keeps.foldl | with_reducible apply eventRecordWriteCmd_keeps | intro _ _ _ | intro _ _

theorem State.writeErCfg_keeps {b : State} {s : State} (v : _) (h_s : Keeps b s) :
    Keeps b (State.writeErCfg s v) := by
  unfold State.writeErCfg
  try dsimp only
  repeat' first | with_reducible assumption | with_reducible apply Keeps.ite | with_reducible apply State.flushRaised_keeps | with_reducible apply State.gated_keeps | with_reducible apply State.setReg_keeps | simp only [↓Keeps.mk_eq, ↓Keeps.at_eq]

theorem hifErCfgWriteCmd_keeps {b : State} (v : _) {s : State} (h_s : Keeps b s) :
    Keeps b (hifErCfgWriteCmd v s) := by
  unfold hifErCfgWriteCmd
  try dsimp only
  repeat' first | with_reducible assumption | with_reducible apply Keeps.ite | with_reducible apply State.writeErCfg_keeps

theorem State.writeSnapCfg_keeps {b : State} {s : State} (v : _) (h_s : Keeps b s) :
    Keeps b (State.writeSnapCfg s v) := by
  unfold State.writeSnapCfg
  try dsimp only
  repeat' first | with_reducible assumption | with_reducible apply Keeps.ite | with_reducible apply State.gated_keeps | with_reducible apply State.setReg_keeps | simp only [↓Keeps.mk_eq, ↓Keeps.at_eq]

theorem hifSnapCfgWriteCmd_keeps {b : State} (v : _) {s : State} (h_s : Keeps b s) :
    Keeps b (hifSnapCfgWriteCmd v s) := by
  unfold hifSnapCfgWriteCmd
  try dsimp only
  repeat' first | with_reducible assumption | with_reducible apply Keeps.ite | with_reducible apply State.writeSnapCfg_keeps

theorem perstNAssertCmd_keeps {b : State} {s : State} (h_s : Keeps b s) :
    Keeps b (perstNAssertCmd s) := by
  unfold perstNAssertCmd
  try dsimp only
  repeat' first | with_reducible assumption | simp only [↓Keeps.mk_eq, ↓Keeps.at_eq]

theorem perstNReleaseCmd_keeps {b : State} {s : State} (h_s : Keeps b s) :
    Keeps b (perstNReleaseCmd s) := by
  unfold perstNReleaseCmd
  try dsimp only
  repeat' first | with_reducible assumption | simp only [↓Keeps.mk_eq, ↓Keeps.at_eq]

/-! ## SafetyChan -/

theorem safLoadCmd_keeps {b : State} (h0 : _) (addr : _) (len : _) {s : State} (h_s : Keeps b s) :
    Keeps b (safLoadCmd h0 addr len s) := by
  unfold safLoadCmd
  try dsimp only
  repeat' first | with_reducible assumption | with_reducible apply Keeps.ite | with_reducible apply State.stoAll_keeps | with_reducible apply State.hostCmd_keeps | with_reducible apply State.forceChanged_keeps | with_reducible apply State.acceptLong_keeps | with_reducible apply State.nameAxes_keeps | simp only [↓Keeps.mk_eq, ↓Keeps.at_eq] | intro _ _ _ | intro _ _

theorem State.judgeSet_keeps {b : State} {s : State} (h_s : Keeps b s) :
    Keeps b (State.judgeSet s) := by
  unfold State.judgeSet
  try dsimp only
  repeat' first | with_reducible assumption | with_reducible apply Keeps.ite | with_reducible apply State.globalSto_keeps | split

theorem safetyImageWrittenCmd_keeps {b : State} {s : State} (h_s : Keeps b s) :
    Keeps b (safetyImageWrittenCmd s) := by
  unfold safetyImageWrittenCmd
  try dsimp only
  repeat' first | with_reducible assumption | with_reducible apply Keeps.ite | with_reducible apply State.final_keeps | with_reducible apply State.judgeSet_keeps | simp only [↓Keeps.mk_eq, ↓Keeps.at_eq] | split

theorem safConfirmCmd_keeps {b : State} (h : _) (check : _) {s : State} (h_s : Keeps b s) :
    Keeps b (safConfirmCmd h check s) := by
  unfold safConfirmCmd
  try dsimp only
  repeat' first | with_reducible assumption | with_reducible apply Keeps.ite | with_reducible apply State.acceptLong_keeps | with_reducible apply State.final_keeps | with_reducible apply State.forceChanged_keeps | with_reducible apply State.hostCmd_keeps | simp only [↓Keeps.mk_eq, ↓Keeps.at_eq] | intro _ _ _ | intro _ _ | split

theorem State.judgeLimited_keeps {b : State} {s : State} (c : _) (sx : _) (r : _) (h_s : Keeps b s) :
    Keeps b (State.judgeLimited s c sx r) := by
  unfold State.judgeLimited
  try dsimp only
  repeat' first | with_reducible assumption | with_reducible apply Keeps.ite | with_reducible apply State.setChan_keeps | with_reducible apply State.ev_keeps

theorem State.judgeOne_keeps {b : State} {s : State} (st : _) (c : _) (sx : _) (r : _) (bad : _) (i : _) (h_s : Keeps b s) :
    Keeps b (State.judgeOne s st c sx r bad i) := by
  unfold State.judgeOne
  try dsimp only
  repeat' first | with_reducible assumption | with_reducible apply Keeps.ite | with_reducible apply State.safReact_keeps | with_reducible apply State.violate_keeps

theorem State.judgeMotion_keeps {b : State} {s : State} (st : _) (c : _) (sx : _) (r : _) (h_s : Keeps b s) :
    Keeps b (State.judgeMotion s st c sx r) := by
  unfold State.judgeMotion
  try dsimp only
  repeat' first | with_reducible assumption | with_reducible apply Keeps.ite | with_reducible apply State.setChan_keeps | with_reducible apply State.judgeOne_keeps

theorem State.judgeSs1_keeps {b : State} {s : State} (st : _) (c : _) (sx : _) (r : _) (h_s : Keeps b s) :
    Keeps b (State.judgeSs1 s st c sx r) := by
  unfold State.judgeSs1
  try dsimp only
  repeat' first | with_reducible assumption | with_reducible apply Keeps.ite | with_reducible apply State.setChan_keeps | with_reducible apply State.stoEnter_keeps | with_reducible apply State.violate_keeps

theorem State.disc_keeps {b : State} {s : State} (st : _) (c : _) (sx : _) (h_s : Keeps b s) :
    Keeps b (State.disc s st c sx) := by
  unfold State.disc
  try dsimp only
  repeat' first | with_reducible assumption | with_reducible apply State.stoEnter_keeps | with_reducible apply State.violate_keeps

theorem State.moveA_keeps {b : State} {s : State} (st : _) (sx : _) (r : _) (h_s : Keeps b s) :
    Keeps b (State.moveA s st sx r) := by
  unfold State.moveA
  try dsimp only
  repeat' first | with_reducible assumption | with_reducible apply State.setChan_keeps | with_reducible apply State.disc_keeps | split

theorem State.moveB_keeps {b : State} {s : State} (st : _) (sx : _) (r : _) (counts : _) (bad : _) (h_s : Keeps b s) :
    Keeps b (State.moveB s st sx r counts bad) := by
  unfold State.moveB
  try dsimp only
  repeat' first | with_reducible assumption | with_reducible apply Keeps.ite | with_reducible apply State.setChan_keeps | with_reducible apply State.disc_keeps

theorem State.judgeAxis_keeps {b : State} {s : State} (st : _) (c : _) (counts : _) (bad : _) (e : _) (h_s : Keeps b s) :
    Keeps b (State.judgeAxis s st c counts bad e) := by
  unfold State.judgeAxis
  try dsimp only
  repeat' first | with_reducible assumption | with_reducible apply Keeps.ite | with_reducible apply State.moveA_keeps | with_reducible apply State.judgeSs1_keeps | with_reducible apply State.judgeLimited_keeps | with_reducible apply State.judgeMotion_keeps | with_reducible apply State.moveB_keeps | split

theorem State.clearPairs_keeps {b : State} {s : State} (h_s : Keeps b s) :
    Keeps b (State.clearPairs s) := by
  unfold State.clearPairs
  try dsimp only
  repeat' first | with_reducible assumption | with_reducible apply Keeps.ite | with_reducible apply Keeps.foldl | simp only [↓Keeps.mk_eq, ↓Keeps.at_eq] | intro _ _ _ | intro _ _ | split

theorem State.sendCrossTalk_keeps {b : State} {s : State} (c : _) (h_s : Keeps b s) :
    Keeps b (State.sendCrossTalk s c) := by
  unfold State.sendCrossTalk
  try dsimp only
  repeat' first | with_reducible assumption | with_reducible apply State.setChan_keeps | simp only [↓Keeps.mk_eq, ↓Keeps.at_eq]

theorem State.safetyCycle_keeps {b : State} {s : State} (c : _) (counts : _) (bad : _) (h_s : Keeps b s) :
    Keeps b (State.safetyCycle s c counts bad) := by
  unfold State.safetyCycle
  try dsimp only
  repeat' first | with_reducible assumption | with_reducible apply Keeps.ite | with_reducible apply Keeps.foldl | with_reducible apply State.clearPairs_keeps | with_reducible apply State.judgeAxis_keeps | with_reducible apply State.stoAll_keeps | with_reducible apply State.tryRelease_keeps | simp only [↓Keeps.mk_eq, ↓Keeps.at_eq] | intro _ _ _ | intro _ _ | split

theorem safetyEvaluationCmd_keeps {b : State} (c : _) (counts : _) (bad : _) {s : State} (h_s : Keeps b s) :
    Keeps b (safetyEvaluationCmd c counts bad s) := by
  unfold safetyEvaluationCmd
  try dsimp only
  repeat' first | with_reducible assumption | with_reducible apply Keeps.ite | with_reducible apply State.safetyCycle_keeps | with_reducible apply State.sendCrossTalk_keeps

theorem ss1EndCmd_keeps {b : State} (sx : _) {s : State} (h_s : Keeps b s) :
    Keeps b (ss1EndCmd sx s) := by
  unfold ss1EndCmd
  try dsimp only
  repeat' first | with_reducible assumption | with_reducible apply Keeps.ite | with_reducible apply State.setPins_keeps | with_reducible apply State.stoEnter_keeps | split

theorem State.xtalkMiss_keeps {b : State} {s : State} (c : _) (h_s : Keeps b s) :
    Keeps b (State.xtalkMiss s c) := by
  unfold State.xtalkMiss
  try dsimp only
  repeat' first | with_reducible assumption | with_reducible apply Keeps.ite | with_reducible apply State.globalSto_keeps | with_reducible apply State.setChan_keeps | with_reducible apply State.bumpFld_keeps

theorem State.xtFollow_keeps {b : State} {s : State} (st : _) (c : _) (m : _) (sx : _) (h_s : Keeps b s) :
    Keeps b (State.xtFollow s st c m sx) := by
  unfold State.xtFollow
  try dsimp only
  repeat' first | with_reducible assumption | with_reducible apply Keeps.ite | with_reducible apply State.stoEnter_keeps | with_reducible apply State.startSs1_keeps

theorem State.xtPosition_keeps {b : State} {s : State} (st : _) (c : _) (m : _) (e : _) (h_s : Keeps b s) :
    Keeps b (State.xtPosition s st c m e) := by
  unfold State.xtPosition
  try dsimp only
  repeat' first | with_reducible assumption | with_reducible apply Keeps.ite | with_reducible apply State.setChan_keeps | with_reducible apply State.disc_keeps

theorem State.xtCompare_keeps {b : State} {s : State} (c : _) (m : _) (h_s : Keeps b s) :
    Keeps b (State.xtCompare s c m) := by
  unfold State.xtCompare
  try dsimp only
  repeat' first | with_reducible assumption | with_reducible apply Keeps.ite | with_reducible apply Keeps.foldl | with_reducible apply State.globalSto_keeps | with_reducible apply State.setChan_keeps | with_reducible apply State.xtFollow_keeps | with_reducible apply State.xtPosition_keeps | simp only [↓Keeps.mk_eq, ↓Keeps.at_eq] | intro _ _ _ | intro _ _ | split

theorem crossTalkMessageCmd_keeps {b : State} (c : _) (m : _) {s : State} (h_s : Keeps b s) :
    Keeps b (crossTalkMessageCmd c m s) := by
  unfold crossTalkMessageCmd
  try dsimp only
  repeat' first | with_reducible assumption | with_reducible apply Keeps.ite | with_reducible apply State.xtCompare_keeps | with_reducible apply State.setChan_keeps | with_reducible apply State.xtalkMiss_keeps

theorem xtalkFaultCmd_keeps {b : State} {s : State} (h_s : Keeps b s) :
    Keeps b (xtalkFaultCmd s) := by
  unfold xtalkFaultCmd
  try dsimp only
  repeat' first | with_reducible assumption | with_reducible apply Keeps.ite | with_reducible apply State.globalSto_keeps | with_reducible apply State.setChan_keeps

theorem stoReadbackFaultCmd_keeps {b : State} (c : _) {s : State} (h_s : Keeps b s) :
    Keeps b (stoReadbackFaultCmd c s) := by
  unfold stoReadbackFaultCmd
  try dsimp only
  repeat' first | with_reducible assumption | with_reducible apply Keeps.ite | with_reducible apply State.globalSto_keeps | split

theorem switchReadCmd_keeps {b : State} (a : _) (b_ : _) (atStart : _) {s : State} (h_s : Keeps b s) :
    Keeps b (switchReadCmd a b_ atStart s) := by
  unfold switchReadCmd
  try dsimp only
  repeat' first | with_reducible assumption | with_reducible apply Keeps.ite | with_reducible apply State.demandTests_keeps | with_reducible apply State.globalSto_keeps | with_reducible apply State.judgeSet_keeps | with_reducible apply State.setChan_keeps | with_reducible apply State.forceChanged_keeps | with_reducible apply State.nameAxes_keeps

theorem State.guardAct_keeps {b : State} {s : State} (st : _) (c : _) (j : _) (e : _) (h_s : Keeps b s) :
    Keeps b (State.guardAct s st c j e) := by
  unfold State.guardAct
  try dsimp only
  repeat' first | with_reducible assumption | with_reducible apply Keeps.ite | with_reducible apply State.judgeLimited_keeps | with_reducible apply State.stoEnter_keeps | with_reducible apply State.startSs1_keeps | with_reducible apply State.latchCause_keeps

theorem State.testStep_keeps {b : State} {s : State} (c : _) (j : _) (closed : _) (h_s : Keeps b s) :
    Keeps b (State.testStep s c j closed) := by
  unfold State.testStep
  try dsimp only
  repeat' first | with_reducible assumption | with_reducible apply Keeps.ite | simp only [↓Keeps.mk_eq, ↓Keeps.at_eq] | split

theorem guardPairChangeCmd_keeps {b : State} (c : _) (j : _) (closed : _) {s : State} (h_s : Keeps b s) :
    Keeps b (guardPairChangeCmd c j closed s) := by
  unfold guardPairChangeCmd
  try dsimp only
  repeat' first | with_reducible assumption | with_reducible apply Keeps.ite | with_reducible apply Keeps.foldl | with_reducible apply State.setChan_keeps | with_reducible apply State.setPins_keeps | with_reducible apply State.ev_keeps | with_reducible apply State.testStep_keeps | with_reducible apply State.guardAct_keeps | intro _ _ _ | intro _ _ | split

theorem State.pairFaultOne_keeps {b : State} {s : State} (j : _) (h_s : Keeps b s) :
    Keeps b (State.pairFaultOne s j) := by
  unfold State.pairFaultOne
  try dsimp only
  repeat' first | with_reducible assumption | with_reducible apply Keeps.ite | with_reducible apply State.evC_keeps | simp only [↓Keeps.mk_eq, ↓Keeps.at_eq]

theorem pairDiscrepancyCmd_keeps {b : State} (j : _) {s : State} (h_s : Keeps b s) :
    Keeps b (pairDiscrepancyCmd j s) := by
  unfold pairDiscrepancyCmd
  try dsimp only
  repeat' first | with_reducible assumption | with_reducible apply Keeps.ite | with_reducible apply State.pairFaultOne_keeps

theorem testPulseCmd_keeps {b : State} (missed : _) {s : State} (h_s : Keeps b s) :
    Keeps b (testPulseCmd missed s) := by
  unfold testPulseCmd
  try dsimp only
  repeat' first | with_reducible assumption | with_reducible apply Keeps.ite | with_reducible apply Keeps.foldl | with_reducible apply State.pairFaultOne_keeps | intro _ _ _ | intro _ _ | split

theorem State.ackAxis_keeps {b : State} {s : State} (sx : _) (r : _) (h_s : Keeps b s) :
    Keeps b (State.ackAxis s sx r) := by
  unfold State.ackAxis
  try dsimp only
  repeat' first | with_reducible assumption | with_reducible apply Keeps.ite | simp only [↓Keeps.mk_eq, ↓Keeps.at_eq]

theorem State.ackGlobal_keeps {b : State} {s : State} (st : _) (h_s : Keeps b s) :
    Keeps b (State.ackGlobal s st) := by
  unfold State.ackGlobal
  try dsimp only
  repeat' first | with_reducible assumption | with_reducible apply Keeps.ite | with_reducible apply Keeps.foldl | with_reducible apply State.ackAxis_keeps | simp only [↓Keeps.mk_eq, ↓Keeps.at_eq] | intro _ _ _ | intro _ _

theorem safAckCmd_keeps {b : State} (h : _) {s : State} (h_s : Keeps b s) :
    Keeps b (safAckCmd h s) := by
  unfold safAckCmd
  try dsimp only
  repeat' first | with_reducible assumption | with_reducible apply Keeps.ite | with_reducible apply State.acceptImm_keeps | with_reducible apply State.ackAxis_keeps | with_reducible apply State.ackGlobal_keeps | with_reducible apply State.hostCmd_keeps | with_reducible apply State.tryRelease_keeps | simp only [↓Keeps.mk_eq, ↓Keeps.at_eq] | intro _ _ _ | intro _ _ | split

theorem rstInAckCmd_keeps {b : State} {s : State} (h_s : Keeps b s) :
    Keeps b (rstInAckCmd s) := by
  unfold rstInAckCmd
  try dsimp only
  repeat' first | with_reducible assumption | with_reducible apply Keeps.ite | with_reducible apply Keeps.foldl | with_reducible apply State.ackGlobal_keeps | with_reducible apply State.ackAxis_keeps | with_reducible apply State.tryRelease_keeps | intro _ _ _ | intro _ _ | split

theorem State.sentPdu_keeps {b : State} {s : State} (c : _) (sx : _) (h_s : Keeps b s) :
    Keeps b (State.sentPdu s c sx) := by
  unfold State.sentPdu
  try dsimp only
  repeat' first | with_reducible assumption | with_reducible apply Keeps.ite | with_reducible apply State.setChan_keeps

theorem State.addContainer_keeps {b : State} {s : State} (lane : _) (k : _) (h_s : Keeps b s) :
    Keeps b (State.addContainer s lane k) := by
  unfold State.addContainer
  try dsimp only
  repeat' first | with_reducible assumption | with_reducible apply Keeps.ite | with_reducible apply State.setLane_keeps | simp only [↓Keeps.mk_eq, ↓Keeps.at_eq]

theorem State.exchange_keeps {b : State} {s : State} (sx : _) (r : _) (h_s : Keeps b s) :
    Keeps b (State.exchange s sx r) := by
  unfold State.exchange
  try dsimp only
  repeat' first | with_reducible assumption | with_reducible apply Keeps.ite | with_reducible apply Keeps.foldl | with_reducible apply State.addContainer_keeps | with_reducible apply State.sentPdu_keeps | with_reducible apply State.freeW_keeps | refine State.freeW_of ?_ (by assumption) | simp only [↓Keeps.mk_eq, ↓Keeps.at_eq] | intro _ _ _ | intro _ _ | split

theorem safetyPduExchangeCmd_keeps {b : State} {s : State} (h_s : Keeps b s) :
    Keeps b (safetyPduExchangeCmd s) := by
  unfold safetyPduExchangeCmd
  try dsimp only
  repeat' first | with_reducible assumption | with_reducible apply Keeps.ite | with_reducible apply Keeps.foldl | with_reducible apply State.exchange_keeps | simp only [↓Keeps.mk_eq, ↓Keeps.at_eq] | intro _ _ _ | intro _ _ | split

theorem State.useReport_keeps {b : State} {s : State} (st : _) (c : _) (sx : _) (r : _) (p : _) (h_s : Keeps b s) :
    Keeps b (State.useReport s st c sx r p) := by
  unfold State.useReport
  try dsimp only
  repeat' first | with_reducible assumption | with_reducible apply Keeps.ite | with_reducible apply State.setChan_keeps | with_reducible apply State.disc_keeps

theorem State.useCommand_keeps {b : State} {s : State} (c : _) (sx : _) (p : _) (h_s : Keeps b s) :
    Keeps b (State.useCommand s c sx p) := by
  unfold State.useCommand
  try dsimp only
  repeat' first | with_reducible assumption | with_reducible apply Keeps.ite | with_reducible apply State.setChan_keeps

theorem State.firstPdu_keeps {b : State} {s : State} (c : _) (sx : _) (p : _) (h_s : Keeps b s) :
    Keeps b (State.firstPdu s c sx p) := by
  unfold State.firstPdu
  try dsimp only
  repeat' first | with_reducible assumption | with_reducible apply Keeps.ite | with_reducible apply State.setChan_keeps

theorem safetyPduReceivedCmd_keeps {b : State} (sx : _) (c : _) (p : _) {s : State} (h_s : Keeps b s) :
    Keeps b (safetyPduReceivedCmd sx c p s) := by
  unfold safetyPduReceivedCmd
  try dsimp only
  repeat' first | with_reducible assumption | with_reducible apply Keeps.ite | with_reducible apply State.useCommand_keeps | with_reducible apply State.setChan_keeps | with_reducible apply State.bumpFld_keeps | with_reducible apply State.useReport_keeps | with_reducible apply State.tryRelease_keeps | with_reducible apply State.firstPdu_keeps | split

theorem safetyWatchdogTripCmd_keeps {b : State} (sx : _) (c : _) {s : State} (h_s : Keeps b s) :
    Keeps b (safetyWatchdogTripCmd sx c s) := by
  unfold safetyWatchdogTripCmd
  try dsimp only
  repeat' first | with_reducible assumption | with_reducible apply Keeps.ite | with_reducible apply State.ev_keeps | with_reducible apply State.setChan_keeps | with_reducible apply State.tripWatchdog_keeps | simp only [↓Keeps.mk_eq, ↓Keeps.at_eq] | split

theorem State.startChan_keeps {b : State} {s : State} (c : _) (h_s : Keeps b s) :
    Keeps b (State.startChan s c) := by
  unfold State.startChan
  try dsimp only
  repeat' first | with_reducible assumption | with_reducible apply State.setChan_keeps | with_reducible apply State.nameAxes_keeps

theorem State.safetyStart_keeps {b : State} {s : State} (h_s : Keeps b s) :
    Keeps b (State.safetyStart s) := by
  unfold State.safetyStart
  try dsimp only
  repeat' first | with_reducible assumption | with_reducible apply Keeps.ite | with_reducible apply State.demandTests_keeps | with_reducible apply State.judgeSet_keeps | with_reducible apply State.nameAxes_keeps | with_reducible apply State.setPins_keeps | with_reducible apply State.startChan_keeps | simp only [↓Keeps.mk_eq, ↓Keeps.at_eq]

theorem channelBSupplyLossCmd_keeps {b : State} {s : State} (h_s : Keeps b s) :
    Keeps b (channelBSupplyLossCmd s) := by
  unfold channelBSupplyLossCmd
  try dsimp only
  repeat' first | with_reducible assumption | with_reducible apply Keeps.ite | with_reducible apply State.demandTests_keeps | with_reducible apply State.latchGlobal_keeps | with_reducible apply State.setChan_keeps | with_reducible apply State.stoAll_keeps | simp only [↓Keeps.mk_eq, ↓Keeps.at_eq]

theorem channelBSupplyReturnCmd_keeps {b : State} {s : State} (h_s : Keeps b s) :
    Keeps b (channelBSupplyReturnCmd s) := by
  unfold channelBSupplyReturnCmd
  try dsimp only
  repeat' first | with_reducible assumption | with_reducible apply Keeps.ite | with_reducible apply State.demandTests_keeps | with_reducible apply State.setPins_keeps | with_reducible apply State.startChan_keeps | simp only [↓Keeps.mk_eq, ↓Keeps.at_eq]

theorem State.linkLostIn_keeps {b : State} {s : State} (c : _) (h_s : Keeps b s) :
    Keeps b (State.linkLostIn s c) := by
  unfold State.linkLostIn
  try dsimp only
  repeat' first | with_reducible assumption | with_reducible apply Keeps.ite | with_reducible apply State.ev_keeps | with_reducible apply State.latchGlobal_keeps | with_reducible apply State.setChan_keeps | with_reducible apply State.stoAll_keeps | simp only [↓Keeps.mk_eq, ↓Keeps.at_eq]

theorem State.coreLosesLink_keeps {b : State} {s : State} (h_s : Keeps b s) :
    Keeps b (State.coreLosesLink s) := by
  unfold State.coreLosesLink
  try dsimp only
  repeat' first | with_reducible assumption | with_reducible apply Keeps.ite | with_reducible apply State.linkLostIn_keeps | with_reducible apply State.outputsLost_keeps | with_reducible apply State.setBit_keeps | simp only [↓Keeps.mk_eq, ↓Keeps.at_eq]

theorem State.fieldLosesLink_keeps {b : State} {s : State} (h_s : Keeps b s) :
    Keeps b (State.fieldLosesLink s) := by
  unfold State.fieldLosesLink
  try dsimp only
  repeat' first | with_reducible assumption | with_reducible apply Keeps.ite | with_reducible apply State.linkLostIn_keeps | with_reducible apply State.outputsLost_keeps | simp only [↓Keeps.mk_eq, ↓Keeps.at_eq]

theorem dieLinkLossCmd_keeps {b : State} {s : State} (h_s : Keeps b s) :
    Keeps b (dieLinkLossCmd s) := by
  unfold dieLinkLossCmd
  try dsimp only
  repeat' first | with_reducible assumption | with_reducible apply State.coreLosesLink_keeps | with_reducible apply State.fieldLosesLink_keeps

theorem dieLinkRetrainCmd_keeps {b : State} (trained : _) {s : State} (h_s : Keeps b s) :
    Keeps b (dieLinkRetrainCmd trained s) := by
  unfold dieLinkRetrainCmd
  try dsimp only
  repeat' first | with_reducible assumption | with_reducible apply Keeps.ite | with_reducible apply State.fieldFound_keeps | with_reducible apply State.supplyLate_keeps | simp only [↓Keeps.mk_eq, ↓Keeps.at_eq]

theorem safStatusCmd_keeps {b : State} (h0 : _) (buf : _) {s : State} (h_s : Keeps b s) :
    Keeps b (safStatusCmd h0 buf s) := by
  unfold safStatusCmd
  try dsimp only
  repeat' first | with_reducible assumption | with_reducible apply Keeps.ite | with_reducible apply State.memWr_keeps | with_reducible apply State.hostCmd_keeps | with_reducible apply State.answerOk_keeps | intro _ _ _ | intro _ _

/-! ## Cycle -/

theorem State.eachAxis_keeps {b : State} {s : State} (f : _) (h_s : Keeps b s) :
    Keeps b (State.eachAxis s f) := by
  unfold State.eachAxis
  try dsimp only
  repeat' first | with_reducible assumption | with_reducible apply Keeps.foldl | with_reducible apply State.setAxis_keeps | intro _ _ _ | intro _ _

theorem State.rungPhi0_keeps {b : State} {s : State} (n : _) (h_s : Keeps b s) :
    Keeps b (State.rungPhi0 s n) := by
  unfold State.rungPhi0
  try dsimp only
  repeat' first | with_reducible assumption | with_reducible apply Keeps.ite | with_reducible apply State.axesAfter_keeps | with_reducible apply State.forceChanged_keeps | with_reducible apply State.podsNewRung_keeps | simp only [↓Keeps.mk_eq, ↓Keeps.at_eq] | split

theorem State.agePhi0_keeps {b : State} {s : State} (h_s : Keeps b s) :
    Keeps b (State.agePhi0 s) := by
  unfold State.agePhi0
  try dsimp only
  repeat' first | with_reducible assumption | with_reducible apply Keeps.foldl | with_reducible apply State.setBlockStat_keeps | intro _ _ _ | intro _ _

theorem State.nodePhi0_keeps {b : State} {s : State} (h_s : Keeps b s) :
    Keeps b (State.nodePhi0 s) := by
  unfold State.nodePhi0
  try dsimp only
  repeat' first | with_reducible assumption | with_reducible apply Keeps.ite | with_reducible apply State.becomeMember_keeps | simp only [↓Keeps.mk_eq, ↓Keeps.at_eq] | intro _ _ _ | intro _ _

theorem State.fogPhi0_keeps {b : State} {s : State} (h_s : Keeps b s) :
    Keeps b (State.fogPhi0 s) := by
  unfold State.fogPhi0
  try dsimp only
  repeat' first | with_reducible assumption | with_reducible apply Keeps.ite | with_reducible apply Keeps.foldl | with_reducible apply State.fogOutputs_keeps | with_reducible apply State.raiseSource_keeps | simp only [↓Keeps.mk_eq, ↓Keeps.at_eq] | intro _ _ _ | intro _ _

theorem State.samplePhi0_keeps {b : State} {s : State} (x : _) (h_s : Keeps b s) :
    Keeps b (State.samplePhi0 s x) := by
  unfold State.samplePhi0
  try dsimp only
  repeat' first | with_reducible assumption | with_reducible apply Keeps.foldl | with_reducible apply State.chopperPhi0_keeps | with_reducible apply State.feedbackPhi0_keeps | with_reducible apply State.sdmPhi0_keeps | with_reducible apply adcInjectedTriggerCmd_keeps | intro _ _ _ | intro _ _

theorem State.stepCycle_keeps {b : State} {s : State} (h_s : Keeps b s) :
    Keeps b (State.stepCycle s) := by
  unfold State.stepCycle
  try dsimp only
  repeat' first | with_reducible assumption | with_reducible apply Keeps.ite | with_reducible apply State.burstsPhi0_keeps | with_reducible apply State.rungPhi0_keeps | simp only [↓Keeps.mk_eq, ↓Keeps.at_eq]

theorem State.wakePinPhi0_keeps {b : State} {s : State} (h_s : Keeps b s) :
    Keeps b (State.wakePinPhi0 s) := by
  unfold State.wakePinPhi0
  try dsimp only
  repeat' first | with_reducible assumption | with_reducible apply Keeps.ite | simp only [↓Keeps.mk_eq, ↓Keeps.at_eq] | split

theorem cyclePhi0Cmd_keeps {b : State} (x : _) {s : State} (h_s : Keeps b s) :
    Keeps b (cyclePhi0Cmd x s) := by
  unfold cyclePhi0Cmd
  try dsimp only
  repeat' first | with_reducible assumption | with_reducible apply Keeps.ite | with_reducible apply Keeps.foldl | with_reducible apply State.agePhi0_keeps | with_reducible apply State.canCyclic_keeps | with_reducible apply State.eachAxis_keeps | with_reducible apply State.fieldSignals_keeps | with_reducible apply State.fogPhi0_keeps | with_reducible apply State.nodePhi0_keeps | with_reducible apply State.pinsRun_keeps | with_reducible apply State.powerChange_keeps | with_reducible apply State.reload_keeps | with_reducible apply State.samplePhi0_keeps | with_reducible apply State.stepCycle_keeps | with_reducible apply State.syncOutPhi0_keeps | with_reducible apply State.wakePinPhi0_keeps | intro _ _ _ | intro _ _

/-! ## Thermal -/

theorem State.showPower_keeps {b : State} {s : State} (ws : _) (h_s : Keeps b s) :
    Keeps b (State.showPower s ws) := by
  unfold State.showPower
  try dsimp only
  repeat' first | with_reducible assumption | with_reducible apply Keeps.foldl | with_reducible apply State.setFld_keeps | simp only [↓Keeps.mk_eq, ↓Keeps.at_eq] | intro _ _ _ | intro _ _

theorem State.clampThmCfg_keeps {b : State} {s : State} (h_s : Keeps b s) :
    Keeps b (State.clampThmCfg s) := by
  unfold State.clampThmCfg
  try dsimp only
  repeat' first | with_reducible assumption | with_reducible apply State.setFld_keeps

theorem State.judgeHold_keeps {b : State} {s : State} (tell : _) (h_s : Keeps b s) :
    Keeps b (State.judgeHold s tell) := by
  unfold State.judgeHold
  try dsimp only
  repeat' first | with_reducible assumption | with_reducible apply Keeps.ite | with_reducible apply State.setBit_keeps | with_reducible apply State.evC_keeps

theorem State.limitSource_keeps {b : State} {s : State} (on : _) (h_s : Keeps b s) :
    Keeps b (State.limitSource s on) := by
  unfold State.limitSource
  try dsimp only
  repeat' first | with_reducible assumption | with_reducible apply Keeps.ite | with_reducible apply Keeps.foldl | with_reducible apply State.setAxis_keeps | with_reducible apply State.raiseSource_keeps | intro _ _ _ | intro _ _

theorem State.judgeDie_keeps {b : State} {s : State} (rate : _) (h_s : Keeps b s) :
    Keeps b (State.judgeDie s rate) := by
  unfold State.judgeDie
  try dsimp only
  repeat' first | with_reducible assumption | with_reducible apply Keeps.ite | with_reducible apply Keeps.foldl | with_reducible apply State.ev_keeps | with_reducible apply State.limitSource_keeps | with_reducible apply State.raiseSource_keeps | with_reducible apply State.setBit_keeps | simp only [↓Keeps.mk_eq, ↓Keeps.at_eq] | intro _ _ _ | intro _ _

theorem State.takeReadings_keeps {b : State} {s : State} (fieldTemp : _) (dt : _) (h_s : Keeps b s) :
    Keeps b (State.takeReadings s fieldTemp dt).1 := by
  unfold State.takeReadings
  try dsimp only
  repeat' first | with_reducible assumption | with_reducible apply Keeps.ite | with_reducible apply Keeps.foldl | with_reducible apply State.setBit_keeps | with_reducible apply State.setFld_keeps | simp only [↓Keeps.mk_eq, ↓Keeps.at_eq] | intro _ _ _ | intro _ _ | split

theorem State.takeReadings_of {b t_ : State} {x_ : _} {s : State} {fieldTemp : _} {dt : _} (h_s : Keeps b s) (e_ : State.takeReadings s fieldTemp dt = (t_, x_)) :
    Keeps b t_ := by
  have h_ := State.takeReadings_keeps fieldTemp dt h_s
  rw [e_] at h_
  exact h_

theorem State.showDie_keeps {b : State} {s : State} (rate : _) (h_s : Keeps b s) :
    Keeps b (State.showDie s rate) := by
  unfold State.showDie
  try dsimp only
  repeat' first | with_reducible assumption | with_reducible apply State.setFld_keeps

theorem State.stepNodes_keeps {b : State} {s : State} (ws : _) (dt : _) (h_s : Keeps b s) :
    Keeps b (State.stepNodes s ws dt) := by
  unfold State.stepNodes
  try dsimp only
  repeat' first | with_reducible assumption | with_reducible apply Keeps.ite | with_reducible apply Keeps.foldl | simp only [↓Keeps.mk_eq, ↓Keeps.at_eq] | intro _ _ _ | intro _ _

theorem State.dieUpdate_keeps {b : State} {s : State} (ws : _) (fieldTemp : _) (h_s : Keeps b s) :
    Keeps b (State.dieUpdate s ws fieldTemp) := by
  unfold State.dieUpdate
  try dsimp only
  repeat' first | with_reducible assumption | with_reducible apply Keeps.foldl | with_reducible apply State.clampThmCfg_keeps | with_reducible apply State.setBit_keeps | with_reducible apply State.showDie_keeps | with_reducible apply State.takeReadings_keeps | with_reducible apply State.ev_keeps | with_reducible apply State.judgeDie_keeps | with_reducible apply State.stepNodes_keeps | with_reducible apply State.judgeHold_keeps | with_reducible apply State.showPower_keeps | refine State.takeReadings_of ?_ (by assumption) | simp only [↓Keeps.mk_eq, ↓Keeps.at_eq] | intro _ _ _ | intro _ _ | split

theorem State.standbyDie_keeps {b : State} {s : State} (h_s : Keeps b s) :
    Keeps b (State.standbyDie s) := by
  unfold State.standbyDie
  try dsimp only
  repeat' first | with_reducible assumption | with_reducible apply State.setBit_keeps | with_reducible apply State.setFld_keeps | simp only [↓Keeps.mk_eq, ↓Keeps.at_eq]

theorem dieThermalUpdateCmd_keeps {b : State} (ws : _) (fieldTemp : _) {s : State} (h_s : Keeps b s) :
    Keeps b (dieThermalUpdateCmd ws fieldTemp s) := by
  unfold dieThermalUpdateCmd
  try dsimp only
  repeat' first | with_reducible assumption | with_reducible apply Keeps.ite | with_reducible apply State.dieUpdate_keeps | with_reducible apply State.setFld_keeps | with_reducible apply State.standbyDie_keeps | simp only [↓Keeps.mk_eq, ↓Keeps.at_eq]

theorem adcStandbyConversionCmd_keeps {b : State} (ref : _) (diode : _) (current : _) {s : State} (h_s : Keeps b s) :
    Keeps b (adcStandbyConversionCmd ref diode current s) := by
  unfold adcStandbyConversionCmd
  try dsimp only
  repeat' first | with_reducible assumption | with_reducible apply Keeps.ite | with_reducible apply State.adcResult_keeps | with_reducible apply State.standbyDie_keeps | simp only [↓Keeps.mk_eq, ↓Keeps.at_eq]

theorem State.thermSource_keeps {b : State} {s : State} (a : _) (src : _) (hot : _) (rate : _) (h_s : Keeps b s) :
    Keeps b (State.thermSource s a src hot rate) := by
  unfold State.thermSource
  try dsimp only
  repeat' first | with_reducible assumption | with_reducible apply Keeps.ite | with_reducible apply State.setAxis_keeps | with_reducible apply State.raiseSource_keeps

theorem State.axisThermal_keeps {b : State} {s : State} (a : _) (dtNs : _) (h_s : Keeps b s) :
    Keeps b (State.axisThermal s a dtNs) := by
  unfold State.axisThermal
  try dsimp only
  repeat' first | with_reducible assumption | with_reducible apply Keeps.ite | with_reducible apply Keeps.foldl | with_reducible apply State.setAxis_keeps | with_reducible apply State.thermSource_keeps | simp only [↓Keeps.mk_eq, ↓Keeps.at_eq] | intro _ _ _ | intro _ _ | split

theorem axisThermalUpdateCmd_keeps {b : State} (a : _) (dtNs : _) {s : State} (h_s : Keeps b s) :
    Keeps b (axisThermalUpdateCmd a dtNs s) := by
  unfold axisThermalUpdateCmd
  try dsimp only
  repeat' first | with_reducible assumption | with_reducible apply Keeps.ite | with_reducible apply State.axisThermal_keeps

theorem thermalStateSaveCmd_keeps {b : State} {s : State} (h_s : Keeps b s) :
    Keeps b (thermalStateSaveCmd s) := by
  unfold thermalStateSaveCmd
  try dsimp only
  repeat' first | with_reducible assumption | with_reducible apply Keeps.ite | with_reducible apply State.saveThermal_keeps | simp only [↓Keeps.mk_eq, ↓Keeps.at_eq]

theorem State.thermStart_keeps {b : State} {s : State} (sram : _) (kept : _) (h_s : Keeps b s) :
    Keeps b (State.thermStart s sram kept) := by
  unfold State.thermStart
  try dsimp only
  repeat' first | with_reducible assumption | with_reducible apply Keeps.ite | with_reducible apply Keeps.foldl | with_reducible apply State.setFld_keeps | with_reducible apply State.setAxis_keeps | with_reducible apply State.freeW_keeps | refine State.freeW_of ?_ (by assumption) | intro _ _ _ | intro _ _ | split

/-! ## Boot -/

theorem State.restart_keeps {b s : State} (cause : Nat) (boot : Boot) (h : Keeps b s) : Keeps b (State.restart s cause boot) := by
  obtain ⟨h1, h2, h3, h4, h5, h6, h7, h8⟩ := State.freeW_keeps h
  refine ⟨h1, h2, h3, h4, fun _ => ?_, fun hb => ?_, h7, h8⟩
  · show SMap.wf regReset (if recordsKept cause = true then SMap.set (regReset R.thmShut) [] R.thmShut (s.freeW.2.reg R.thmShut) else []) = true
    split
    · exact SMap.wf_set regReset [] R.thmShut _ rfl
    · rfl
  · have := h6 hb
    refine ⟨?_, this.2⟩
    have hl := this.1
    simp only [lcLegal, Bool.and_eq_true] at hl
    show lcLegal s.freeW.2.sec.lcs none = true
    simp only [lcLegal, Bool.and_eq_true]
    exact ⟨hl.1, trivial⟩

theorem State.alert_keeps {b : State} {s : State} (h_s : Keeps b s) :
    Keeps b (State.alert s) := by
  unfold State.alert
  try dsimp only
  repeat' first | with_reducible assumption | simp only [↓Keeps.mk_eq, ↓Keeps.at_eq]

theorem State.clocksUp_keeps {b : State} {s : State} (h_s : Keeps b s) :
    Keeps b (State.clocksUp s) := by
  unfold State.clocksUp
  try dsimp only
  repeat' first | with_reducible assumption | with_reducible apply State.setBit_keeps

theorem State.bootFrom_keeps {b : State} {s : State} (cause : _) (h_s : Keeps b s) :
    Keeps b (State.bootFrom s cause) := by
  unfold State.bootFrom
  try dsimp only
  repeat' first | with_reducible assumption | with_reducible apply State.clocksUp_keeps | with_reducible apply State.endSession_keeps | with_reducible apply State.restart_keeps

theorem State.sampleStraps_keeps {b : State} {s : State} (role : _) (bootsel : _) (h_s : Keeps b s) :
    Keeps b (State.sampleStraps s role bootsel) := by
  unfold State.sampleStraps
  try dsimp only
  repeat' first | with_reducible assumption | with_reducible apply State.clocksUp_keeps | simp only [↓Keeps.mk_eq, ↓Keeps.at_eq]

theorem porstNRiseCmd_keeps {b : State} (role : _) (bootsel : _) {s : State} (h_s : Keeps b s) :
    Keeps b (porstNRiseCmd role bootsel s) := by
  unfold porstNRiseCmd
  try dsimp only
  repeat' first | with_reducible assumption | with_reducible apply Keeps.ite | with_reducible apply State.sampleStraps_keeps

theorem porstNLowCmd_keeps {b : State} {s : State} (h_s : Keeps b s) :
    Keeps b (porstNLowCmd s) := by
  unfold porstNLowCmd
  try dsimp only
  repeat' first | with_reducible assumption | with_reducible apply State.restart_keeps

theorem State.nodeConfig_keeps {b : State} {s : State} (h_s : Keeps b s) :
    Keeps b (State.nodeConfig s) := by
  unfold State.nodeConfig
  try dsimp only
  repeat' first | with_reducible assumption | with_reducible apply State.alert_keeps | with_reducible apply State.setBit_keeps | with_reducible apply State.setFld_keeps | with_reducible apply State.setReg_keeps | simp only [↓Keeps.mk_eq, ↓Keeps.at_eq] | split

theorem State.loadStore_keeps {b : State} {s : State} (h_s : Keeps b s) :
    Keeps b (State.loadStore s) := by
  unfold State.loadStore
  try dsimp only
  repeat' first | with_reducible assumption | with_reducible apply Keeps.ite | with_reducible apply Keeps.foldl | with_reducible apply State.modAxis_keeps | with_reducible apply State.pinsLoaded_keeps | with_reducible apply State.portStart_keeps | with_reducible apply State.sdmSettle_keeps | with_reducible apply State.setAxis_keeps | with_reducible apply State.setBit_keeps | with_reducible apply State.setReg_keeps | simp only [↓Keeps.mk_eq, ↓Keeps.at_eq] | intro _ _ _ | intro _ _

theorem State.startImage_keeps {b : State} {s : State} (im : _) (slot : _) (fallback : _) (h_s : Keeps b s) :
    Keeps b (State.startImage s im slot fallback) := by
  unfold State.startImage
  try dsimp only
  repeat' first | with_reducible assumption | with_reducible apply Keeps.ite | with_reducible apply State.evDebug_keeps | with_reducible apply State.loadStore_keeps | with_reducible apply State.setBit_keeps | with_reducible apply State.setReg_keeps | simp only [↓Keeps.mk_eq, ↓Keeps.at_eq]

theorem State.awaitDownload_keeps {b : State} {s : State} (h_s : Keeps b s) :
    Keeps b (State.awaitDownload s) := by
  unfold State.awaitDownload
  try dsimp only
  repeat' first | with_reducible assumption | with_reducible apply State.setReg_keeps | simp only [↓Keeps.mk_eq, ↓Keeps.at_eq]

theorem State.noSlot_keeps {b : State} {s : State} (h_s : Keeps b s) :
    Keeps b (State.noSlot s) := by
  unfold State.noSlot
  try dsimp only
  repeat' first | with_reducible assumption | with_reducible apply Keeps.ite | with_reducible apply State.evDebug_keeps | with_reducible apply State.setBit_keeps | with_reducible apply State.awaitDownload_keeps | with_reducible apply State.alert_keeps | simp only [↓Keeps.mk_eq, ↓Keeps.at_eq]

theorem State.checkDownload_keeps {b : State} {s : State} (h_s : Keeps b s) :
    Keeps b (State.checkDownload s) := by
  unfold State.checkDownload
  try dsimp only
  repeat' first | with_reducible assumption | with_reducible apply Keeps.ite | with_reducible apply State.setReg_keeps | with_reducible apply State.startImage_keeps | split

theorem imageCheckCmd_keeps {b : State} {s : State} (h_s : Keeps b s) :
    Keeps b (imageCheckCmd s) := by
  unfold imageCheckCmd
  try dsimp only
  repeat' first | with_reducible assumption | with_reducible apply Keeps.ite | with_reducible apply State.checkDownload_keeps | with_reducible apply State.awaitDownload_keeps | with_reducible apply State.startImage_keeps | with_reducible apply State.noSlot_keeps | split

theorem sysBootGoCmd_keeps {b : State} {s : State} (h_s : Keeps b s) :
    Keeps b (sysBootGoCmd s) := by
  unfold sysBootGoCmd
  try dsimp only
  repeat' first | with_reducible assumption | with_reducible apply Keeps.ite | with_reducible apply State.setReg_keeps

theorem bootCompleteCmd_keeps {b : State} {s : State} (h_s : Keeps b s) :
    Keeps b (bootCompleteCmd s) := by
  unfold bootCompleteCmd
  try dsimp only
  repeat' first | with_reducible assumption | with_reducible apply Keeps.ite | with_reducible apply State.adcStart_keeps | with_reducible apply State.ev_keeps | with_reducible apply State.fieldFound_keeps | with_reducible apply State.nodeConfig_keeps | with_reducible apply State.raiseTrips_keeps | with_reducible apply State.safetyStart_keeps | with_reducible apply State.setFld_keeps | with_reducible apply State.setPower_keeps | with_reducible apply State.setTransit_keeps | with_reducible apply State.setWakeCause_keeps | with_reducible apply State.thermStart_keeps | simp only [↓Keeps.mk_eq, ↓Keeps.at_eq] | intro _ _ _ | intro _ _ | split | with_reducible refine Keeps.sec ?_ (Nat.le_max_left _ _) (Nat.le_refl _)

theorem State.coreStop_keeps {b : State} {s : State} (cause : _) (boot : _) (h_s : Keeps b s) :
    Keeps b (State.coreStop s cause boot) := by
  unfold State.coreStop
  try dsimp only
  repeat' first | with_reducible assumption | with_reducible apply State.allOutputsOff_keeps | with_reducible apply State.clockLoss_keeps | with_reducible apply State.setBit_keeps | simp only [↓Keeps.mk_eq, ↓Keeps.at_eq]

theorem sysRestartCmd_keeps {b : State} (v : _) {s : State} (h_s : Keeps b s) :
    Keeps b (sysRestartCmd v s) := by
  unfold sysRestartCmd
  try dsimp only
  repeat' first | with_reducible assumption | with_reducible apply Keeps.ite | with_reducible apply State.bootFrom_keeps | with_reducible apply State.evBadReg_keeps

theorem supervisorRestartCmd_keeps {b : State} {s : State} (h_s : Keeps b s) :
    Keeps b (supervisorRestartCmd s) := by
  unfold supervisorRestartCmd
  try dsimp only
  repeat' first | with_reducible assumption | with_reducible apply Keeps.ite | with_reducible apply State.bootFrom_keeps

theorem slowClockLossCmd_keeps {b : State} {s : State} (h_s : Keeps b s) :
    Keeps b (slowClockLossCmd s) := by
  unfold slowClockLossCmd
  try dsimp only
  repeat' first | with_reducible assumption | with_reducible apply Keeps.ite | with_reducible apply State.setBit_keeps | with_reducible apply State.coreStop_keeps | with_reducible apply State.endSession_keeps

theorem slowClockRestoredCmd_keeps {b : State} {s : State} (h_s : Keeps b s) :
    Keeps b (slowClockRestoredCmd s) := by
  unfold slowClockRestoredCmd
  try dsimp only
  repeat' first | with_reducible assumption | with_reducible apply Keeps.ite | with_reducible apply State.bootFrom_keeps

theorem pllSysUnlockCmd_keeps {b : State} {s : State} (h_s : Keeps b s) :
    Keeps b (pllSysUnlockCmd s) := by
  unfold pllSysUnlockCmd
  try dsimp only
  repeat' first | with_reducible assumption | with_reducible apply Keeps.ite | with_reducible apply State.bootFrom_keeps | with_reducible apply State.clockLoss_keeps

theorem backbonePllUnlockCmd_keeps {b : State} {s : State} (h_s : Keeps b s) :
    Keeps b (backbonePllUnlockCmd s) := by
  unfold backbonePllUnlockCmd
  try dsimp only
  repeat' first | with_reducible assumption | with_reducible apply Keeps.ite | with_reducible apply Keeps.foldl | with_reducible apply State.linkDown_keeps | with_reducible apply State.setBit_keeps | intro _ _ _ | intro _ _

theorem backbonePllRelockCmd_keeps {b : State} {s : State} (h_s : Keeps b s) :
    Keeps b (backbonePllRelockCmd s) := by
  unfold backbonePllRelockCmd
  try dsimp only
  repeat' first | with_reducible assumption | with_reducible apply Keeps.ite | with_reducible apply State.setBit_keeps

theorem pciePllUnlockCmd_keeps {b : State} {s : State} (h_s : Keeps b s) :
    Keeps b (pciePllUnlockCmd s) := by
  unfold pciePllUnlockCmd
  try dsimp only
  repeat' first | with_reducible assumption | with_reducible apply Keeps.ite | with_reducible apply State.setBit_keeps

theorem pciePllRelockCmd_keeps {b : State} {s : State} (h_s : Keeps b s) :
    Keeps b (pciePllRelockCmd s) := by
  unfold pciePllRelockCmd
  try dsimp only
  repeat' first | with_reducible assumption | with_reducible apply Keeps.ite | with_reducible apply State.setBit_keeps

theorem hardwareThermalShutdownCmd_keeps {b : State} (core : _) (field : _) {s : State} (h_s : Keeps b s) :
    Keeps b (hardwareThermalShutdownCmd core field s) := by
  unfold hardwareThermalShutdownCmd
  try dsimp only
  repeat' first | with_reducible assumption | with_reducible apply Keeps.ite | with_reducible apply State.stoAll_keeps | with_reducible apply State.setFld_keeps | with_reducible apply State.coreStop_keeps | with_reducible apply State.endSession_keeps | with_reducible apply State.allOutputsOff_keeps | simp only [↓Keeps.mk_eq, ↓Keeps.at_eq]

theorem thermalRestartCmd_keeps {b : State} {s : State} (h_s : Keeps b s) :
    Keeps b (thermalRestartCmd s) := by
  unfold thermalRestartCmd
  try dsimp only
  repeat' first | with_reducible assumption | with_reducible apply Keeps.ite | with_reducible apply State.setBit_keeps | with_reducible apply State.bootFrom_keeps | with_reducible apply State.bumpFld_keeps | with_reducible apply State.ev_keeps | with_reducible apply State.evC_keeps

theorem supplyLowWarningCmd_keeps {b : State} {s : State} (h_s : Keeps b s) :
    Keeps b (supplyLowWarningCmd s) := by
  unfold supplyLowWarningCmd
  try dsimp only
  repeat' first | with_reducible assumption | simp only [↓Keeps.mk_eq, ↓Keeps.at_eq]

theorem supplyLowWarningEndCmd_keeps {b : State} {s : State} (h_s : Keeps b s) :
    Keeps b (supplyLowWarningEndCmd s) := by
  unfold supplyLowWarningEndCmd
  try dsimp only
  repeat' first | with_reducible assumption | with_reducible apply Keeps.ite | simp only [↓Keeps.mk_eq, ↓Keeps.at_eq]

theorem brownOutCmd_keeps {b : State} {s : State} (h_s : Keeps b s) :
    Keeps b (brownOutCmd s) := by
  unfold brownOutCmd
  try dsimp only
  repeat' first | with_reducible assumption | with_reducible apply Keeps.ite | with_reducible apply State.restart_keeps | simp only [↓Keeps.mk_eq, ↓Keeps.at_eq]

theorem brownOutEndCmd_keeps {b : State} (role : _) (bootsel : _) {s : State} (h_s : Keeps b s) :
    Keeps b (brownOutEndCmd role bootsel s) := by
  unfold brownOutEndCmd
  try dsimp only
  repeat' first | with_reducible assumption | with_reducible apply Keeps.ite | with_reducible apply State.sampleStraps_keeps | simp only [↓Keeps.mk_eq, ↓Keeps.at_eq]

theorem pfailNAssertCmd_keeps {b : State} {s : State} (h_s : Keeps b s) :
    Keeps b (pfailNAssertCmd s) := by
  unfold pfailNAssertCmd
  try dsimp only
  repeat' first | with_reducible assumption | with_reducible apply Keeps.ite | with_reducible apply State.evC_keeps | simp only [↓Keeps.mk_eq, ↓Keeps.at_eq]

theorem pfailNReleaseCmd_keeps {b : State} {s : State} (h_s : Keeps b s) :
    Keeps b (pfailNReleaseCmd s) := by
  unfold pfailNReleaseCmd
  try dsimp only
  repeat' first | with_reducible assumption | with_reducible apply Keeps.ite | with_reducible apply State.evC_keeps | simp only [↓Keeps.mk_eq, ↓Keeps.at_eq]

/-! ## Tuning -/

theorem injectCmd_keeps {b : State} (h0 : _) (cfg : _) {s : State} (h_s : Keeps b s) :
    Keeps b (injectCmd h0 cfg s) := by
  unfold injectCmd
  try dsimp only
  repeat' first | with_reducible assumption | with_reducible apply Keeps.ite | with_reducible apply State.modAxis_keeps | with_reducible apply State.hostCmd_keeps | with_reducible apply State.acceptLong_keeps | intro _ _ _ | intro _ _ | split

theorem injectStopCmd_keeps {b : State} (h0 : _) {s : State} (h_s : Keeps b s) :
    Keeps b (injectStopCmd h0 s) := by
  unfold injectStopCmd
  try dsimp only
  repeat' first | with_reducible assumption | with_reducible apply State.modAxis_keeps | with_reducible apply State.hostCmd_keeps | with_reducible apply State.acceptImm_keeps | intro _ _ _ | intro _ _

theorem injectionEndCmd_keeps {b : State} (a : _) {s : State} (h_s : Keeps b s) :
    Keeps b (injectionEndCmd a s) := by
  unfold injectionEndCmd
  try dsimp only
  repeat' first | with_reducible assumption | with_reducible apply Keeps.ite | with_reducible apply State.endInjection_keeps | split

/-! ## Views -/

theorem State.readEffect_keeps {b : State} {s : State} (off : _) (h_s : Keeps b s) :
    Keeps b (State.readEffect s off) := by
  unfold State.readEffect
  try dsimp only
  repeat' first | with_reducible assumption | with_reducible apply Keeps.ite | with_reducible apply State.setReg_keeps | simp only [↓Keeps.mk_eq, ↓Keeps.at_eq] | split

theorem State.readReg_keeps {b : State} {s : State} (off : _) (h_s : Keeps b s) :
    Keeps b (State.readReg s off) := by
  unfold State.readReg
  try dsimp only
  repeat' first | with_reducible assumption | with_reducible apply State.readEffect_keeps | simp only [↓Keeps.mk_eq, ↓Keeps.at_eq]

theorem loRegisterReadCmd_keeps {b : State} (off : _) {s : State} (h_s : Keeps b s) :
    Keeps b (loRegisterReadCmd off s) := by
  unfold loRegisterReadCmd
  try dsimp only
  repeat' first | with_reducible assumption | with_reducible apply Keeps.ite | with_reducible apply State.readReg_keeps

theorem rcRegisterReadCmd_keeps {b : State} (off : _) {s : State} (h_s : Keeps b s) :
    Keeps b (rcRegisterReadCmd off s) := by
  unfold rcRegisterReadCmd
  try dsimp only
  repeat' first | with_reducible assumption | with_reducible apply Keeps.ite | with_reducible apply State.readReg_keeps

theorem badRegisterAccessCmd_keeps {b : State} (write : _) (off : _) (size : _) (v : _) {s : State} (h_s : Keeps b s) :
    Keeps b (badRegisterAccessCmd write off size v s) := by
  unfold badRegisterAccessCmd
  try dsimp only
  repeat' first | with_reducible assumption | with_reducible apply Keeps.ite | with_reducible apply State.evBadReg_keeps | simp only [↓Keeps.mk_eq, ↓Keeps.at_eq]

/-! ## Lifecycle -/

theorem fwUpdateCmd_keeps {b : State} (h0 : _) (addr : _) (len : _) {s : State} (h_s : Keeps b s) :
    Keeps b (fwUpdateCmd h0 addr len s) := by
  unfold fwUpdateCmd
  try dsimp only
  repeat' first | with_reducible assumption | with_reducible apply Keeps.ite | with_reducible apply State.final_keeps | with_reducible apply State.hostCmd_keeps | with_reducible apply State.acceptLong_keeps | with_reducible apply State.finalPlain_keeps | simp only [↓Keeps.mk_eq, ↓Keeps.at_eq] | intro _ _ _ | intro _ _ | split

theorem imageSlotWrittenCmd_keeps {b : State} (readBackOk : _) {s : State} (h_s : Keeps b s) :
    Keeps b (imageSlotWrittenCmd readBackOk s) := by
  unfold imageSlotWrittenCmd
  try dsimp only
  repeat' first | with_reducible assumption | with_reducible apply Keeps.ite | with_reducible apply State.freeW_keeps | with_reducible apply State.finalPlain_keeps | refine State.freeW_of ?_ (by assumption) | simp only [↓Keeps.mk_eq, ↓Keeps.at_eq] | split

theorem State.timedTriggerOne_sec (s : State) (tk targ at_ p : Nat) : (s.timedTriggerOne tk targ at_ p).sec = s.sec := by
  unfold State.timedTriggerOne
  repeat' split
  all_goals first
    | exact State.bumpFld_sec s _ _ _ _
    | exact State.setPod_sec s _ _
    | rfl

theorem State.timedTrigger_sec (s : State) (tk targ at_ : Nat) : (s.timedTrigger tk targ at_).sec = s.sec := by
  unfold State.timedTrigger
  induction List.range 8 generalizing s with
  | nil => rfl
  | cons x l ih => exact (ih _).trans (State.timedTriggerOne_sec _ _ _ _ _)

theorem State.ev_sec (s : State) (src subj code value : Nat) : (s.ev src subj code value).sec = s.sec := by
  unfold State.ev
  rw [State.timedTrigger_sec]

theorem State.admitCmd_sec (s : State) (k : CmdKind) (extra : Nat) : (s.admitCmd k extra).2.sec = s.sec := by
  unfold State.admitCmd
  dsimp only
  split
  · rfl
  · split
    · exact State.setBit_sec s _ _ _
    · split
      · dsimp only
        split
        · exact State.setBit_sec s _ _ _
        · rw [State.ev_sec]
          exact State.setBit_sec s _ _ _
      · rfl

theorem State.signalVec_sec (s : State) (v : Nat) : (s.signalVec v).sec = s.sec := by
  unfold State.signalVec
  split
  · exact State.setBit_sec s _ _ _
  · split <;> rfl

theorem State.cacheFinal_sec (s : State) (r : OutRec) (phase : Bool) : (s.cacheFinal r phase).sec = s.sec := rfl

theorem State.ite_sec {c : Prop} [Decidable c] {x y t : State} (hx : x.sec = t.sec) (hy : y.sec = t.sec) :
    (if c then x else y).sec = t.sec := by
  split <;> assumption

theorem State.writeCr_sec (s : State) (r : OutRec) : (s.writeCr r).sec = s.sec := by
  unfold State.writeCr
  dsimp only
  refine State.ite_sec ?_ (State.ite_sec ?_ ?_)
  · rw [State.signalVec_sec]
    refine State.ite_sec ?_ ?_
    · exact (State.cacheFinal_sec _ _ _).trans ((State.setRing_sec _ _ _).trans (State.memWr_sec _ _ _))
    · exact (State.setRing_sec _ _ _).trans (State.memWr_sec _ _ _)
  · exact (State.cacheFinal_sec _ _ _).trans ((State.setRing_sec _ _ _).trans (State.memWr_sec _ _ _))
  · exact (State.setRing_sec _ _ _).trans (State.memWr_sec _ _ _)

theorem State.drainGo_sec (l : List OutRec) (s : State) (blocked : List Nat) (kept : List OutRec) :
    (s.drainGo blocked kept l).sec = s.sec := by
  induction l generalizing s blocked kept with
  | nil => rfl
  | cons r l ih =>
    unfold State.drainGo
    split
    · rw [ih, State.writeCr_sec]
    · rw [ih]

theorem State.post_sec (s : State) (r : OutRec) : (s.post r).sec = s.sec := by
  unfold State.post State.drain
  rw [State.drainGo_sec]

theorem State.acceptLong_sec (s : State) (h : Hdr) (op extra : Nat) (body : List Byte) : (s.acceptLong h op extra body).sec = s.sec := by
  unfold State.acceptLong
  rw [State.post_sec]
  rfl

theorem lifecycleSetCmd_keeps {b : State} (hd : Hdr) (state auth : Nat) {s : State} (h : Keeps b s) :
    Keeps b (lifecycleSetCmd hd state auth s) := by
  have ha := State.admit_keeps .long 0 h
  have hs := State.admitCmd_sec s .long 0
  unfold lifecycleSetCmd State.hostCmd
  refine Keeps.ite h ?_
  split
  · exact State.refuse_keeps _ _ _ _ h
  · split
    · exact State.refuse_keeps _ _ _ _ h
    · rename_i hc
      split
      · rename_i e
        rw [e] at ha
        exact State.refuse_keeps _ _ _ _ ha
      · rename_i s1 e
        rw [e] at ha hs
        have hok : s.lifecycleOk state ((s.authBytes state auth).getD []) = true := by
          by_contra hn
          rw [if_neg hn] at hc
          cases hc
        have hl : lcLegal s.sec.lcs (some (s1.openFor hd 0x0605, state, (s.authBytes state auth).getD [])) = true ∨ ¬ s.sec.lcs ≤ 3 := by
          by_cases h3 : s.sec.lcs ≤ 3
          · left
            unfold State.lifecycleOk at hok
            simp only [lcLegal, h3, decide_true, Bool.true_and, decide_eq_true_eq]
            simp only [Bool.and_eq_true] at hok
            obtain ⟨_, hok⟩ := hok
            split at hok <;> first | contradiction | (simp_all)
          · exact .inr h3
        obtain ⟨h1, h2, h3, h4, h5, h6, h7⟩ := State.acceptLong_keeps hd 0x0605 0 [] ha
        have hsec := State.acceptLong_sec s1 hd 0x0605 0 []
        refine ⟨h1, h2, h3, h4, h5, fun hb => ?_, h7⟩
        have h6 := h6 hb
        dsimp only
        rw [hsec, show s1.sec = s.sec from hs] at h6 ⊢
        refine ⟨hl.resolve_right ?_, h6.2⟩
        simp only [lcLegal, Bool.and_eq_true, decide_eq_true_eq] at h6
        omega

theorem State.erase_keeps {b : State} {s : State} (h_s : Keeps b s) :
    Keeps b (State.erase s) := by
  unfold State.erase
  try dsimp only
  repeat' first | with_reducible assumption | simp only [↓Keeps.mk_eq, ↓Keeps.at_eq]

theorem State.leaveAll_keeps {b : State} {s : State} (h_s : Keeps b s) :
    Keeps b (State.leaveAll s) := by
  unfold State.leaveAll
  try dsimp only
  repeat' first | with_reducible assumption | with_reducible apply State.drain_keeps | simp only [↓Keeps.mk_eq, ↓Keeps.at_eq]

theorem lifecycleFusesWrittenCmd_keeps {b : State} (verified : Bool) {s : State} (h : Keeps b s) :
    Keeps b (lifecycleFusesWrittenCmd verified s) := by
  unfold lifecycleFusesWrittenCmd
  split
  · exact h
  · rename_i own state bs e
    refine Keeps.ite h ?_
    have hk : Keeps b { s with sec := { s.sec with setOwn := none, lcs := state, debugKey := if state = 1 then some bs else s.sec.debugKey } } := by
      obtain ⟨h1, h2, h3, h4, h5, h6, h7⟩ := h
      refine ⟨h1, h2, h3, h4, h5, fun hb => ?_, h7⟩
      have h6 := h6 hb
      rw [e] at h6
      simp only [lcLegal, Bool.and_eq_true, decide_eq_true_eq, List.mem_cons, Prod.mk.injEq, List.not_mem_nil, or_false] at h6
      show lcLegal state none = true ∧ b.sec.lcs ≤ state
      simp only [lcLegal, Bool.and_true, decide_eq_true_eq]
      omega
    have hf := State.finalPlain_keeps own St.ok (State.evDebug_keeps none 10 (State.endSession_keeps hk))
    exact Keeps.ite (State.bootFrom_keeps 7 (State.erase_keeps (State.leaveAll_keeps hf))) hf

/-! ## Replay -/

theorem State.dropBad_keeps {b : State} {s : State} (b_ : _) (h_s : Keeps b s) :
    Keeps b (State.dropBad s b_) := by
  unfold State.dropBad
  try dsimp only
  repeat' first | with_reducible assumption | with_reducible apply Keeps.ite | with_reducible apply State.bumpFld_keeps | with_reducible apply State.setBank_keeps | with_reducible apply State.bankFault_keeps | split

theorem State.restoreSetup_keeps {b : State} {s : State} (n : _) (r : _) (h_s : Keeps b s) :
    Keeps b (State.restoreSetup s n r) := by
  unfold State.restoreSetup
  try dsimp only
  repeat' first | with_reducible assumption | with_reducible apply State.setReg_keeps

theorem State.rewriteOwed_keeps {b : State} {s : State} (r : _) (h_s : Keeps b s) :
    Keeps b (State.rewriteOwed s r) := by
  unfold State.rewriteOwed
  try dsimp only
  repeat' first | with_reducible assumption | with_reducible apply State.memWr_keeps | with_reducible apply State.rebuildResult_keeps

theorem State.restoreRing_keeps {b : State} {s : State} (j : _) (db : _) (n : _) (h_s : Keeps b s) :
    Keeps b (State.restoreRing s j db n) := by
  unfold State.restoreRing
  try dsimp only
  repeat' first | with_reducible assumption | with_reducible apply Keeps.ite | with_reducible apply Keeps.foldl | with_reducible apply State.rewriteOwed_keeps | with_reducible apply State.setRing_keeps | simp only [↓Keeps.mk_eq, ↓Keeps.at_eq] | intro _ _ _ | intro _ _ | split

theorem State.keepMoves_keeps {b : State} {s : State} (j : _) (a : _) (h_s : Keeps b s) :
    Keeps b (State.keepMoves s j a) := by
  unfold State.keepMoves
  try dsimp only
  repeat' first | with_reducible assumption | with_reducible apply Keeps.ite | with_reducible apply State.modAxis_keeps | simp only [↓Keeps.mk_eq, ↓Keeps.at_eq] | intro _ _ _ | intro _ _

theorem State.keepGroup_keeps {b : State} {s : State} (j : _) (g : _) (h_s : Keeps b s) :
    Keeps b (State.keepGroup s j g) := by
  unfold State.keepGroup
  try dsimp only
  repeat' first | with_reducible assumption | with_reducible apply Keeps.ite | with_reducible apply State.setGroup_keeps | simp only [↓Keeps.mk_eq, ↓Keeps.at_eq] | intro _ _ _ | intro _ _

theorem State.replayOpen_keeps {b : State} {s : State} (j : _) (r : _) (h_s : Keeps b s) :
    Keeps b (State.replayOpen s j r) := by
  unfold State.replayOpen
  try dsimp only
  repeat' first | with_reducible assumption | with_reducible apply Keeps.ite | with_reducible apply State.post_keeps | with_reducible apply State.bumpFld_keeps | with_reducible apply State.setRing_keeps | simp only [↓Keeps.mk_eq, ↓Keeps.at_eq]

theorem journalReplayCmd_keeps {b : State} {s : State} (h_s : Keeps b s) :
    Keeps b (journalReplayCmd s) := by
  unfold journalReplayCmd
  try dsimp only
  repeat' first | with_reducible assumption | with_reducible apply Keeps.ite | with_reducible apply Keeps.foldl | with_reducible apply State.dropBad_keeps | with_reducible apply State.ev_keeps | with_reducible apply State.evC_keeps | with_reducible apply State.keepGroup_keeps | with_reducible apply State.keepMoves_keeps | with_reducible apply State.loadStore_keeps | with_reducible apply State.replayOpen_keeps | with_reducible apply State.restoreRing_keeps | with_reducible apply State.restoreSetup_keeps | with_reducible apply State.writeRecord_keeps | simp only [↓Keeps.mk_eq, ↓Keeps.at_eq] | intro _ _ _ | intro _ _

theorem State.releaseRest_keeps {b s : State} (ring : Nat) (kept l : List OutRec) (h : Keeps b s) :
    Keeps b (State.releaseRest s ring kept l) := by
  induction l generalizing s kept with
  | nil =>
    unfold State.releaseRest
    simp only [↓Keeps.mk_eq, ↓Keeps.at_eq]
    exact h
  | cons r l ih =>
    unfold State.releaseRest
    refine Keeps.ite (ih _ h) (Keeps.ite ?_ (ih _ (State.bumpFld_keeps _ _ _ _ (State.post_keeps _ h))))
    simp only [↓Keeps.mk_eq, ↓Keeps.at_eq]
    exact h

theorem replayFinalReleaseCmd_keeps {b : State} (ring : _) {s : State} (h_s : Keeps b s) :
    Keeps b (replayFinalReleaseCmd ring s) := by
  unfold replayFinalReleaseCmd
  try dsimp only
  repeat' first | with_reducible assumption | with_reducible apply Keeps.ite | with_reducible apply State.post_keeps | with_reducible apply State.bumpFld_keeps | with_reducible apply State.modAxis_keeps | with_reducible apply State.releaseRest_keeps | split

/-! ## Poll -/

theorem State.advance_keeps {b : State} {s : State} (n : _) (k : _) (wasSeq : _) (h_s : Keeps b s) :
    Keeps b (State.advance s n k wasSeq) := by
  unfold State.advance
  try dsimp only
  repeat' first | with_reducible assumption | with_reducible apply Keeps.ite | with_reducible apply State.setRing_keeps | simp only [↓Keeps.mk_eq, ↓Keeps.at_eq] | intro _ _ _ | intro _ _

theorem hostRun_keeps {b s : State} {hd : Hdr} {op : Nat} {img : List Byte} {run : State → State}
    (e : hostRun hd op img = some run) (h : Keeps b s) : Keeps b (run s) := by
  unfold hostRun at e
  dsimp only at e
  split at e
  all_goals first
    | cases e
    | skip
  all_goals first
    | (with_reducible apply nopCmd_keeps; exact h)
    | (with_reducible apply fenceCmd_keeps; exact h)
    | (with_reducible apply queryCmd_keeps; exact h)
    | (with_reducible apply moveCmd_keeps; exact h)
    | (with_reducible apply stopCmd_keeps; exact h)
    | (with_reducible apply resumeCmd_keeps; exact h)
    | (with_reducible apply flushCmd_keeps; exact h)
    | (with_reducible apply setLimitsCmd_keeps; exact h)
    | (with_reducible apply setVelocityCmd_keeps; exact h)
    | (with_reducible apply setCurrentCmd_keeps; exact h)
    | (with_reducible apply axisEnableCmd_keeps; exact h)
    | (with_reducible apply axisDisableCmd_keeps; exact h)
    | (with_reducible apply faultClearCmd_keeps; exact h)
    | (with_reducible apply groupMoveCmd_keeps; exact h)
    | (with_reducible apply groupStopCmd_keeps; exact h)
    | (with_reducible apply groupResumeCmd_keeps; exact h)
    | (with_reducible apply groupFlushCmd_keeps; exact h)
    | (with_reducible apply gearEngageCmd_keeps; exact h)
    | (with_reducible apply camEngageCmd_keeps; exact h)
    | (with_reducible apply decoupleCmd_keeps; exact h)
    | (with_reducible apply homeCmd_keeps; exact h)
    | (with_reducible apply stageWriteCmd_keeps; exact h)
    | (with_reducible apply stageCheckCmd_keeps; exact h)
    | (with_reducible apply stageCommitCmd_keeps; exact h)
    | (with_reducible apply stageDiscardCmd_keeps; exact h)
    | (with_reducible apply paramWriteCmd_keeps; exact h)
    | (with_reducible apply paramReadCmd_keeps; exact h)
    | (with_reducible apply sigStatusCmd_keeps; exact h)
    | (with_reducible apply bbNodeInfoCmd_keeps; exact h)
    | (with_reducible apply bbReleaseCmd_keeps; exact h)
    | (with_reducible apply bbFoghornCmd_keeps; exact h)
    | (with_reducible apply bbFogClearCmd_keeps; exact h)
    | (with_reducible apply acqArmCmd_keeps; exact h)
    | (with_reducible apply acqDisarmCmd_keeps; exact h)
    | (with_reducible apply injectCmd_keeps; exact h)
    | (with_reducible apply injectStopCmd_keeps; exact h)
    | (with_reducible apply traceFreezeCmd_keeps; exact h)
    | (with_reducible apply traceReadCmd_keeps; exact h)
    | (with_reducible apply loadIdentCmd_keeps; exact h)
    | (with_reducible apply safLoadCmd_keeps; exact h)
    | (with_reducible apply safConfirmCmd_keeps; exact h)
    | (with_reducible apply safAckCmd_keeps; exact h)
    | (with_reducible apply safStatusCmd_keeps; exact h)
    | (with_reducible apply fwUpdateCmd_keeps; exact h)
    | (with_reducible apply powerStateCmd_keeps; exact h)
    | (with_reducible apply jnlStatusCmd_keeps; exact h)
    | (with_reducible apply logReadCmd_keeps; exact h)
    | (with_reducible apply lifecycleSetCmd_keeps; exact h)

theorem State.runDesc_keeps {b s : State} (hd : Hdr) (op : Nat) (bad : Bool) (img : List Byte) (h : Keeps b s) :
    Keeps b (s.runDesc hd op bad img) := by
  unfold State.runDesc
  refine Keeps.ite (State.refuse_keeps _ _ _ _ h) ?_
  split
  · exact hostRun_keeps (by assumption) h
  · exact State.refuse_keeps _ _ _ _ h

def turnKeeps (b : State) : Turn → Prop
  | .taken s _ => Keeps b s
  | .stopped s => Keeps b s

theorem turnKeeps.ite {b : State} {c : Prop} [Decidable c] {x y : Turn} (h1 : turnKeeps b x) (h2 : turnKeeps b y) :
    turnKeeps b (if c then x else y) := by
  split <;> assumption

theorem State.turn_keeps {b s : State} (n cls : Nat) (x : Budget) (h : Keeps b s) : turnKeeps b (s.turn n cls x) := by
  unfold State.turn
  dsimp only
  refine turnKeeps.ite h ?_
  split
  · exact State.evC_keeps _ _ _ h
  · refine turnKeeps.ite (State.setBit_keeps _ _ _ h) (turnKeeps.ite h ?_)
    split
    · exact State.evC_keeps _ _ _ h
    · have hr := fun hd op bad img => State.runDesc_keeps (s := s) hd op bad img h
      exact turnKeeps.ite (State.setBit_keeps _ _ _ (hr _ _ _ _))
        (turnKeeps.ite (State.setBit_keeps _ _ _ h) (State.advance_keeps _ _ _ (hr _ _ _ _)))

theorem State.turn_taken {b s t : State} {n cls : Nat} {x y : Budget} (h : Keeps b s) (e : s.turn n cls x = .taken t y) : Keeps b t := by
  have h := State.turn_keeps n cls x h
  rw [e] at h
  exact h

theorem State.turn_stopped {b s t : State} {n cls : Nat} {x : Budget} (h : Keeps b s) (e : s.turn n cls x = .stopped t) : Keeps b t := by
  have h := State.turn_keeps n cls x h
  rw [e] at h
  exact h

theorem serve_keeps {b : State} (cls fuel : Nat) (l : List Nat) {s : State} (x : Budget) (h : Keeps b s) :
    Keeps b (serve cls fuel l s x).1 := by
  induction fuel generalizing l s x with
  | zero => exact h
  | succ fuel ih =>
    cases l with
    | nil => exact h
    | cons n rest =>
      unfold serve
      split
      · exact ih _ _ (State.turn_stopped h (by assumption))
      · refine ih _ _ ?_
        simp only [↓Keeps.mk_eq, ↓Keeps.at_eq]
        exact State.turn_taken h (by assumption)

theorem serve_of {b t : State} (cls fuel : Nat) (l : List Nat) {s : State} {x y : Budget} (h : Keeps b s)
    (e : serve cls fuel l s x = (t, y)) : Keeps b t := by
  have h := serve_keeps cls fuel l x h
  rw [e] at h
  exact h

theorem State.intake_keeps {b : State} {s : State} (h_s : Keeps b s) :
    Keeps b (State.intake s) := by
  unfold State.intake
  try dsimp only
  repeat' first | with_reducible assumption | with_reducible apply Keeps.ite | with_reducible apply serve_keeps | refine serve_of ?_ (by assumption) | split

theorem State.ringIndices_keeps {b : State} {s : State} (bs : _) (n : _) (h_s : Keeps b s) :
    Keeps b (State.ringIndices s bs n) := by
  unfold State.ringIndices
  try dsimp only
  repeat' first | with_reducible assumption | with_reducible apply Keeps.ite | with_reducible apply State.setBit_keeps | with_reducible apply State.setRing_keeps | with_reducible apply State.evC_keeps

theorem State.eventIndices_keeps {b : State} {s : State} (bs : _) (h_s : Keeps b s) :
    Keeps b (State.eventIndices s bs) := by
  unfold State.eventIndices
  try dsimp only
  repeat' first | with_reducible assumption | simp only [↓Keeps.mk_eq, ↓Keeps.at_eq]

theorem doorbellPollCmd_keeps {b : State} {s : State} (h_s : Keeps b s) :
    Keeps b (doorbellPollCmd s) := by
  unfold doorbellPollCmd
  try dsimp only
  repeat' first | with_reducible assumption | with_reducible apply Keeps.ite | with_reducible apply Keeps.foldl | with_reducible apply State.intake_keeps | with_reducible apply State.drainEvents_keeps | with_reducible apply State.eventIndices_keeps | with_reducible apply State.memWr_keeps | with_reducible apply State.ringIndices_keeps | with_reducible apply State.evC_keeps | with_reducible apply State.drain_keeps | simp only [↓Keeps.mk_eq, ↓Keeps.at_eq] | intro _ _ _ | intro _ _ | split

/-! ## Registers -/

theorem State.writePlain_keeps {b : State} {s : State} (off : _) (v : _) (h_s : Keeps b s) :
    Keeps b (State.writePlain s off v) := by
  unfold State.writePlain
  try dsimp only
  repeat' first | with_reducible assumption | with_reducible apply Keeps.ite | with_reducible apply State.setReg_keeps | split

theorem State.setHold_keeps {b : State} {s : State} (lo : _) (h0 : _) (h_s : Keeps b s) :
    Keeps b (State.setHold s lo h0) := by
  unfold State.setHold
  try dsimp only
  repeat' first | with_reducible assumption | simp only [↓Keeps.mk_eq, ↓Keeps.at_eq]

theorem State.commitHi_keeps {b : State} {s : State} (lo : _) (w : _) (v : _) (h_s : Keeps b s) :
    Keeps b (State.commitHi s lo w v) := by
  unfold State.commitHi
  try dsimp only
  repeat' first | with_reducible assumption | with_reducible apply Keeps.ite | with_reducible apply State.commitWide_keeps | with_reducible apply State.holdStep_keeps | with_reducible apply compareValCommitCmd_keeps | simp only [↓Keeps.mk_eq, ↓Keeps.at_eq]

theorem State.writeWide_keeps {b : State} {s : State} (d : _) (off : _) (v : _) (h_s : Keeps b s) :
    Keeps b (State.writeWide s d off v) := by
  unfold State.writeWide
  try dsimp only
  repeat' first | with_reducible assumption | with_reducible apply State.commitHi_keeps | with_reducible apply State.setHold_keeps | split

theorem State.writeGated_keeps {b : State} {s : State} (off : _) (v : _) (free : _) (subj : _) (h_s : Keeps b s) :
    Keeps b (State.writeGated s off v free subj) := by
  unfold State.writeGated
  try dsimp only
  repeat' first | with_reducible assumption | with_reducible apply Keeps.ite | with_reducible apply State.gated_keeps | with_reducible apply State.writePlain_keeps

theorem State.writeMsixCtl_keeps {b : State} {s : State} (n : _) (v : _) (h_s : Keeps b s) :
    Keeps b (State.writeMsixCtl s n v) := by
  unfold State.writeMsixCtl
  try dsimp only
  repeat' first | with_reducible assumption | with_reducible apply Keeps.ite | with_reducible apply State.setBit_keeps | with_reducible apply State.writePlain_keeps | with_reducible apply State.signalVec_keeps

theorem State.writeHif_keeps {b : State} {s : State} (off : _) (v : _) (h_s : Keeps b s) :
    Keeps b (State.writeHif s off v) := by
  unfold State.writeHif
  try dsimp only
  repeat' first | with_reducible assumption | with_reducible apply Keeps.ite | with_reducible apply State.writePlain_keeps | with_reducible apply hifWakeCmd_keeps | with_reducible apply State.writeSnapCfg_keeps | with_reducible apply State.writeGated_keeps | with_reducible apply State.writeCqCfg_keeps | with_reducible apply State.writeErCfg_keeps | with_reducible apply State.writeMsixCtl_keeps

theorem State.disciplineChange_keeps {b : State} {before : State} {s : State} (h_s : Keeps b before) (h_s : Keeps b s) :
    Keeps b (State.disciplineChange before s) := by
  unfold State.disciplineChange
  try dsimp only
  repeat' first | with_reducible assumption | with_reducible apply Keeps.ite | with_reducible apply State.setBit_keeps | with_reducible apply State.setTimIncr_keeps | simp only [↓Keeps.mk_eq, ↓Keeps.at_eq]

theorem State.writeTim_keeps {b : State} {s : State} (off : _) (v : _) (h_s : Keeps b s) :
    Keeps b (State.writeTim s off v) := by
  unfold State.writeTim
  try dsimp only
  repeat' first | with_reducible assumption | with_reducible apply Keeps.ite | with_reducible apply State.disciplineChange_keeps | with_reducible apply State.writePlain_keeps

theorem State.writePwm_keeps {b : State} {s : State} (off : _) (v : _) (h_s : Keeps b s) :
    Keeps b (State.writePwm s off v) := by
  unfold State.writePwm
  try dsimp only
  repeat' first | with_reducible assumption | with_reducible apply Keeps.ite | with_reducible apply State.chopFollow_keeps | with_reducible apply State.writePlain_keeps | with_reducible apply manualTripleWriteCmd_keeps | with_reducible apply tripClearCmd_keeps

theorem State.writeFbk_keeps {b : State} {s : State} (off : _) (v : _) (h_s : Keeps b s) :
    Keeps b (State.writeFbk s off v) := by
  unfold State.writeFbk
  try dsimp only
  repeat' first | with_reducible assumption | with_reducible apply Keeps.ite | with_reducible apply State.writePlain_keeps | with_reducible apply latchArmCmd_keeps

theorem State.writeAdc_keeps {b : State} {s : State} (off : _) (v : _) (h_s : Keeps b s) :
    Keeps b (State.writeAdc s off v) := by
  unfold State.writeAdc
  try dsimp only
  repeat' first | with_reducible assumption | with_reducible apply Keeps.ite | with_reducible apply State.adcGainChange_keeps | with_reducible apply State.writePlain_keeps | with_reducible apply State.evBadReg_keeps

theorem State.writeDio_keeps {b : State} {s : State} (off : _) (v : _) (h_s : Keeps b s) :
    Keeps b (State.writeDio s off v) := by
  unfold State.writeDio
  try dsimp only
  repeat' first | with_reducible assumption | with_reducible apply Keeps.ite | with_reducible apply dioTestCmd_keeps | with_reducible apply State.writePlain_keeps | with_reducible apply fieldOutputWriteCmd_keeps

theorem State.writeCan_keeps {b : State} {s : State} (off : _) (v : _) (h_s : Keeps b s) :
    Keeps b (State.writeCan s off v) := by
  unfold State.writeCan
  try dsimp only
  repeat' first | with_reducible assumption | with_reducible apply Keeps.ite | with_reducible apply canTxreqCmd_keeps | with_reducible apply State.writePlain_keeps | with_reducible apply canInitWriteCmd_keeps | with_reducible apply State.evBadReg_keeps

theorem State.writeOpen_keeps {b : State} {s : State} (off : _) (v : _) (h_s : Keeps b s) :
    Keeps b (State.writeOpen s off v) := by
  unfold State.writeOpen
  try dsimp only
  repeat' first | with_reducible assumption | with_reducible apply Keeps.ite | with_reducible apply sysRestartCmd_keeps | with_reducible apply State.writeTim_keeps | with_reducible apply State.writeWide_keeps | with_reducible apply State.writeHif_keeps | with_reducible apply State.writePlain_keeps | with_reducible apply State.writeDio_keeps | with_reducible apply State.writeCan_keeps | with_reducible apply State.writeAdc_keeps | with_reducible apply dbgCtlWriteCmd_keeps | with_reducible apply State.writePwm_keeps | with_reducible apply State.writeFbk_keeps | split

theorem State.writeReg_keeps {b : State} {s : State} (off : _) (v : _) (h_s : Keeps b s) :
    Keeps b (State.writeReg s off v) := by
  unfold State.writeReg
  try dsimp only
  repeat' first | with_reducible assumption | with_reducible apply Keeps.ite | with_reducible apply State.writeOpen_keeps | with_reducible apply sysBootGoCmd_keeps | with_reducible apply State.writePlain_keeps | with_reducible apply hifWakeCmd_keeps | with_reducible apply dbgCtlWriteCmd_keeps

theorem registerWriteCmd_keeps {b : State} (off : _) (v : _) {s : State} (h_s : Keeps b s) :
    Keeps b (registerWriteCmd off v s) := by
  unfold registerWriteCmd
  try dsimp only
  repeat' first | with_reducible assumption | with_reducible apply Keeps.ite | with_reducible apply State.writeReg_keeps

theorem hiRegisterWriteCmd_keeps {b : State} (off : _) (v : _) {s : State} (h_s : Keeps b s) :
    Keeps b (hiRegisterWriteCmd off v s) := by
  unfold hiRegisterWriteCmd
  try dsimp only
  repeat' first | with_reducible assumption | with_reducible apply Keeps.ite | with_reducible apply State.writeWide_keeps | split

theorem bar2ReadCmd_keeps {b : State} (off : _) (size : _) {s : State} (h_s : Keeps b s) :
    Keeps b (bar2ReadCmd off size s) := by
  unfold bar2ReadCmd
  try dsimp only
  repeat' first | with_reducible assumption | with_reducible apply Keeps.ite | with_reducible apply Keeps.foldl | simp only [↓Keeps.mk_eq, ↓Keeps.at_eq] | intro _ _ _ | intro _ _

theorem State.bar2Word_keeps {b : State} {s : State} (w : _) (b_ : _) (h_s : Keeps b s) :
    Keeps b (State.bar2Word s w b_) := by
  unfold State.bar2Word
  try dsimp only
  repeat' first | with_reducible assumption | with_reducible apply Keeps.ite | with_reducible apply State.localSig_keeps | with_reducible apply State.evBadReg_keeps | simp only [↓Keeps.mk_eq, ↓Keeps.at_eq] | split

theorem bar2WriteCmd_keeps {b : State} (off : _) (size : _) (v : _) {s : State} (h_s : Keeps b s) :
    Keeps b (bar2WriteCmd off size v s) := by
  unfold bar2WriteCmd
  try dsimp only
  repeat' first | with_reducible assumption | with_reducible apply Keeps.ite | with_reducible apply Keeps.foldl | with_reducible apply State.bar2Word_keeps | simp only [↓Keeps.mk_eq, ↓Keeps.at_eq] | intro _ _ _ | intro _ _ | split

theorem State.tdoData_keeps {b : State} {s : State} (on : _) (h_s : Keeps b s) :
    Keeps b (State.tdoData s on) := by
  unfold State.tdoData
  try dsimp only
  repeat' first | with_reducible assumption | with_reducible apply State.freeW_keeps | refine State.freeW_of ?_ (by assumption) | simp only [↓Keeps.mk_eq, ↓Keeps.at_eq] | split

theorem State.readEngine_keeps {b : State} {s : State} (e : _) (w : _) (h_s : Keeps b s) :
    Keeps b (State.readEngine s e w) := by
  unfold State.readEngine
  try dsimp only
  repeat' first | with_reducible assumption | with_reducible apply State.tdoData_keeps | simp only [↓Keeps.mk_eq, ↓Keeps.at_eq] | split

theorem State.writeEngine_keeps {b : State} {s : State} (e : _) (w : _) (v : _) (h_s : Keeps b s) :
    Keeps b (State.writeEngine s e w v) := by
  unfold State.writeEngine
  try dsimp only
  repeat' first | with_reducible assumption | with_reducible apply Keeps.ite | simp only [↓Keeps.mk_eq, ↓Keeps.at_eq]

theorem State.dbgServe_keeps {b : State} {s : State} (r : _) (h_s : Keeps b s) :
    Keeps b (State.dbgServe s r) := by
  unfold State.dbgServe
  try dsimp only
  repeat' first | with_reducible assumption | with_reducible apply State.haltEngine_keeps | with_reducible apply State.readEffect_keeps | with_reducible apply State.readEngine_keeps | with_reducible apply State.readReg_keeps | with_reducible apply State.resumeEngine_keeps | with_reducible apply State.tdoData_keeps | with_reducible apply State.writeEngine_keeps | with_reducible apply State.writeReg_keeps | simp only [↓Keeps.mk_eq, ↓Keeps.at_eq] | split

theorem dbgAccessCmd_keeps {b : State} (r : _) {s : State} (h_s : Keeps b s) :
    Keeps b (dbgAccessCmd r s) := by
  unfold dbgAccessCmd
  try dsimp only
  repeat' first | with_reducible assumption | with_reducible apply Keeps.ite | with_reducible apply State.openByAccess_keeps | with_reducible apply State.dbgRefuse_keeps | with_reducible apply State.dbgServe_keeps | simp only [↓Keeps.mk_eq, ↓Keeps.at_eq] | split

end Sys2Proof.Laws
end

