-- ==== Sys2Proof/WellFormed.lean ====
section
/-!
DEFINITION. Which command terms the interfaces of the block can carry: every operand within the field of the spec that holds it
(the image fields of R346 and R356, the 72-bit and H36 formats of R6 and R10, the numbers of axes, ports, lanes, channels and
engines). A meaning is total on ill-formed terms as well; nothing is assumed of them.
-/

namespace Sys2Proof

/-- `x` fits an unsigned field of `n` bits. -/
def fitsU (n x : Nat) : Bool := decide (x < 2 ^ n)

/-- `x` fits a two's-complement field of `n` bits. -/
def fitsS (n : Nat) (x : Int) : Bool := decide (-(2 ^ (n - 1) : Int) ≤ x) && decide (x < 2 ^ (n - 1))

/-- A host address or handle of 8 bytes. -/
def isWord64 (x : Nat) : Bool := fitsU 64 x

/-- A quantity of one of the 72-bit formats (R10). -/
def isQ72 (x : Int) : Bool := fitsS 72 x

/-- Command header (R346): the ring that carries it, and the widths of the image's fields. -/
def Hdr.wellFormed (h : Hdr) : Bool :=
  fitsU 4 h.ring && fitsU 8 h.nslot && fitsU 8 h.dflags && fitsU 16 h.subj && fitsU 16 h.zero && fitsU 64 h.tag

def isAxis (a : Nat) : Bool := decide (a < 128)
def isNode (n : Nat) : Bool := decide (n < 256)
def isPort (k : Nat) : Bool := decide (k < 4)
def isEngine (e : Nat) : Bool := decide (e < 12)
def isT72 (t : Nat) : Bool := fitsU 72 t
def isReg (off : Nat) : Bool := decide (off < 2 ^ 16) && decide (off % 4 = 0)

def FbEdge.wellFormed (e : FbEdge) : Bool := decide (e.port < 4)

def PinRun.wellFormed (r : PinRun) : Bool := r.edges.all FbEdge.wellFormed

def Phi0Sample.wellFormed (x : Phi0Sample) : Bool :=
  x.pins.wellFormed && decide (x.sin.length = 4) && decide (x.cos.length = 4) && decide (x.chopShare.length = 4) &&
    decide (x.sdm.length = 16) && x.sdm.all (fitsS 37) && x.chopShare.all (fun n => decide (n ≤ 2 ^ 16))

/-- A signal block of R309 carries as many values as its kind says: two words per string, else one per signal. -/
def SigBlock.wellFormed (b : SigBlock) : Bool :=
  fitsU 14 b.block && fitsU 3 b.kind && decide (b.count ≤ 64) && fitsU 8 b.bseq &&
    decide (b.payload.length = if b.kind = 4 then 2 * b.count else b.count)

def GEntry.wellFormed (e : GEntry) : Bool :=
  isNode e.node && fitsU 8 e.axis && fitsU 16 e.eflags && fitsU 32 e.estat && isQ72 e.pos && fitsS 36 e.iu && fitsS 36 e.iv &&
    fitsS 36 e.udc

def SafetyPdu.wellFormed (p : SafetyPdu) : Bool :=
  fitsU 32 p.connId && fitsU 16 p.seq && fitsU 8 p.pkind && fitsU 8 p.len && fitsU 32 p.cycle && isQ72 p.pos

def SEntry.wellFormed (e : SEntry) : Bool :=
  isNode e.node && fitsU 8 e.axis && fitsU 2 e.react && fitsU 8 e.seq && decide (e.d.length = 3) && e.d.all (fitsS 36)

def Container.wellFormed (c : Container) : Bool := isNode c.node && c.pdu.wellFormed

/-- The fields of the trailer (R297). -/
def Trailer.wellFormed (t : Trailer) : Bool := fitsU 32 t.crc && fitsU 16 t.errNode && fitsU 8 t.errCnt

def Ends.wellFormed (e : Ends) : Bool := fitsU 8 e.ver && fitsU 16 e.len8 && e.tail.wellFormed

/-- The fields of the cycle header (R300). -/
def CycleHeader.wellFormed (h : CycleHeader) : Bool :=
  fitsU 8 h.ftype && fitsU 8 h.ver && fitsU 16 h.len8 && fitsU 32 h.cycle && fitsS 64 h.corr && fitsU 2 h.lane && fitsU 2 h.conductor &&
    fitsU 16 h.turn && fitsU 32 h.schedGen && fitsU 16 h.entries && fitsU 16 h.sig8 && fitsU 16 h.safe && fitsU 16 h.mgmt8 &&
    isWord64 h.condUid && fitsU 16 h.fogNode

def FlashIn.wellFormed (f : FlashIn) : Bool :=
  isT72 f.tx && isT72 f.rx && isT72 f.epoch && fitsU 32 f.nE && fitsU 8 f.rung && fitsU 8 f.nextRung && fitsU 32 f.nextCycle &&
    isWord64 f.lanternUid

def ControlArea.wellFormed (c : ControlArea) : Bool :=
  isWord64 c.ackUid && fitsU 16 c.ackNode && fitsU 8 c.ackCode && fitsU 8 c.quarKind && fitsU 16 c.quarNode && isWord64 c.quarUid &&
    fitsU 32 c.commitCycle && fitsU 32 c.commitGen && fitsU 32 c.ringCloseCycle && fitsU 32 c.fogClrSeq

def ScheduleRec.wellFormed (r : ScheduleRec) : Bool :=
  fitsU 16 r.dest && fitsU 32 r.gen && fitsU 16 r.part && fitsU 16 r.parts && fitsU 16 r.gEntry && fitsU 16 r.sEntry &&
    fitsU 8 r.nEntry && fitsU 8 r.nSafe && fitsU 16 r.gSafe && fitsU 16 r.sSafe && fitsU 16 r.sflags && fitsU 16 r.blks.length

def ConfigRec.wellFormed (r : ConfigRec) : Bool :=
  fitsU 16 r.dest && fitsU 32 r.gen && fitsU 16 r.part && fitsU 16 r.parts && fitsU 16 r.items.length &&
    r.items.all (fun i => fitsU 8 i.kind && fitsU 8 i.axis && fitsU 16 i.addr && fitsU 8 i.block && fitsS 128 i.value)

def AckRec.wellFormed (r : AckRec) : Bool := isNode r.node && fitsU 32 r.gen && fitsU 8 r.result && fitsU 16 r.item

def MgmtRec.wellFormed (r : MgmtRec) : Bool :=
  match r with
  | .reply dest gen => fitsU 16 dest && fitsU 32 gen
  | .schedule r => r.wellFormed
  | .config r => r.wellFormed
  | .ack r => r.wellFormed
  | .other dest rtype gen pay => fitsU 16 dest && fitsU 8 rtype && fitsU 32 gen && decide (pay.length % 8 = 0)

/-! ### Frames (R299) -/

def GatherFrame.wellFormed (f : GatherFrame) : Bool :=
  f.hdr.wellFormed && f.flash.wellFormed && f.entries.all GEntry.wellFormed && f.blocks.all SigBlock.wellFormed &&
    f.conts.all Container.wellFormed && f.tail.wellFormed

def ScatterFrame.wellFormed (f : ScatterFrame) : Bool :=
  f.hdr.wellFormed && f.ctl.wellFormed && f.entries.all SEntry.wellFormed && f.blocks.all SigBlock.wellFormed &&
    f.conts.all Container.wellFormed && f.tail.wellFormed

def SlowFrame.wellFormed (f : SlowFrame) : Bool :=
  f.hdr.wellFormed && f.recs.all MgmtRec.wellFormed && f.blocks.all (fun b => fitsU 16 b.1 && b.2.wellFormed) && f.tail.wellFormed

def FogFrame.wellFormed (f : FogFrame) : Bool :=
  fitsU 32 f.cycle && isWord64 f.origin && fitsU 32 f.seq && fitsU 16 f.cause && fitsU 16 f.reason && f.ends.wellFormed

def ColdFrame.wellFormed (f : ColdFrame) : Bool := fitsU 8 f.rank && isWord64 f.uid && f.ends.wellFormed

def LinkFrame.wellFormed (f : LinkFrame) : Bool :=
  fitsU 8 f.seq && fitsU 16 f.node && isT72 f.t2 && isT72 f.t3 && isWord64 f.uid && f.ends.wellFormed

def FwdFrame.wellFormed (f : FwdFrame) : Bool :=
  match f with
  | .gather f => f.wellFormed
  | .scatter f => f.wellFormed
  | .slow f => f.wellFormed
  | .foghorn f => f.wellFormed
  | .coldstart f => f.wellFormed
  | .link f => f.wellFormed
  | .other _ => true

def CanFrame.wellFormed (f : CanFrame) : Bool :=
  fitsU (if f.ide then 29 else 11) f.ident && fitsU 4 f.dlc && decide (f.data.length ≤ if f.fdf then 64 else 8)

def Instr.wellFormed : Instr → Bool
  | .nop h | .stop h | .resume h | .flush h | .axisEnable h | .axisDisable h | .faultClear h | .groupStop h | .groupResume h
  | .groupFlush h | .home h | .bbRelease h | .bbFogClear h | .acqDisarm h | .injectStop h | .traceFreeze h | .safAck h =>
    h.wellFormed
  | .fence h mask mode => h.wellFormed && fitsU 16 mask && fitsU 8 mode
  | .query h handle buf => h.wellFormed && isWord64 handle && isWord64 buf
  | .move h flags target v a j => h.wellFormed && isWord64 flags && isQ72 target && isQ72 v && isQ72 a && isQ72 j
  | .setLimits h v a j => h.wellFormed && isQ72 v && isQ72 a && isQ72 j
  | .setVelocity h v => h.wellFormed && isQ72 v
  | .setCurrent h iq => h.wellFormed && fitsS 36 iq
  | .groupMove h list => h.wellFormed && isWord64 list
  | .gearEngage h mkind master num den b =>
    h.wellFormed && fitsU 8 mkind && fitsU 32 master && fitsS 64 num && fitsS 64 den && isQ72 b
  | .camEngage h mkind table master mOrg offset scale b =>
    h.wellFormed && fitsU 8 mkind && fitsU 8 table && fitsU 32 master && isQ72 mOrg && isQ72 offset && isQ72 scale && isQ72 b
  | .decouple h mode b => h.wellFormed && fitsU 8 mode && isQ72 b
  | .stageWrite h set addr len => h.wellFormed && fitsU 8 set && isWord64 addr && isWord64 len
  | .stageCheck h set | .stageDiscard h set => h.wellFormed && fitsU 8 set
  | .stageCommit h set cycle => h.wellFormed && fitsU 8 set && fitsU 32 cycle
  | .paramWrite h count writes =>
    h.wellFormed && isWord64 count && decide (writes.length = min count 9) &&
      writes.all (fun w => isWord64 w.1 && isQ72 w.2)
  | .paramRead h pn count buf => h.wellFormed && isWord64 pn && isWord64 count && isWord64 buf
  | .sigStatus h block count buf => h.wellFormed && isWord64 block && isWord64 count && isWord64 buf
  | .bbNodeInfo h buf | .safStatus h buf | .jnlStatus h buf => h.wellFormed && isWord64 buf
  | .bbFoghorn h reason => h.wellFormed && fitsU 16 reason
  | .acqArm h cfg | .inject h cfg => h.wellFormed && isWord64 cfg
  | .traceRead h buf len => h.wellFormed && isWord64 buf && isWord64 len
  | .loadIdent h steps iTest vTest => h.wellFormed && isWord64 steps && isQ72 iTest && isQ72 vTest
  | .safLoad h addr len | .fwUpdate h addr len => h.wellFormed && isWord64 addr && isWord64 len
  | .safConfirm h check => h.wellFormed && fitsU 32 check
  | .powerState h state => h.wellFormed && fitsU 8 state
  | .logRead h start count buf => h.wellFormed && isWord64 start && isWord64 count && isWord64 buf
  | .lifecycleSet h state auth => h.wellFormed && fitsU 8 state && isWord64 auth
  | .axisEnableEffect a | .loopCriticalPart a | .criticalPartOverrun a | .loopBackgroundPart a | .traceAutoFreeze a
  | .standstillReached a | .qstopTimeout a | .tstopTimeout a | .streamLost a | .profileMiss a | .homingStallDetected a
  | .nodeScatterMiss a | .injectionEnd a | .flyingStartTakeover a | .axisThermalUpdate a _ => isAxis a
  | .loadIdentStepEnd a _ x => isAxis a && x.1.all (fitsS 37) && x.2.all (fitsS 37)
  | .flyingStartWindowEnd a us vs _ _ => isAxis a && us.all (fitsS 36) && vs.all (fitsS 36) && decide (us.length = vs.length)
  | .switchEdgeConfirmed a sw _ pos => isAxis a && decide (sw < 3) && isQ72 pos
  | .paramWriteEffect | .doorbellPoll | .hostHeartbeatLost | .eventRecordWrite | .snapshotWrite | .perstNAssert | .flashMissed
  | .lanternTakeover | .syncinMiss | .dieLinkLoss | .coldListenEnd | .coldstartSend | .contentionWindowEnd | .integrateTimeout
  | .nodeFlashTimeout | .generationAdopt | .commitApply | .commitAnswerTimeout | .paramStoreWriteDone | .journalReplay
  | .jnlRateUpdate | .xtalkFault | .rstInAck | .safetyPduExchange | .clockMonitorFail | .channelBSupplyLoss | .standbyEntry
  | .slowClockLoss | .pllSysUnlock | .backbonePllUnlock | .pciePllUnlock | .thermalRestart | .thermalStateSave | .tapReset
  | .porstNLow | .imageCheck | .sysBootGo | .bootComplete | .supervisorRestart | .supplyLowWarning | .brownOut | .pfailNAssert
  | .pfailNRelease | .syncOutPulseEnd | .channelBSupplyReturn | .slowClockRestored | .backbonePllRelock | .pciePllRelock
  | .perstNRelease | .stageCheckComplete | .safetyImageWritten | .supplyLowWarningEnd => true
  | .hifWake _ | .hifErCfgWrite _ | .hifSnapCfgWrite _ | .dbgCtlWrite _ | .sysRestart _ | .fieldOutputWrite _ _
  | .hardwareThermalShutdown _ _ | .dieLinkRetrain _ | .imageSlotWritten _ | .lifecycleFusesWritten _ => true
  | .journalRecordWrite b | .journalRecordScrub b => b.all (fitsU 1)
  | .hifCqCfgWrite n _ | .replayFinalRelease n => fitsU 4 n
  | .registerWrite off _ | .loRegisterRead off | .hiRegisterWrite off _ | .rcRegisterRead off => isReg off
  | .badRegisterAccess _ off size v =>
    decide (size ∈ [1, 2, 4, 8]) && fitsU (8 * size) v && !(decide (size = 4) && isReg off)
  | .bar2Read off size => fitsU 24 off && decide (size ∈ [1, 2, 4, 8])
  | .bar2Write off size v => fitsU 24 off && decide (size ∈ [1, 2, 4, 8]) && fitsU (8 * size) v
  | .ptmDialogue pair => pair.all (fun p => isWord64 p.1 && isT72 p.2)
  | .cyclePhi0 x => x.wellFormed
  | .budgetWindow w =>
    decide (w.lenNs ≤ 1000) && w.reqs.all (fun q => decide (q.requester < 18) && decide (2 * q.clock < w.lenNs))
  | .scrubPass _ => true
  | .gatherDeparture lane tx => isPort lane && isT72 tx
  | .gatherFrameReturn lane copies =>
    isPort lane && decide (copies.length ≤ 2) && copies.all GatherFrame.wellFormed
  | .slowFrameReturn lane copies =>
    isPort lane && decide (copies.length ≤ 2) && copies.all SlowFrame.wellFormed
  | .scatterDeparture l | .slowFrameDeparture l | .laneLinkUp l | .laneLinkDown l | .ringClose l | .linkDelayRequest l
  | .flashRelay l _ | .foghornSend l => isPort l
  | .memberLost n | .readmission n | .fogNodeRequest n => isNode n
  | .profileEvaluation pe => fitsU 1 pe
  | .flashReceived l f => isPort l && f.wellFormed
  | .syncInEdge stamp => isT72 stamp
  | .buoyFire x => fitsU 3 x.buoy && x.run.wellFormed
  | .buoyPinEnd b => fitsU 3 b
  | .linkFrameReceived x => fitsU 4 x.frame.ftype && fitsU 4 x.frame.seq
  | .linkFrame l _ seq node uid t1 t2 t3 t4 =>
    isPort l && fitsU 8 seq && fitsU 16 node && isWord64 uid.1 && uid.2.wellFormed && isT72 t1 && isT72 t2 && isT72 t3 &&
      isT72 t4
  | .coldstartFrame l rank uid => isPort l && fitsU 8 rank && isWord64 uid.1 && uid.2.wellFormed
  | .capabilityRecordReceived l _ r => isPort l && isWord64 r.uid && fitsU 8 r.nodeNo
  | .skegilIdentityRecord l _ r => isPort l && isWord64 r.uid && fitsU 8 r.nodeNo
  | .nodeFrameForward p f _ => fitsU 1 p && f.wellFormed
  | .nodeScatterReceived p f _ => fitsU 1 p && f.wellFormed
  | .scheduleRecord r => r.wellFormed
  | .configRecord r => r.wellFormed
  | .ackRecord l r => isPort l && r.wellFormed
  | .foghornFrame l uid seq cause reason cycle =>
    isPort l && isWord64 uid && fitsU 32 seq && fitsU 16 cause && fitsU 16 reason && fitsU 32 cycle.1 &&
      cycle.2.wellFormed
  | .commitReadyMiss node subj => if node then isNode subj else isEngine subj
  | .crossTalkMessage _ m => fitsU 8 m.seq
  | .stoReadbackFault _ => true
  | .switchRead a b _ => fitsU 8 a && fitsU 8 b
  | .guardPairChange _ p _ | .pairDiscrepancy p => fitsU 3 p
  | .testPulse missed => missed.all (fitsU 5)
  | .safetyEvaluation _ _ _ => true
  | .ss1End sx | .safetyWatchdogTrip sx _ => fitsU 5 sx
  | .safetyPduReceived sx _ p => fitsU 5 sx && p.wellFormed
  | .captureSample p | .peaCopyDone p => fitsU 3 p
  | .adcRegularConversion k code _ _ => isPort k && fitsS 37 code
  | .adcInjectedTrigger k src => isPort k && (match src with | .phi0 => true | .buoy b => fitsU 3 b)
  | .adcInjectedEnd k codes => isPort k && decide (codes.length ≤ 4)
  | .adcStandbyConversion _ _ _ => true
  | .illegalTransition x => isPort x.port && x.run.wellFormed
  | .indexPulse k r => isPort k && r.wellFormed
  | .emulationBacklogOverflow k | .tripInput k | .tripClear k | .manualTripleWrite k _
  | .chopperThreshold k _ | .chopperOpenDetect k _ _ | .chopperPulseEnd k _ | .tripInputInactive k | .pwmPeriodStart k => isPort k
  | .ssiFrame k _ _ => isPort k
  | .ssiLoopMeasurement k delays => isPort k && decide (delays.length = 8)
  | .compareHit k j r | .compareValCommit k j _ r => isPort k && fitsU 1 j && r.wellFormed
  | .latchArm k j _ | .comparePulseEnd k j => isPort k && fitsU 1 j
  | .latchTrigger k j r t _ => isPort k && fitsU 1 j && r.wellFormed && isT72 t
  | .sdmStuck c | .fastComparatorCrossing c _ => fitsU 4 c
  | .fieldInputChange c _ t => fitsU 5 c && isT72 t
  | .outputOverload c _ | .readbackCheck c _ => fitsU 5 c
  | .dioTest mask => fitsU 32 mask
  | .vfieldWarn v | .vfieldWarnClear v | .vfieldTrip v | .vfieldOvervoltage v | .vfieldRecover v => fitsU 16 v
  | .canInitWrite k _ | .canBusJoin k | .canTxreq k _ _ | .canBusOff k | .canBusOffRecovery k | .canSleep k | .canWake k _
  | .canBusError k _ => fitsU 1 k
  | .canFrameReceived k f t => fitsU 1 k && f.wellFormed && isT72 t
  | .canFrameSent k b t => fitsU 1 k && fitsU 6 b && isT72 t
  | .canTxFail k b cause lec => fitsU 1 k && fitsU 6 b && fitsU 8 cause && fitsU 3 lec
  | .standbyWake c => (match c with | .hifWake => true | .can k _ => fitsU 1 k | .field ch => fitsU 5 ch)
  | .dieThermalUpdate windows _ => decide (windows.length = 4)
  | .dbgAuth answer _ => answer.all (fun bs => decide (bs.length ≤ 4096))
  | .dbgAccess _ => true
  | .engineHalt e | .engineResume e => isEngine e
  | .porstNRise _ boot | .brownOutEnd _ boot => fitsU 2 boot

end Sys2Proof
end

