-- ==== Sys2Proof/Tests/Slice0.lean ====
section
/-!
SUPPORT. Tests. First small states; then ill-formed commands, which the check refuses; then values that the spec works out or states;
then, for every statement with hypotheses, a state and operands that meet them, one part per clause. The witnesses are chosen by hand
and expect nothing of the model but that the hypotheses hold.
-/

set_option Elab.async false

namespace Sys2Proof.Tests

open Sys2Proof Sys2Proof.Machine

/-! ### States the tests start from -/

/-- A header that names `subj`, on ring 0. -/
def cmd (subj : Nat) : Hdr := ⟨0, 1, 0, subj, 0, 7⟩
/-- A header of a command without a subject. -/
def cmd0 : Hdr := cmd 0xFFFF
/-- A conductor that has reached Idle. -/
def idle : State := { State.reset with pw := { boot := .up, rstoutN := true } }
/-- The same in Run, with every clock locked: the host link is up. -/
def run : State := (idle.setReg R.clkStat 0xF).setReg R.pwrState 0
/-- The integer code of a parameter. -/
def pnI (n : Int) : Int := n * 2 ^ 48
/-- An axis that is enabled at rest, its power port 0. -/
def axOn : Axis := { pn := [(Pn.powerPort, 0)], enabled := true, prof := .idle }
/-- `run` with axis 0. -/
def onAxis (x : Axis) : State := { run with axes := [(0, x)] }

/-- `run` with the host's doorbell block at 0x4000. -/
def door : State := { run with regs := [(R.dbLo, 0x4000), (R.hbCfg, 5), (R.clkStat, 0xF), (R.pwrState, 0)] }
/-- A VLN asleep in Standby. -/
def standby : State := { idle with regs := [(R.clkStat, 0xF), (R.pwrState, 2)] }

/-- A safety set with one remote axis and one guard pair. -/
def safSet : SafSet :=
  { axes := [{ axis := 0, remote := true, wd := 2, node := 4 }], pairs := [{ ch1 := 0, ch2 := 1, type := 1, tp := true, tpOut := 2 }]
    rstIn := 3, check := 9 }
/-- Both safety channels of `run` under that set, confirmed. -/
def saf : State := { run with saf := {
  chA := { running := true, sto := true }, chB := { running := true, sto := true }, sets := [(0, some safSet)]
  confirmed := [(0, some 9)], testPending := 0 } }
/-- A report of that axis on channel A. -/
def report : SafetyPdu := ⟨2, 6, 2, 24, 0, 0, 0, 5, 3, true⟩
/-- A cross-talk message. -/
def xtalk : CrossTalk := ⟨0, 0, [], [], 1, true⟩

/-- A conductor in the lead, its Lantern lit. -/
def lead : State := { run with bb := { cold := .lead, lantern := true, lanternUid := 1 } }
/-- Nothing on any port. -/
def quiet : Phi0Sample := ⟨⟨[], 0⟩, [0, 0, 0, 0], [0, 0, 0, 0], [0, 0, 0, 0], List.replicate 16 0⟩

/-- The lead with lane 0 in use and up. -/
def lane0 : State :=
  { lead with regs := [(R.clkStat, 0xF), (R.pwrState, 0), (R.bbCfg 0, 0x12C0001), (R.bbStat 0, 1)] }
/-- The header of a slow frame of `lane0`. -/
def slowHdr : CycleHeader := ⟨0x30, 1, 7, 0, 0, 0, false, 0, false, false, 0xFFFF, 0, 0, 0, 0, 0, 1, 0xFFFF⟩
/-- A trailer of no frame. -/
def noTail : Trailer := ⟨0, 0xFFFF, 0, true, 0⟩
/-- An empty slow frame of `lane0`. -/
def slowFr : SlowFrame :=
  let f : SlowFrame := { hdr := slowHdr, recs := [], blocks := [], tail := noTail }
  { f with tail := ownTail (slowBody f) }
/-- A Flash of the Lantern with UID 9. -/
def flash : FlashIn := { tx := 0, corr := 0, rx := 0, epoch := 0, nE := 0, rung := 1, nextRung := 0, nextCycle := 0xFFFFFFFF, void := false, relayed := false, syncin := false, lanternUid := 9, conductor := 0, cycle := 0, valid := true }

/-- A frame of the die-to-die link, its CRC good. -/
def dieFrame : DieFrame := ⟨2, 3, 5, 6, 7, 8, BitVec.ofNat 16 (crc16 (dieSent ⟨2, 3, 5, 6, 7, 8, 0, true⟩)), true⟩
/-- The die-to-die link of `run` up. -/
def die : State := { run with die := { up := true, fieldEnd := { up := true } } }
/-- A capability record of node 5. -/
def cap : CapRecord := ⟨1, 1, 5, 0, 77, 10, 0, 1, 2, 0, 50, 255, 0, 0, [(0, 0)], true, true⟩
/-- A Skegil identity record. -/
def skegil : SkegilRecord := ⟨2, 1, 6, 78, 1, 0, 0, true, true⟩

/-- A frame to the field die, its CRC good. -/
def toField : DieFrame := ⟨1, 3, 5, 6, 7, 8, BitVec.ofNat 16 (crc16 (dieSent ⟨1, 3, 5, 6, 7, 8, 0, true⟩)), true⟩

/-- A node that is a member on port 0. -/
def member : State :=
  { run with conductor := false, regs := [(R.clkStat, 0xF), (R.pwrState, 0), (R.bbStat 0, 1)], node := { state := .member, nodeNo := some 4 } }
/-- A gather frame that no node has filled. -/
def gatherFr : GatherFrame :=
  { hdr := { slowHdr with ftype := 0x10 }, flash := flash, entries := [], blocks := [], conts := [], join := .empty, tail := noTail }
/-- A scatter frame with an entry for axis 0 of node 4. -/
def scatterFr : ScatterFrame :=
  let f : ScatterFrame := { hdr := { slowHdr with ftype := 0x20, len8 := 17 }, ctl := ⟨0, 0, 0, 0, 0, 0, 0xFFFFFFFF, 0, 0xFFFFFFFF, 0⟩, entries := [⟨4, 0, true, false, 0, false, false, 1, [1, 2, 3]⟩], blocks := [], conts := [], tail := noTail }
  { f with tail := ownTail (scatterBody f) }
/-- A SCHEDULE record of generation 7 for node 4. -/
def sched : ScheduleRec := ⟨4, 7, 0, 1, 0, 0, 1, 0, 0, 0, 0, []⟩

/-- CAN controller 0 of `run` on the bus. -/
def bus : State := { (run.setReg (R.canCtl 0) 0) with can := [(0, { joined := true, stb := false })] }
/-- A CAN frame. -/
def canFrame : CanFrame := ⟨0x123, false, false, false, false, false, 2, [1, 2]⟩

/-- Feedback port 0 of `run` started, in mode `m`. -/
def fbOn (m : Nat) : State := (run.setReg (R.fbCfg 0) (BitVec.ofNat 32 m)).setReg (R.fbStat 0) 1

/-- A conductor whose axis 0 is in reaction QSTOP. -/
def reacting : State := onAxis { axOn with reaction := .qstop }

/-- Where a JNL_STATUS on `run` leads. -/
def jnlDone : State :=
  match exec (.jnlStatus cmd0 64) run with
  | .next t => t
  | _ => run
/-- Where the warning of a low rail on `run` leads. -/
def lowDone : State :=
  match exec .supplyLowWarning { run with pending := [.tapReset] } with
  | .next t => t
  | _ => run

/-! ### The check refuses an ill-formed command -/

/-- A header whose TAG needs 65 bits. -/
def longTag : Hdr := { cmd 0 with tag := 2 ^ 64 }

theorem test_wf_headers : ∀ c ∈ [.nop longTag, .stop { cmd 0 with subj := 0x10000 }, .resume { cmd 0 with ring := 16 },
    .flush { cmd 0 with nslot := 256 }, .axisEnable { cmd 0 with dflags := 256 }, .home { cmd 0 with zero := 0x10000 },
    .query longTag 0 64, .safConfirm longTag 0, Instr.jnlStatus longTag 64], c.wellFormed = false := by decide

theorem test_wf_host_operands : ∀ c ∈ [.fence cmd0 0x10000 0, .fence cmd0 0 256, .query cmd0 (2 ^ 64) 0, .move (cmd 0) 0 (2 ^ 71) 0 0 0,
    .move (cmd 0) 0 0 0 0 (2 ^ 71), .setLimits (cmd 0) 0 (-(2 ^ 71) - 1) 0, .setVelocity (cmd 0) (2 ^ 71), .setCurrent (cmd 0) (2 ^ 35),
    .groupMove (cmd 0) (2 ^ 64), .gearEngage (cmd 0) 256 0 1 1 0, .camEngage (cmd 0) 0 256 0 0 0 0 0, .decouple (cmd 0) 256 0,
    .stageWrite cmd0 256 0 0, .stageCheck cmd0 256, .stageCommit cmd0 0 (2 ^ 32), .paramWrite (cmd 0) 2 [(1, 0)],
    .paramRead (cmd 0) (2 ^ 64) 1 0, .sigStatus cmd0 0 1 (2 ^ 64), .bbFoghorn cmd0 0x10000, .acqArm (cmd 0) (2 ^ 64),
    .traceRead (cmd 0) 0 (2 ^ 64), .loadIdent (cmd 0) 0 (2 ^ 71) 0, .safLoad cmd0 0 (2 ^ 64), .safConfirm cmd0 (2 ^ 32),
    .powerState cmd0 256, .logRead cmd0 (2 ^ 64) 0 0, Instr.lifecycleSet cmd0 256 0], c.wellFormed = false := by decide

theorem test_wf_numbers : ∀ c ∈ [.loopCriticalPart 128, .switchEdgeConfirmed 0 3 true 0, .journalRecordWrite (some 2),
    .hifCqCfgWrite 16 0, .registerWrite 0x16 0, .registerWrite 0x10000 0, .badRegisterAccess true 0x14 4 0, .bar2Read 0 3,
    .bar2Write 0 1 256, .budgetWindow ⟨1001, []⟩, .budgetWindow ⟨1000, [⟨18, 0, 0⟩]⟩, .gatherDeparture 4 0, .gatherDeparture 0 (2 ^ 72), .scatterDeparture 4,
    .memberLost 256, .profileEvaluation 2, .flashReceived 4 flash, .syncInEdge (2 ^ 72), .buoyFire ⟨8, ⟨[], 0⟩⟩,
    .linkFrame 0 true 256 0 (0, ⟨1, 8, noTail⟩) 0 0 0 0,
    .coldstartFrame 0 256 (0, ⟨1, 3, noTail⟩), .foghornFrame 0 9 4 5 2 (0, ⟨256, 4, noTail⟩), .commitReadyMiss false 12, .pairDiscrepancy 8, .ss1End 32,
    .captureSample 8, .adcInjectedEnd 0 [0, 0, 0, 0, 0], .indexPulse 4 ⟨[], 0⟩, .ssiLoopMeasurement 0 [], .latchArm 0 2 0, .sdmStuck 16,
    .fieldInputChange 32 true 0, .vfieldWarn 0x10000, .canBusJoin 2, .canTxFail 0 64 0 0, .dieThermalUpdate [] 0, .engineHalt 12,
    Instr.porstNRise true 4], c.wellFormed = false := by decide

theorem test_wf_records : ∀ c ∈ [.cyclePhi0 { quiet with sdm := [] }, .slowFrameReturn 0 [{ slowFr with blocks := [(0, ⟨0, 4, 1, true, 0, [0]⟩)] }],
    .slowFrameReturn 0 [{ slowFr with tail := { noTail with crc := 2 ^ 32 } }], .safetyPduReceived 0 .a { report with len := 256 },
    Instr.canFrameReceived 0 { canFrame with data := List.replicate 9 0 } 0], c.wellFormed = false := by decide

theorem test_wf_accepts : ∀ c ∈ [.nop cmd0, .move (cmd 127) 0 (-(2 ^ 71)) 0 0 0, .registerWrite 0x14 5, .cyclePhi0 quiet, .bar2Write 8 8 1,
    .engineHalt 11, Instr.canFrameReceived 1 canFrame 0], c.wellFormed = true := by decide

/-! ### Values the spec states -/

/-- The worked example of the 72-bit formats: −1.5 lines in host memory. -/
theorem test_minus_one_and_a_half_lines :
    bytes72 (-6442450944) = [0, 0, 0, 0x80, 0xFE, 0xFF, 0xFF, 0xFF, 0xFF, 0xFF, 0xFF, 0xFF, 0xFF, 0xFF, 0xFF, 0xFF] := by decide

/-- The worked example of the bag-lift move: 40,960 lines take 0.460 s. -/
theorem test_bag_lift_lasts_460_ms : segsDur (restSegs 40960 102400 2048000 204800000) = 46 / 100 := by decide +kernel

/-- The same move at 0.050 s: 92,160 line/s. -/
theorem test_bag_lift_speed : (runSegs ⟨0, 0, 0⟩ (restSegs 40960 102400 2048000 204800000) (5 / 100)).v = 92160 := by decide +kernel

/-- The stop of the same axis from its cruise covers 3,072 lines. -/
theorem test_bag_lift_stop : segsDist 102400 0 (stopSegs 102400 2048000 204800000) = 3072 := by decide +kernel

/-- FB1's compare channel of the bagger: VAL 96,000 lines, STEP 2,500 lines, committed at 103,250.75 lines. -/
def bagger : State :=
  { ((fbOn 1).setReg72 (R.cmpStep 0 0) (2500 * oneP)).setReg72 (R.cmpVal 0 0) (96000 * oneP) with fb := [(0, { count := 413003 })] }

/-- That commit skips three points: VAL becomes 103,500 lines. -/
theorem test_bagger_val : ((compareValCommitCmd 0 0 0 ⟨[], 0⟩ { bagger with
    holds := [(R.cmpVal 0 0, (0, 96000))] }).reg72 (R.cmpVal 0 0)) = 103500 * oneP := by decide +kernel

/-- SKIP rises by 3. -/
theorem test_bagger_skip : ((compareValCommitCmd 0 0 0 ⟨[], 0⟩ { bagger with
    holds := [(R.cmpVal 0 0, (0, 96000))] }).reg (R.cmpSkip 0 0)) = 3 := by decide +kernel

/-- No bits of a table word spell a command (the table gives no row any). -/
theorem test_no_word_spells_a_command : (State.reset.withFetchWord 32 0).pending = [] := by decide

/-! ### Every hypothesis of the statements can be met -/

theorem witness_AxisMotionCommandsTakeEffect :
  (∃ (s : State) (h : Hdr) (flags : Nat) (target : Int) (v : Int) (a : Int) (j : Int),
    flags < 16 ∧ s.admits h 0x0101 .long 0 .axis ∧ s.moveRefusal h.subj flags target v a j = none) ∧
  (∃ (s : State) (h : Hdr),
    s.admits h 0x0102 .imm 0 .axis ∧
    let x := s.axis h.subj
    x.enabled = true ∧ x.inReaction = false ∧ s.groupBusy h.subj = false ∧ x.ident = none ∧ x.coupling = none ∧
    x.homing = none ∧ x.ctrlMode = 0 ∧ x.prof = .moving) ∧
  (∃ (s : State) (h : Hdr),
    s.admits h 0x0102 .imm 0 .axis) ∧
  (∃ (s : State) (h : Hdr),
    s.admits h 0x0103 .imm 0 .axis ∧ s.resumeRefusal h.subj = none ∧ (s.axis h.subj).streamLost = true) ∧
  (∃ (s : State) (h : Hdr) (m : Move),
    s.admits h 0x0103 .long 0 .axis ∧ s.resumeRefusal h.subj = none ∧ (s.axis h.subj).streamLost = false ∧
    (s.axis h.subj).cur = some m) ∧
  (∃ (s : State) (h : Hdr) (m : Move) (rest : List Move),
    s.admits h 0x0103 .long 0 .axis ∧ s.resumeRefusal h.subj = none ∧ (s.axis h.subj).streamLost = false ∧
    (s.axis h.subj).cur = none ∧ (s.axis h.subj).queue = m :: rest) ∧
  (∃ (s : State) (h : Hdr),
    s.admits h 0x0104 .imm 0 .axis ∧ (s.axis h.subj).inReaction = false ∧ s.groupBusy h.subj = false) ∧
  (∃ (s : State) (h : Hdr) (v : Int) (a : Int) (j : Int),
    let x := s.axis h.subj
    let ws := [(Pn.profV, v), (Pn.profA, a), (Pn.profJ, j)]
    x.inReaction = false ∧ ws.any (fun w => s.commitHoldsPn h.subj w.1) = false ∧ s.directFails h.subj ws = none ∧
    x.prof = .moving ∧ x.cur.isSome = true ∧ s.admits h 0x0105 .long 0 .axis) ∧
  (∃ (s : State) (h : Hdr) (v : Int) (a : Int) (j : Int),
    let x := s.axis h.subj
    let ws := [(Pn.profV, v), (Pn.profA, a), (Pn.profJ, j)]
    x.inReaction = false ∧ ws.any (fun w => s.commitHoldsPn h.subj w.1) = false ∧ s.directFails h.subj ws = none ∧
    (¬(x.prof = .moving ∧ x.cur.isSome = true)) ∧ s.admits h 0x0105 .imm 0 .axis) ∧
  (∃ (s : State) (h : Hdr) (v : Int),
    s.admits h 0x0106 .imm 0 .axis ∧
    let x := s.axis h.subj
    x.ctrlMode = 1 ∧ x.streamed = false ∧ x.enabled = true ∧ x.inReaction = false ∧ s.groupBusy h.subj = false ∧
    x.ident = none ∧ (|v| ≤ x.raw Pn.profV) ∧ x.towardLimit v = false) ∧
  (∃ (s : State) (h : Hdr),
    s.admits h 0x0107 .imm 0 .axis ∧
    let x := s.axis h.subj
    x.ctrlMode = 2 ∧ x.streamed = false ∧ x.enabled = true ∧ x.inReaction = false) :=
  ⟨⟨onAxis axOn, cmd 0, 0, 2 ^ 40, 0, 0, 0, by decide +kernel⟩,
   ⟨onAxis { axOn with prof := .moving, cur := some {} }, cmd 0, by decide +kernel⟩,
   ⟨onAxis {}, cmd 0, by decide +kernel⟩,
   ⟨onAxis { axOn with streamLost := true }, cmd 0, by decide +kernel⟩,
   ⟨onAxis { axOn with prof := .suspended, cur := some { target := 5 } }, cmd 0, { target := 5 }, by decide +kernel⟩,
   ⟨onAxis { axOn with prof := .suspended, queue := [{ target := 5 }] }, cmd 0, { target := 5 }, [], by decide +kernel⟩,
   ⟨onAxis { axOn with prof := .suspended, queue := [{ target := 5 }] }, cmd 0, by decide +kernel⟩,
   ⟨onAxis { prof := .moving, cur := some {} }, cmd 0, 2 ^ 32, 2 ^ 40, 2 ^ 40, by decide +kernel⟩,
   ⟨onAxis {}, cmd 0, 2 ^ 32, 2 ^ 40, 2 ^ 40, by decide +kernel⟩,
   ⟨onAxis { axOn with pn := [(Pn.ctrlMode, pnI 1), (Pn.powerPort, 0)], prof := .velocity }, cmd 0, 0, by decide +kernel⟩,
   ⟨onAxis { axOn with pn := [(Pn.ctrlMode, pnI 2), (Pn.powerPort, 0)], prof := .current }, cmd 0, by decide +kernel⟩⟩

theorem witness_AxisEnableCommandsTakeEffect :
  (∃ (s : State) (h : Hdr),
    s.admits h 0x0108 .imm 0 .axis ∧
    let x := s.axis h.subj
    x.inUse = true ∧ s.isRun = true ∧ s.leavingRun = false ∧ x.ident = none ∧ x.inReaction = false ∧ x.ascShort = false ∧
    s.stoRefusal h.subj = none ∧ s.commitHoldsAxis h.subj = false) ∧
  (∃ (s : State) (a : Nat) (c : Nat),
    s.usable a = true ∧ (s.axis a).enableAt = [c] ∧ s.dueAtPhi0 c = true ∧
    let x : Axis := { s.axis a with enableAt := [] }
    x.inUse = true ∧ x.inReaction = false ∧ x.ascShort = false ∧ x.enabled = false) ∧
  (∃ (s : State) (a : Nat) (c : Nat),
    s.usable a = true ∧ (s.axis a).enableAt = [c] ∧ s.dueAtPhi0 c = true ∧
    let x : Axis := { s.axis a with enableAt := [] }
    (x.inUse = false ∨ x.inReaction = true ∨ x.ascShort = true ∨ x.enabled = true)) ∧
  (∃ (s : State) (h : Hdr),
    s.admits h 0x0109 .imm 0 .axis) ∧
  (∃ (s : State) (h : Hdr),
    s.admits h 0x010A .imm 0 .axis ∧ s.presentCause h.subj = none ∧ (s.axis h.subj).notStill = false) :=
  ⟨⟨onAxis { axOn with enabled := false, prof := .disabled }, cmd 0, by decide +kernel⟩,
   ⟨onAxis { { axOn with enabled := false, prof := .disabled } with enableAt := [1] }, 0, 1, by decide +kernel⟩,
   ⟨onAxis { axOn with enableAt := [1] }, 0, 1, by decide +kernel⟩,
   ⟨onAxis { axOn with enableAt := [4] }, cmd 0, by decide +kernel⟩,
   ⟨onAxis { axOn with faultActive := 1, reaction := .qstop, still := true }, cmd 0, by decide +kernel⟩⟩

theorem witness_GroupCommandsTakeEffect :
  (∃ (s : State) (h : Hdr) (list : Nat) (l : TargetList),
    let n := (s.members h.subj).length
    s.admits h 0x0110 .long ((n + 4) / 5) .group ∧ s.readTargets list n = some l ∧ l.flags < 2 ∧
    s.groupRefusal h.subj l = none) ∧
  (∃ (s : State) (h : Hdr),
    s.admits h 0x0111 .imm 0 .group ∧ (s.group h.subj).prof = .moving) ∧
  (∃ (s : State) (h : Hdr),
    s.admits h 0x0111 .imm 0 .group ∧ (s.group h.subj).prof ≠ .moving) ∧
  (∃ (s : State) (h : Hdr) (m : GroupMove),
    (s.group h.subj).cur = some m ∧ s.admits h 0x0112 .long ((m.targets.length + 4) / 5) .group ∧
    s.groupResumeRefusal h.subj = none) ∧
  (∃ (s : State) (h : Hdr) (m : GroupMove) (rest : List GroupMove),
    (s.group h.subj).cur = none ∧ (s.group h.subj).queue = m :: rest ∧ s.admits h 0x0112 .long 0 .group ∧
    s.groupResumeRefusal h.subj = none) ∧
  (∃ (s : State) (h : Hdr),
    s.admits h 0x0113 .imm 0 .group ∧ (s.members h.subj).any (fun a => (s.axis a).inReaction) = false) :=
  ⟨⟨{ onAxis { axOn with pn := [(Pn.group, 0), (Pn.powerPort, 0)] } with host := { mem := [(0x1000, 1)] } }, cmd 0, 0x1000, { count := 1, flags := 0, v := 0, a := 0, j := 0, targets := [0] }, by decide +kernel⟩,
   ⟨{ onAxis { axOn with pn := [(Pn.group, 0), (Pn.powerPort, 0)] } with groups := [(0, { prof := .moving, cur := some {} })] }, cmd 0, by decide +kernel⟩,
   ⟨{ onAxis { axOn with pn := [(Pn.group, 0), (Pn.powerPort, 0)] } with groups := [(0, {})] }, cmd 0, by decide +kernel⟩,
   ⟨{ onAxis { axOn with pn := [(Pn.group, 0), (Pn.powerPort, 0)] } with groups := [(0, { prof := .suspended, cur := some { targets := [(0, 9)] } })] }, cmd 0, { targets := [(0, 9)] }, by decide +kernel⟩,
   ⟨{ onAxis { axOn with pn := [(Pn.group, 0), (Pn.powerPort, 0)] } with groups := [(0, { prof := .suspended, queue := [{ targets := [(0, 9)] }] })] }, cmd 0, { targets := [(0, 9)] }, [], by decide +kernel⟩,
   ⟨{ onAxis { axOn with pn := [(Pn.group, 0), (Pn.powerPort, 0)] } with groups := [(0, { prof := .suspended, queue := [{ targets := [(0, 9)] }] })] }, cmd 0, by decide +kernel⟩⟩

theorem witness_CouplingCommandsTakeEffect :
  (∃ (s : State) (h : Hdr) (mkind : Nat) (master : Nat) (num : Int) (den : Int) (b : Int),
    s.admits h 0x0120 .long 0 .axis ∧ mkind ≤ 2 ∧ (mkind < 2 → s.usable master = true) ∧ 1 ≤ den ∧ den < 2 ^ 35 ∧
    -(2 ^ 35) ≤ num ∧ num < 2 ^ 35 ∧ 0 ≤ b ∧ b ≤ 2 ^ 70 ∧
    let x := s.axis h.subj
    x.ctrlMode = 0 ∧ x.streamed = false ∧ x.enabled = true ∧ x.inReaction = false ∧ s.groupBusy h.subj = false ∧
    x.coupledBy .cam = false ∧ (x.coupling = none ∨ x.follows mkind master = true) ∧ x.atRest = true ∧
    s.masterBad h.subj mkind master = false ∧
    x.towardLimit (rnd (signR ((num : Rat) * s.masterSense mkind master))) = false ∧ s.peShort h.subj 8 = false) ∧
  (∃ (s : State) (h : Hdr) (mkind : Nat) (table : Nat) (master : Nat) (mOrg : Int) (scale : Int) (b : Int) (cam : CamTable),
    s.admits h 0x0121 .long 0 .axis ∧ h.nslot ≠ 1 ∧ mkind ≤ 2 ∧ (mkind < 2 → s.usable master = true) ∧ table ≤ 63 ∧ 0 ≤ b ∧
    b ≤ 2 ^ 70 ∧ SMap.get none s.stage.inForce.cams table = some cam ∧
    let x := s.axis h.subj
    x.ctrlMode = 0 ∧ x.streamed = false ∧ x.enabled = true ∧ x.inReaction = false ∧ s.groupBusy h.subj = false ∧
    (x.coupling = none ∨ x.follows mkind master = true) ∧ x.atRest = true ∧ s.masterBad h.subj mkind master = false ∧
    x.towardLimit (rnd (signR ((cam.jet (s.masterAt h.subj mkind master - (mOrg : Rat))).d * gVal scale *
      s.masterSense mkind master))) = false ∧
    s.peShort h.subj 14 = false) ∧
  (∃ (s : State) (h : Hdr) (mode : Nat) (b : Int),
    s.admits h 0x0122 .long 0 .axis ∧ mode ≤ 1 ∧ (mode = 0 → 0 ≤ b ∧ b ≤ 2 ^ 70) ∧
    let x := s.axis h.subj
    x.enabled = true ∧ x.inReaction = false ∧ x.coupling.isSome = true ∧ x.uncoupling = none ∧
    (mode = 0 → x.coupledBy .cam = false)) :=
  ⟨⟨{ run with axes := [(0, axOn), (1, axOn)] }, cmd 0, 0, 1, 1, 2, 0, by decide +kernel⟩,
   ⟨{ { run with axes := [(0, axOn), (1, axOn)] } with stage := { inForce := { cams := [(3, some ⟨true, 2 ^ 40, [0, 1, 2, 3]⟩)] } } }, { cmd 0 with nslot := 2 }, 0, 3, 1, 0, 2 ^ 48, 0, ⟨true, 2 ^ 40, [0, 1, 2, 3]⟩, by decide +kernel⟩,
   ⟨onAxis { axOn with coupling := some {} }, cmd 0, 0, 0, by decide +kernel⟩⟩

theorem witness_HomingCommandsTakeEffect :
  (∃ (s : State) (h : Hdr),
    s.admits h 0x0130 .long 0 .axis ∧ s.homeRefusal h.subj = none) ∧
  (∃ (s : State) (h : Hdr),
    s.admits h 0x0130 .long 0 .axis ∧ s.homeRefusal h.subj = none ∧
    let x := s.axis h.subj
    x.int Pn.homeMethod = 0 ∧ x.switch 0 = false ∧ x.switch 1 = false) ∧
  (∃ (s : State) (a : Nat) (sw : Nat) (active : Bool),
    s.usable a = true ∧ sw < 3 ∧ s.live = true ∧ s.switchHeld a sw active = true ∧
    let x := s.axis a
    x.switch sw ≠ active ∧ x.homing = none) ∧
  (∃ (s : State) (a : Nat) (sw : Nat) (r : Homing),
    s.usable a = true ∧ sw < 2 ∧ s.live = true ∧ s.switchHeld a sw false = true ∧
    let x := s.axis a
    x.switch sw = true ∧ x.homing = some r ∧ r.method = 0 ∧ r.phase = .backOff ∧ sw = limitIn r.dir) ∧
  (∃ (s : State) (a : Nat) (r : Homing),
    let x := s.axis a
    x.homing = some r ∧ s.isRun = true ∧ s.usable a = true ∧ r.phase = .stallSearch ∧ (|x.loop.vEst| ≤ x.raw Pn.stillV) ∧
    95 * toHfs (x.g Pn.iFs) (x.g Pn.homeIlim) ≤ 100 * |x.loop.iqSet|) :=
  ⟨⟨onAxis { axOn with pn := [(Pn.homeMethod, 0), (Pn.limPosSrc, pnI 3), (Pn.powerPort, 0)] }, cmd 0, by decide +kernel⟩,
   ⟨onAxis { axOn with pn := [(Pn.homeMethod, 0), (Pn.limPosSrc, pnI 3), (Pn.powerPort, 0)] }, cmd 0, by decide +kernel⟩,
   ⟨(onAxis { { axOn with pn := [(Pn.homeMethod, 0), (Pn.limPosSrc, pnI 3), (Pn.powerPort, 0)] } with swSeen := [(4, 9), (0, 0), (0, 0)] }).setReg R.dioIn 8, 0, 0, true, by decide +kernel⟩,
   ⟨onAxis { { axOn with pn := [(Pn.homeMethod, 0), (Pn.limPosSrc, pnI 3), (Pn.powerPort, 0)] } with sw := [true, false, false], swSeen := [(4, 9), (0, 0), (0, 0)], homing := some { phase := .backOff } }, 0, 0, { phase := .backOff }, by decide +kernel⟩,
   ⟨onAxis { axOn with homing := some { method := 4, phase := .stallSearch }, loop := { iqSet := 2 ^ 35 } }, 0, { method := 4, phase := .stallSearch }, by decide +kernel⟩⟩

theorem witness_NopFenceAndQueryComplete :
  (∃ (s : State) (h : Hdr),
    s.admits h 0x0001 .imm 0 .none) ∧
  (∃ (s : State) (h : Hdr) (mask : Nat) (mode : Nat),
    mode ≤ 1 ∧ s.fenceMet h.ring mask mode = true ∧
    let u := s.setFence h.ring none
    u.admits h 0x0002 .imm 0 .none) ∧
  (∃ (s : State) (h : Hdr) (mask : Nat) (mode : Nat),
    mode ≤ 1 ∧ s.fenceMet h.ring mask mode = false ∧ s.admits h 0x0002 .imm 0 .none) ∧
  (∃ (s : State) (h : Hdr) (hd : Nat) (buf : Nat),
    s.admits h 0x0003 .read 0 .none ∧ alignedAddr buf = true ∧ s.handleKnown hd = false) ∧
  (∃ (s : State) (h : Hdr) (hd : Nat) (buf : Nat),
    s.admits h 0x0003 .read 0 .none ∧ alignedAddr buf = true ∧ s.handleKnown hd = true ∧ s.handlePending hd = true) ∧
  (∃ (s : State) (h : Hdr) (hd : Nat) (buf : Nat),
    s.admits h 0x0003 .read 0 .none ∧ alignedAddr buf = true ∧ s.handleKnown hd = true ∧ s.handlePending hd = false ∧
    handleSeq hd + 4096 ≤ (s.ring (handleRing hd)).seq) ∧
  (∃ (s : State) (h : Hdr) (hd : Nat) (buf : Nat) (f : FinalRec),
    s.admits h 0x0003 .read 0 .none ∧ alignedAddr buf = true ∧ s.handleKnown hd = true ∧ s.handlePending hd = false ∧
    (s.ring (handleRing hd)).seq < handleSeq hd + 4096 ∧
    SMap.get none s.host.results (resKey (handleRing hd) (handleSeq hd)) = some f ∧ f.lost = false ∧ buf ≠ 0) :=
  ⟨⟨run, cmd0, by decide +kernel⟩,
   ⟨run, cmd0, 1, 0, by decide +kernel⟩,
   ⟨{ run with host := { rings := [(1, { cqPi := 1 })] } }, cmd0, 2, 0, by decide +kernel⟩,
   ⟨run, cmd0, 5, 64, by decide +kernel⟩,
   ⟨{ run with host := { rings := [(0, { seq := 5000, opens := [{ ring := 0, seq := 4999 }] })] } }, cmd0, run.handle 0 4999, 64, by decide +kernel⟩,
   ⟨{ run with host := { rings := [(0, { seq := 5000, opens := [{ ring := 0, seq := 4999 }] })] } }, cmd0, run.handle 0 3, 64, by decide +kernel⟩,
   ⟨{ run with host := { rings := [(0, { seq := 3 })], results := [(resKey 0 2, some ⟨7, 0, 0x0101, false, 9, 0, false, true⟩)] } }, cmd0, run.handle 0 2, 64, ⟨7, 0, 0x0101, false, 9, 0, false, true⟩, by decide +kernel⟩⟩

theorem witness_ReadCommandsFillTheirBuffer :
  (∃ (s : State) (h : Hdr) (pn : Nat) (count : Nat) (buf : Nat),
    s.admits h 0x0211 .read 0 .axis ∧ 1 ≤ count ∧ count ≤ 64 ∧ alignedAddr buf = true ∧ (pnDesc? pn).isSome = true) ∧
  (∃ (s : State) (h : Hdr) (block : Nat) (count : Nat) (buf : Nat),
    s.admits h 0x0212 .read 0 .none ∧ 1 ≤ count ∧ count ≤ 256 ∧ block + count ≤ 16384 ∧ alignedAddr buf = true) ∧
  (∃ (s : State) (h : Hdr) (buf : Nat),
    s.admits h 0x0504 .read 0 .none ∧ alignedAddr buf = true) ∧
  (∃ (s : State) (h : Hdr) (buf : Nat),
    s.admits h 0x0603 .read 0 .none ∧ alignedAddr buf = true) ∧
  (∃ (s : State) (h : Hdr) (buf : Nat),
    s.admits h 0x0604 .read 0 .none ∧ alignedAddr buf = true) :=
  ⟨⟨onAxis axOn, cmd 0, Pn.profV, 1, 64, by decide +kernel⟩,
   ⟨run, cmd0, 16383, 1, 64, by decide +kernel⟩,
   ⟨run, cmd0, 64, by decide +kernel⟩,
   ⟨run, cmd0, 64, by decide +kernel⟩,
   ⟨run, cmd0, 64, by decide +kernel⟩⟩

theorem witness_TraceCommandsTakeEffect :
  (∃ (s : State) (h : Hdr),
    s.grade = 2 ∧ s.admits h 0x0420 .imm 0 .axis) ∧
  (∃ (s : State) (h : Hdr) (buf : Nat) (len : Nat),
    s.grade = 2 ∧ s.admits h 0x0421 .read 0 .axis ∧ alignedAddr buf = true ∧ (s.axis h.subj).trace.state = 3 ∧ 64 ≤ len) ∧
  (∃ (s : State) (a : Nat),
    s.usable a = true ∧ (s.axis a).trace.state = 2 ∧ (s.axis a).trace.post = 0) :=
  ⟨⟨onAxis { axOn with trace := { state := 1 } }, cmd 0, by decide +kernel⟩,
   ⟨onAxis { axOn with trace := { state := 3 } }, cmd 0, 64, 64, by decide +kernel⟩,
   ⟨onAxis { axOn with trace := { state := 2, post := 0 } }, 0, by decide +kernel⟩⟩

theorem witness_StageCommandsTakeEffect :
  (∃ (s : State) (h : Hdr) (set : Nat) (addr : Nat) (len : Nat) (items : List StageItem),
    s.admits h 0x0201 .imm 0 .none ∧ s.stageItems set addr len = (none, items) ∧ (s.stageSet set).busy = false ∧
    let x := s.stageSet set
    let added := items.foldl addItem x.items
    s.itemsUsed - x.items.length + added.length ≤ 4096) ∧
  (∃ (s : State) (h : Hdr) (set : Nat),
    s.admits h 0x0204 .imm 0 .none ∧ set ≤ 3 ∧ (s.stageSet set).busy = false) ∧
  (∃ (s : State) (h : Hdr) (set : Nat),
    s.admits h 0x0202 .long 0 .none ∧ set ≤ 3 ∧ (s.stageSet set).state = .opened) ∧
  (∃ (s : State) (set : Nat) (own : Open) (rest : List (Nat × Open)),
    s.stage.checks = (set, own) :: rest ∧ s.svRuns = true ∧
    let x := s.stageSet set
    s.checkItems x.items (cycAdd s.cycle 2) = none) ∧
  (∃ (s : State) (set : Nat) (own : Open) (rest : List (Nat × Open)) (f : _),
    s.stage.checks = (set, own) :: rest ∧ s.svRuns = true ∧
    let x := s.stageSet set
    s.checkItems x.items (cycAdd s.cycle 2) = some f) ∧
  (∃ (s : State) (h : Hdr) (set : Nat),
    set ≤ 3 ∧ s.stage.sets.length = 4 ∧ s.admits h 0x0203 .long 0 .none ∧ (s.stageSet set).state = .opened ∧
    s.stage.commit = none ∧ s.stage.waiting = [] ∧
    let x := s.stageSet set
    let c := cycAdd s.cycle 2
    let u := ((s.taken .long).setStage set { x with state := .committing }).acceptLong h 0x0203 0 []
    u.touchesNodes x.items = false ∧ u.checkItems x.items c = none) ∧
  (∃ (s : State) (h : Hdr) (set : Nat) (cycle : Nat),
    set ≤ 3 ∧ (cycle = 0xFFFFFFFF ∨ cycDiff s.cycle cycle ≤ 2 ^ 20) ∧ s.admits h 0x0203 .long 0 .none ∧
    (s.stageSet set).state = .opened ∧ s.stage.commit.isSome = true) :=
  ⟨⟨{ run with host := { mem := [(0x1000, 3)] } }, cmd0, 1, 0x1000, 32, [⟨3, 0, 0, 0⟩], by decide +kernel⟩,
   ⟨run, cmd0, 3, by decide +kernel⟩,
   ⟨{ run with stage := { sets := [{ state := .opened, items := [⟨3, 0, 0, 2⟩] }, {}, {}, {}] } }, cmd0, 0, by decide +kernel⟩,
   ⟨{ run with stage := { sets := [{ state := .checking, items := [⟨4, 17, 0, 32⟩] }, {}, {}, {}], checks := [(0, { seq := 1 })] } }, 0, { seq := 1 }, [], by decide +kernel⟩,
   ⟨{ run with stage := { sets := [{ state := .checking, items := [] }, {}, {}, {}], checks := [(0, { seq := 1 })] } }, 0, { seq := 1 }, [], { rule := 0x0102 }, by decide +kernel⟩,
   ⟨{ run with stage := { sets := [{ state := .opened, items := [⟨4, 17, 0, 32⟩] }, {}, {}, {}] } }, cmd0, 0, by decide +kernel⟩,
   ⟨{ run with stage := { sets := [{ state := .opened }, { state := .committing }, {}, {}], commit := some { set := 1, own := { seq := 1 }, named := none, cycle := 9, phase := .scheduled, gen := 0, answered := [], needs := [] } } }, cmd0, 0, 0xFFFFFFFF, by decide +kernel⟩⟩

theorem witness_CommitsApplyOrEnd :
  (∃ (s : State) (k : Commit),
    s.stage.commit = some k ∧ k.phase = .scheduled ∧ s.dueAtPhi0 k.cycle = true ∧ s.haltedEngine = none) ∧
  (∃ (s : State) (k : Commit),
    s.stage.commit = some k ∧ k.phase = .scheduled) ∧
  (∃ (s : State) (k : Commit),
    s.stage.commit = some k ∧ k.phase = .awaiting ∧
    match k.named with
     | some c => cycDiff s.cycle c < 4
     | none => 256 < cycDiff k.checked s.cycle) ∧
  (∃ (s : State) (k : Commit),
    s.stage.commit = some k ∧ k.phase = .applied ∧ s.mramOpen = true) :=
  ⟨⟨{ run with stage := { sets := [{}, { state := .committing }, {}, {}], commit := some { set := 1, own := { seq := 1 }, named := none, cycle := 1, phase := .scheduled, gen := 0, answered := [], needs := [] } } }, { set := 1, own := { seq := 1 }, named := none, cycle := 1, phase := .scheduled, gen := 0, answered := [], needs := [] }, by decide +kernel⟩,
   ⟨{ run with stage := { sets := [{}, { state := .committing }, {}, {}], commit := some { set := 1, own := { seq := 1 }, named := none, cycle := 1, phase := .scheduled, gen := 0, answered := [], needs := [] } } }, { set := 1, own := { seq := 1 }, named := none, cycle := 1, phase := .scheduled, gen := 0, answered := [], needs := [] }, by decide +kernel⟩,
   ⟨{ run with stage := { sets := [{}, { state := .committing }, {}, {}], commit := some { set := 1, own := { seq := 1 }, named := some 0, cycle := 0, phase := .awaiting, gen := 0, answered := [], needs := [5] } } }, { set := 1, own := { seq := 1 }, named := some 0, cycle := 0, phase := .awaiting, gen := 0, answered := [], needs := [5] }, by decide +kernel⟩,
   ⟨{ run with stage := { sets := [{}, { state := .committing }, {}, {}], commit := some { set := 1, own := { seq := 1 }, named := none, cycle := 1, phase := .applied, gen := 0, answered := [], needs := [] } } }, { set := 1, own := { seq := 1 }, named := none, cycle := 1, phase := .applied, gen := 0, answered := [], needs := [] }, by decide +kernel⟩⟩

theorem witness_DirectWritesTakeEffect :
  (∃ (s : State) (h : Hdr) (count : Nat) (writes : List (Nat × Int)),
    s.admits h 0x0210 .imm 0 .axis ∧ 1 ≤ count ∧ count ≤ 9 ∧ (h.nslot = 1 → count = 1) ∧
    let ws : List (Nat × Int) := imageWrites h.nslot count writes
    ws.findSome? (s.writeRefusal h.subj) = none ∧ s.postTooLong h.subj ws = false ∧
    ws.any (fun w => s.commitHoldsPn h.subj w.1) = false ∧ s.directFails h.subj ws = none) ∧
  (∃ (s : State) (c : Nat) (a : Nat) (pn : Nat) (v : Int) (d : PnDesc),
    s.stage.direct = [(c, a, pn, v)] ∧ s.dueAtPhi0 c = true ∧ pnDesc? pn = some d ∧ pn ≠ Pn.traceMask ∧ modelPn pn = false) :=
  ⟨⟨onAxis {}, cmd 0, 1, [(Pn.profV, 2 ^ 32)], by decide +kernel⟩,
   ⟨{ onAxis {} with stage := { direct := [(1, 0, Pn.profV, 2 ^ 32)] } }, 1, 0, Pn.profV, 2 ^ 32, (pnDesc? Pn.profV).get (by decide +kernel), by decide +kernel⟩⟩

theorem witness_JournalRowsTakeEffect :
  (∃ (s : State) (r : OutRec) (rest : List OutRec),
    s.mramStop = false ∧ s.live = true ∧ s.svRuns = true ∧ (s.bankOk 0 = true ∨ s.bankOk 1 = true) ∧
    s.jnl.setupWaiting = [] ∧ s.host.outbox = r :: rest ∧ r.journal ≠ 0 ∧ r.extra = 0 ∧
    (¬(r.kind = .final ∧ r.opcode = 0x0203 ∧ r.status = 0x0000))) ∧
  (∃ (s : State),
    s.live = true ∧ s.svRuns = true) ∧
  (∃ (s : State) (b : Nat),
    s.live = true ∧ s.svRuns = true ∧ s.jnl.copyDue = some b ∧ s.mramOpen = true) ∧
  (∃ (s : State),
    s.live = true ∧ s.svRuns = true ∧ s.jnl.copyDue = none) ∧
  (∃ (s : State),
    s.live = true) :=
  ⟨⟨{ run with host := { outbox := [run.finalRec cmd0 0x0001 0] } }, run.finalRec cmd0 0x0001 0, [], by decide +kernel⟩,
   ⟨run, by decide +kernel⟩,
   ⟨{ run with jnl := { copyDue := some 1 } }, 1, by decide +kernel⟩,
   ⟨run, by decide +kernel⟩,
   ⟨run, by decide +kernel⟩⟩

theorem witness_AcquisitionPodsTakeEffect :
  (∃ (s : State) (h : Hdr) (cfg : Nat) (bs : List Byte),
    s.admits h 0x0401 .long 0 .pod ∧ s.argBuf cfg 128 = (none, bs) ∧
    let q := parseArm bs
    alignedAddr q.host = true ∧ s.armCause h.subj q = 0) ∧
  (∃ (s : State) (h : Hdr) (q : Pod),
    s.admits h 0x0402 .imm 0 .pod ∧ s.pod h.subj = some q ∧ q.ending = false ∧ q.allRecorded = false) ∧
  (∃ (s : State) (p : Nat) (q : Pod),
    p < 8 ∧ s.pod p = some q ∧ s.isRun = true ∧ s.engineRuns 11 = true ∧ q.ending = false ∧ q.allRecorded = false ∧
    0 ≤ cycDiff q.firstCycle s.cycle ∧ q.fast = false ∧ s.cycle % 2 ^ q.div = 0 ∧
    q.pea.samples.getLast?.map (fun e => e.1) ≠ some s.cycle ∧ q.pea.trig.isSome = true ∧ 2 ≤ q.pea.left) ∧
  (∃ (s : State) (p : Nat) (q : Pod) (w : Pea) (rest : List Pea),
    p < 8 ∧ s.pod p = some q ∧ s.hostUp = true ∧ q.waiting = w :: rest ∧ w.part = false ∧ w.memErr = false) :=
  ⟨⟨{ run with host := { mem := [(0x1000, 1), (0x1009, 1), (0x1010, 1), (0x1043, 0x40)] } }, cmd 7, 0x1000, (({ run with host := { mem := [(0x1000, 1), (0x1009, 1), (0x1010, 1), (0x1043, 0x40)] } }).argBuf 0x1000 128).2, by decide +kernel⟩,
   ⟨{ run with pods := [(7, some { npea := 1, s := 256 })] }, cmd 7, { npea := 1, s := 256 }, by decide +kernel⟩,
   ⟨{ run with pods := [(7, some { npea := 1, s := 256, post := 10, pea := { trig := some 0, left := 2 } })] }, 7, { npea := 1, s := 256, post := 10, pea := { trig := some 0, left := 2 } }, by decide +kernel⟩,
   ⟨{ run with pods := [(7, some { npea := 2, s := 256, c := 1, waiting := [{}] })] }, 7, { npea := 2, s := 256, c := 1, waiting := [{}] }, {}, [], by decide +kernel⟩⟩

theorem witness_InjectionAndIdentificationTakeEffect :
  (∃ (s : State) (h : Hdr) (cfg : Nat) (bs : List Byte),
    s.admits h 0x0410 .long 0 .axis ∧ s.argBuf cfg 128 = (none, bs) ∧ injectZero bs = true ∧
    let x := s.axis h.subj
    let i := parseInject bs
    s.isRun = true ∧ s.leavingRun = false ∧ x.enabled = true ∧ x.injectMode i.point = false ∧ x.inReaction = false ∧
    x.inj = none ∧ s.injectBad x i = false ∧ s.injections < 8) ∧
  (∃ (s : State) (h : Hdr),
    s.admits h 0x0411 .imm 0 .axis) ∧
  (∃ (s : State) (a : Nat) (i : Injection),
    (s.axis a).inj = some i ∧ i.duration ≤ i.j) ∧
  (∃ (s : State) (h : Hdr) (steps : Nat) (iTest : Int) (vTest : Int),
    s.admits h 0x0440 .long 0 .axis ∧
    let x := s.axis h.subj
    1 ≤ steps ∧ steps ≤ 7 ∧ 0 ≤ iTest ∧ iTest ≤ x.raw Pn.iMax ∧ (|vTest| ≤ x.raw Pn.profV) ∧ s.isRun = true ∧
    x.enabled = false ∧ x.enableAt = [] ∧ x.inUse = true ∧ x.ident = none ∧ x.inReaction = false) ∧
  (∃ (s : State) (a : Nat) (i : Ident) (short : Bool) (slopes : List Int × List Int),
    (s.axis a).ident = some i ∧ s.identJudge (s.axis a) i short slopes = none) ∧
  (∃ (s : State) (a : Nat) (code : Nat) (i : Ident) (short : Bool) (slopes : List Int × List Int),
    (s.axis a).ident = some i ∧ s.identJudge (s.axis a) i short slopes = some (.inl code)) ∧
  (∃ (s : State) (a : Nat) (i : Ident),
    (s.axis a).ident = some i ∧ i.moved = true) ∧
  (∃ (s : State) (a : Nat) (i : Ident) (short : Bool) (slopes : List Int × List Int) (rs : List (Nat × Nat × Int)) (step : Nat) (next : Nat) (more : List Nat),
    let x := s.axis a
    x.ident = some i ∧ i.stepsLeft = step :: next :: more ∧ s.identJudge x i short slopes = some (.inr rs) ∧
    (∀ r, r ∈ rs → ∃ d, pnDesc? r.2.1 = some d ∧ pnInRange x.raw d r.2.2 = true)) ∧
  (∃ (s : State) (a : Nat) (i : Ident) (short : Bool) (slopes : List Int × List Int) (rs : List (Nat × Nat × Int)) (step : Nat),
    let x := s.axis a
    x.ident = some i ∧ i.stepsLeft = [step] ∧ s.identJudge x i short slopes = some (.inr rs) ∧
    (∀ r, r ∈ rs → ∃ d, pnDesc? r.2.1 = some d ∧ pnInRange x.raw d r.2.2 = true)) :=
  ⟨⟨{ onAxis axOn with host := { mem := [(0x1008, 1)] } }, cmd 0, 0x1000, (({ onAxis axOn with host := { mem := [(0x1008, 1)] } }).argBuf 0x1000 128).2, by decide +kernel⟩,
   ⟨onAxis { axOn with inj := some {} }, cmd 0, by decide +kernel⟩,
   ⟨onAxis { axOn with inj := some { j := 1 } }, 0, { j := 1 }, by decide +kernel⟩,
   ⟨onAxis { axOn with enabled := false, prof := .disabled }, cmd 0, 7, 0, 0, by decide +kernel⟩,
   ⟨onAxis { axOn with ident := some { stepsLeft := [0, 1] } }, 0, { stepsLeft := [0, 1] }, false, ([], []), by decide +kernel⟩,
   ⟨{ (onAxis { axOn with ident := some { stepsLeft := [0, 1] } }) with cycle := 100000 }, 0, 1, { stepsLeft := [0, 1] }, true, ([], []), by decide +kernel⟩,
   ⟨onAxis { axOn with ident := some { stepsLeft := [0, 1], moved := true } }, 0, { stepsLeft := [0, 1], moved := true }, by decide +kernel⟩,
   ⟨{ (onAxis { axOn with ident := some { stepsLeft := [0, 1] } }) with cycle := 100000 }, 0, { stepsLeft := [0, 1] }, false, ([], []), [], 0, 1, [], by decide +kernel⟩,
   ⟨{ (onAxis { axOn with ident := some { stepsLeft := [0] } }) with cycle := 100000 }, 0, { stepsLeft := [0] }, false, ([], []), [], 0, by decide +kernel⟩⟩

theorem witness_ReleaseAndFoghornTakeEffect :
  (∃ (s : State) (h : Hdr),
    s.admits h 0x0302 .imm 0 .node ∧ (s.noderec h.subj).state = .quarantined ∧ (s.noderec h.subj).rivals = []) ∧
  (∃ (s : State) (h : Hdr),
    s.admits h 0x0303 .imm 0 .none ∧ (s.uid, (s.bb.fogSeq + 1) % 2 ^ 32) ∉ s.bb.fogSeen) ∧
  (∃ (s : State) (h : Hdr),
    s.admits h 0x0304 .imm 0 .none) ∧
  (∃ (s : State) (m : Nat),
    s.leads = true ∧ m < 0xFFFF ∧ s.bb.fogLatched = false ∧ (s.uid, (s.bb.fogSeq + 1) % 2 ^ 32) ∉ s.bb.fogSeen) ∧
  (∃ (s : State) (n : Nat) (origin : Nat) (seq : Nat) (cause : Nat) (reason : Nat) (cycle : Nat × Ends),
    n < 4 ∧ s.live = true ∧ s.linkUp n = true ∧ s.conductor = true ∧
    fogOk ⟨cycle.1, origin, seq, cause, reason, cycle.2⟩ = true ∧ (origin, seq % 2 ^ 32) ∉ s.bb.fogSeen) ∧
  (∃ (s : State) (n : Nat) (origin : Nat) (seq : Nat) (cause : Nat) (reason : Nat) (cycle : Nat × Ends),
    n < 4 ∧ s.live = true ∧ s.linkUp n = true ∧ s.conductor = false ∧
    fogOk ⟨cycle.1, origin, seq, cause, reason, cycle.2⟩ = true) ∧
  (∃ (s : State) (n : Nat) (origin : Nat) (seq : Nat) (cause : Nat) (reason : Nat) (cycle : Nat × Ends),
    n < 4 ∧ s.live = true ∧ s.linkUp n = true ∧ fogOk ⟨cycle.1, origin, seq, cause, reason, cycle.2⟩ = false) ∧
  (∃ (s : State) (n : Nat) (e : FogFrame) (rest : List FogFrame),
    n < 4 ∧ s.live = true ∧ s.conductor = true ∧ s.linkUp n = true ∧ (s.lane n).lineEnd = false ∧
    (t72Diff s.phi0Now s.now < 500 * 2 ^ 16 ∨ 1500 * 2 ^ 16 ≤ t72Diff s.phi0Now s.now) ∧ s.fogFits n = true ∧
    (s.lane n).fogPending = e :: rest) :=
  ⟨⟨{ run with bb := { nodes := [(5, { state := .quarantined, slot := true })] } }, cmd 5, by decide +kernel⟩,
   ⟨run, cmd0, by decide +kernel⟩,
   ⟨{ run with bb := { fogLatched := true, fogLast := 4 } }, cmd0, by decide +kernel⟩,
   ⟨{ run with bb := { cold := .lead } }, 0xFFFE, by decide +kernel⟩,
   ⟨{ run with regs := [(R.clkStat, 0xF), (R.pwrState, 0), (R.bbStat 0, 1)] }, 0, 9, 4, 5, 2, (0, (sentFog 0 9 4 5 2).ends), by decide +kernel⟩,
   ⟨{ ({ run with regs := [(R.clkStat, 0xF), (R.pwrState, 0), (R.bbStat 0, 1)] }) with conductor := false }, 0, 9, 4, 5, 2, (0, (sentFog 0 9 4 5 2).ends), by decide +kernel⟩,
   ⟨{ run with regs := [(R.clkStat, 0xF), (R.pwrState, 0), (R.bbStat 0, 1)] }, 0, 9, 4, 5, 2, (0, (sentFog 0 9 3 5 2).ends), by decide +kernel⟩,
   ⟨{ ({ run with regs := [(R.clkStat, 0xF), (R.pwrState, 0), (R.bbStat 0, 1)] }) with bb := { lanes := [{ fogPending := [sentFog 0 9 4 5 2] }, {}, {}, {}] } }, 0, sentFog 0 9 4 5 2, [], by decide +kernel⟩⟩

theorem witness_PollHeartbeatAndWakeTakeEffect :
  (∃ (s : State) (bs : List Byte),
    s.takesCommands = true ∧ s.hostUp = true ∧ s.base R.dbLo R.dbHi ≠ 0 ∧ s.memRd (s.base R.dbLo R.dbHi) 256 = some bs) ∧
  (∃ (s : State),
    s.takesCommands = true ∧ s.hostUp = true ∧ s.base R.dbLo R.dbHi ≠ 0 ∧ s.memRd (s.base R.dbLo R.dbHi) 256 = none) ∧
  (∃ (s : State),
    s.takesCommands = true ∧ s.fld R.hbCfg 0 16 ≠ 0 ∧ s.base R.dbLo R.dbHi ≠ 0 ∧ s.host.hbLost = false) ∧
  (∃ (s : State) (v : Reg32),
    s.conductor = true ∧ s.isIdle = true ∧ bits v 0 1 = 0) ∧
  (∃ (s : State) (v : Reg32),
    s.conductor = true ∧ s.mode = .standby ∧ bits v 0 1 = 1 ∧ s.pw.entering = false ∧ s.pw.shutCore = false ∧
    s.pw.shutField = false) :=
  ⟨⟨door, List.replicate 256 0, by decide +kernel⟩,
   ⟨{ door with host := { memBad := [(0x4000, 1)] } }, by decide +kernel⟩,
   ⟨door, by decide +kernel⟩,
   ⟨idle, 0, by decide +kernel⟩,
   ⟨standby, 1, by decide +kernel⟩⟩

theorem witness_EventsAndSnapshotsAreWritten :
  (∃ (s : State) (e : Event) (rest : List Event),
    s.host.raised = e :: rest ∧ s.live = true ∧ s.conductor = true) ∧
  (∃ (s : State),
    s.host.held = [] ∧ s.erRoom = true) ∧
  (∃ (s : State),
    s.live = true ∧ s.conductor = true ∧ s.bit R.snapCfg 0 = true ∧ s.hostUp = true ∧ s.cycle % 2 ^ s.fld R.snapCfg 16 3 = 0) :=
  ⟨⟨{ (run.setReg (R.evEn 3) 0xFF) with host := { raised := [⟨0, 0, 3, 1, 2, 9⟩] } }, ⟨0, 0, 3, 1, 2, 9⟩, [], by decide +kernel⟩,
   ⟨(run.setReg R.erCfg 0x81), by decide +kernel⟩,
   ⟨(run.setReg R.snapCfg 0x201), by decide +kernel⟩⟩

theorem witness_HostStructuresAreSetUp :
  (∃ (s : State) (n : Nat) (v : Reg32),
    s.hostWrites = true ∧ n < 16 ∧
    let new := merge (s.reg (R.cqCfg n)) v 0xFFF3
    bits (s.reg (R.cqCfg n)) 0 1 = 0 ∧ bits new 0 1 = 1 ∧ s.cqCheck n new = true) ∧
  (∃ (s : State) (n : Nat) (v : Reg32),
    s.hostWrites = true ∧ n < 16 ∧
    let new := merge (s.reg (R.cqCfg n)) v 0xFFF3
    bits (s.reg (R.cqCfg n)) 0 1 = 0 ∧ bits new 0 1 = 1 ∧ s.cqCheck n new = false) ∧
  (∃ (s : State) (n : Nat) (v : Reg32),
    s.hostWrites = true ∧ n < 16 ∧ bits (s.reg (R.cqCfg n)) 0 1 = 1 ∧
    putBits (merge (s.reg (R.cqCfg n)) v 0xFFF3) 0 1 1 ≠ s.reg (R.cqCfg n)) ∧
  (∃ (s : State),
    s.hostWrites = true) ∧
  (∃ (s : State) (v : Reg32),
    s.hostWrites = true ∧
    let u := s.flushRaised
    bits (u.reg R.erCfg) 0 1 = 0 ∧ bits v 0 1 = 0) ∧
  (∃ (s : State),
    s.hostWrites = true) :=
  ⟨⟨(((door.setReg (R.cqLo 0) 0x10000).setReg (R.crLo 0) 0x20000).setReg (R.crCfg 0) 8), 0, 0x61, by decide +kernel⟩,
   ⟨door, 0, 0x61, by decide +kernel⟩,
   ⟨(run.setReg (R.cqCfg 3) 0x61), 3, 0x71, by decide +kernel⟩,
   ⟨run, by decide +kernel⟩,
   ⟨run, 0x80, by decide +kernel⟩,
   ⟨run, by decide +kernel⟩⟩

theorem witness_LinkPinAndPtmTakeEffect :
  (∃ (s : State),
    s.live = true ∧ s.bit R.timPtmCtl 0 = true) ∧
  (∃ (s : State),
    s.live = true ∧ s.bit R.timPtmCtl 0 = true) :=
  ⟨⟨(run.setReg R.timPtmCtl 1), by decide +kernel⟩,
   ⟨(run.setReg R.timPtmCtl 1), by decide +kernel⟩⟩

theorem witness_RegisterAccessesFollowTheirClass :
  (∃ (s : State) (off : Nat) (d : RegDesc),
    s.hostReads = true ∧ s.writable = true ∧ off % 4 = 0 ∧
    (off < 0x400 ∨ (0xC00 ≤ off ∧ off < 0x3000) ∨ (0x4800 ≤ off ∧ off < 0x5000) ∨ (0x6000 ≤ off ∧ off < 0x7000)) ∧
    off ≠ R.sysCtl ∧ off ≠ R.dbgCtl ∧ regDesc? off = some d ∧ d.staged = false ∧ d.part = .plain) ∧
  (∃ (s : State) (off : Nat) (d : RegDesc),
    s.hostReads = true ∧ s.writable = true ∧ off % 4 = 0 ∧ regDesc? off = some d ∧ d.staged = true) ∧
  (∃ (s : State) (off : Nat),
    s.hostReads = true ∧ s.mode = .standby ∧ s.sec.lcs ≠ 3 ∧ off % 4 = 0 ∧ off ≠ R.hifWake) ∧
  (∃ (s : State) (off : Nat),
    s.hostReads = true ∧ s.sec.lcs = 3 ∧ off % 4 = 0 ∧ off ≠ R.dbgCtl) ∧
  (∃ (off : Nat),
    off % 4 ≠ 0) ∧
  (∃ (s : State) (off : Nat) (w : Nat) (d : RegDesc),
    s.hostReads = true ∧ s.answers off = .register ∧ regDesc? off = some d ∧ d.part = .lo w ∧ off ≠ R.timPtmT72) ∧
  (∃ (s : State),
    s.hostReads = true ∧ s.answers R.timPtmT72 = .register) ∧
  (∃ (s : State) (off : Nat) (d : RegDesc),
    s.hostReads = true ∧ s.answers off = .register ∧ regDesc? off = some d ∧ d.part = .plain ∧ d.rc ≠ 0) ∧
  (∃ (s : State) (off : Nat) (w : Nat) (d : RegDesc),
    s.hostReads = true ∧ s.writable = true ∧ off % 4 = 0 ∧ regDesc? off = some d ∧ d.part = .hi w ∧ d.rw ≠ 0 ∧
    0x3800 ≤ wideLo d off ∧ wideLo d off < 0x3C00 ∧ (wideLo d off - 0x3800) % 0x100 ≠ 0x84 ∧
    (wideLo d off - 0x3800) % 0x100 ≠ 0xC4) ∧
  (∃ (s : State) (k : Nat) (j : Nat) (off : Nat) (d : RegDesc),
    k < 4 ∧ j < 2 ∧ s.hostReads = true ∧ s.writable = true ∧ off % 4 = 0 ∧ regDesc? off = some d ∧ d.part = .hi 72 ∧
    d.rw ≠ 0 ∧ wideLo d off = 0x3800 + 0x100 * k + 0x84 + 0x40 * j) ∧
  (∃ (s : State) (off : Nat) (w : Nat) (d : RegDesc),
    s.hostReads = true ∧ s.writable = true ∧ off % 4 = 0 ∧ regDesc? off = some d ∧ d.staged = false ∧ d.part = .lo w ∧
    d.rw ≠ 0) ∧
  (∃ (s : State) (off : Nat) (size : Nat),
    s.hostReads = true ∧ (off % 4 ≠ 0 ∨ size ≠ 4)) ∧
  (∃ (s : State) (off : Nat) (size : Nat),
    s.hostReads = true ∧ (off % 4 ≠ 0 ∨ size ≠ 4)) :=
  ⟨⟨run, 0x14, (regDesc? 0x14).get (by decide +kernel), by decide +kernel⟩,
   ⟨run, 0x860, (regDesc? 0x860).get (by decide +kernel), by decide +kernel⟩,
   ⟨standby, 0x14, by decide +kernel⟩,
   ⟨{ run with sec := { lcs := 3 } }, 0x14, by decide +kernel⟩,
   ⟨0x15, by decide +kernel⟩,
   ⟨run, 0x814, 72, (regDesc? 0x814).get (by decide +kernel), by decide +kernel⟩,
   ⟨run, by decide +kernel⟩,
   ⟨run, 0xC10, (regDesc? 0xC10).get (by decide +kernel), by decide +kernel⟩,
   ⟨run, 0x3898, 72, (regDesc? 0x3898).get (by decide +kernel), by decide +kernel⟩,
   ⟨run, 0, 0, 0x388C, (regDesc? 0x388C).get (by decide +kernel), by decide +kernel⟩,
   ⟨run, 0x3884, 72, (regDesc? 0x3884).get (by decide +kernel), by decide +kernel⟩,
   ⟨run, 0x14, 8, by decide +kernel⟩,
   ⟨run, 0x15, 1, by decide +kernel⟩⟩

theorem witness_Bar2ReachesTheSignalStore :
  (∃ (s : State) (w : Nat),
    s.hostReads = true ∧ s.bar2 = .store ∧ w < 2 ^ 20) ∧
  (∃ (s : State) (w : Nat) (d : BlockDesc),
    s.hostReads = true ∧ s.bar2 = .store ∧ s.sigBlock w = some d ∧ d.producer = 256 + s.bb.number ∧ d.kind ≠ 3) ∧
  (∃ (s : State) (off : Nat),
    s.hostReads = true ∧ s.bar2 = .buffer ∧ off < 2 ^ 22) :=
  ⟨⟨(run.setSigWord 1048575 7), 1048575, by decide +kernel⟩,
   ⟨{ run with stage := { inForce := { blocks := [(2, some ⟨0, 3, 0, 0, 256⟩)] } } }, 130, ⟨0, 3, 0, 0, 256⟩, by decide +kernel⟩,
   ⟨{ run with pw := { boot := .waitDownload } }, 4194303, by decide +kernel⟩⟩

theorem witness_SafetyHostCommandsTakeEffect :
  (∃ (s : State) (h : Hdr) (addr : Nat) (bs : List Byte),
    s.admits h 0x0501 .long 0 .none ∧ alignedAddr addr = true ∧ s.memRd addr 65536 = some bs ∧ s.saf.chA.sw = 0 ∧
    s.saf.chB.sw = 0) ∧
  (∃ (s : State) (own : Open) (rest : List Open),
    s.saf.loadOwn = own :: rest ∧ s.live = true ∧ s.mramOpen = true ∧
    let u := { s with saf := { s.saf with loadOwn := rest } }.judgeSet
    u.badSet = none) ∧
  (∃ (s : State) (own : Open) (rest : List Open) (k : _),
    s.saf.loadOwn = own :: rest ∧ s.live = true ∧ s.mramOpen = true ∧
    let u := { s with saf := { s.saf with loadOwn := rest } }.judgeSet
    u.badSet = some k) ∧
  (∃ (s : State) (h : Hdr) (check : Nat) (st : SafSet),
    s.admits h 0x0502 .long 0 .none ∧ s.selectedSet = some st ∧ st.valid s.saf.chA.sw = true ∧
    let u := (s.taken .long).acceptLong h 0x0502 0 []
    u.checkAgrees .a check = true ∧ u.checkAgrees .b check = true) ∧
  (∃ (s : State) (h : Hdr) (check : Nat) (st : SafSet),
    s.admits h 0x0502 .long 0 .none ∧ s.selectedSet = some st ∧ st.valid s.saf.chA.sw = true ∧
    let u := (s.taken .long).acceptLong h 0x0502 0 []
    (u.checkAgrees .a check = false ∨ u.checkAgrees .b check = false)) ∧
  (∃ (s : State) (h : Hdr) (st : SafSet),
    s.admits h 0x0503 .imm 0 .safAxis ∧ s.selectedSet = some st ∧ s.ackTest st h.subj = false ∧ st.ackSrc ≠ 1 ∧
    s.ackPresent st h.subj = false ∧ s.saf.chA.running = true ∧ s.saf.chB.running = true ∧ h.subj = 0xFFFF) ∧
  (∃ (s : State) (h : Hdr) (st : SafSet) (r : _),
    s.admits h 0x0503 .imm 0 .safAxis ∧ s.selectedSet = some st ∧ s.ackTest st h.subj = false ∧ st.ackSrc ≠ 1 ∧
    s.ackPresent st h.subj = false ∧ s.saf.chA.running = true ∧ s.saf.chB.running = true ∧ h.subj ≠ 0xFFFF ∧
    st.rec? h.subj = some r) ∧
  (∃ (s : State) (h : Hdr) (st : SafSet),
    s.admits h 0x0503 .imm 0 .safAxis ∧ s.selectedSet = some st ∧ s.ackTest st h.subj = false ∧ st.ackSrc ≠ 1 ∧
    s.ackPresent st h.subj = false ∧ (s.saf.chA.running = false ∨ s.saf.chB.running = false)) :=
  ⟨⟨run, cmd0, 0x8000, (List.range 65536).map (fun i => run.memByte (0x8000 + i)), ⟨by decide +kernel, by decide +kernel, rfl, rfl, rfl⟩⟩,
   ⟨{ saf with saf := { saf.saf with loadOwn := [{ seq := 1 }] } }, { seq := 1 }, [], by decide +kernel⟩,
   ⟨{ saf with saf := { saf.saf with loadOwn := [{ seq := 1 }], sets := [(2, some {})] } }, { seq := 1 }, [], 2, by decide +kernel⟩,
   ⟨saf, cmd0, 9, safSet, by decide +kernel⟩,
   ⟨saf, cmd0, 8, safSet, by decide +kernel⟩,
   ⟨saf, cmd0, safSet, by decide +kernel⟩,
   ⟨saf, cmd 0, safSet, { axis := 0, remote := true, wd := 2, node := 4 }, by decide +kernel⟩,
   ⟨{ saf with saf := { saf.saf with chB := { saf.saf.chB with running := false } } }, cmd0, safSet, by decide +kernel⟩⟩

theorem witness_SafetyFaultsDropThePins :
  (∃ (s : State) (c : Chan),
    s.chanRuns c = true) ∧
  (∃ (s : State),
    s.conductor = true ∧ (s.saf.chA.running = true ∨ s.saf.chB.running = true)) ∧
  (∃ (s : State) (c : Chan) (m : CrossTalk),
    s.conductor = true ∧ s.chanRuns c = true ∧ m.crcOk = false ∧ 1 ≤ (s.chan c).xtMissed) ∧
  (∃ (s : State),
    s.die.up = true ∧ 8 ≤ s.die.missing) ∧
  (∃ (s : State),
    s.die.fieldEnd.up = true ∧ 8 ≤ s.die.fieldEnd.missing) ∧
  (∃ (s : State),
    s.saf.bDown = false) :=
  ⟨⟨saf, .b, by decide +kernel⟩,
   ⟨saf, by decide +kernel⟩,
   ⟨{ saf with saf := { saf.saf with chB := { saf.saf.chB with xtMissed := 1 } } }, .b, { xtalk with crcOk := false }, by decide +kernel⟩,
   ⟨{ saf with die := { up := true, missing := 8 } }, by decide +kernel⟩,
   ⟨{ saf with die := { fieldEnd := { up := true, missing := 8 } } }, by decide +kernel⟩,
   ⟨saf, by decide +kernel⟩⟩

theorem witness_SafetyChannelRowsTakeEffect :
  (∃ (s : State) (c : Chan) (m : CrossTalk),
    s.conductor = true ∧ s.chanRuns c = true ∧ m.crcOk = true ∧
    (m.seq = ((s.chan c).xtSeq + 1) % 2 ^ 32 ∨ (s.chan c).xtMissed ≠ 0)) ∧
  (∃ (s : State) (a : Nat) (b : Nat),
    s.saf.chA.running = true ∧ s.saf.chB.running = true ∧ a % 16 = s.saf.chA.sw ∧ b % 16 = s.saf.chB.sw) ∧
  (∃ (s : State) (a : Nat) (b : Nat),
    s.saf.chA.running = true ∧ s.saf.chB.running = true ∧ (a % 16 ≠ s.saf.chA.sw ∨ b % 16 ≠ s.saf.chB.sw)) ∧
  (∃ (s : State) (c : Chan) (j : Nat) (p : PairRec),
    s.conductor = true ∧ s.chanRuns c = true ∧ s.pair? j = some p ∧ s.pairClosed c j = false) ∧
  (∃ (s : State) (c : Chan) (j : Nat) (p : PairRec) (st : SafSet),
    s.conductor = true ∧ s.chanRuns c = true ∧ s.pair? j = some p ∧ s.pairClosed c j = true ∧
    let u := (s.setChan c { s.chan c with closed := bvPut (s.chan c).closed j false }).testStep c j false
    let w := if u.pairClosed (otherChan c) j = false then u else u.ev 60 0xFFFF 5 j
    w.setInForce = some st) ∧
  (∃ (s : State) (j : Nat) (p : PairRec),
    s.conductor = true ∧ (s.saf.chA.running = true ∨ s.saf.chB.running = true) ∧ s.pair? j = some p ∧
    bvGet s.saf.pairFault j = false) ∧
  (∃ (s : State),
    s.conductor = true ∧ s.saf.chB.running = true) ∧
  (∃ (s : State) (j : Nat) (p : PairRec),
    s.conductor = true ∧ s.saf.chB.running = true ∧ s.pair? j = some p ∧ p.tp = true) ∧
  (∃ (s : State) (st : SafSet),
    s.selectedSet = some st ∧ s.conductor = true ∧ st.rstIn ≠ 0xFF ∧ s.saf.chA.running = true ∧ s.saf.chB.running = true) ∧
  (∃ (s : State) (c : Chan) (st : SafSet),
    s.conductor = true ∧ s.chanRuns c = true ∧ s.setInForce = some st) ∧
  (∃ (s : State) (sx : Nat) (st : SafSet) (r : SafAxisRec),
    s.setInForce = some st ∧ st.rec? sx = some r) ∧
  (∃ (s : State),
    s.saf.bDown = true) :=
  ⟨⟨saf, .a, xtalk, by decide +kernel⟩,
   ⟨saf, 16, 0, by decide +kernel⟩,
   ⟨saf, 17, 0, by decide +kernel⟩,
   ⟨saf, .a, 0, { ch1 := 0, ch2 := 1, type := 1, tp := true, tpOut := 2 }, by decide +kernel⟩,
   ⟨{ saf with saf := { saf.saf with chA := { saf.saf.chA with closed := 1 } } }, .a, 0, { ch1 := 0, ch2 := 1, type := 1, tp := true, tpOut := 2 }, safSet, by decide +kernel⟩,
   ⟨saf, 0, { ch1 := 0, ch2 := 1, type := 1, tp := true, tpOut := 2 }, by decide +kernel⟩,
   ⟨saf, by decide +kernel⟩,
   ⟨saf, 0, { ch1 := 0, ch2 := 1, type := 1, tp := true, tpOut := 2 }, by decide +kernel⟩,
   ⟨saf, safSet, by decide +kernel⟩,
   ⟨saf, .a, safSet, by decide +kernel⟩,
   ⟨saf, 0, safSet, { axis := 0, remote := true, wd := 2, node := 4 }, by decide +kernel⟩,
   ⟨{ run with saf := { bDown := true } }, by decide +kernel⟩⟩

theorem witness_SafetyPdusTakeEffect :
  (∃ (s : State) (sx : Nat) (c : Chan) (p : SafetyPdu) (st : SafSet) (r : SafAxisRec),
    s.selectedSet = some st ∧ st.rec? sx = some r ∧ s.live = true ∧ s.chanRuns c = true ∧ s.exchanges r = true ∧
    p.crcOk = false) ∧
  (∃ (s : State) (sx : Nat) (q : Nat) (c : Chan) (p : SafetyPdu) (st : SafSet) (r : SafAxisRec),
    s.selectedSet = some st ∧ st.rec? sx = some r ∧ s.live = true ∧ s.chanRuns c = true ∧ s.exchanges r = true ∧
    p.crcOk = true ∧ s.pduOk c r p = true ∧
    let v := (s.chan c).view sx
    v.rxSeq = some q ∧ (p.seq + 2 ^ 16 - q % 2 ^ 16) % 2 ^ 16 = 1) ∧
  (∃ (s : State) (sx : Nat) (c : Chan) (p : SafetyPdu) (st : SafSet) (r : SafAxisRec),
    s.selectedSet = some st ∧ st.rec? sx = some r ∧ s.live = true ∧ s.chanRuns c = true ∧ s.exchanges r = true ∧
    p.crcOk = true ∧ s.pduOk c r p = true ∧ s.conductor = true ∧
    let v := (s.chan c).view sx
    v.rxSeq = none) ∧
  (∃ (s : State) (st : SafSet),
    s.selectedSet = some st ∧ s.live = true) ∧
  (∃ (s : State) (sx : Nat) (c : Chan) (st : SafSet) (r : SafAxisRec),
    s.selectedSet = some st ∧ st.rec? sx = some r ∧ s.live = true ∧ s.chanRuns c = true ∧ s.exchanges r = true ∧
    r.wd ≤ ((s.chan c).view sx).silent ∧ s.conductor = true) ∧
  (∃ (s : State) (sx : Nat) (c : Chan) (st : SafSet) (r : SafAxisRec),
    s.selectedSet = some st ∧ st.rec? sx = some r ∧ s.live = true ∧ s.chanRuns c = true ∧ s.exchanges r = true ∧
    r.wd ≤ ((s.chan c).view sx).silent ∧ s.conductor = false ∧ sx < (s.chan c).axes.length) :=
  ⟨⟨saf, 0, .a, { report with crcOk := false }, safSet, { axis := 0, remote := true, wd := 2, node := 4 }, by decide +kernel⟩,
   ⟨{ saf with saf := { saf.saf with chA := { saf.saf.chA with axes := [{ rxSeq := some 5, synced := true }] } } }, 0, 5, .a, report, safSet, { axis := 0, remote := true, wd := 2, node := 4 }, by decide +kernel⟩,
   ⟨saf, 0, .a, report, safSet, { axis := 0, remote := true, wd := 2, node := 4 }, by decide +kernel⟩,
   ⟨saf, safSet, by decide +kernel⟩,
   ⟨{ saf with saf := { saf.saf with chA := { saf.saf.chA with axes := [{ rxSeq := some 5, silent := 2 }] } } }, 0, .a, safSet, { axis := 0, remote := true, wd := 2, node := 4 }, by decide +kernel⟩,
   ⟨{ ({ saf with saf := { saf.saf with chA := { saf.saf.chA with axes := [{ rxSeq := some 5, silent := 2, pathOpen := false }] } } }) with conductor := false, node := { nodeNo := some 4 } }, 0, .a, safSet, { axis := 0, remote := true, wd := 2, node := 4 }, by decide +kernel⟩⟩

theorem witness_CyclePhi0BeginsTheNextCycle :
  ∃ (s : State),
    s.live = true ∧ s.hasCycle = true :=
  ⟨lead, by decide +kernel⟩

theorem witness_LoopPartsRunOncePerCycle :
  (∃ (s : State) (a : Nat),
    s.isRun = true ∧ s.conductor = true ∧ s.usable a = true ∧ (s.axis a).inUse = true ∧ (s.axis a).loop.done = false ∧
    s.engineRuns (s.loopEngine a) = true) ∧
  (∃ (s : State) (a : Nat),
    s.isRun = true ∧ s.conductor = false ∧ a < 4) ∧
  (∃ (s : State) (a : Nat),
    s.conductor = true ∧ (s.axis a).loop.done = true) ∧
  (∃ (s : State) (a : Nat),
    s.isRun = true ∧ s.conductor = true ∧ s.usable a = true ∧ (s.axis a).inUse = true ∧ (s.axis a).loop.done = false) ∧
  (∃ (s : State) (a : Nat),
    s.isRun = true ∧ s.conductor = true ∧ s.usable a = true ∧ (s.axis a).inUse = true ∧ (s.axis a).loop.done = true ∧
    (s.axis a).loop.bg = false ∧ s.engineRuns (s.loopEngine a) = true) :=
  ⟨⟨onAxis axOn, 0, by decide +kernel⟩,
   ⟨{ run with conductor := false }, 3, by decide +kernel⟩,
   ⟨onAxis { axOn with loop := { done := true } }, 0, by decide +kernel⟩,
   ⟨onAxis { axOn with loop := { staleRun := 1 } }, 0, by decide +kernel⟩,
   ⟨onAxis { axOn with loop := { done := true } }, 0, by decide +kernel⟩⟩

theorem witness_ReactionsEndOrAreReplaced :
  (∃ (s : State) (a : Nat),
    let x := s.axis a
    s.isRun = true ∧ s.usable a = true ∧ x.enabled = true ∧ x.still = false ∧ x.loop.vestValid = true ∧
    (|x.loop.vEst| ≤ x.raw Pn.stillV) ∧ (x.reaction = .qstop ∨ x.reaction = .tstop ∨ x.ss1 = true)) ∧
  (∃ (s : State) (a : Nat),
    s.usable a = true ∧ (s.axis a).enabled = true ∧ (s.axis a).reaction = .qstop ∧ (s.axis a).still = false) ∧
  (∃ (s : State) (a : Nat),
    s.usable a = true ∧ (s.axis a).enabled = true ∧ (s.axis a).reaction = .tstop ∧ (s.axis a).still = false) :=
  ⟨⟨onAxis { axOn with reaction := .qstop, loop := { vestValid := true } }, 0, by decide +kernel⟩,
   ⟨onAxis { axOn with reaction := .qstop }, 0, by decide +kernel⟩,
   ⟨onAxis { axOn with reaction := .tstop }, 0, by decide +kernel⟩⟩

theorem witness_ProfileRowsTakeEffect :
  (∃ (s : State) (pe : Nat),
    pe < 2 ∧ s.isRun = true ∧ s.engineRuns (4 + pe) = true) ∧
  (∃ (s : State) (a : Nat),
    let x := s.axis a
    s.isRun = true ∧ s.usable a = true ∧ x.enabled = true ∧ x.streamed = true ∧ x.streamLost = false ∧
    0 ≤ x.int Pn.streamSeqSig ∧ 0 < x.int Pn.streamTmo ∧ x.int Pn.streamTmo < x.streamAge ∧ x.ctrlMode ≠ 2 ∧
    x.inReaction = false) ∧
  (∃ (s : State) (a : Nat),
    let x := s.axis a
    s.isRun = true ∧ s.usable a = true ∧ x.enabled = true ∧ x.streamed = true ∧ x.streamLost = false ∧
    0 ≤ x.int Pn.streamSeqSig ∧ 0 < x.int Pn.streamTmo ∧ x.int Pn.streamTmo < x.streamAge ∧
    (x.ctrlMode = 2 ∨ x.inReaction = true)) ∧
  (∃ (s : State) (a : Nat),
    let x := s.axis a
    s.isRun = true ∧ s.usable a = true ∧ x.enabled = true ∧ x.missing = true) :=
  ⟨⟨onAxis axOn, 1, by decide +kernel⟩,
   ⟨onAxis { axOn with pn := [(Pn.profSrc, pnI 1), (Pn.streamSeqSig, pnI 4), (Pn.streamTmo, pnI 2), (Pn.powerPort, 0)], streamAge := 3, prof := .streaming }, 0, by decide +kernel⟩,
   ⟨onAxis { axOn with pn := [(Pn.profSrc, pnI 1), (Pn.ctrlMode, pnI 2), (Pn.streamSeqSig, pnI 4), (Pn.streamTmo, pnI 2), (Pn.powerPort, 0)], streamAge := 3, prof := .streaming }, 0, by decide +kernel⟩,
   ⟨onAxis { axOn with missing := true, misses := 1, vSet := 2 ^ 32 }, 0, by decide +kernel⟩⟩

theorem witness_FabricRowsTakeEffect :
  (∃ (s : State),
    s.live = true) ∧
  (∃ (f : Fabric) (g : Nat) (b : Beat),
    f.winner g = some b) ∧
  (∃ (f : Fabric) (g : Nat) (b : Beat),
    f.winner g = some b) ∧
  (∃ (f : Fabric) (g : Nat) (b : Beat) (c : _),
    f.winner g = some b ∧ c ∈ f.waiting ∧ c.group = g ∧ c.guaranteed = true) ∧
  (∃ (f : Fabric) (g : Nat) (b : Beat) (c : _),
    f.winner g = some b ∧ b.guaranteed = false ∧ c ∈ f.waiting ∧ c.group = g) ∧
  (∃ (f : Fabric) (g : Nat) (c : Beat),
    c ∈ f.waiting ∧ c.group = g) ∧
  (∃ (b : Beat),
    b.guaranteed = true) ∧
  (∃ (b : Beat),
    b.guaranteed = false) ∧
  (∃ (s : State) (errs : List SramError),
    s.live = true ∧ errs.all (fun e => !e.double) = true) ∧
  (∃ (s : State),
    s.live = true) ∧
  (∃ (s : State) (n : Nat),
    s.leads = true ∧ (s.noderec n).state = .member ∧ 3 ≤ (s.noderec n).misses) ∧
  (∃ (s : State) (n : Nat),
    s.leads = true ∧ (s.noderec n).state = .quarantined ∧ (s.noderec n).dropped = true ∧ 3 ≤ (s.noderec n).misses) :=
  ⟨⟨run, by decide +kernel⟩,
   ⟨{ waiting := [⟨0, 5, 3, false⟩, ⟨1, 5, 3, true⟩] }, 1, ⟨1, 5, 3, true⟩, by decide +kernel⟩,
   ⟨{ waiting := [⟨0, 5, 3, false⟩, ⟨1, 5, 3, true⟩] }, 1, ⟨1, 5, 3, true⟩, by decide +kernel⟩,
   ⟨{ waiting := [⟨0, 5, 3, false⟩, ⟨1, 5, 3, true⟩] }, 1, ⟨1, 5, 3, true⟩, ⟨1, 5, 3, true⟩, by decide +kernel⟩,
   ⟨{ waiting := [⟨0, 5, 3, false⟩, ⟨1, 5, 3, false⟩] }, 1, ⟨0, 5, 3, false⟩, ⟨1, 5, 3, false⟩, by decide +kernel⟩,
   ⟨{ waiting := [⟨0, 5, 3, false⟩, ⟨1, 5, 3, false⟩] }, 1, ⟨0, 5, 3, false⟩, by decide +kernel⟩,
   ⟨⟨1, 5, 3, true⟩, by decide +kernel⟩,
   ⟨⟨1, 5, 3, false⟩, by decide +kernel⟩,
   ⟨run, [⟨.engine 0, false⟩], by decide +kernel⟩,
   ⟨run, by decide +kernel⟩,
   ⟨{ lead with bb := { lead.bb with nodes := [(5, { state := .member, misses := 3 })] } }, 5, by decide +kernel⟩,
   ⟨{ lead with bb := { lead.bb with nodes := [(5, { state := .quarantined, dropped := true, misses := 3 })] } }, 5, by decide +kernel⟩⟩

theorem witness_FramesDepartAndReturn :
  (∃ (s : State) (n : Nat),
    s.sends n = true ∧ s.laneServed n = true) ∧
  (∃ (s : State) (n : Nat),
    s.sends n = true ∧ s.laneServed n = true) ∧
  (∃ (s : State) (n : Nat),
    s.sends n = true ∧ s.laneServed n = true) ∧
  (∃ (s : State) (n : Nat),
    s.sends n = true ∧ s.laneServed n = true) ∧
  (∃ (s : State) (n : Nat),
    s.sends n = true ∧ s.laneServed n = true) ∧
  (∃ (s : State) (n : Nat),
    s.sends n = true ∧ s.laneServed n = true) ∧
  (∃ (s : State) (n : Nat),
    s.sends n = true ∧ s.laneServed n = true ∧ s.laneSplit n = false ∧
    t72Diff (t72Mod ((s.phi0Now : Int) + gatherBackNs s.rung * 2 ^ 16)) s.now ≤ 0) ∧
  (∃ (s : State) (n : Nat) (f : SlowFrame) (out : SlowFrame),
    s.sends n = true ∧ s.laneServed n = true ∧ s.slowSent n = some out ∧ slowOkF f = true ∧ f.hdr.cycle = out.hdr.cycle ∧
    f.hdr.condUid = s.uid) ∧
  (∃ (s : State) (n : Nat) (f : SlowFrame) (out : SlowFrame),
    s.sends n = true ∧ s.laneServed n = true ∧ s.slowSent n = some out ∧ slowOkF f = false) :=
  ⟨⟨lane0, 0, by decide +kernel⟩,
   ⟨lane0, 0, by decide +kernel⟩,
   ⟨lane0, 0, by decide +kernel⟩,
   ⟨lane0, 0, by decide +kernel⟩,
   ⟨lane0, 0, by decide +kernel⟩,
   ⟨lane0, 0, by decide +kernel⟩,
   ⟨lane0, 0, by decide +kernel⟩,
   ⟨{ lane0 with bb := { lane0.bb with lanes := [{ slow := some slowFr }, {}, {}, {}] } }, 0, slowFr, slowFr, by decide +kernel⟩,
   ⟨{ lane0 with bb := { lane0.bb with lanes := [{ slow := some slowFr }, {}, {}, {}] } }, 0, { slowFr with tail := noTail }, slowFr, by decide +kernel⟩⟩

theorem witness_TimeRowsTakeEffect :
  (∃ (s : State),
    s.live = true ∧ s.bb.lantern = false ∧ s.bb.flashSeen = false) ∧
  (∃ (s : State),
    s.live = true ∧ s.conductor = true ∧ s.bb.cold = .conductor ∧ s.bb.lantern = false ∧ 1 ≤ s.bb.number ∧
    3 * s.bb.number ≤ s.servo.missed) ∧
  (∃ (s : State),
    s.live = true ∧ s.fld R.timSyncCfg 0 2 = 1) ∧
  (∃ (s : State) (stamp : Nat),
    s.live = true ∧ s.fld R.timSyncCfg 0 2 = 2 ∧ s.bb.lantern = true ∧
    let u := s.setRegT72 R.timSyncin stamp
    u.disciplined = true) ∧
  (∃ (s : State),
    s.live = true ∧ s.bb.lantern = true ∧ s.fld R.timSyncCfg 0 2 = 2 ∧ s.servoServed = true) ∧
  (∃ (s : State) (x : BuoyShot),
    x.buoy < 8 ∧
    let u := s.pinsRun x.run
    let b := x.buoy
    u.live = true ∧ u.bit (R.byCfg b) 17 = true ∧ u.cycle % 2 ^ u.fld (R.byCfg b) 29 3 = 0 ∧ bvGet u.pins.fired b = false ∧
    u.bit (R.byCfg b) 18 = false ∧ u.bit (R.byCfg b) 19 = false ∧ u.bit (R.byCfg b) 24 = false ∧
    u.bit (R.byCfg b) 25 = false ∧ u.bit (R.byCfg b) 26 = false) ∧
  (∃ (s : State) (x : BuoyShot),
    x.buoy < 8 ∧
    let u := s.pinsRun x.run
    let b := x.buoy
    let v : State := { u with pins := { u.pins with fired := bvPut u.pins.fired b true } }
    let w := v.ev (12 + b) 0 0 v.cycle
    u.live = true ∧ u.bit (R.byCfg b) 17 = true ∧ u.cycle % 2 ^ u.fld (R.byCfg b) 29 3 = 0 ∧ bvGet u.pins.fired b = false ∧
    v.bit (R.byCfg b) 18 = true ∧ w.bit (R.byCfg b) 19 = false ∧ w.bit (R.byCfg b) 24 = false ∧ w.bit (R.byCfg b) 25 = false) ∧
  (∃ (s : State) (x : BuoyShot),
    (s.pinsRun x.run).bit (R.byCfg x.buoy) 17 = false ∨ bvGet (s.pinsRun x.run).pins.fired x.buoy = true) :=
  ⟨⟨run, by decide +kernel⟩,
   ⟨{ run with bb := { cold := .conductor, number := 1, uplink := some 0 }, servo := { missed := 3 } }, by decide +kernel⟩,
   ⟨(run.setReg R.timSyncCfg 1), by decide +kernel⟩,
   ⟨(lead.setReg R.timSyncCfg 2), 77, by decide +kernel⟩,
   ⟨(lead.setReg R.timSyncCfg 2), by decide +kernel⟩,
   ⟨(run.setBit (R.byCfg 7) 17 true), ⟨7, ⟨[], 0⟩⟩, by decide +kernel⟩,
   ⟨((run.setBit (R.byCfg 7) 17 true).setBit (R.byCfg 7) 18 true), ⟨7, ⟨[], 0⟩⟩, by decide +kernel⟩,
   ⟨{ (run.setBit (R.byCfg 7) 17 true) with pins := { fired := 0x80 } }, ⟨7, ⟨[], 0⟩⟩, by decide +kernel⟩⟩

theorem witness_FlashesAreTaken :
  (∃ (f : FlashIn),
    f.valid = false ∨ f.void = true) ∧
  (∃ (s : State) (n : Nat) (f : FlashIn),
    n < 4 ∧ s.live = true ∧ f.valid = true ∧ f.void = false ∧ s.laneServed n = true ∧ s.laneServed 0 = true ∧
    s.conductor = true ∧ (s.bb.cold = .listen ∨ s.bb.cold = .coldstart)) ∧
  (∃ (s : State) (n : Nat) (f : FlashIn),
    n < 4 ∧ s.live = true ∧ f.valid = true ∧ f.void = false ∧ s.laneServed n = true ∧ s.laneServed 0 = true ∧
    s.conductor = true ∧ s.bb.cold = .integrate) ∧
  (∃ (s : State) (n : Nat) (f : FlashIn),
    n < 4 ∧ s.live = true ∧ f.valid = true ∧ f.void = false ∧ s.laneServed n = true ∧ s.laneServed 0 = true ∧
    s.conductor = true ∧ s.bb.cold = .lead ∧ f.lanternUid ≠ s.bb.lanternUid) ∧
  (∃ (s : State) (n : Nat) (f : FlashIn),
    n < 4 ∧ s.live = true ∧ f.valid = true ∧ f.void = false ∧ s.laneServed n = true ∧ s.laneServed 0 = true ∧
    s.conductor = true ∧ (s.bb.cold = .announce ∨ (s.bb.cold = .conductor ∧ s.bb.lantern = false)) ∧
    f.lanternUid = s.bb.lanternUid ∧ s.bb.flashSeen = false ∧ s.bb.uplink.isSome = true) ∧
  (∃ (s : State) (n : Nat) (f : FlashIn),
    n < 4 ∧ s.live = true ∧ f.valid = true ∧ f.void = false ∧ s.laneServed n = true ∧ s.laneServed 0 = true ∧
    s.conductor = false ∧ s.node.state = .listen ∧ s.node.nodeNo.isSome = true) ∧
  (∃ (s : State) (n : Nat),
    s.sends n = true ∧ s.laneServed n = true ∧ s.bb.lantern = false) :=
  ⟨⟨{ flash with valid := false }, by decide +kernel⟩,
   ⟨run, 0, flash, by decide +kernel⟩,
   ⟨{ run with bb := { cold := .integrate } }, 0, flash, by decide +kernel⟩,
   ⟨lane0, 0, flash, by decide +kernel⟩,
   ⟨{ run with bb := { cold := .announce, lanternUid := 9, uplink := some 0 } }, 0, flash, by decide +kernel⟩,
   ⟨{ run with conductor := false, node := { state := .listen, nodeNo := some 4 } }, 0, flash, by decide +kernel⟩,
   ⟨{ lane0 with bb := { cold := .conductor, uplink := some 1, lanes := [{ gather := some { hdr := slowHdr, flash := flash, entries := [], blocks := [], conts := [], join := .empty, tail := noTail } }, {}, {}, {}] } }, 0, by decide +kernel⟩⟩

theorem witness_LinkRowsTakeEffect :
  (∃ (s : State) (f : DieFrame),
    s.die.up = true ∧ dieGood false f s.die.resync s.die.rxSeq = true) ∧
  (∃ (s : State) (f : DieFrame),
    s.die.up = true ∧ dieGood false f s.die.resync s.die.rxSeq = false) ∧
  (∃ (s : State) (f : DieFrame),
    s.die.fieldEnd.up = true ∧ dieGood true f s.die.fieldEnd.resync s.die.fieldEnd.rxSeq = true) ∧
  (∃ (s : State),
    s.die.up = true) ∧
  (∃ (s : State),
    (s.die.lost = true ∨ s.die.fieldEnd.lost = true) ∧ s.pw.boot = .up ∧ s.field.unseen = []) ∧
  (∃ (s : State) (n : Nat),
    n < 4 ∧ s.live = true ∧ s.bit R.clkStat 2 = true ∧ s.laneOn n = true ∧ s.linkUp n = false ∧ s.conductor = true ∧
    s.ringOf n = none) ∧
  (∃ (s : State) (n : Nat),
    n < 4 ∧ s.linkUp n = true ∧ s.conductor = true ∧ s.ringOf n = none) ∧
  (∃ (s : State) (n : Nat) (e : Nat) (c : Nat),
    n < 4 ∧ s.live = true ∧ s.conductor = true ∧ s.ringOf n = some e ∧ s.bit (R.bbStat e) 4 = true ∧ s.linkUp e = true ∧
    s.linkUp (e + 1) = true ∧ (s.lane e).ringCloseAt = some c ∧ 0 ≤ cycDiff c s.nextCycle) ∧
  (∃ (s : State) (n : Nat),
    n < 4 ∧ s.live = true ∧ s.linkUp n = true ∧ (s.hasCycle = true → s.cycle % 64 = 0)) ∧
  (∃ (s : State) (n : Nat) (seq : Nat) (node : Nat) (uid : Nat × Ends),
    n < 4 ∧ s.live = true ∧ s.linkUp n = true ∧ linkOk ⟨false, seq, node, 0, 0, uid.1, uid.2⟩ = true) ∧
  (∃ (s : State) (n : Nat) (seq : Nat) (node : Nat) (uid : Nat × Ends) (t1 : Nat) (t2 : Nat) (t3 : Nat) (t4 : Nat),
    n < 4 ∧ s.live = true ∧ s.linkUp n = true ∧ linkOk ⟨true, seq, node, t2, t3, uid.1, uid.2⟩ = true ∧
    let u := s.countBad n uid.2.tail
    let v := u.setLane n { u.lane n with peer := some (node, uid.1) }
    seq = (v.lane n).reqSeq ∧
    let ds := ((t72Diff t1 t4 - t72Diff t2 t3) :: (v.lane n).delays).take 8
    ds.length < 8) ∧
  (∃ (s : State) (n : Nat) (seq : Nat) (node : Nat) (uid : Nat × Ends) (t1 : Nat) (t2 : Nat) (t3 : Nat) (t4 : Nat),
    n < 4 ∧ s.live = true ∧ s.linkUp n = true ∧ linkOk ⟨true, seq, node, t2, t3, uid.1, uid.2⟩ = true ∧
    let u := s.countBad n uid.2.tail
    let v := u.setLane n { u.lane n with peer := some (node, uid.1) }
    seq = (v.lane n).reqSeq ∧
    let ds := ((t72Diff t1 t4 - t72Diff t2 t3) :: (v.lane n).delays).take 8
    ds.length = 8) ∧
  (∃ (s : State) (n : Nat) (seq : Nat) (node : Nat) (response : Bool) (uid : Nat × Ends) (t2 : Nat) (t3 : Nat),
    n < 4 ∧ s.live = true ∧ s.linkUp n = true ∧
    linkOk ⟨response, seq, node, if response then t2 else 0, if response then t3 else 0, uid.1, uid.2⟩ = false) :=
  ⟨⟨die, dieFrame, by decide +kernel⟩,
   ⟨die, { dieFrame with ftype := 3 }, by decide +kernel⟩,
   ⟨die, toField, by decide +kernel⟩,
   ⟨die, by decide +kernel⟩,
   ⟨{ run with die := { lost := true } }, by decide +kernel⟩,
   ⟨{ run with regs := [(R.clkStat, 0xF), (R.pwrState, 0), (R.bbCfg 0, 1)] }, 0, by decide +kernel⟩,
   ⟨lane0, 0, by decide +kernel⟩,
   ⟨{ run with regs := [(R.clkStat, 0xF), (R.pwrState, 0), (R.bbCfg 0, 2), (R.bbStat 0, 0x11), (R.bbStat 1, 1)], bb := { lanes := [{ ringCloseAt := some 1 }, {}, {}, {}] } }, 1, 0, 1, by decide +kernel⟩,
   ⟨lane0, 0, by decide +kernel⟩,
   ⟨lane0, 0, 9, 0, (1, (sentLink false 9 0 0 0 1).ends), by decide +kernel⟩,
   ⟨lane0, 0, 0, 0, (1, (sentLink true 0 0 3 4 1).ends), 2, 3, 4, 5, by decide +kernel⟩,
   ⟨{ lane0 with bb := { lane0.bb with lanes := [{ delays := [9, 9, 9, 9, 9, 9, 9] }, {}, {}, {}] } }, 0, 0, 0, (1, (sentLink true 0 0 3 4 1).ends), 2, 3, 4, 5, by decide +kernel⟩,
   ⟨lane0, 0, 9, 0, false, (1, (sentLink false 8 0 0 0 1).ends), 3, 4, by decide +kernel⟩⟩

theorem witness_ColdStartAndMembershipRowsTakeEffect :
  (∃ (s : State),
    s.live = true ∧ s.conductor = true ∧ s.bb.cold = .listen ∧ s.bit R.bbGcfg 0 = true) ∧
  (∃ (s : State),
    s.live = true ∧ s.conductor = true ∧ s.bb.cold = .coldstart ∧ s.bb.lanes.length = 4) ∧
  (∃ (s : State) (n : Nat) (rank : Nat) (uid : Nat × Ends),
    n < 4 ∧ s.live = true ∧ s.conductor = true ∧ s.linkUp n = true ∧ coldOk ⟨rank, uid.1, uid.2⟩ = true ∧
    (s.bb.cold = .listen ∨ s.bb.cold = .coldstart)) ∧
  (∃ (s : State) (n : Nat) (rank : Nat) (uid : Nat × Ends),
    n < 4 ∧ s.live = true ∧ s.conductor = true ∧ s.linkUp n = true ∧ coldOk ⟨rank, uid.1, uid.2⟩ = false) ∧
  (∃ (s : State),
    s.live = true ∧ s.conductor = true ∧ s.bb.cold = .coldstart) ∧
  (∃ (s : State),
    s.live = true ∧ s.conductor = true ∧ s.bb.cold = .integrate) ∧
  (∃ (s : State) (lane : Nat) (reason : Nat) (r : CapRecord),
    lane < 4 ∧ s.leads = true ∧ s.capReason r = some reason ∧ (s.noderec (r.nodeNo % 256)).holds = true) ∧
  (∃ (s : State) (lane : Nat) (reason : Nat) (r : CapRecord),
    lane < 4 ∧ s.leads = true ∧ s.capReason r = some reason ∧ (s.noderec (r.nodeNo % 256)).holds = false) ∧
  (∃ (s : State) (lane : Nat) (position : Nat) (r : CapRecord),
    lane < 4 ∧ s.leads = true ∧ s.capReason r = none ∧
    let u := s.dropRival r.uid r.nodeNo
    let x := u.noderec r.nodeNo
    u.uidElsewhere r.uid (s.lineOf lane) position = none ∧ x.state = .absent) ∧
  (∃ (s : State) (lane : Nat) (position : Nat) (r : CapRecord),
    lane < 4 ∧ s.leads = true ∧ s.capReason r = none ∧
    let u := s.dropRival r.uid r.nodeNo
    let x := u.noderec r.nodeNo
    u.uidElsewhere r.uid (s.lineOf lane) position = none ∧ x.state = .member ∧ x.uid ≠ some r.uid ∧ r.uid ∉ x.rivals) ∧
  (∃ (s : State) (n : Nat) (c : Nat),
    s.leads = true ∧ (s.noderec n).state = .lost ∧ (s.noderec n).readmitAt = some c ∧ 0 ≤ cycDiff c s.nextCycle) ∧
  (∃ (s : State) (lane : Nat),
    lane < 4 ∧ s.leads = true ∧ s.bit (R.bbCfg lane) 2 = false) ∧
  (∃ (s : State) (lane : Nat),
    lane < 4 ∧ s.leads = true ∧ s.bit (R.bbCfg lane) 2 = true) :=
  ⟨⟨(run.setBit R.bbGcfg 0 true), by decide +kernel⟩,
   ⟨{ lane0 with bb := { cold := .coldstart } }, by decide +kernel⟩,
   ⟨{ lane0 with bb := { cold := .coldstart } }, 0, 3, (8, (sentCold 3 8).ends), by decide +kernel⟩,
   ⟨{ lane0 with bb := { cold := .coldstart } }, 0, 3, (8, (sentCold 4 8).ends), by decide +kernel⟩,
   ⟨{ lane0 with bb := { cold := .coldstart } }, by decide +kernel⟩,
   ⟨{ run with bb := { cold := .integrate } }, by decide +kernel⟩,
   ⟨{ lane0 with bb := { lane0.bb with nodes := [(5, { state := .member, record := some cap })] } }, 0, 3, { cap with profile := 2 }, by decide +kernel⟩,
   ⟨lane0, 0, 3, { cap with profile := 2 }, by decide +kernel⟩,
   ⟨lane0, 0, 1, cap, by decide +kernel⟩,
   ⟨{ lane0 with bb := { lane0.bb with nodes := [(5, { state := .member, record := some { cap with uid := 76 } })] } }, 0, 1, cap, by decide +kernel⟩,
   ⟨{ lane0 with cycle := 8, bb := { lane0.bb with nodes := [(5, { state := .lost, readmitAt := some 9 })] } }, 5, 9, by decide +kernel⟩,
   ⟨lane0, 0, by decide +kernel⟩,
   ⟨(lane0.setBit (R.bbCfg 0) 2 true), 0, by decide +kernel⟩⟩

theorem witness_NodeRowsTakeEffect :
  (∃ (s : State) (port : Nat),
    s.memberSide port = true) ∧
  (∃ (s : State) (port : Nat),
    s.memberSide port = true ∧ s.linkUp port = true ∧ s.laneServed port = true ∧ (s.lane port).lineEnd = false) ∧
  (∃ (s : State) (port : Nat),
    s.memberSide port = true ∧ s.linkUp port = true ∧ s.laneServed port = true ∧ (s.lane port).lineEnd = false) ∧
  (∃ (s : State) (port : Nat),
    s.memberSide port = true ∧ s.linkUp port = true ∧ s.laneServed port = true ∧ (s.lane port).lineEnd = false) ∧
  (∃ (s : State) (port : Nat),
    s.memberSide port = true ∧ s.linkUp port = true ∧ s.laneServed port = true ∧ (s.lane port).lineEnd = false) ∧
  (∃ (s : State) (port : Nat),
    s.memberSide port = true ∧ s.linkUp port = true ∧ s.laneServed port = true ∧ (s.lane port).lineEnd = false) ∧
  (∃ (s : State) (port : Nat) (f : ScatterFrame),
    s.conductor = false ∧ s.memberSide port = true ∧ s.linkUp port = true ∧ s.laneServed port = true ∧
    s.node.scatterSeen = false ∧ scatterOkF f = true) ∧
  (∃ (s : State) (i : Nat),
    i < 4 ∧ s.live = true ∧ s.conductor = false ∧
    let x := s.node.axes.getD i {}
    x.enabled = true ∧ x.got = false) ∧
  (∃ (s : State),
    s.live = true ∧ s.conductor = false ∧ s.node.state = .member ∧ 64 ≤ s.node.missed) ∧
  (∃ (s : State) (r : ScheduleRec),
    s.takesRecords = true ∧ s.addressed r.dest = true ∧ s.node.pending = none ∧ r.gen ≠ s.node.inForce.gen) ∧
  (∃ (s : State) (r : ConfigRec),
    s.takesRecords = true ∧ s.addressed r.dest = true ∧ s.node.pending = none ∧ r.gen ≠ s.node.inForce.gen) ∧
  (∃ (s : State) (r : ConfigRec),
    s.takesRecords = true ∧ s.addressed r.dest = true ∧ s.node.pending = none ∧ r.gen ≠ s.node.inForce.gen ∧ r.part = 0 ∧
    r.parts = 1) ∧
  (∃ (s : State) (r : AckRec) (g : Generation),
    s.conductor = false ∧ s.takesRecords = true ∧ s.ownNo = some r.node ∧ s.node.pending = some g ∧ g.refusedItem = none) ∧
  (∃ (s : State) (i : Nat) (r : AckRec) (g : Generation),
    s.conductor = false ∧ s.takesRecords = true ∧ s.ownNo = some r.node ∧ s.node.pending = some g ∧ g.refusedItem = some i) ∧
  (∃ (s : State) (n : Nat),
    n < 4 ∧ s.conductor = true ∧ s.bb.lantern = true ∧ s.leads = true) ∧
  (∃ (s : State) (g : Generation),
    s.takesRecords = true ∧ s.node.pending = some g ∧ g.complete = true ∧ s.node.adoptNext = true) :=
  ⟨⟨member, 0, by decide +kernel⟩,
   ⟨member, 0, by decide +kernel⟩,
   ⟨member, 0, by decide +kernel⟩,
   ⟨member, 0, by decide +kernel⟩,
   ⟨member, 0, by decide +kernel⟩,
   ⟨member, 0, by decide +kernel⟩,
   ⟨member, 0, scatterFr, by decide +kernel⟩,
   ⟨{ member with node := { member.node with axes := [{}, {}, {}, { enabled := true, misses := 1 }] } }, 3, by decide +kernel⟩,
   ⟨{ member with node := { member.node with missed := 64 } }, by decide +kernel⟩,
   ⟨member, sched, by decide +kernel⟩,
   ⟨member, ⟨4, 7, 0, 1, []⟩, by decide +kernel⟩,
   ⟨member, ⟨4, 7, 0, 1, []⟩, by decide +kernel⟩,
   ⟨{ member with node := { member.node with pending := some { gen := 7, parts := [0], total := 1, cfgParts := [(0, some [])], cfgTotal := 1 } } }, ⟨4, 0, 0, 0⟩, { gen := 7, parts := [0], total := 1, cfgParts := [(0, some [])], cfgTotal := 1 }, by decide +kernel⟩,
   ⟨{ member with node := { member.node with pending := some { gen := 7, parts := [0], total := 1, cfgParts := [(0, some [])], cfgTotal := 1, refusedItem := some 2 } } }, 2, ⟨4, 0, 0, 0⟩, { gen := 7, parts := [0], total := 1, cfgParts := [(0, some [])], cfgTotal := 1, refusedItem := some 2 }, by decide +kernel⟩,
   ⟨lane0, 0, by decide +kernel⟩,
   ⟨{ member with node := { member.node with pending := some { gen := 7, parts := [0], total := 1, cfgParts := [(0, some [])], cfgTotal := 1 }, adoptNext := true } }, { gen := 7, parts := [0], total := 1, cfgParts := [(0, some [])], cfgTotal := 1 }, by decide +kernel⟩⟩

theorem witness_CanRowsTakeEffect :
  (∃ (s : State) (k : Nat) (v : Reg32),
    k < 2 ∧ s.conductor = true ∧ s.writable = true ∧ s.canInit k = true ∧ bits v 0 1 = 0 ∧ bits v 4 1 = 0 ∧
    let u := s.setFld (R.canCtl k) 1 3 (bits v 1 3)
    u.canInit k = true) ∧
  (∃ (s : State) (k : Nat),
    k < 2 ∧ s.conductor = true ∧ s.live = true ∧ s.canInit k = false ∧ (s.canc k).joining = true) ∧
  (∃ (s : State) (k : Nat),
    k < 2 ∧ s.conductor = true ∧ s.canOn k = true) ∧
  (∃ (s : State) (k : Nat),
    k < 2 ∧ s.conductor = true ∧ s.canOn k = true ∧ 255 < (s.canc k).tec) ∧
  (∃ (s : State) (k : Nat),
    k < 2 ∧ s.conductor = true ∧ s.live = true ∧ s.canInit k = false ∧ (s.canc k).asleep = false ∧ (s.canc k).busOff = true) ∧
  (∃ (s : State) (k : Nat) (f : CanFrame) (i : Nat),
    k < 2 ∧ s.conductor = true ∧ s.canOn k = true ∧ f.fdf = false ∧
    let u := s.canCounts k (s.canc k).tec (recAfter (s.canc k).rec_)
    u.canFilter k f = some i) ∧
  (∃ (s : State) (k : Nat) (f : CanFrame),
    k < 2 ∧ s.conductor = true ∧ s.canOn k = true ∧ f.fdf = false ∧
    let u := s.canCounts k (s.canc k).tec (recAfter (s.canc k).rec_)
    u.canFilter k f = none) ∧
  (∃ (s : State) (k : Nat) (f : CanFrame),
    k < 2 ∧ s.conductor = true ∧ s.canOn k = true ∧ f.fdf = true ∧ s.canFd k = false) ∧
  (∃ (s : State) (k : Nat),
    k < 2 ∧ s.conductor = true ∧ s.writable = true) ∧
  (∃ (s : State) (k : Nat) (b : Nat) (t : Nat) (f : CanFrame),
    k < 2 ∧ s.conductor = true ∧ (s.canc k).pending.get none b = some f ∧ s.canOn k = true ∧ s.bit (R.canCtl k) 2 = false ∧
    s.canBefore k b t f = false) ∧
  (∃ (s : State) (k : Nat) (b : Nat),
    k < 2 ∧ s.conductor = true ∧ s.canOn k = true ∧ s.canPending k b = true ∧ s.bufOneShot k b = false) ∧
  (∃ (s : State) (k : Nat) (b : Nat),
    k < 2 ∧ s.conductor = true ∧ s.canOn k = true ∧ s.canPending k b = true ∧ s.bufOneShot k b = true) ∧
  (∃ (s : State) (k : Nat),
    k < 2 ∧ s.conductor = true ∧ s.live = true ∧ (s.canc k).asleep = false) ∧
  (∃ (s : State) (k : Nat),
    k < 2 ∧ s.conductor = true ∧ s.mode ≠ .notUp ∧ (s.canc k).asleep = true ∧ s.canWakeMode k = 1 ∧
    let u := s.setBit (R.canCtl k) 4 false
    let w := u.setCanc k { u.canc k with asleep := false }
    w.canInit k = false) :=
  ⟨⟨run, 0, 0, by decide +kernel⟩,
   ⟨{ (run.setReg (R.canCtl 0) 0) with can := [(0, { joining := true })] }, 0, by decide +kernel⟩,
   ⟨bus, 0, by decide +kernel⟩,
   ⟨{ bus with can := [(0, { joined := true, tec := 256 })] }, 0, by decide +kernel⟩,
   ⟨{ bus with can := [(0, { joined := true, tec := 256, busOff := true })] }, 0, by decide +kernel⟩,
   ⟨((bus.setReg (R.canFltCfg 0 0) 0x105).setReg (R.canFltId 0 0) 0x123).setReg (R.canFltMask 0 0) 0x1FFFFFFF, 0, canFrame, 0, by decide +kernel⟩,
   ⟨bus, 0, canFrame, by decide +kernel⟩,
   ⟨bus, 0, { canFrame with fdf := true }, by decide +kernel⟩,
   ⟨(bus.setReg (R.canBuf 0 5) 3), 0, by decide +kernel⟩,
   ⟨{ bus with can := [(0, { joined := true, pending := [(5, some canFrame)], tec := 3 })] }, 0, 5, 77, canFrame, by decide +kernel⟩,
   ⟨{ bus with can := [(0, { joined := true, pending := [(5, some canFrame)] })] }, 0, 5, by decide +kernel⟩,
   ⟨{ (bus.setReg (R.canBuf 0 5) 7) with can := [(0, { joined := true, pending := [(5, some canFrame)] })] }, 0, 5, by decide +kernel⟩,
   ⟨bus, 0, by decide +kernel⟩,
   ⟨{ (bus.setReg (R.canWakeCfg 0) 1).setReg (R.canCtl 0) 0x10 with can := [(0, { asleep := true })] }, 0, by decide +kernel⟩⟩

theorem witness_ConverterRowsTakeEffect :
  (∃ (s : State) (k : Nat),
    k < 4 ∧ s.live = true ∧ s.engineRuns 10 = true ∧ (s.adcv k).busy = false) ∧
  (∃ (s : State) (k : Nat) (src : AdcTrigger),
    k < 4 ∧ s.live = true ∧ s.engineRuns 10 = true ∧ s.adcListens k src = true ∧ (s.adcv k).busy = false) ∧
  (∃ (s : State) (k : Nat) (src : AdcTrigger),
    k < 4 ∧ s.live = true ∧ s.engineRuns 10 = true ∧ s.adcListens k src = true ∧ (s.adcv k).busy = true ∧
    (s.adcv k).trigAt / 2 ^ 17 ≠ s.now / 2 ^ 17) ∧
  (∃ (s : State) (k : Nat),
    k < 4 ∧ (s.adcv k).busy = true) ∧
  (∃ (s : State),
    s.mode = .standby) :=
  ⟨⟨run, 0, by decide +kernel⟩,
   ⟨(run.setReg (R.adcCfg 1) 0x10), 1, .phi0, by decide +kernel⟩,
   ⟨{ run.setReg (R.adcCfg 1) 0x10 with adc := [(1, { busy := true, trigAt := 2 ^ 30 })] }, 1, .phi0, by decide +kernel⟩,
   ⟨{ run with adc := [(1, { busy := true, slots := [1, 2] })] }, 1, by decide +kernel⟩,
   ⟨standby, by decide +kernel⟩⟩

theorem witness_FeedbackRowsTakeEffect :
  (∃ (s : State) (k : Nat) (run : PinRun),
    k < 4 ∧
    let u := s.pinsRun run
    let v := u.linesAt k (u.brokenLevels k)
    let w := (((v.setBit (R.fbStat k) 8 true).bumpFld (R.fbIllCnt k) 0 16 1).bumpFld (R.fbIllCnt k) 16 8 1).setFbp k
      { v.fbp k with illSeen := true }
    u.fbRuns k = true ∧ u.fbLive k = true ∧ (v.fbp k).illSeen = true ∧ w.fld (R.fbCfg k) 16 8 = 0) ∧
  (∃ (s : State) (k : Nat) (run : PinRun),
    k < 4 ∧
    let u := s.pinsRun run
    u.fbRuns k = true ∧ u.fbMode k = 1 ∧ u.zGate k (u.fbp k).lev = true ∧ u.bit (R.fbStat k) 2 = false) ∧
  (∃ (s : State) (k : Nat) (word : Nat) (f0 : Nat),
    k < 4 ∧ s.fbRuns k = true ∧ s.fbMode k = 3 ∧ (s.fbp k).loopMeasured = true ∧ (s.fbp k).ssiDone = false ∧
    (s.fbp k).ssiLast = some f0 ∧ s.ssiBad k word false = false ∧ s.fld (R.fbSsi2 k) 0 24 = 0) ∧
  (∃ (s : State) (k : Nat) (delays : List (Option Nat)),
    k < 4 ∧ s.fbRuns k = true ∧ s.fbMode k = 3 ∧ (s.fbp k).loopMeasured = false ∧ (delays.length ≠ 8 ∨ none ∈ delays)) ∧
  (∃ (s : State) (k : Nat),
    k < 4 ∧ s.writable = true) ∧
  (∃ (s : State) (k : Nat),
    k < 4 ∧ s.writable = true ∧ s.portHoming k = true) ∧
  (∃ (s : State) (k : Nat),
    k < 4 ∧ s.writable = true ∧ s.portHoming k = false) ∧
  (∃ (s : State) (k : Nat) (j : Nat) (run : PinRun) (rise : Bool),
    k < 4 ∧ j < 2 ∧
    let u := s.pinsRun run
    let b := u.fld (R.fbLatCtl k j) 8 4
    u.fld (R.fbLatCtl k j) 0 2 = 3 ∧ b < 8 ∧ u.byDue b = true ∧ u.latchTakes k j 3 b rise = true ∧ u.fbLive k = true) ∧
  (∃ (s : State) (k : Nat) (run : PinRun),
    k < 4 ∧
    let u := s.pinsRun run
    let d := u.cmpDir k 0
    let v := u.linesAt k (u.nextLevels k d)
    let w := v.setFbp k { v.fbp k with count := (v.fbp k).count + d, lastStep := d }
    let old := w.countPos k (v.fbp k).count
    let new := w.livePos k
    let x := ((w.setReg (R.cmpHits k 0) (w.reg (R.cmpHits k 0) + 1)).freeStep k 0).cmpDrive k 0
    let y := x.setFbp k { x.fbp k with cmpArm := (x.fbp k).cmpArm.set 0 4 }
    u.fbRuns k = true ∧ u.fbMode k ≠ 3 ∧ w.fbLive k = true ∧ w.bit (R.cmpCtl k 0) 0 = true ∧ (w.fbp k).cmpArm.getD 0 0 = 0 ∧
    w.cmpAhead k 0 old < 0 ∧ 0 ≤ w.cmpAhead k 0 new ∧ y.bit (R.cmpCtl k 0) 6 = false ∧ y.reg72 (R.cmpStep k 0) = 0 ∧
    let z := y.setBit (R.cmpCtl k 0) 0 false
    z.bit (R.cmpCtl k 1) 0 = false ∧ z.fbLive k = true) ∧
  (∃ (s : State) (k : Nat) (j : Nat) (hi : Reg32) (run : PinRun),
    k < 4 ∧ j < 2 ∧ (s.pinsRun run).writable = true ∧
    let u := ((s.pinsRun run).commitWide (R.cmpVal k j) 72 hi).freeStep k j
    u.fbRuns k = true ∧ 0 ≤ u.cmpAhead k j (u.cmpPos k)) ∧
  (∃ (s : State) (k : Nat) (j : Nat) (hi : Reg32) (run : PinRun),
    k < 4 ∧ j < 2 ∧ (s.pinsRun run).writable = true ∧
    let u := ((s.pinsRun run).commitWide (R.cmpVal k j) 72 hi).freeStep k j
    (u.fbRuns k = false ∨ u.cmpAhead k j (u.cmpPos k) < 0)) ∧
  (∃ (k : Nat),
    k < 4) ∧
  (∃ (s : State) (k : Nat),
    k < 4 ∧ 255 ≤ (s.fbp k).emuWait.natAbs) :=
  ⟨⟨{ fbOn 1 with fb := [(0, { illSeen := true })] }, 0, ⟨[], 0⟩, by decide +kernel⟩,
   ⟨fbOn 1, 0, ⟨[], 0⟩, by decide +kernel⟩,
   ⟨{ (fbOn 3).setReg (R.fbSsi2 0) 0 with fb := [(0, { loopMeasured := true, ssiLast := some 5 })] }, 0, 77, 5, by decide +kernel⟩,
   ⟨fbOn 3, 0, [none], by decide +kernel⟩,
   ⟨run, 0, by decide +kernel⟩,
   ⟨onAxis { axOn with pn := [(Pn.fbSrc, 0), (Pn.powerPort, 0)], homing := some {} }, 0, by decide +kernel⟩,
   ⟨run, 0, by decide +kernel⟩,
   ⟨{ fbOn 1 with regs := (fbOn 1).regs.set 0 (R.fbLatCtl 0 1) 0x23, fb := [(0, {})] }.setBit (R.byCfg 0) 17 true, 0, 1, ⟨[], 0⟩, true, by decide +kernel⟩,
   ⟨(((fbOn 1).setReg (R.cmpCtl 0 0) 1).setReg72 (R.cmpVal 0 0) 1), 0, ⟨[], 0⟩, by decide +kernel⟩,
   ⟨fbOn 1, 0, 1, 0, ⟨[], 0⟩, by decide +kernel⟩,
   ⟨run, 0, 1, 0, ⟨[], 0⟩, by decide +kernel⟩,
   ⟨0, by decide +kernel⟩,
   ⟨{ run with fb := [(0, { emuWait := 255 })] }, 0, by decide +kernel⟩⟩

theorem witness_PowerStageRowsTakeEffect :
  (∃ (s : State) (c : Nat),
    c < 16 ∧ s.bit (R.sdmCfg c) 0 = true) ∧
  (∃ (s : State) (c : Nat) (x : Int),
    12 ≤ c ∧ c < 16 ∧ s.cmpOn c = true ∧ (s.sdmc c).above = false ∧ (s.sdmc c).below = false ∧
    let v := s.sdmPolarity c x - s.sdmOffs c
    sbits (s.reg (R.sdmCmp c)) 0 16 * 2 ^ 20 < v ∧ sbits (s.reg (R.sdmCmp c)) 16 16 * 2 ^ 20 ≤ v) ∧
  (∃ (s : State) (k : Nat) (a : Nat) (udc : Int),
    k < 4 ∧ s.portAxis k = some a ∧ (s.axis a).int Pn.chopEn = 1 ∧ (s.axis a).g Pn.chopOn < (s.axis a).busVolts udc ∧
    s.cmpTrips (2 * k) = false ∧ s.cmpTrips (2 * k + 1) = false ∧ (s.pwmp k).cmpTrip = false) ∧
  (∃ (s : State) (k : Nat) (a : Nat) (u0 : Int) (u1 : Int),
    k < 4 ∧ s.portAxis k = some a ∧ (s.axis a).int Pn.chopEn = 1 ∧ s.chopReq k = true ∧ u0 ≤ u1) ∧
  (∃ (s : State) (c : Nat),
    c < 4 ∧ s.live = true ∧ s.chopCarrier c ≠ 0 ∧ (s.chopper c).on = true) ∧
  (∃ (s : State) (a : Nat) (us : List Int) (vs : List Int) (ns : Nat),
    let x := s.axis a
    let f := fitEmf (x.windowEmf (s.windowStep x) (x.windowCurrents us vs))
    s.usable a = true ∧ s.isRun = true ∧ x.fly.on = true ∧ x.fly.window = true ∧ x.remote = false ∧ 200000 ≤ ns ∧
    3 * f.mag ^ 2 ≤ (hVal x.udcUsed * x.g Pn.uFs) ^ 2 ∧ 10 * f.residual ≤ f.mag) ∧
  (∃ (s : State) (a : Nat) (us : List Int) (vs : List Int) (ns : Nat),
    let x := s.axis a
    let f := fitEmf (x.windowEmf (s.windowStep x) (x.windowCurrents us vs))
    s.usable a = true ∧ s.isRun = true ∧ x.fly.on = true ∧ x.fly.window = true ∧ x.remote = false ∧ 200000 ≤ ns ∧
    ((hVal x.udcUsed * x.g Pn.uFs) ^ 2 < 3 * f.mag ^ 2 ∨ f.mag < 10 * f.residual)) ∧
  (∃ (s : State) (a : Nat),
    let x := s.axis a
    s.usable a = true ∧ s.isRun = true ∧ x.fly.on = true ∧ x.fly.observer = false ∧ x.loop.vestValid = true ∧
    2 ≤ cycDiff x.fly.since s.cycle ∧ x.streamed = false ∧ x.reqs = [] ∧ x.loop.ranC = false) ∧
  (∃ (s : State) (k : Nat),
    k < 4 ∧ (s.pwmp k).pinActive = false) ∧
  (∃ (s : State) (k : Nat),
    k < 4 ∧ s.writable = true ∧ (s.pwmp k).tripped = true ∧ (s.pwmp k).tripActive = true) ∧
  (∃ (s : State) (k : Nat),
    k < 4 ∧ s.writable = true ∧ (s.pwmp k).tripped = true ∧ (s.pwmp k).tripActive = false) ∧
  (∃ (k : Nat),
    k < 4) ∧
  (∃ (s : State) (k : Nat),
    k < 4 ∧ s.writable = true) ∧
  (∃ (s : State) (k : Nat),
    k < 4 ∧ s.live = true ∧ s.clkFail = false ∧ (s.pwmp k).period + 1 < s.portK k) :=
  ⟨⟨run.setReg (R.sdmCfg 2) 1, 2, by decide +kernel⟩,
   ⟨((run.setReg (R.sdmCmpCfg 12) 1).setReg (R.sdmCmp 12) 5), 12, 2 ^ 24, by decide +kernel⟩,
   ⟨onAxis { axOn with pn := [(Pn.chopEn, pnI 1), (Pn.usensFs, pnI 1000), (Pn.chopOn, pnI 400), (Pn.powerPort, 0)] }, 0, 0, 2 ^ 34, by decide +kernel⟩,
   ⟨{ (onAxis { axOn with pn := [(Pn.chopEn, pnI 1), (Pn.usensFs, pnI 1000), (Pn.chopOn, pnI 400), (Pn.powerPort, 0)] }).setReg (R.chCfg 0) 1 with chop := [(0, { req := true })] }, 0, 0, 5, 6, by decide +kernel⟩,
   ⟨{ run.setReg (R.chCfg 0) 5 with chop := [(0, { on := true })] }, 0, by decide +kernel⟩,
   ⟨onAxis { axOn with loop := { udc := 2 ^ 34 }, fly := { on := true, window := true } }, 0, [], [], 200000, by decide +kernel⟩,
   ⟨onAxis { axOn with pn := [(Pn.rS, pnI 1), (Pn.iFs, pnI 100), (Pn.powerPort, 0)], fly := { on := true, window := true } }, 0, [2 ^ 33, 2 ^ 34], [0, 0], 200000, by decide +kernel⟩,
   ⟨{ onAxis { axOn with pn := [(Pn.ctrlMode, pnI 3), (Pn.powerPort, 0)], loop := { vestValid := true, vEst := 2 ^ 40 }, fly := { on := true } } with cycle := 2 }, 0, by decide +kernel⟩,
   ⟨{ run with pwm := [(0, { pinActive := false })] }, 0, by decide +kernel⟩,
   ⟨{ run with pwm := [(0, { tripped := true })] }, 0, by decide +kernel⟩,
   ⟨{ run with pwm := [(0, { tripped := true, pinActive := false })] }, 0, by decide +kernel⟩,
   ⟨0, by decide +kernel⟩,
   ⟨run, 0, by decide +kernel⟩,
   ⟨(run.setReg (R.pwmCfg 0) 5), 0, by decide +kernel⟩⟩

theorem witness_FieldRowsTakeEffect :
  (∃ (s : State) (ch : Nat) (level : Bool),
    ch < 16 ∧ s.pw.boot = .up ∧ s.inValid = true ∧ s.die.up = true ∧ bvGet s.field.inputs ch ≠ level ∧
    s.field.stampQueue.length < 16) ∧
  (∃ (s : State),
    s.writable = true ∧ s.engineRuns 10 = true) ∧
  (∃ (s : State),
    s.writable = true ∧ s.engineRuns 10 = false) ∧
  (∃ (s : State) (ch : Nat),
    ch < 16 ∧ s.bit R.dioOutEn ch = true) ∧
  (∃ (s : State) (c : Nat),
    c < 16 ∧ s.writable = true ∧ s.bit R.dioStat 4 = false ∧ s.coreOut c = true) ∧
  (∃ (s : State) (ch : Nat),
    s.field.checks.get none ch = some (2, false) ∧ bvGet s.field.testOff ch = true) ∧
  (∃ (s : State) (ch : Nat) (expect : Bool),
    s.field.checks.get none ch = some (1, expect) ∧ s.bit R.dioOutEn ch = true ∧ s.die.up = true ∧ s.bit R.dioStat 4 = false) ∧
  (∃ (s : State) (mv : Nat),
    s.die.up = true ∧ s.pw.boot = .up ∧ mv < 1800 ∧ s.field.warn = false) ∧
  (∃ (s : State) (mv : Nat),
    s.die.up = true ∧ s.pw.boot = .up ∧ 1850 < mv ∧ s.field.warn = true) ∧
  (∃ (s : State) (mv : Nat),
    s.die.up = true ∧ s.pw.boot = .up ∧ 3200 < mv) ∧
  (∃ (s : State) (mv : Nat),
    s.die.up = true ∧ s.pw.boot = .up ∧ s.reg R.dioOutEn = 0 ∧ mv < 1530 ∧ s.field.low = false) ∧
  (∃ (s : State) (mv : Nat),
    s.die.up = true ∧ s.pw.boot = .up ∧ s.reg R.dioOutEn = 0 ∧ 1800 < mv ∧ s.field.supplyOk = false ∧ s.field.tripEn = 0) ∧
  (∃ (s : State) (mv : Nat),
    s.die.up = false ∧ s.pw.boot = .up ∧ mv < 1800 ∧ s.field.warn = false) :=
  ⟨⟨die.setReg R.dioStat 1, 3, true, by decide +kernel⟩,
   ⟨run, by decide +kernel⟩,
   ⟨{ run with sec := { halted := 0x400 } }, by decide +kernel⟩,
   ⟨run.setReg R.dioOutEn 8, 3, by decide +kernel⟩,
   ⟨run.setReg (R.dioCh 3) 1, 3, by decide +kernel⟩,
   ⟨{ die with field := { checks := [(3, some (2, false))], testOff := 8, testMask := 8 } }, 3, by decide +kernel⟩,
   ⟨{ die.setReg R.dioOutEn 8 with field := { checks := [(3, some (1, true))] } }, 3, true, by decide +kernel⟩,
   ⟨die, 1799, by decide +kernel⟩,
   ⟨{ die with field := { warn := true } }, 1851, by decide +kernel⟩,
   ⟨die, 3201, by decide +kernel⟩,
   ⟨{ die with field := { supplyOk := true } }, 1529, by decide +kernel⟩,
   ⟨die, 1801, by decide +kernel⟩,
   ⟨run, 1799, by decide +kernel⟩⟩

theorem witness_PowerStateRowsTakeEffect :
  (∃ (s : State) (h : Hdr) (target : Nat),
    s.admits h 0x0602 .long 0 .none ∧ target ≤ 2 ∧ s.powerRefusal target = none ∧ target = s.powerNow) ∧
  (∃ (s : State) (h : Hdr) (target : Nat),
    s.admits h 0x0602 .long 0 .none ∧ target ≤ 2 ∧ s.powerRefusal target = none ∧ target ≠ s.powerNow ∧ target = 2) ∧
  (∃ (s : State) (h : Hdr) (target : Nat),
    s.admits h 0x0602 .long 0 .none ∧ target ≤ 2 ∧ s.powerRefusal target = none ∧ target ≠ s.powerNow ∧ target ≠ 2) ∧
  (∃ (s : State),
    s.live = true ∧ s.pw.entering = true ∧ s.host.outbox = []) ∧
  (∃ (s : State),
    s.mode = .standby ∧ s.pw.entering = false ∧ s.pw.shutCore = false ∧ s.pw.shutField = false) ∧
  (∃ (s : State),
    s.powered = true ∧ s.pw.boot ≠ .clockLost ∧ s.sec.session = false) ∧
  (∃ (s : State),
    s.pw.boot = .clockLost) ∧
  (∃ (s : State),
    s.live = true) ∧
  (∃ (s : State),
    s.live = true ∧ s.bit R.clkStat 2 = true) ∧
  (∃ (s : State),
    s.live = true) ∧
  (∃ (s : State),
    s.live = true ∧ s.bit R.clkStat 3 = true) ∧
  (∃ (s : State),
    s.live = true) :=
  ⟨⟨run, cmd0, 0, by decide +kernel⟩,
   ⟨run, cmd0, 2, by decide +kernel⟩,
   ⟨run, cmd0, 1, by decide +kernel⟩,
   ⟨{ run with pw := { run.pw with entering := true } }, by decide +kernel⟩,
   ⟨standby, by decide +kernel⟩,
   ⟨run, by decide +kernel⟩,
   ⟨{ run with pw := { boot := .clockLost } }, by decide +kernel⟩,
   ⟨run, by decide +kernel⟩,
   ⟨run, by decide +kernel⟩,
   ⟨run, by decide +kernel⟩,
   ⟨run, by decide +kernel⟩,
   ⟨run, by decide +kernel⟩⟩

theorem witness_ThermalRowsTakeEffect :
  (∃ (s : State),
    s.live = true ∧ s.svRuns = true ∧ s.therm.started = true) ∧
  (∃ (s : State),
    s.mode = .standby) ∧
  (∃ (s : State),
    s.powered = true ∧ s.pw.boot ≠ .hotStop ∧ s.sec.session = false) ∧
  (∃ (s : State),
    s.pw.boot = .hotStop ∧ s.pw.shutCore = true ∧ s.pw.shutField = false) ∧
  (∃ (s : State) (a : Nat),
    s.live = true ∧ s.svRuns = true ∧ s.usable a = true) ∧
  (∃ (s : State),
    s.live = true ∧ s.svRuns = true ∧ s.mramStop = true) ∧
  (∃ (s : State),
    s.live = true ∧ s.svRuns = true ∧ s.mramStop = false) :=
  ⟨⟨{ run with therm := { started := true } }, by decide +kernel⟩,
   ⟨standby, by decide +kernel⟩,
   ⟨run, by decide +kernel⟩,
   ⟨{ run with pw := { boot := .hotStop, shutCore := true } }, by decide +kernel⟩,
   ⟨onAxis { axOn with pn := [(Pn.tmEn, pnI 1), (Pn.powerPort, 0)] }, 0, by decide +kernel⟩,
   ⟨{ run with pw := { run.pw with pfail := true } }, by decide +kernel⟩,
   ⟨run, by decide +kernel⟩⟩

theorem witness_LifecycleRowsTakeEffect :
  (∃ (s : State) (h : Hdr) (addr : Nat) (len : Nat) (im : Image),
    s.admits h 0x0601 .long 0 .none ∧ alignedAddr addr = true ∧ s.imageAt addr len = some im) ∧
  (∃ (s : State) (own : Open) (im : Image) (rest : List (Open × Image)),
    s.flash.updating = (own, im) :: rest ∧ s.live = true ∧ s.svRuns = true) ∧
  (∃ (s : State) (h : Hdr) (state : Nat) (auth : Nat) (bs : List Byte),
    s.admits h 0x0605 .long 0 .none ∧ 1 ≤ state ∧ state ≤ 3 ∧ (state = 2 → s.sec.lcs = 1 → auth = 0) ∧
    s.authBytes state auth = some bs ∧ s.isIdle = true ∧ s.lifecycleOk state bs = true) ∧
  (∃ (s : State) (own : Open) (state : Nat) (bs : List Byte),
    s.sec.setOwn = some (own, state, bs) ∧ s.live = true ∧ s.svRuns = true ∧ state ≠ 3) ∧
  (∃ (s : State) (own : Open) (bs : List Byte),
    s.sec.setOwn = some (own, 3, bs) ∧ s.live = true ∧ s.svRuns = true) :=
  ⟨⟨{ run with host := { mem := [] } }, cmd0, 64, 64, ⟨List.replicate 64 0, []⟩, by decide +kernel⟩,
   ⟨{ run with flash := { updating := [({ seq := 1 }, ⟨[], []⟩)] } }, { seq := 1 }, ⟨[], []⟩, [], by decide +kernel⟩,
   ⟨{ idle with regs := [(R.clkStat, 0xF)], sec := { lcs := 1 } }, cmd0, 2, 0, [], by decide +kernel⟩,
   ⟨{ run with sec := { lcs := 1, setOwn := some ({ seq := 1 }, 2, []) } }, { seq := 1 }, 2, [], by decide +kernel⟩,
   ⟨{ run with sec := { lcs := 1, setOwn := some ({ seq := 1 }, 3, []) } }, { seq := 1 }, [], by decide +kernel⟩⟩

theorem witness_DebugRowsTakeEffect :
  (∃ (s : State),
    s.live = true ∧ s.sec.lcs = 2 ∧ s.sec.lockout = false ∧ s.sec.lock = false) ∧
  (∃ (s : State) (n : Nat) (key : List Byte) (bs : List Byte),
    s.live = true ∧ s.sec.lcs = 2 ∧ s.sec.lockout = false ∧ s.sec.lock = false ∧ s.sec.challenge = some n ∧
    s.sec.debugKey = some key ∧ bs.length = 64 ∧ s.sec.fails < 2) ∧
  (∃ (s : State) (n : Nat) (key : List Byte) (bs : List Byte),
    s.live = true ∧ s.sec.lcs = 2 ∧ s.sec.lockout = false ∧ s.sec.lock = false ∧ s.sec.challenge = some n ∧
    s.sec.debugKey = some key ∧ bs.length = 64 ∧ 2 ≤ s.sec.fails) ∧
  (∃ (s : State) (r : DbgRequest) (reason : Nat),
    s.pw.boot = .up ∧ dbgIdent r = false ∧ s.dbgReason r = some reason) ∧
  (∃ (s : State) (r : DbgRequest),
    s.pw.boot = .up ∧ dbgIdent r = false ∧ s.dbgReason r = none) ∧
  (∃ (s : State) (r : DbgRequest),
    s.pw.boot = .up ∧ dbgIdent r = true ∧ s.sec.lcs ≠ 3) ∧
  (∃ (s : State) (e : Nat),
    s.pw.boot = .up ∧ s.dbgReason (.halt e) = none ∧ 6 ≤ e ∧ e < 12 ∧ s.sec.halted.getLsbD e = false ∧ s.conductor = true ∧
    2 ≤ s.sec.lcs) ∧
  (∃ (s : State) (e : Nat),
    s.pw.boot = .up ∧ s.dbgReason (.resume e) = none ∧ e < 11 ∧ s.sec.halted.getLsbD e = true ∧ 2 ≤ s.sec.lcs) ∧
  (∃ (s : State) (v : Reg32),
    s.live = true ∧ s.conductor = true ∧ s.hostUp = true ∧ v.getLsbD 0 = false ∧ v.getLsbD 1 = true) ∧
  (∃ (s : State) (v : Reg32),
    s.live = true ∧ s.conductor = true ∧ s.hostUp = true ∧ v.getLsbD 0 = true ∧ v.getLsbD 1 = false) ∧
  (∃ (s : State),
    s.sec.session = false) ∧
  (∃ (s : State),
    s.sec.session = true ∧ s.sec.byDebug = 0) :=
  ⟨⟨{ run with sec := { lcs := 2 } }, by decide +kernel⟩,
   ⟨{ run with sec := { lcs := 2, challenge := some 0, debugKey := some [], fails := 1 } }, 0, [], List.replicate 64 0, by decide +kernel⟩,
   ⟨{ run with sec := { lcs := 2, challenge := some 0, debugKey := some [], fails := 2 } }, 0, [], List.replicate 64 0, by decide +kernel⟩,
   ⟨run, .channelB, 1, by decide +kernel⟩,
   ⟨run, .halt 7, by decide +kernel⟩,
   ⟨run, .idcode, by decide +kernel⟩,
   ⟨{ run with sec := { lcs := 2, session := true, auth := true, halted := 0 } }, 7, by decide +kernel⟩,
   ⟨{ run with sec := { lcs := 2, session := true, auth := true, halted := 0x80, byDebug := 0x80 } }, 7, by decide +kernel⟩,
   ⟨run, 2, by decide +kernel⟩,
   ⟨run, 1, by decide +kernel⟩,
   ⟨run, by decide +kernel⟩,
   ⟨{ run with sec := { session := true, auth := true } }, by decide +kernel⟩⟩

theorem witness_BootRowsTakeEffect :
  (∃ (s : State),
    s.pw.boot = .low) ∧
  (∃ (s : State),
    s.pw.boot = .image ∧ (s.conductor = true → s.bootsel ≠ 1)) ∧
  (∃ (s : State),
    s.pw.boot = .image ∧ s.conductor = true ∧ s.bootsel = 1) ∧
  (∃ (s : State),
    s.pw.boot = .waitDownload ∧ s.bit R.sysBootStat 2 = false ∧ s.hostUp = true) ∧
  (∃ (s : State) (v : Reg32),
    s.live = true ∧ s.conductor = true ∧ s.hostUp = true ∧ s.sec.lcs ≠ 3 ∧ v.getLsbD 0 = true) ∧
  (∃ (s : State),
    s.pw.boot = .replayed) ∧
  (∃ (s : State),
    s.live = true ∨ s.pw.boot = .replay ∨ s.pw.boot = .replayed) ∧
  (∃ (s : State),
    s.pw.boot ≠ .brownOut) ∧
  (∃ (s : State),
    s.pw.boot ≠ .low) ∧
  (∃ (s : State),
    s.pw.boot = .brownOut) ∧
  (∃ (s : State),
    s.pw.pfail = false ∧ s.pw.boot = .up) ∧
  (∃ (s : State),
    s.pw.pfail = true ∧ s.pw.boot = .up) ∧
  (∃ (s : State),
    s.pw.boot = .replay ∧ s.mramStop = false ∧ s.svRuns = true) ∧
  (∃ (s : State) (r : OutRec),
    s.live = true ∧ s.jnl.replayHeld = [r] ∧ isMove r.opcode = false) :=
  ⟨⟨State.reset, by decide +kernel⟩,
   ⟨{ run with pw := { boot := .image } }, by decide +kernel⟩,
   ⟨{ run with pw := { boot := .image }, bootsel := 1 }, by decide +kernel⟩,
   ⟨{ run with pw := { boot := .waitDownload } }, by decide +kernel⟩,
   ⟨run, 0xA5C30001, by decide +kernel⟩,
   ⟨{ run with pw := { boot := .replayed } }, by decide +kernel⟩,
   ⟨run, by decide +kernel⟩,
   ⟨run, by decide +kernel⟩,
   ⟨run, by decide +kernel⟩,
   ⟨{ run with pw := { boot := .brownOut } }, by decide +kernel⟩,
   ⟨run, by decide +kernel⟩,
   ⟨{ run with pw := { run.pw with pfail := true } }, by decide +kernel⟩,
   ⟨{ run with pw := { boot := .replay } }, by decide +kernel⟩,
   ⟨{ run with jnl := { replayHeld := [run.finalRec cmd0 0x0001 0] } }, run.finalRec cmd0 0x0001 0, by decide +kernel⟩⟩

theorem witness_StepRunsTheFrontCommand :
  ∃ (s : State) (c : Instr) (rest : List Instr),
    s.pending = c :: rest :=
  ⟨{ run with pending := [.nop cmd0] }, .nop cmd0, [], by decide +kernel⟩

theorem witness_EmptyQueueTicksTheCounter :
  (∃ (s : State),
    s.pending = [] ∧ s.counterRuns = true) ∧
  (∃ (s : State),
    s.pending = [] ∧ s.counterRuns = false) :=
  ⟨⟨run, by decide +kernel⟩,
   ⟨State.reset, by decide +kernel⟩⟩

theorem witness_ResetLeavesTheSpecsValues :
  ∃ (k : _),
    k < 4 :=
  ⟨3, by decide +kernel⟩

theorem witness_EveryStepKeepsTheCanonicalForm :
  ∃ (s : State) (t : State),
    s.canonical = true ∧ step s = .next t :=
  ⟨{ run with pending := [.supplyLowWarning, .tapReset] }, lowDone, ⟨by decide +kernel, rfl⟩⟩

theorem witness_EveryStepKeepsTheLifecycle :
  (∃ (s : State) (t : State),
    step s = .next t ∧ lcLegal s.sec.lcs s.sec.setOwn = true) ∧
  (∃ (s : State) (t : State),
    step s = .next t) ∧
  (∃ (s : State) (t : State),
    step s = .next t) ∧
  (∃ (s : State) (t : State),
    step s = .next t) ∧
  (∃ (s : State) (t : State),
    step s = .next t) ∧
  (∃ (s : State) (t : State),
    step s = .next t) :=
  ⟨⟨{ run with pending := [.supplyLowWarning, .tapReset] }, lowDone, ⟨rfl, by decide +kernel⟩⟩,
   ⟨{ run with pending := [.supplyLowWarning, .tapReset] }, lowDone, rfl⟩,
   ⟨{ run with pending := [.supplyLowWarning, .tapReset] }, lowDone, rfl⟩,
   ⟨{ run with pending := [.supplyLowWarning, .tapReset] }, lowDone, rfl⟩,
   ⟨{ run with pending := [.supplyLowWarning, .tapReset] }, lowDone, rfl⟩,
   ⟨{ run with pending := [.supplyLowWarning, .tapReset] }, lowDone, rfl⟩⟩

theorem witness_HostCommandsShareTheirChecks :
  (∃ (s : State) (c : Instr) (f : HostForm),
    hostForm c = some f ∧ s.takesCommands = false) ∧
  (∃ (s : State) (c : Instr) (f : HostForm) (st : _),
    hostForm c = some f ∧ s.takesCommands = true ∧ hdrCheck f.hdr = some st) ∧
  (∃ (s : State) (c : Instr) (f : HostForm),
    hostForm c = some f ∧ s.takesCommands = true ∧ hdrCheck f.hdr = none ∧ s.subjOk f.subj f.hdr = false) ∧
  (∃ (s : State) (c : Instr) (f : HostForm),
    hostForm c = some f ∧ s.takesCommands = true ∧ s.sec.lcs = 3 ∧ f.reads = false ∧ f.op ≠ 0x0001) :=
  ⟨⟨State.reset, .home (cmd 0), ⟨cmd 0, 0x0130, false, .axis⟩, by decide +kernel⟩,
   ⟨run, .home { cmd 0 with nslot := 5 }, ⟨{ cmd 0 with nslot := 5 }, 0x0130, false, .axis⟩, 0x0102, by decide +kernel⟩,
   ⟨run, .home (cmd 200), ⟨cmd 200, 0x0130, false, .axis⟩, by decide +kernel⟩,
   ⟨{ run with sec := { lcs := 3 } }, .home (cmd 0), ⟨cmd 0, 0x0130, false, .axis⟩, by decide +kernel⟩⟩

theorem witness_AcceptedCommandsQueueTheirRecord :
  ∃ (s : State),
    s.host.outbox = [] :=
  ⟨run, by decide +kernel⟩

theorem witness_RecordsEnterOnlyTheirRing :
  (∃ (s : State) (r : OutRec),
    s.hostUp = true ∧ s.host.outbox = [] ∧ r.journal = 0 ∧ r.ring < 16) ∧
  (∃ (s : State) (r : OutRec) (a : Nat),
    (∀ q, q ∈ s.host.outbox ++ [r] → q.ring < 16) ∧
    (∀ n, n < 16 → a < s.base (R.crLo n) (R.crHi n) ∨ s.base (R.crLo n) (R.crHi n) + 32 * s.crSize n ≤ a)) :=
  ⟨⟨{ run with host := { rings := [(0, { crPi := 3 })] } }, { run.finalRec cmd0 0x0001 0 with journal := 0 }, by decide +kernel⟩,
   ⟨run.setReg (R.crLo 0) 0x20000, run.finalRec cmd0 0x0001 0, 0x30000, by decide +kernel⟩⟩

theorem witness_ReadCommandsChangeNothingElse :
  ∃ (s : State) (t : State) (c : Instr) (f : HostForm),
    hostForm c = some f ∧ f.reads = true ∧ exec c s = .next t :=
  ⟨run, jnlDone, .jnlStatus cmd0 64, ⟨cmd0, 0x0603, true, .none⟩, ⟨rfl, rfl, rfl⟩⟩

theorem witness_MotionIsRefusedInAReaction :
  (∃ (s : State) (h : Hdr),
    s.takesCommands = true ∧ (s.axis h.subj).inReaction = true) ∧
  (∃ (s : State) (h : Hdr),
    s.takesCommands = true ∧ (s.axis h.subj).inReaction = true) ∧
  (∃ (s : State) (h : Hdr),
    s.takesCommands = true ∧ (s.axis h.subj).inReaction = true) ∧
  (∃ (s : State) (h : Hdr),
    s.takesCommands = true ∧ (s.axis h.subj).inReaction = true) ∧
  (∃ (s : State) (h : Hdr),
    s.takesCommands = true ∧ (s.axis h.subj).inReaction = true) ∧
  (∃ (s : State) (h : Hdr),
    s.takesCommands = true ∧ (s.axis h.subj).inReaction = true) ∧
  (∃ (s : State) (h : Hdr),
    s.takesCommands = true ∧ (s.axis h.subj).inReaction = true) ∧
  (∃ (s : State) (h : Hdr),
    s.takesCommands = true ∧ (s.axis h.subj).inReaction = true) ∧
  (∃ (s : State) (h : Hdr),
    s.takesCommands = true ∧ (s.axis h.subj).inReaction = true) ∧
  (∃ (s : State) (h : Hdr),
    s.takesCommands = true ∧ (s.axis h.subj).inReaction = true) ∧
  (∃ (s : State) (h : Hdr),
    s.takesCommands = true ∧ (s.axis h.subj).inReaction = true ∧ hdrCheck h = none ∧ s.usable h.subj = true ∧ s.sec.lcs ≠ 3 ∧
    s.pw.pfail = false ∧ s.pw.lowRail = false) ∧
  (∃ (s : State) (h : Hdr),
    s.takesCommands = true ∧ (s.axis h.subj).inReaction = true ∧ hdrCheck h = none ∧ s.usable h.subj = true ∧ s.sec.lcs ≠ 3 ∧
    s.pw.pfail = false ∧ s.pw.lowRail = false) ∧
  (∃ (s : State) (h : Hdr),
    s.takesCommands = true ∧ (s.axis h.subj).inReaction = true ∧ hdrCheck h = none ∧ s.usable h.subj = true ∧ s.sec.lcs ≠ 3 ∧
    s.pw.pfail = false ∧ s.pw.lowRail = false) :=
  ⟨⟨reacting, cmd 0, by decide +kernel⟩,
   ⟨reacting, cmd 0, by decide +kernel⟩,
   ⟨reacting, cmd 0, by decide +kernel⟩,
   ⟨reacting, cmd 0, by decide +kernel⟩,
   ⟨reacting, cmd 0, by decide +kernel⟩,
   ⟨reacting, cmd 0, by decide +kernel⟩,
   ⟨reacting, cmd 0, by decide +kernel⟩,
   ⟨reacting, cmd 0, by decide +kernel⟩,
   ⟨reacting, cmd 0, by decide +kernel⟩,
   ⟨reacting, cmd 0, by decide +kernel⟩,
   ⟨reacting, cmd 0, by decide +kernel⟩,
   ⟨reacting, cmd 0, by decide +kernel⟩,
   ⟨reacting, cmd 0, by decide +kernel⟩⟩

theorem witness_BadDieFramesAreDiscarded :
  (∃ (s : State) (f : DieFrame),
    s.die.up = true ∧
    (crc16 (dieSent f) ≠ f.crc.toNat ∨ f.ftype ≠ 2 ∨ (s.die.resync = false ∧ f.seq % 16 ≠ (s.die.rxSeq + 1) % 16))) ∧
  (∃ (s : State) (f : DieFrame),
    s.die.up = true ∧ s.die.resync = true ∧ f.syncOk = true ∧ f.ftype = 2 ∧ crc16 (dieSent f) = f.crc.toNat) ∧
  (∃ (s : State) (f : DieFrame),
    let e := s.die.fieldEnd
    e.up = true ∧ (crc16 (dieSent f) ≠ f.crc.toNat ∨ f.ftype ≠ 1 ∨ (e.resync = false ∧ f.seq % 16 ≠ (e.rxSeq + 1) % 16))) ∧
  (∃ (s : State) (f : DieFrame),
    let e := s.die.fieldEnd
    e.up = true ∧ e.resync = true ∧ f.syncOk = true ∧ f.ftype = 1 ∧ crc16 (dieSent f) = f.crc.toNat) :=
  ⟨⟨die, { dieFrame with crc := 0 }, by decide +kernel⟩,
   ⟨die, dieFrame, by decide +kernel⟩,
   ⟨die, dieFrame, by decide +kernel⟩,
   ⟨die, toField, by decide +kernel⟩⟩

theorem witness_InjectedTriggersWhileBusyAreDropped :
  (∃ (s : State) (k : Nat) (src : AdcTrigger),
    k < 4 ∧ s.live = true ∧ s.engineRuns 10 = true ∧ s.adcListens k src = true ∧ (s.adcv k).busy = true ∧
    (s.adcv k).trigAt / 2 ^ 17 ≠ s.now / 2 ^ 17) ∧
  (∃ (s : State) (k : Nat),
    (s.adcv k).busy = true ∧ (s.adcv k).trigAt / 2 ^ 17 = s.now / 2 ^ 17) :=
  ⟨⟨{ run.setReg (R.adcCfg 1) 0x10 with adc := [(1, { busy := true, trigAt := (2 ^ 30) })] }, 1, .phi0, by decide +kernel⟩,
   ⟨{ run.setReg (R.adcCfg 1) 0x10 with adc := [(1, { busy := true, trigAt := run.now })] }, 1, by decide +kernel⟩⟩

theorem witness_HostValuesExtendAndIgnoreTheExtension :
  (∃ (x : Int),
    -(2 ^ 71) ≤ x ∧ x < 2 ^ 71) ∧
  (∃ (x : Int),
    -(2 ^ 71) ≤ x ∧ x < 2 ^ 71) ∧
  (∃ (x : Int),
    -(2 ^ 35) ≤ x ∧ x < 2 ^ 35) ∧
  (∃ (x : Int),
    -(2 ^ 35) ≤ x ∧ x < 2 ^ 35) ∧
  (∃ (value : List Byte) (ext : List Byte) (ext' : List Byte),
    value.length = 9 ∧ ext.length = 7 ∧ ext'.length = 7) ∧
  (∃ (n : Nat) (m : Nat),
    n % 2 ^ 36 = m % 2 ^ 36) :=
  ⟨⟨-(2 ^ 71), by decide +kernel⟩,
   ⟨2 ^ 71 - 1, by decide +kernel⟩,
   ⟨-(2 ^ 35), by decide +kernel⟩,
   ⟨2 ^ 35 - 1, by decide +kernel⟩,
   ⟨[1, 2, 3, 4, 5, 6, 7, 8, 0x80], [0, 0, 0, 0, 0, 0, 0], [1, 2, 3, 4, 5, 6, 7], by decide +kernel⟩,
   ⟨7, 2 ^ 36 + 7, by decide +kernel⟩⟩

theorem witness_NodeInfoIsAnswered :
  (∃ (s : State) (h : Hdr) (buf : Nat) (r : CapRecord),
    s.admits h 0x0301 .imm 0 .node ∧ alignedAddr buf = true ∧ (s.noderec h.subj).record = some r) ∧
  (∃ (s : State) (h : Hdr) (buf : Nat),
    s.takesCommands = true ∧ hdrCheck h = none ∧ s.subjOk .node h = true ∧ s.sec.lcs ≠ 3 ∧ s.pw.pfail = false ∧
    s.pw.lowRail = false ∧ alignedAddr buf = true ∧ (s.noderec h.subj).record = none) :=
  ⟨⟨{ run with bb := { nodes := [(5, { record := some cap })] } }, cmd 5, 64, cap, by decide +kernel⟩,
   ⟨run, cmd 5, 64, by decide +kernel⟩⟩

end Sys2Proof.Tests
end

section
/-!
SUPPORT. The byte order of host memory and its signed values (R10 to R12): what `leNat` reads back of `leBytes`, that `sext` undoes
`tc`, what a field inside an image holds. Then the statement of R12, which these settle.
-/

namespace Sys2Proof.Machine

open Sys2Proof

/-! ### Little-endian bytes -/

@[simp] theorem leBytes_length (n x : Nat) : (leBytes n x).length = n := by
  induction n generalizing x with
  | zero => rfl
  | succ n ih => simp [leBytes, ih]

/-- The low bytes of a longer form are the shorter form: what stands above them is extension. -/
theorem take_leBytes {k n : Nat} (h : k ≤ n) (x : Nat) : (leBytes n x).take k = leBytes k x := by
  induction k generalizing n x with
  | zero => simp [leBytes]
  | succ k ih =>
    obtain ⟨n, rfl⟩ : ∃ m, n = m + 1 := ⟨n - 1, by omega⟩
    simp [leBytes, ih (Nat.le_of_succ_le_succ h)]

@[simp] theorem leNat_leBytes (n x : Nat) : leNat (leBytes n x) = x % 2 ^ (8 * n) := by
  induction n generalizing x with
  | zero => simp [leBytes, leNat, Nat.mod_one]
  | succ n ih =>
    have hpow : 2 ^ (8 * (n + 1)) = 256 * 2 ^ (8 * n) := by rw [Nat.mul_succ, Nat.pow_add, Nat.mul_comm]
    simp [leBytes, leNat, ih, hpow, Nat.mod_mul]

/-! ### Signed values -/

/-- `sext` sees only the low `w` bits. -/
theorem sext_congr {w n m : Nat} (h : n % 2 ^ w = m % 2 ^ w) : sext w n = sext w m := by
  simp only [sext, h]

theorem tc_mod {w v : Nat} (h : w ≤ v) (x : Int) : tc v x % 2 ^ w = tc w x := by
  have hdvd : (2 : Int) ^ w ∣ 2 ^ v := pow_dvd_pow 2 h
  have hpos : ∀ k : Nat, (0 : Int) < 2 ^ k := fun k => by positivity
  zify [tc]
  rw [Int.toNat_of_nonneg (Int.emod_nonneg _ (hpos v).ne'), Int.toNat_of_nonneg (Int.emod_nonneg _ (hpos w).ne'),
    Int.emod_emod_of_dvd x hdvd]

theorem sext_tc {w : Nat} (x : Int) (hw : 0 < w) (hlo : -(2 ^ (w - 1)) ≤ x) (hhi : x < 2 ^ (w - 1)) : sext w (tc w x) = x := by
  obtain ⟨k, rfl⟩ : ∃ k, w = k + 1 := ⟨w - 1, by omega⟩
  rw [Nat.add_sub_cancel] at hlo hhi
  have htwice : (2 : Int) ^ (k + 1) = 2 * 2 ^ k := pow_succ' 2 k
  unfold sext
  rw [tc_mod le_rfl, Nat.add_sub_cancel]
  zify [tc]
  rw [Int.toNat_of_nonneg (Int.emod_nonneg _ (by positivity))]
  rcases le_or_gt 0 x with hx | hx
  · have hmod : x % 2 ^ (k + 1) = x := Int.emod_eq_of_lt hx (by omega)
    rw [hmod, if_pos hhi]
  · have hmod : x % 2 ^ (k + 1) = x + 2 ^ (k + 1) := by
      rw [← Int.add_emod_right, Int.emod_eq_of_lt (by omega) (by omega)]
    rw [hmod, if_neg (by omega), add_sub_cancel_right]

/-- A signed value of `w` bits, written in `v` bits of two's complement, is read back from any bytes that hold its own `w` bits. -/
theorem sext_leNat_leBytes_tc {w v n : Nat} (x : Int) (hw : 0 < w) (hv : w ≤ v) (hn : w ≤ 8 * n)
    (hlo : -(2 ^ (w - 1)) ≤ x) (hhi : x < 2 ^ (w - 1)) : sext w (leNat (leBytes n (tc v x))) = x := by
  have hlow : leNat (leBytes n (tc v x)) % 2 ^ w = tc w x % 2 ^ w := by
    rw [leNat_leBytes, Nat.mod_mod_of_dvd _ (pow_dvd_pow 2 hn), tc_mod hv, tc_mod le_rfl]
  rw [sext_congr hlow, sext_tc x hw hlo hhi]

theorem satBits_of_inRange {w : Nat} {x : Int} (hlo : -(2 ^ (w - 1)) ≤ x) (hhi : x < 2 ^ (w - 1)) : satBits w x = x := by
  rw [satBits, clampI, min_eq_right (by omega), max_eq_right hlo]

theorem bytes72_of_inRange {x : Int} (hlo : -(2 ^ 71) ≤ x) (hhi : x < 2 ^ 71) : bytes72 x = leBytes 16 (tc 128 x) := by
  rw [bytes72, satBits_of_inRange hlo hhi]

/-! ### Fields of an image -/

/-- A field that lies in the middle part of an image is read from that part alone. -/
theorem field_append {mid : List Byte} {n : Nat} (pre post : List Byte) (h : n ≤ mid.length) :
    Machine.field (pre ++ mid ++ post) pre.length n = leNat (mid.take n) := by
  rw [Machine.field, List.append_assoc, List.drop_left, List.take_append_of_le_length h]

theorem field72_bytes72 {x : Int} (pre post : List Byte) (hlo : -(2 ^ 71) ≤ x) (hhi : x < 2 ^ 71) :
    field72 (pre ++ bytes72 x ++ post) pre.length = x := by
  rw [bytes72_of_inRange hlo hhi, field72, field_append _ _ (by simp), take_leBytes (by decide)]
  exact sext_leNat_leBytes_tc x (by decide) (by decide) (by decide) hlo hhi

/-- The seven extension bytes hold copies of bit 71: the 16 bytes are the value in 128 bits (R10). -/
theorem sext_bytes72 {x : Int} (hlo : -(2 ^ 71) ≤ x) (hhi : x < 2 ^ 71) : sext 128 (leNat (bytes72 x)) = x := by
  rw [bytes72_of_inRange hlo hhi]
  exact sext_leNat_leBytes_tc x (by decide) le_rfl (by decide) (by omega) (by omega)

/-- The bits above bit 35 hold copies of it: the 8 bytes are the value in 64 bits (R11). -/
theorem sext_bytesH36 {x : Int} (hlo : -(2 ^ 35) ≤ x) (hhi : x < 2 ^ 35) : sext 64 (leNat (bytesH36 x)) = x :=
  sext_leNat_leBytes_tc x (by decide) le_rfl (by decide) (by omega) (by omega)

/-- An H36 field of eight bytes is the signed value of the number they spell, as `sext` cuts it to bits 35:0. -/
theorem fieldH36_leBytes (pre post : List Byte) (n : Nat) :
    fieldH36 (pre ++ leBytes 8 n ++ post) pre.length = sext 36 (leNat (leBytes 8 n)) := by
  rw [fieldH36, field_append _ _ (by simp), take_leBytes le_rfl]

theorem fieldH36_bytesH36 {x : Int} (pre post : List Byte) (hlo : -(2 ^ 35) ≤ x) (hhi : x < 2 ^ 35) :
    fieldH36 (pre ++ bytesH36 x ++ post) pre.length = x := by
  rw [bytesH36, fieldH36_leBytes]
  exact sext_leNat_leBytes_tc x (by decide) (by decide) (by decide) hlo hhi

/-- A signed 72-bit field is its nine value bytes, whatever follows them. -/
theorem field72_of_value {value : List Byte} (pre rest : List Byte) (h : value.length = 9) :
    field72 (pre ++ value ++ rest) pre.length = sext 72 (leNat value) := by
  rw [field72, field_append _ _ h.ge, List.take_of_length_le h.le]

theorem fieldH36_congr {n m : Nat} (pre post : List Byte) (h : n % 2 ^ 36 = m % 2 ^ 36) :
    fieldH36 (pre ++ leBytes 8 n ++ post) pre.length = fieldH36 (pre ++ leBytes 8 m ++ post) pre.length := by
  have hlow : ∀ k, leNat (leBytes 8 k) % 2 ^ 36 = k % 2 ^ 36 := fun k => by
    rw [leNat_leBytes, Nat.mod_mod_of_dvd _ (pow_dvd_pow 2 (by decide))]
  rw [fieldH36_leBytes, fieldH36_leBytes]
  exact sext_congr (by rw [hlow, hlow, h])

/-- Settles O59: what is written is the value in 128 or 64 bits of two's complement, and a read takes the low 72 or 36 bits of it, from
which `sext` restores the value; neither read sees a byte or bit above those. -/
theorem hostValuesExtendAndIgnoreTheExtension : Obligations.HostValuesExtendAndIgnoreTheExtension := by
  refine ⟨fun x pre post hlo hhi => field72_bytes72 pre post hlo hhi,
    fun x hlo hhi => ⟨by simp [bytes72], sext_bytes72 hlo hhi⟩,
    fun x hlo hhi => ⟨by simp [bytesH36], sext_bytesH36 hlo hhi⟩,
    fun x pre post hlo hhi => fieldH36_bytesH36 pre post hlo hhi, ?_,
    fun pre post n m h => fieldH36_congr pre post h⟩
  intro pre value ext ext' post hvalue _ _
  rw [List.append_assoc (pre ++ value), List.append_assoc (pre ++ value), field72_of_value pre _ hvalue,
    field72_of_value pre _ hvalue]

end Sys2Proof.Machine
end

section
/-!
SUPPORT. The receivers of the die-to-die link (R26): when a frame is good, what each end takes from a good frame and notes of a bad one,
and that the frame an end then sends leaves its receiver alone. Then the statement of R26, which these settle.
-/

namespace Sys2Proof.Machine

open Sys2Proof

/-! ### Good and bad frames -/

theorem dieGood_iff {atField resync : Bool} {f : DieFrame} {rxSeq : Nat} :
    dieGood atField f resync rxSeq = true ↔ f.syncOk = true ∧ f.ftype = dieType atField ∧ crc16 (dieSent f) = f.crc.toNat ∧
      (resync = true ∨ f.seq % 16 = (rxSeq + 1) % 16) := by
  simp [dieGood, and_assoc]

/-- R26's three grounds of discard, for either end. -/
theorem dieGood_eq_false {atField resync : Bool} {f : DieFrame} {rxSeq : Nat}
    (h : crc16 (dieSent f) ≠ f.crc.toNat ∨ f.ftype ≠ dieType atField ∨ (resync = false ∧ f.seq % 16 ≠ (rxSeq + 1) % 16)) :
    dieGood atField f resync rxSeq = false := by
  rw [Bool.eq_false_iff, Ne, dieGood_iff]
  rintro ⟨-, htype, hcrc, hseq⟩
  rcases h with hbad | hbad | ⟨hresync, hbad⟩
  · exact hbad hcrc
  · exact hbad htype
  · simp [hresync, hbad] at hseq

/-- A frame that an end takes while it resynchronises, whatever its SEQ. -/
theorem dieGood_of_resync {atField resync : Bool} {f : DieFrame} {rxSeq : Nat} (hresync : resync = true) (hsync : f.syncOk = true)
    (htype : f.ftype = dieType atField) (hcrc : crc16 (dieSent f) = f.crc.toNat) : dieGood atField f resync rxSeq = true :=
  dieGood_iff.mpr ⟨hsync, htype, hcrc, .inl hresync⟩

/-! ### What sending leaves unchanged -/

@[simp] theorem State.coreSends_regs (s : State) : s.coreSends.regs = s.regs := rfl
@[simp] theorem State.coreSends_rxSeq (s : State) : s.coreSends.die.rxSeq = s.die.rxSeq := rfl
@[simp] theorem State.coreSends_resync (s : State) : s.coreSends.die.resync = s.die.resync := rfl
@[simp] theorem State.coreSends_discards (s : State) : s.coreSends.die.discards = s.die.discards := rfl
@[simp] theorem State.coreSends_fio (s : State) : s.coreSends.die.fio = s.die.fio := rfl
@[simp] theorem State.coreSends_stat (s : State) : s.coreSends.die.stat = s.die.stat := rfl
@[simp] theorem State.coreSends_cfg (s : State) : s.coreSends.die.cfg = s.die.cfg := rfl
@[simp] theorem State.coreSends_safe (s : State) : s.coreSends.die.safe = s.die.safe := rfl

@[simp] theorem State.fieldSends_regs (s : State) : s.fieldSends.regs = s.regs := rfl
@[simp] theorem State.fieldSends_rxSeq (s : State) : s.fieldSends.die.fieldEnd.rxSeq = s.die.fieldEnd.rxSeq := rfl
@[simp] theorem State.fieldSends_resync (s : State) : s.fieldSends.die.fieldEnd.resync = s.die.fieldEnd.resync := rfl
@[simp] theorem State.fieldSends_discards (s : State) : s.fieldSends.die.fieldEnd.discards = s.die.fieldEnd.discards := rfl
@[simp] theorem State.fieldSends_fio (s : State) : s.fieldSends.die.fieldEnd.fio = s.die.fieldEnd.fio := rfl

/-! ### What a receiver does with a frame -/

/-- The writes of DIO_IN leave the link alone. They are rewritten by `rw`: `simp` would leave that to a check by unfolding, which here would
compute a register's number. -/
theorem State.coreTakes_of_good {s : State} {f : DieFrame} (h : dieGood false f s.die.resync s.die.rxSeq = true) :
    (s.coreTakes f).die = { s.die with rxSeq := f.seq % 16, resync := false, missing := 0, fio := f.fio, stat := f.stat,
                                       cfg := f.cfg, safe := f.safe } := by
  rw [State.coreTakes, if_pos h]
  dsimp only
  split
  · rw [State.setFld_die, State.setFld_die]
  · rw [State.setFld_die]

theorem State.coreTakes_of_bad {s : State} {f : DieFrame} (h : dieGood false f s.die.resync s.die.rxSeq = false) :
    s.coreTakes f =
      { s with die := { s.die with resync := true, discards := s.die.discards + 1, missing := s.die.missing + 1 } } :=
  if_neg (Bool.eq_false_iff.mp h)

theorem State.fieldTakes_of_good {s : State} {f : DieFrame}
    (h : dieGood true f s.die.fieldEnd.resync s.die.fieldEnd.rxSeq = true) :
    s.fieldTakes f = { s with die := { s.die with
      fieldEnd := { s.die.fieldEnd with rxSeq := f.seq % 16, resync := false, missing := 0, fio := f.fio } } } :=
  if_pos h

theorem State.fieldTakes_of_bad {s : State} {f : DieFrame}
    (h : dieGood true f s.die.fieldEnd.resync s.die.fieldEnd.rxSeq = false) :
    s.fieldTakes f = { s with die := { s.die with
      fieldEnd := { s.die.fieldEnd with resync := true, discards := s.die.fieldEnd.discards + 1,
                                        missing := s.die.fieldEnd.missing + 1 } } } :=
  if_neg (Bool.eq_false_iff.mp h)

theorem exec_linkFrameReceived_core {s : State} (f : DieFrame) (hup : s.die.up = true) :
    exec (.linkFrameReceived ⟨false, f⟩) s = .next (s.coreTakes f).coreSends :=
  congrArg Host.Outcome.next (if_pos hup)

theorem exec_linkFrameReceived_field {s : State} (f : DieFrame) (hup : s.die.fieldEnd.up = true) :
    exec (.linkFrameReceived ⟨true, f⟩) s = .next (s.fieldTakes f).fieldSends :=
  congrArg Host.Outcome.next (if_pos hup)

/-- Settles O57: each ground of R26 makes a frame bad and an end that resynchronises leaves SEQ out of the test; then the frame's
effect is that of the receiver, which the sender that follows it does not touch. -/
theorem badDieFramesAreDiscarded : Obligations.BadDieFramesAreDiscarded := by
  refine ⟨fun s f hup hbad => ?_, fun s f hup hresync hsync htype hcrc => ?_, fun s f => ?_⟩
  · have hdrop := State.coreTakes_of_bad (dieGood_eq_false (atField := false) hbad)
    exact ⟨_, exec_linkFrameReceived_core f hup, by simp [hdrop]⟩
  · have htake := State.coreTakes_of_good (dieGood_of_resync (atField := false) hresync hsync htype hcrc)
    exact ⟨_, exec_linkFrameReceived_core f hup, by simp [htake]⟩
  · intro e hup
    refine ⟨fun hbad => ?_, fun hresync hsync htype hcrc => ?_⟩
    · have hdrop := State.fieldTakes_of_bad (dieGood_eq_false (atField := true) hbad)
      exact ⟨_, exec_linkFrameReceived_field f hup, by simp [hdrop, e]⟩
    · have htake := State.fieldTakes_of_good (dieGood_of_resync (atField := true) hresync hsync htype hcrc)
      exact ⟨_, exec_linkFrameReceived_field f hup, by simp [htake, e]⟩

end Sys2Proof.Machine
end

section
/-!
SUPPORT. BB_NODE_INFO (R291): a command that its own chapter refuses, the length of a capability record, and what the command does with
and without a stored record. Then the statement of R291, which these settle.
-/

namespace Sys2Proof.Machine

open Sys2Proof

/-! ### A refusal by the command's own chapter -/

/-- The checks of R347 before the chapter's own find nothing, whether or not the journal has room. -/
theorem State.preRefusal_eq_none {s : State} {h : Hdr} {op : Nat} {k : CmdKind} {subj : SubjKind} (hhdr : hdrCheck h = none)
    (hsubj : s.subjOk subj h = true) (hlcs : s.sec.lcs ≠ 3) (hpfail : s.pw.pfail = false) (hrail : s.pw.lowRail = false) :
    s.preRefusal h op k subj none none = none := by
  simp [State.preRefusal, hhdr, hsubj, hlcs, hpfail, hrail]

/-- The chapter's refusal stands when the checks before it find nothing. The journal is not asked (R347). -/
theorem State.hostCmd_refused {s : State} {h : Hdr} {op st d : Nat} {k : CmdKind} {extra : Nat} {subj : SubjKind}
    {fmt : Option Nat} {power : Option (Nat × Nat)} (effect : State → State) (htakes : s.takesCommands = true)
    (hpre : s.preRefusal h op k subj fmt power = none) :
    s.hostCmd h op k extra subj fmt power (some (st, d)) effect = s.refuse h op st d := by
  simp [State.hostCmd, htakes, hpre]

/-! ### The bytes of a capability record (R286) -/

@[simp] theorem zeros_length (n : Nat) : (zeros n).length = n := List.length_replicate

@[simp] theorem crcBytes_length (ok : Bool) (body : List Byte) : (crcBytes ok body).length = 4 := leBytes_length 4 _

/-- The record keeps four bytes for each of 16 axes, whether or not its formats name that axis. -/
theorem capBody_length (r : CapRecord) : (capBody r).length = 124 := by
  simp only [capBody, List.length_append, List.length_flatMap, leBytes_length, zeros_length]
  rw [List.map_congr_left (g := fun _ => 4) fun a _ => ?_]
  · rfl
  · cases r.axisFmt[a]? <;> simp

theorem capBytes_length (r : CapRecord) : (capBytes r).length = 128 := by
  rw [capBytes, List.length_append, capBody_length, crcBytes_length]

/-! ### The command with and without a stored record -/

theorem exec_bbNodeInfo (h : Hdr) (buf : Nat) (s : State) : exec (.bbNodeInfo h buf) s = .next (bbNodeInfoCmd h buf s) := rfl

/-- With a stored record the chapter refuses nothing, and the effect is the write to the buffer and the FINAL. -/
theorem bbNodeInfoCmd_of_record {s : State} {h : Hdr} {buf : Nat} {r : CapRecord} (hbuf : alignedAddr buf = true)
    (hrec : (s.noderec h.subj).record = some r) :
    bbNodeInfoCmd h buf s = s.hostCmd h 0x0301 .imm 0 .node none none none (fun t =>
      (t.memWr buf (capBytes r)).acceptImm h 0x0301 t.cycle (s.noderec h.subj).state.code none) := by
  simp [bbNodeInfoCmd, hbuf, hrec]

theorem bbNodeInfoCmd_of_noRecord {s : State} {h : Hdr} {buf : Nat} (htakes : s.takesCommands = true)
    (hpre : s.preRefusal h 0x0301 .imm .node none none = none) (hbuf : alignedAddr buf = true)
    (hrec : (s.noderec h.subj).record = none) : bbNodeInfoCmd h buf s = s.refuse h 0x0301 St.nodeUnknown 0 := by
  simp only [bbNodeInfoCmd, hbuf, hrec, if_true, Option.isNone_none]
  exact State.hostCmd_refused _ htakes hpre

/-- Settles O60: with a stored record the admitted command has its effect; without one the chapter refuses it, and the checks before
it let that refusal through. -/
theorem nodeInfoIsAnswered : Obligations.NodeInfoIsAnswered := by
  refine ⟨fun s h buf r hadmits hbuf hrec => ⟨?_, capBytes_length r⟩,
    fun s h buf htakes hhdr hsubj hlcs hpfail hrail hbuf hrec => ?_⟩
  · rw [exec_bbNodeInfo, bbNodeInfoCmd_of_record hbuf hrec, State.hostCmd_taken s h 0x0301 .imm 0 .node _ hadmits]
    rfl
  · have hpre := State.preRefusal_eq_none (op := 0x0301) (k := .imm) hhdr hsubj hlcs hpfail hrail
    rw [exec_bbNodeInfo, bbNodeInfoCmd_of_noRecord htakes hpre hbuf hrec]
    rfl

end Sys2Proof.Machine
end

section
/-!
SUPPORT. Reading a field of a register back after it is written, and the injected trigger that finds its converter busy (R452). Then the
statement of R452, which these settle.
-/

namespace Sys2Proof.Machine

open Sys2Proof

/-! ### A field read back after it is written -/

theorem bits_ofNat (n : Nat) {lo w : Nat} (h : lo + w ≤ 32) : bits (BitVec.ofNat 32 n) lo w = n / 2 ^ lo % 2 ^ w := by
  have hdvd : 2 ^ lo * 2 ^ w ∣ 2 ^ 32 := by
    rw [← Nat.pow_add]
    exact Nat.pow_dvd_pow 2 h
  rw [bits, BitVec.toNat_ofNat, ← Nat.mod_mul_right_div_self, Nat.mod_mod_of_dvd _ hdvd, Nat.mod_mul_right_div_self]

/-- The bits below the field are a remainder by `2 ^ lo` and the bits above it a multiple of `2 ^ w` of its own LSB. -/
theorem bits_putBits_self (v : Reg32) (x : Nat) {lo w : Nat} (h : lo + w ≤ 32) : bits (putBits v lo w x) lo w = x % 2 ^ w := by
  have hlow : v.toNat % 2 ^ lo / 2 ^ lo = 0 := Nat.div_eq_of_lt (Nat.mod_lt _ (Nat.two_pow_pos lo))
  have habove : v.toNat / 2 ^ (lo + w) * 2 ^ (lo + w) = v.toNat / 2 ^ (lo + w) * 2 ^ w * 2 ^ lo := by
    rw [Nat.pow_add, Nat.mul_assoc, Nat.mul_comm (2 ^ w)]
  rw [putBits, bits_ofNat _ h, habove, Nat.add_mul_div_right _ _ (Nat.two_pow_pos lo),
    Nat.add_mul_div_right _ _ (Nat.two_pow_pos lo), hlow, Nat.zero_add, Nat.add_mul_mod_self_right, Nat.mod_mod]

theorem State.setFld_fld_self (s : State) (off x : Nat) {lo w : Nat} (h : lo + w ≤ 32) :
    (s.setFld off lo w x).fld off lo w = x % 2 ^ w := by
  rw [State.fld, State.setFld, State.setReg_reg_self, bits_putBits_self _ _ h]

theorem State.setBit_bit_self (s : State) (off : Nat) {i : Nat} (b : Bool) (h : i < 32) : (s.setBit off i b).bit off i = b := by
  rw [State.bit, State.setBit, State.setFld_fld_self _ _ _ h]
  cases b <;> rfl

theorem State.setBit_fld_ne (s : State) {off j : Nat} (i : Nat) (b : Bool) (lo w : Nat) (h : j ≠ off) :
    (s.setBit off i b).fld j lo w = s.fld j lo w := by
  rw [State.fld, State.fld, State.setBit_reg_ne _ _ _ h]

/-- A saturating count reads as the sum cut at the field's maximum, which the field holds unchanged. -/
theorem State.bumpFld_fld_self (s : State) (off n : Nat) {lo w : Nat} (h : lo + w ≤ 32) :
    (s.bumpFld off lo w n).fld off lo w = min (s.fld off lo w + n) (2 ^ w - 1) := by
  have hfits : min (s.fld off lo w + n) (2 ^ w - 1) < 2 ^ w :=
    Nat.lt_of_le_of_lt (Nat.min_le_right _ _) (Nat.sub_one_lt (Nat.two_pow_pos w).ne')
  rw [State.bumpFld, State.setFld_fld_self _ _ _ h, Nat.mod_eq_of_lt hfits]

/-! ### The injected trigger of a busy converter (R452) -/

theorem adcDrop_ne_adcCkStat (k : Nat) : R.adcDrop k ≠ R.adcCkStat k := by
  simp [R.adcDrop, R.adcCkStat]

theorem exec_adcInjectedTrigger (k : Nat) (src : AdcTrigger) (s : State) :
    exec (.adcInjectedTrigger k src) s = .next (adcInjectedTriggerCmd k src s) := rfl

/-- The registers of a dropped trigger of converter `k`: the count in ADC_Ck_DROP and the bit DROPPED of ADC_Ck_STAT. -/
def State.adcDropped (s : State) (k : Nat) : State := (s.bumpFld (R.adcDrop k) 0 16 1).setBit (R.adcCkStat k) 8 true

theorem State.adcDropped_adcv (s : State) (k : Nat) : (s.adcDropped k).adcv k = s.adcv k := rfl

theorem State.adcDropped_count (s : State) (k : Nat) :
    (s.adcDropped k).fld (R.adcDrop k) 0 16 = min (s.fld (R.adcDrop k) 0 16 + 1) (2 ^ 16 - 1) := by
  rw [State.adcDropped, State.setBit_fld_ne _ _ _ _ _ (adcDrop_ne_adcCkStat k), State.bumpFld_fld_self _ _ _ (by decide)]

theorem State.adcDropped_flag (s : State) (k : Nat) : (s.adcDropped k).bit (R.adcCkStat k) 8 = true :=
  State.setBit_bit_self _ _ _ (by decide)

theorem adcInjectedTriggerCmd_of_laterTick {s : State} {k : Nat} {src : AdcTrigger} (hk : k < 4) (hlive : s.live = true)
    (hruns : s.engineRuns 10 = true) (hlistens : s.adcListens k src = true) (hbusy : (s.adcv k).busy = true)
    (htick : (s.adcv k).trigAt / 2 ^ 17 ≠ s.now / 2 ^ 17) :
    adcInjectedTriggerCmd k src s = (s.adcDropped k).evK 44 k ((s.adcDropped k).fld (R.adcDrop k) 0 16) := by
  have htaken : ¬ (4 ≤ k ∨ s.live = false ∨ s.engineRuns 10 = false ∨ s.adcListens k src = false) := by
    simp [hk, hlive, hruns, hlistens]
  rw [adcInjectedTriggerCmd, if_neg htaken, if_pos hbusy, if_neg htick, State.adcDropped]

/-- In the tick in which the sequence started a trigger changes nothing, whether or not the converter takes triggers from `src`. -/
theorem adcInjectedTriggerCmd_of_sameTick {s : State} {k : Nat} (src : AdcTrigger) (hbusy : (s.adcv k).busy = true)
    (htick : (s.adcv k).trigAt / 2 ^ 17 = s.now / 2 ^ 17) : adcInjectedTriggerCmd k src s = s := by
  rw [adcInjectedTriggerCmd, if_pos hbusy, if_pos htick, ite_self]

/-- Settles O58: the state before EV44 is the one whose registers count and flag the drop, and its count, read back, is the saturating
sum that EV44 carries. -/
theorem injectedTriggersWhileBusyAreDropped : Obligations.InjectedTriggersWhileBusyAreDropped := by
  refine ⟨fun s k src hk hlive hruns hlistens hbusy htick => ⟨s.adcDropped k, ?_, s.adcDropped_adcv k, s.adcDropped_count k,
    s.adcDropped_flag k⟩, fun s k src hbusy htick => ?_⟩
  · rw [exec_adcInjectedTrigger, adcInjectedTriggerCmd_of_laterTick hk hlive hruns hlistens hbusy htick, State.adcDropped_count]
  · rw [exec_adcInjectedTrigger, adcInjectedTriggerCmd_of_sameTick src hbusy htick]

end Sys2Proof.Machine
end

section
/-!
SUPPORT. The block as a whole. Every command answers a next state and keeps what `Keeps` names, so every step does; then the two
statements about every step, and those about the queue and the state after reset.
-/

namespace Sys2Proof.Machine

open Sys2Proof Sys2Proof.Laws

/-! ### Every command keeps what `Keeps` names -/

/-- No command ends in a fault or a refusal, and each keeps the queue, the canonical form and the order of the lifecycle: one law per
meaning (`Sys2Proof.Laws`). -/
theorem exec_keeps (c : Instr) (s : State) : ∃ t, exec c s = .next t ∧ Keeps s t := by
  cases c with
  | nop => exact ⟨_, rfl, nopCmd_keeps _ (.rfl' s)⟩
  | fence => exact ⟨_, rfl, fenceCmd_keeps _ _ _ (.rfl' s)⟩
  | query => exact ⟨_, rfl, queryCmd_keeps _ _ _ (.rfl' s)⟩
  | move => exact ⟨_, rfl, moveCmd_keeps _ _ _ _ _ _ (.rfl' s)⟩
  | stop => exact ⟨_, rfl, stopCmd_keeps _ (.rfl' s)⟩
  | resume => exact ⟨_, rfl, resumeCmd_keeps _ (.rfl' s)⟩
  | flush => exact ⟨_, rfl, flushCmd_keeps _ (.rfl' s)⟩
  | setLimits => exact ⟨_, rfl, setLimitsCmd_keeps _ _ _ _ (.rfl' s)⟩
  | setVelocity => exact ⟨_, rfl, setVelocityCmd_keeps _ _ (.rfl' s)⟩
  | setCurrent => exact ⟨_, rfl, setCurrentCmd_keeps _ _ (.rfl' s)⟩
  | axisEnable => exact ⟨_, rfl, axisEnableCmd_keeps _ (.rfl' s)⟩
  | axisEnableEffect => exact ⟨_, rfl, axisEnableEffectCmd_keeps _ (.rfl' s)⟩
  | axisDisable => exact ⟨_, rfl, axisDisableCmd_keeps _ (.rfl' s)⟩
  | faultClear => exact ⟨_, rfl, faultClearCmd_keeps _ (.rfl' s)⟩
  | groupMove => exact ⟨_, rfl, groupMoveCmd_keeps _ _ (.rfl' s)⟩
  | groupStop => exact ⟨_, rfl, groupStopCmd_keeps _ (.rfl' s)⟩
  | groupResume => exact ⟨_, rfl, groupResumeCmd_keeps _ (.rfl' s)⟩
  | groupFlush => exact ⟨_, rfl, groupFlushCmd_keeps _ (.rfl' s)⟩
  | gearEngage => exact ⟨_, rfl, gearEngageCmd_keeps _ _ _ _ _ _ (.rfl' s)⟩
  | camEngage => exact ⟨_, rfl, camEngageCmd_keeps _ _ _ _ _ _ _ _ (.rfl' s)⟩
  | decouple => exact ⟨_, rfl, decoupleCmd_keeps _ _ _ (.rfl' s)⟩
  | home => exact ⟨_, rfl, homeCmd_keeps _ (.rfl' s)⟩
  | stageWrite => exact ⟨_, rfl, stageWriteCmd_keeps _ _ _ _ (.rfl' s)⟩
  | stageCheck => exact ⟨_, rfl, stageCheckCmd_keeps _ _ (.rfl' s)⟩
  | stageCommit => exact ⟨_, rfl, stageCommitCmd_keeps _ _ _ (.rfl' s)⟩
  | stageDiscard => exact ⟨_, rfl, stageDiscardCmd_keeps _ _ (.rfl' s)⟩
  | paramWrite => exact ⟨_, rfl, paramWriteCmd_keeps _ _ _ (.rfl' s)⟩
  | paramWriteEffect => exact ⟨_, rfl, paramWriteEffectCmd_keeps (.rfl' s)⟩
  | paramRead => exact ⟨_, rfl, paramReadCmd_keeps _ _ _ _ (.rfl' s)⟩
  | sigStatus => exact ⟨_, rfl, sigStatusCmd_keeps _ _ _ _ (.rfl' s)⟩
  | bbNodeInfo => exact ⟨_, rfl, bbNodeInfoCmd_keeps _ _ (.rfl' s)⟩
  | bbRelease => exact ⟨_, rfl, bbReleaseCmd_keeps _ (.rfl' s)⟩
  | bbFoghorn => exact ⟨_, rfl, bbFoghornCmd_keeps _ _ (.rfl' s)⟩
  | bbFogClear => exact ⟨_, rfl, bbFogClearCmd_keeps _ (.rfl' s)⟩
  | acqArm => exact ⟨_, rfl, acqArmCmd_keeps _ _ (.rfl' s)⟩
  | acqDisarm => exact ⟨_, rfl, acqDisarmCmd_keeps _ (.rfl' s)⟩
  | inject => exact ⟨_, rfl, injectCmd_keeps _ _ (.rfl' s)⟩
  | injectStop => exact ⟨_, rfl, injectStopCmd_keeps _ (.rfl' s)⟩
  | traceFreeze => exact ⟨_, rfl, traceFreezeCmd_keeps _ (.rfl' s)⟩
  | traceRead => exact ⟨_, rfl, traceReadCmd_keeps _ _ _ (.rfl' s)⟩
  | loadIdent => exact ⟨_, rfl, loadIdentCmd_keeps _ _ _ _ (.rfl' s)⟩
  | loadIdentStepEnd => exact ⟨_, rfl, loadIdentStepEndCmd_keeps _ _ _ (.rfl' s)⟩
  | safLoad => exact ⟨_, rfl, safLoadCmd_keeps _ _ _ (.rfl' s)⟩
  | safConfirm => exact ⟨_, rfl, safConfirmCmd_keeps _ _ (.rfl' s)⟩
  | safAck => exact ⟨_, rfl, safAckCmd_keeps _ (.rfl' s)⟩
  | safStatus => exact ⟨_, rfl, safStatusCmd_keeps _ _ (.rfl' s)⟩
  | fwUpdate => exact ⟨_, rfl, fwUpdateCmd_keeps _ _ _ (.rfl' s)⟩
  | powerState => exact ⟨_, rfl, powerStateCmd_keeps _ _ (.rfl' s)⟩
  | jnlStatus => exact ⟨_, rfl, jnlStatusCmd_keeps _ _ (.rfl' s)⟩
  | logRead => exact ⟨_, rfl, logReadCmd_keeps _ _ _ _ (.rfl' s)⟩
  | lifecycleSet => exact ⟨_, rfl, lifecycleSetCmd_keeps _ _ _ (.rfl' s)⟩
  | doorbellPoll => exact ⟨_, rfl, doorbellPollCmd_keeps (.rfl' s)⟩
  | hostHeartbeatLost => exact ⟨_, rfl, hostHeartbeatLostCmd_keeps (.rfl' s)⟩
  | journalRecordWrite => exact ⟨_, rfl, journalRecordWriteCmd_keeps _ (.rfl' s)⟩
  | eventRecordWrite => exact ⟨_, rfl, eventRecordWriteCmd_keeps (.rfl' s)⟩
  | snapshotWrite => exact ⟨_, rfl, snapshotWriteCmd_keeps (.rfl' s)⟩
  | hifWake => exact ⟨_, rfl, hifWakeCmd_keeps _ (.rfl' s)⟩
  | hifCqCfgWrite => exact ⟨_, rfl, hifCqCfgWriteCmd_keeps _ _ (.rfl' s)⟩
  | hifErCfgWrite => exact ⟨_, rfl, hifErCfgWriteCmd_keeps _ (.rfl' s)⟩
  | hifSnapCfgWrite => exact ⟨_, rfl, hifSnapCfgWriteCmd_keeps _ (.rfl' s)⟩
  | registerWrite => exact ⟨_, rfl, registerWriteCmd_keeps _ _ (.rfl' s)⟩
  | badRegisterAccess => exact ⟨_, rfl, badRegisterAccessCmd_keeps _ _ _ _ (.rfl' s)⟩
  | loRegisterRead => exact ⟨_, rfl, loRegisterReadCmd_keeps _ (.rfl' s)⟩
  | hiRegisterWrite => exact ⟨_, rfl, hiRegisterWriteCmd_keeps _ _ (.rfl' s)⟩
  | rcRegisterRead => exact ⟨_, rfl, rcRegisterReadCmd_keeps _ (.rfl' s)⟩
  | bar2Read => exact ⟨_, rfl, bar2ReadCmd_keeps _ _ (.rfl' s)⟩
  | bar2Write => exact ⟨_, rfl, bar2WriteCmd_keeps _ _ _ (.rfl' s)⟩
  | perstNAssert => exact ⟨_, rfl, perstNAssertCmd_keeps (.rfl' s)⟩
  | ptmDialogue => exact ⟨_, rfl, ptmDialogueCmd_keeps _ (.rfl' s)⟩
  | cyclePhi0 => exact ⟨_, rfl, cyclePhi0Cmd_keeps _ (.rfl' s)⟩
  | budgetWindow => exact ⟨_, rfl, budgetWindowCmd_keeps _ (.rfl' s)⟩
  | scrubPass => exact ⟨_, rfl, scrubPassCmd_keeps _ (.rfl' s)⟩
  | gatherDeparture => exact ⟨_, rfl, gatherDepartureCmd_keeps _ _ (.rfl' s)⟩
  | gatherFrameReturn => exact ⟨_, rfl, gatherFrameReturnCmd_keeps _ _ (.rfl' s)⟩
  | memberLost => exact ⟨_, rfl, memberLostCmd_keeps _ (.rfl' s)⟩
  | loopCriticalPart => exact ⟨_, rfl, loopCriticalPartCmd_keeps _ (.rfl' s)⟩
  | criticalPartOverrun => exact ⟨_, rfl, criticalPartOverrunCmd_keeps _ (.rfl' s)⟩
  | loopBackgroundPart => exact ⟨_, rfl, loopBackgroundPartCmd_keeps _ (.rfl' s)⟩
  | traceAutoFreeze => exact ⟨_, rfl, traceAutoFreezeCmd_keeps _ (.rfl' s)⟩
  | standstillReached => exact ⟨_, rfl, standstillReachedCmd_keeps _ (.rfl' s)⟩
  | qstopTimeout => exact ⟨_, rfl, qstopTimeoutCmd_keeps _ (.rfl' s)⟩
  | tstopTimeout => exact ⟨_, rfl, tstopTimeoutCmd_keeps _ (.rfl' s)⟩
  | scatterDeparture => exact ⟨_, rfl, scatterDepartureCmd_keeps _ (.rfl' s)⟩
  | profileEvaluation => exact ⟨_, rfl, profileEvaluationCmd_keeps _ (.rfl' s)⟩
  | streamLost => exact ⟨_, rfl, streamLostCmd_keeps _ (.rfl' s)⟩
  | profileMiss => exact ⟨_, rfl, profileMissCmd_keeps _ (.rfl' s)⟩
  | switchEdgeConfirmed => exact ⟨_, rfl, switchEdgeConfirmedCmd_keeps _ _ _ _ (.rfl' s)⟩
  | homingStallDetected => exact ⟨_, rfl, homingStallDetectedCmd_keeps _ (.rfl' s)⟩
  | slowFrameDeparture => exact ⟨_, rfl, slowFrameDepartureCmd_keeps _ (.rfl' s)⟩
  | slowFrameReturn => exact ⟨_, rfl, slowFrameReturnCmd_keeps _ _ (.rfl' s)⟩
  | flashReceived => exact ⟨_, rfl, flashReceivedCmd_keeps _ _ (.rfl' s)⟩
  | flashMissed => exact ⟨_, rfl, flashMissedCmd_keeps (.rfl' s)⟩
  | lanternTakeover => exact ⟨_, rfl, lanternTakeoverCmd_keeps (.rfl' s)⟩
  | syncInEdge => exact ⟨_, rfl, syncInEdgeCmd_keeps _ (.rfl' s)⟩
  | syncinMiss => exact ⟨_, rfl, syncinMissCmd_keeps (.rfl' s)⟩
  | buoyFire => exact ⟨_, rfl, buoyFireCmd_keeps _ (.rfl' s)⟩
  | buoyPinEnd => exact ⟨_, rfl, buoyPinEndCmd_keeps _ (.rfl' s)⟩
  | linkFrameReceived => exact ⟨_, rfl, linkFrameReceivedCmd_keeps _ (.rfl' s)⟩
  | dieLinkLoss => exact ⟨_, rfl, dieLinkLossCmd_keeps (.rfl' s)⟩
  | dieLinkRetrain => exact ⟨_, rfl, dieLinkRetrainCmd_keeps _ (.rfl' s)⟩
  | laneLinkUp => exact ⟨_, rfl, laneLinkUpCmd_keeps _ (.rfl' s)⟩
  | laneLinkDown => exact ⟨_, rfl, laneLinkDownCmd_keeps _ (.rfl' s)⟩
  | ringClose => exact ⟨_, rfl, ringCloseCmd_keeps _ (.rfl' s)⟩
  | linkDelayRequest => exact ⟨_, rfl, linkDelayRequestCmd_keeps _ (.rfl' s)⟩
  | linkFrame => exact ⟨_, rfl, linkFrameCmd_keeps _ _ _ _ _ _ _ _ _ (.rfl' s)⟩
  | coldListenEnd => exact ⟨_, rfl, coldListenEndCmd_keeps (.rfl' s)⟩
  | coldstartSend => exact ⟨_, rfl, coldstartSendCmd_keeps (.rfl' s)⟩
  | coldstartFrame => exact ⟨_, rfl, coldstartFrameCmd_keeps _ _ _ (.rfl' s)⟩
  | contentionWindowEnd => exact ⟨_, rfl, contentionWindowEndCmd_keeps (.rfl' s)⟩
  | integrateTimeout => exact ⟨_, rfl, integrateTimeoutCmd_keeps (.rfl' s)⟩
  | capabilityRecordReceived => exact ⟨_, rfl, capabilityRecordReceivedCmd_keeps _ _ _ (.rfl' s)⟩
  | readmission => exact ⟨_, rfl, readmissionCmd_keeps _ (.rfl' s)⟩
  | skegilIdentityRecord => exact ⟨_, rfl, skegilIdentityRecordCmd_keeps _ _ _ (.rfl' s)⟩
  | nodeFrameForward => exact ⟨_, rfl, nodeFrameForwardCmd_keeps _ _ _ (.rfl' s)⟩
  | nodeScatterReceived => exact ⟨_, rfl, nodeScatterReceivedCmd_keeps _ _ _ (.rfl' s)⟩
  | nodeScatterMiss => exact ⟨_, rfl, nodeScatterMissCmd_keeps _ (.rfl' s)⟩
  | nodeFlashTimeout => exact ⟨_, rfl, nodeFlashTimeoutCmd_keeps (.rfl' s)⟩
  | scheduleRecord => exact ⟨_, rfl, scheduleRecordCmd_keeps _ (.rfl' s)⟩
  | configRecord => exact ⟨_, rfl, configRecordCmd_keeps _ (.rfl' s)⟩
  | ackRecord => exact ⟨_, rfl, ackRecordCmd_keeps _ _ (.rfl' s)⟩
  | generationAdopt => exact ⟨_, rfl, generationAdoptCmd_keeps (.rfl' s)⟩
  | fogNodeRequest => exact ⟨_, rfl, fogNodeRequestCmd_keeps _ (.rfl' s)⟩
  | foghornFrame => exact ⟨_, rfl, foghornFrameCmd_keeps _ _ _ _ _ _ (.rfl' s)⟩
  | flashRelay => exact ⟨_, rfl, flashRelayCmd_keeps _ _ (.rfl' s)⟩
  | commitApply => exact ⟨_, rfl, commitApplyCmd_keeps (.rfl' s)⟩
  | commitReadyMiss => exact ⟨_, rfl, commitReadyMissCmd_keeps _ _ (.rfl' s)⟩
  | commitAnswerTimeout => exact ⟨_, rfl, commitAnswerTimeoutCmd_keeps (.rfl' s)⟩
  | paramStoreWriteDone => exact ⟨_, rfl, paramStoreWriteDoneCmd_keeps (.rfl' s)⟩
  | journalReplay => exact ⟨_, rfl, journalReplayCmd_keeps (.rfl' s)⟩
  | replayFinalRelease => exact ⟨_, rfl, replayFinalReleaseCmd_keeps _ (.rfl' s)⟩
  | journalRecordScrub => exact ⟨_, rfl, journalRecordScrubCmd_keeps _ (.rfl' s)⟩
  | jnlRateUpdate => exact ⟨_, rfl, jnlRateUpdateCmd_keeps (.rfl' s)⟩
  | crossTalkMessage => exact ⟨_, rfl, crossTalkMessageCmd_keeps _ _ (.rfl' s)⟩
  | xtalkFault => exact ⟨_, rfl, xtalkFaultCmd_keeps (.rfl' s)⟩
  | stoReadbackFault => exact ⟨_, rfl, stoReadbackFaultCmd_keeps _ (.rfl' s)⟩
  | switchRead => exact ⟨_, rfl, switchReadCmd_keeps _ _ _ (.rfl' s)⟩
  | guardPairChange => exact ⟨_, rfl, guardPairChangeCmd_keeps _ _ _ (.rfl' s)⟩
  | pairDiscrepancy => exact ⟨_, rfl, pairDiscrepancyCmd_keeps _ (.rfl' s)⟩
  | testPulse => exact ⟨_, rfl, testPulseCmd_keeps _ (.rfl' s)⟩
  | rstInAck => exact ⟨_, rfl, rstInAckCmd_keeps (.rfl' s)⟩
  | safetyEvaluation => exact ⟨_, rfl, safetyEvaluationCmd_keeps _ _ _ (.rfl' s)⟩
  | ss1End => exact ⟨_, rfl, ss1EndCmd_keeps _ (.rfl' s)⟩
  | safetyPduReceived => exact ⟨_, rfl, safetyPduReceivedCmd_keeps _ _ _ (.rfl' s)⟩
  | safetyPduExchange => exact ⟨_, rfl, safetyPduExchangeCmd_keeps (.rfl' s)⟩
  | safetyWatchdogTrip => exact ⟨_, rfl, safetyWatchdogTripCmd_keeps _ _ (.rfl' s)⟩
  | captureSample => exact ⟨_, rfl, captureSampleCmd_keeps _ (.rfl' s)⟩
  | peaCopyDone => exact ⟨_, rfl, peaCopyDoneCmd_keeps _ (.rfl' s)⟩
  | injectionEnd => exact ⟨_, rfl, injectionEndCmd_keeps _ (.rfl' s)⟩
  | adcRegularConversion => exact ⟨_, rfl, adcRegularConversionCmd_keeps _ _ _ _ (.rfl' s)⟩
  | adcInjectedTrigger => exact ⟨_, rfl, adcInjectedTriggerCmd_keeps _ _ (.rfl' s)⟩
  | adcInjectedEnd => exact ⟨_, rfl, adcInjectedEndCmd_keeps _ _ (.rfl' s)⟩
  | adcStandbyConversion => exact ⟨_, rfl, adcStandbyConversionCmd_keeps _ _ _ (.rfl' s)⟩
  | illegalTransition => exact ⟨_, rfl, illegalTransitionCmd_keeps _ (.rfl' s)⟩
  | indexPulse => exact ⟨_, rfl, indexPulseCmd_keeps _ _ (.rfl' s)⟩
  | ssiFrame => exact ⟨_, rfl, ssiFrameCmd_keeps _ _ _ (.rfl' s)⟩
  | ssiLoopMeasurement => exact ⟨_, rfl, ssiLoopMeasurementCmd_keeps _ _ (.rfl' s)⟩
  | latchArm => exact ⟨_, rfl, latchArmCmd_keeps _ _ _ (.rfl' s)⟩
  | latchTrigger => exact ⟨_, rfl, latchTriggerCmd_keeps _ _ _ _ _ (.rfl' s)⟩
  | compareHit => exact ⟨_, rfl, compareHitCmd_keeps _ _ _ (.rfl' s)⟩
  | compareValCommit => exact ⟨_, rfl, compareValCommitCmd_keeps _ _ _ _ (.rfl' s)⟩
  | emulationBacklogOverflow => exact ⟨_, rfl, emulationBacklogOverflowCmd_keeps _ (.rfl' s)⟩
  | sdmStuck => exact ⟨_, rfl, sdmStuckCmd_keeps _ (.rfl' s)⟩
  | fastComparatorCrossing => exact ⟨_, rfl, fastComparatorCrossingCmd_keeps _ _ (.rfl' s)⟩
  | chopperThreshold => exact ⟨_, rfl, chopperThresholdCmd_keeps _ _ (.rfl' s)⟩
  | chopperOpenDetect => exact ⟨_, rfl, chopperOpenDetectCmd_keeps _ _ _ (.rfl' s)⟩
  | flyingStartWindowEnd => exact ⟨_, rfl, flyingStartWindowEndCmd_keeps _ _ _ _ _ (.rfl' s)⟩
  | flyingStartTakeover => exact ⟨_, rfl, flyingStartTakeoverCmd_keeps _ (.rfl' s)⟩
  | tripInput => exact ⟨_, rfl, tripInputCmd_keeps _ (.rfl' s)⟩
  | tripClear => exact ⟨_, rfl, tripClearCmd_keeps _ (.rfl' s)⟩
  | clockMonitorFail => exact ⟨_, rfl, clockMonitorFailCmd_keeps (.rfl' s)⟩
  | manualTripleWrite => exact ⟨_, rfl, manualTripleWriteCmd_keeps _ _ (.rfl' s)⟩
  | chopperPulseEnd => exact ⟨_, rfl, chopperPulseEndCmd_keeps _ _ (.rfl' s)⟩
  | fieldInputChange => exact ⟨_, rfl, fieldInputChangeCmd_keeps _ _ _ (.rfl' s)⟩
  | fieldOutputWrite => exact ⟨_, rfl, fieldOutputWriteCmd_keeps _ _ (.rfl' s)⟩
  | outputOverload => exact ⟨_, rfl, outputOverloadCmd_keeps _ _ (.rfl' s)⟩
  | dioTest => exact ⟨_, rfl, dioTestCmd_keeps _ (.rfl' s)⟩
  | readbackCheck => exact ⟨_, rfl, readbackCheckCmd_keeps _ _ (.rfl' s)⟩
  | vfieldWarn => exact ⟨_, rfl, vfieldWarnCmd_keeps _ (.rfl' s)⟩
  | vfieldWarnClear => exact ⟨_, rfl, vfieldWarnClearCmd_keeps _ (.rfl' s)⟩
  | vfieldTrip => exact ⟨_, rfl, vfieldTripCmd_keeps _ (.rfl' s)⟩
  | vfieldOvervoltage => exact ⟨_, rfl, vfieldOvervoltageCmd_keeps _ (.rfl' s)⟩
  | vfieldRecover => exact ⟨_, rfl, vfieldRecoverCmd_keeps _ (.rfl' s)⟩
  | channelBSupplyLoss => exact ⟨_, rfl, channelBSupplyLossCmd_keeps (.rfl' s)⟩
  | canInitWrite => exact ⟨_, rfl, canInitWriteCmd_keeps _ _ (.rfl' s)⟩
  | canBusJoin => exact ⟨_, rfl, canBusJoinCmd_keeps _ (.rfl' s)⟩
  | canFrameReceived => exact ⟨_, rfl, canFrameReceivedCmd_keeps _ _ _ (.rfl' s)⟩
  | canTxreq => exact ⟨_, rfl, canTxreqCmd_keeps _ _ _ (.rfl' s)⟩
  | canFrameSent => exact ⟨_, rfl, canFrameSentCmd_keeps _ _ _ (.rfl' s)⟩
  | canTxFail => exact ⟨_, rfl, canTxFailCmd_keeps _ _ _ _ (.rfl' s)⟩
  | canBusOff => exact ⟨_, rfl, canBusOffCmd_keeps _ (.rfl' s)⟩
  | canBusOffRecovery => exact ⟨_, rfl, canBusOffRecoveryCmd_keeps _ (.rfl' s)⟩
  | canSleep => exact ⟨_, rfl, canSleepCmd_keeps _ (.rfl' s)⟩
  | canWake => exact ⟨_, rfl, canWakeCmd_keeps _ _ (.rfl' s)⟩
  | standbyEntry => exact ⟨_, rfl, standbyEntryCmd_keeps (.rfl' s)⟩
  | standbyWake => exact ⟨_, rfl, standbyWakeCmd_keeps _ (.rfl' s)⟩
  | slowClockLoss => exact ⟨_, rfl, slowClockLossCmd_keeps (.rfl' s)⟩
  | pllSysUnlock => exact ⟨_, rfl, pllSysUnlockCmd_keeps (.rfl' s)⟩
  | backbonePllUnlock => exact ⟨_, rfl, backbonePllUnlockCmd_keeps (.rfl' s)⟩
  | pciePllUnlock => exact ⟨_, rfl, pciePllUnlockCmd_keeps (.rfl' s)⟩
  | dieThermalUpdate => exact ⟨_, rfl, dieThermalUpdateCmd_keeps _ _ (.rfl' s)⟩
  | hardwareThermalShutdown => exact ⟨_, rfl, hardwareThermalShutdownCmd_keeps _ _ (.rfl' s)⟩
  | thermalRestart => exact ⟨_, rfl, thermalRestartCmd_keeps (.rfl' s)⟩
  | axisThermalUpdate => exact ⟨_, rfl, axisThermalUpdateCmd_keeps _ _ (.rfl' s)⟩
  | thermalStateSave => exact ⟨_, rfl, thermalStateSaveCmd_keeps (.rfl' s)⟩
  | dbgAuth => exact ⟨_, rfl, dbgAuthCmd_keeps _ _ (.rfl' s)⟩
  | dbgAccess => exact ⟨_, rfl, dbgAccessCmd_keeps _ (.rfl' s)⟩
  | engineHalt => exact ⟨_, rfl, engineHaltCmd_keeps _ (.rfl' s)⟩
  | engineResume => exact ⟨_, rfl, engineResumeCmd_keeps _ (.rfl' s)⟩
  | dbgCtlWrite => exact ⟨_, rfl, dbgCtlWriteCmd_keeps _ (.rfl' s)⟩
  | tapReset => exact ⟨_, rfl, tapResetCmd_keeps (.rfl' s)⟩
  | porstNRise => exact ⟨_, rfl, porstNRiseCmd_keeps _ _ (.rfl' s)⟩
  | porstNLow => exact ⟨_, rfl, porstNLowCmd_keeps (.rfl' s)⟩
  | imageCheck => exact ⟨_, rfl, imageCheckCmd_keeps (.rfl' s)⟩
  | sysBootGo => exact ⟨_, rfl, sysBootGoCmd_keeps (.rfl' s)⟩
  | sysRestart => exact ⟨_, rfl, sysRestartCmd_keeps _ (.rfl' s)⟩
  | bootComplete => exact ⟨_, rfl, bootCompleteCmd_keeps (.rfl' s)⟩
  | supervisorRestart => exact ⟨_, rfl, supervisorRestartCmd_keeps (.rfl' s)⟩
  | supplyLowWarning => exact ⟨_, rfl, supplyLowWarningCmd_keeps (.rfl' s)⟩
  | brownOut => exact ⟨_, rfl, brownOutCmd_keeps (.rfl' s)⟩
  | brownOutEnd => exact ⟨_, rfl, brownOutEndCmd_keeps _ _ (.rfl' s)⟩
  | pfailNAssert => exact ⟨_, rfl, pfailNAssertCmd_keeps (.rfl' s)⟩
  | pfailNRelease => exact ⟨_, rfl, pfailNReleaseCmd_keeps (.rfl' s)⟩
  | canBusError => exact ⟨_, rfl, canBusErrorCmd_keeps _ _ (.rfl' s)⟩
  | tripInputInactive => exact ⟨_, rfl, tripInputInactiveCmd_keeps _ (.rfl' s)⟩
  | comparePulseEnd => exact ⟨_, rfl, comparePulseEndCmd_keeps _ _ (.rfl' s)⟩
  | syncOutPulseEnd => exact ⟨_, rfl, syncOutPulseEndCmd_keeps (.rfl' s)⟩
  | pwmPeriodStart => exact ⟨_, rfl, pwmPeriodStartCmd_keeps _ (.rfl' s)⟩
  | channelBSupplyReturn => exact ⟨_, rfl, channelBSupplyReturnCmd_keeps (.rfl' s)⟩
  | slowClockRestored => exact ⟨_, rfl, slowClockRestoredCmd_keeps (.rfl' s)⟩
  | backbonePllRelock => exact ⟨_, rfl, backbonePllRelockCmd_keeps (.rfl' s)⟩
  | pciePllRelock => exact ⟨_, rfl, pciePllRelockCmd_keeps (.rfl' s)⟩
  | perstNRelease => exact ⟨_, rfl, perstNReleaseCmd_keeps (.rfl' s)⟩
  | stageCheckComplete => exact ⟨_, rfl, stageCheckCompleteCmd_keeps (.rfl' s)⟩
  | safetyImageWritten => exact ⟨_, rfl, safetyImageWrittenCmd_keeps (.rfl' s)⟩
  | imageSlotWritten => exact ⟨_, rfl, imageSlotWrittenCmd_keeps _ (.rfl' s)⟩
  | lifecycleFusesWritten => exact ⟨_, rfl, lifecycleFusesWrittenCmd_keeps _ (.rfl' s)⟩
  | supplyLowWarningEnd => exact ⟨_, rfl, supplyLowWarningEndCmd_keeps (.rfl' s)⟩
  | foghornSend => exact ⟨_, rfl, foghornSendCmd_keeps _ (.rfl' s)⟩

/-- A step takes the front off the queue and keeps the rest of what `Keeps` names. The tick of an empty queue moves time alone. -/
theorem step_keeps {s t : State} (h : step s = .next t) : Keeps { s with pending := s.pending.tail } t := by
  unfold step at h
  cases hq : s.pending with
  | nil =>
    rw [hq] at h
    cases h
    have hs : { s with pending := [] } = s := by rw [← hq]
    rw [List.tail_nil, hs]
    exact State.tick_keeps (.rfl' s)
  | cons c rest =>
    rw [hq] at h
    obtain ⟨u, hu, hk⟩ := exec_keeps c { s with pending := rest }
    dsimp only at h
    rw [hu] at h
    cases h
    exact hk

theorem State.canonical_iff (s : State) :
    s.canonical = true ↔ SMap.wf (fun _ => 0) s.host.mem = true ∧ SMap.wf regReset s.regs = true :=
  Bool.and_eq_true_iff

/-- Settles O50: both parts of the canonical form are among what every step keeps. -/
theorem everyStepKeepsTheCanonicalForm : Obligations.EveryStepKeepsTheCanonicalForm := by
  intro s t hs hstep
  obtain ⟨-, -, -, hmem, hregs, -⟩ := step_keeps hstep
  rw [State.canonical_iff] at hs ⊢
  exact ⟨hmem hs.1, hregs hs.2⟩

/-- Settles O51: the lifecycle's order, the counters, the queue, grade and UID are what every step keeps. -/
theorem everyStepKeepsTheLifecycle : Obligations.EveryStepKeepsTheLifecycle := by
  intro s t hstep
  obtain ⟨hpending, hgrade, huid, -, -, hlcs, hsecCnt, hchallenges⟩ := step_keeps hstep
  exact ⟨hlcs, hsecCnt, hchallenges, hpending, hgrade, huid⟩

/-! ### The queue -/

theorem step_cons {s : State} {c : Instr} {rest : List Instr} (h : s.pending = c :: rest) :
    step s = exec c { s with pending := rest } := by
  rw [step, h]

theorem step_nil {s : State} (h : s.pending = []) : step s = .next s.tick := by
  rw [step, h]

/-- Settles O47. -/
theorem stepRunsTheFrontCommand : Obligations.StepRunsTheFrontCommand := fun _ _ _ h => step_cons h

/-- Settles O48: an empty queue ticks, and the tick moves the counter or, where it does not run, nothing. -/
theorem emptyQueueTicksTheCounter : Obligations.EmptyQueueTicksTheCounter := by
  refine ⟨fun s hempty hruns => ?_, fun s hempty hstops => ?_⟩
  · rw [step_nil hempty, State.tick, if_pos hruns]
  · rw [step_nil hempty, State.tick, if_neg (by simp [hstops])]

/-! ### The state after reset -/

/-- No register is written yet, so each reads its reset value. -/
theorem State.reset_reg (off : Nat) : State.reset.reg off = regReset off := rfl

theorem State.reset_axis (a : Nat) : State.reset.axis a = {} := rfl

theorem State.reset_ring (n : Nat) : State.reset.ring n = {} := rfl

theorem State.reset_outputsOff : ∀ k, k < 4 → State.reset.outputsOff k := by
  unfold State.outputsOff
  decide

/-- Settles O49: the registers, axes and rings of the reset state are all unlisted, and read as their defaults. -/
theorem resetLeavesTheSpecsValues : Obligations.ResetLeavesTheSpecsValues := by
  refine ⟨rfl, rfl, rfl, rfl, State.reset_reg, State.reset_outputsOff, fun a => ?_, fun n => ?_, rfl, rfl⟩
  · rw [State.reset_axis]
  · rw [State.reset_ring]
    exact ⟨rfl, rfl⟩

end Sys2Proof.Machine
end

section
/-!
SUPPORT. How the statements about single commands are settled: an admitted command whose own refusals do not hold has its effect, and a
state in which some reading of the command's outcome differs from what a statement writes out refutes it.
-/

namespace Sys2Proof.Machine

open Sys2Proof

/-! ### Commands that take effect -/

/-- An admitted command, no refusal of whose own chapter holds, has its own effect (R347). -/
theorem State.hostCmd_admitted {s : State} {h : Hdr} {op : Nat} {k : CmdKind} {extra : Nat} {subj : SubjKind} {fmt : Option Nat}
    {power chapter : Option (Nat × Nat)} {effect : State → State} (hadmits : s.admits h op k extra subj) (hfmt : fmt = none)
    (hpower : power = none) (hchapter : chapter = none) :
    s.hostCmd h op k extra subj fmt power chapter effect = effect (s.taken k) := by
  rw [hfmt, hpower, hchapter, State.hostCmd_taken _ _ _ _ _ _ _ hadmits]

@[simp] theorem State.taken_read (s : State) : s.taken .read = s := if_pos rfl

/-- So an admitted command that refuses nothing leads to what its effect makes of the state in which it is taken. -/
theorem State.next_of_admitted {s t : State} {h : Hdr} {op : Nat} {k : CmdKind} {extra : Nat} {subj : SubjKind} {fmt : Option Nat}
    {power chapter : Option (Nat × Nat)} {effect : State → State} (hadmits : s.admits h op k extra subj) (hfmt : fmt = none)
    (hpower : power = none) (hchapter : chapter = none) (heffect : effect (s.taken k) = t) :
    (Host.Outcome.next (s.hostCmd h op k extra subj fmt power chapter effect) : Host.Outcome State Fault Refusal) = .next t := by
  rw [State.hostCmd_admitted hadmits hfmt hpower hchapter, heffect]

/-! ### Commands that do not -/

/-- A command has one outcome: a claimed next state that some reading tells apart from the model's is none of it. -/
theorem false_of_reading {α : Type} (read : State → α) {c : Instr} {s t u : State} (hclaim : exec c s = .next u)
    (hexec : exec c s = .next t) (hread : read t ≠ read u) : False := by
  rw [hexec] at hclaim
  exact hread (congrArg read (Host.Outcome.next.inj hclaim))

/-- A conductor that has come up from reset, in Idle: it takes commands and its journal is empty. -/
def upIdle : State := { State.reset with pw := { boot := .up, rstoutN := true } }

/-- The same in Run, every clock locked. -/
def upRun : State := { upIdle with regs := [(R.clkStat, 0xF), (R.pwrState, 0)] }

/-- A one-slot command on ring 0 that names `subj`. -/
def hdrFor (subj : Nat) : Hdr := ⟨0, 1, 0, subj, 0, 7⟩

end Sys2Proof.Machine
end

section
/-!
SUPPORT. NOP, FENCE and QUERY (R348, R351, R353, R355). Then the statement about them, which these settle.
-/

namespace Sys2Proof.Machine

open Sys2Proof

/-! ### NOP and FENCE -/

theorem exec_nop (h : Hdr) (s : State) : exec (.nop h) s = .next (nopCmd h s) := rfl

theorem exec_fence (h : Hdr) (mask mode : Nat) (s : State) : exec (.fence h mask mode) s = .next (fenceCmd h mask mode s) := rfl

theorem fenceFmt_eq_none {mode : Nat} (h : mode ≤ 1) : fenceFmt mode = none := if_neg (by omega)

theorem State.setFence_takesCommands (s : State) (n : Nat) (f : Option (List (Nat × Nat))) :
    (s.setFence n f).takesCommands = s.takesCommands := rfl

/-- Noting what a FENCE waits for changes the one field of its ring. -/
theorem State.setFence_seq (s : State) (n : Nat) (f : Option (List (Nat × Nat))) : ((s.setFence n f).ring n).seq = (s.ring n).seq := by
  rw [State.setFence, State.setRing, State.ring, SMap.get_set_self]

theorem fenceCmd_of_met {h : Hdr} {mask mode : Nat} {s : State} (hmode : mode ≤ 1) (hmet : s.fenceMet h.ring mask mode = true)
    (hadmits : (s.setFence h.ring none).admits h 0x0002 .imm 0 .none) :
    fenceCmd h mask mode s = ((s.setFence h.ring none).taken .imm).acceptImm h 0x0002 s.cycle 0 none := by
  have htakes : s.takesCommands = true := hadmits.1
  rw [fenceCmd, if_neg (by simp [hmet]), if_pos htakes, State.hostCmd_admitted hadmits (fenceFmt_eq_none hmode) rfl rfl,
    State.taken_cycle]
  rfl

theorem fenceCmd_of_waiting {h : Hdr} {mask mode : Nat} {s : State} (hmode : mode ≤ 1) (hwaits : s.fenceMet h.ring mask mode = false)
    (hadmits : s.admits h 0x0002 .imm 0 .none) : fenceCmd h mask mode s = s.setFence h.ring (some (s.fenceRec h.ring mask)) := by
  rw [fenceCmd, fenceFmt_eq_none hmode, State.preRefusal_none hadmits, if_pos ⟨hadmits.1, rfl, hwaits⟩]

/-! ### QUERY -/

theorem exec_query (h : Hdr) (hd buf : Nat) (s : State) : exec (.query h hd buf) s = .next (queryCmd h hd buf s) := rfl

/-- A QUERY that is taken looks at the state itself: a read leaves no trace in the journal. -/
theorem queryCmd_of_admitted {h : Hdr} (hd : Nat) {buf : Nat} {s : State} (hadmits : s.admits h 0x0003 .read 0 .none)
    (hbuf : alignedAddr buf = true) :
    queryCmd h hd buf s =
      if s.handleKnown hd = false then s.answer h 0x0003 St.handleUnknown hd s.cycle 0 none
      else if s.handlePending hd then s.answer h 0x0003 St.pending hd s.cycle 0 none
      else if handleSeq hd + 4096 ≤ (s.ring (handleRing hd)).seq then s.answer h 0x0003 St.resultExpired hd s.cycle 0 none
      else s.queryFinal h hd buf := by
  rw [queryCmd, State.hostCmd_admitted hadmits (if_pos hbuf) rfl rfl, State.taken_read]

/-- A FINAL that the result cache holds goes to the buffer with its extended result, and into the ANSWER. -/
theorem State.queryFinal_of_cached {s : State} {h : Hdr} {hd buf : Nat} {f : FinalRec}
    (hcached : SMap.get none s.host.results (resKey (handleRing hd) (handleSeq hd)) = some f) (hkept : f.lost = false)
    (hbuf : buf ≠ 0) :
    s.queryFinal h hd buf =
      let ext := if f.ext then s.extOf (handleRing hd) (handleSeq hd) else none
      (s.memWr buf (f.bytes hd ++ fitBytes 64 (ext.getD []))).answer h 0x0003 f.status hd f.cycle f.detail ext := by
  simp [State.queryFinal, hcached, hkept, hbuf]

/-- Settles O6: a FENCE completes or waits by its condition, and the branches of QUERY are its four clauses. -/
theorem nopFenceAndQueryComplete : Obligations.NopFenceAndQueryComplete := by
  refine ⟨fun s h hadmits => ?_, fun s h mask mode hmode hmet => ?_, fun s h mask mode hmode hwaits hadmits => ?_,
    fun s h hd buf hadmits hbuf hunknown => ?_, fun s h hd buf hadmits hbuf hknown hpending => ?_,
    fun s h hd buf hadmits hbuf hknown hdone hold => ?_, fun s h hd buf f hadmits hbuf hknown hdone hrecent hcached hkept hbuf0 => ?_⟩
  · rw [exec_nop, nopCmd, State.hostCmd_taken _ _ _ _ _ _ _ hadmits, State.taken_cycle]
  · intro u hadmits
    rw [exec_fence, fenceCmd_of_met hmode hmet hadmits]
  · exact ⟨_, by rw [exec_fence, fenceCmd_of_waiting hmode hwaits hadmits], rfl, rfl, rfl, s.setFence_seq _ _⟩
  · rw [exec_query, queryCmd_of_admitted hd hadmits hbuf, if_pos hunknown]
    rfl
  · rw [exec_query, queryCmd_of_admitted hd hadmits hbuf, if_neg (by simp [hknown]), if_pos hpending]
    rfl
  · rw [exec_query, queryCmd_of_admitted hd hadmits hbuf, if_neg (by simp [hknown]), if_neg (by simp [hdone]), if_pos hold]
    rfl
  · intro ext
    rw [exec_query, queryCmd_of_admitted hd hadmits hbuf, if_neg (by simp [hknown]), if_neg (by simp [hdone]),
      if_neg (by omega), State.queryFinal_of_cached hcached hkept hbuf0]

end Sys2Proof.Machine
end

section
/-!
SUPPORT. The commands that read, node traces among them, direct writes, and the ends of a commit. Then the statements about them, which
these settle.
-/

namespace Sys2Proof.Machine

open Sys2Proof

/-! ### The buffers of the read commands (R105, R109, R327, R356) -/

/-- Settles O7: each command is admitted with arguments that its chapter accepts, and its effect is the write of its buffer and its
ANSWER. The free bytes are as many as the buffer holds. -/
theorem readCommandsFillTheirBuffer : Obligations.ReadCommandsFillTheirBuffer := by
  refine ⟨fun s h pn count buf hadmits hlo hhi hbuf hpn => ?_, fun s h block count buf hadmits hlo hhi hend hbuf => ?_,
    fun s h buf hadmits hbuf => ?_, fun s h buf hadmits hbuf => ?_, fun s h start count buf hadmits hbuf => ?_⟩
  · intro pns
    show Host.Outcome.next (paramReadCmd h pn count buf s) = _
    unfold paramReadCmd
    refine State.next_of_admitted hadmits ?_ rfl rfl ?_
    · rw [if_neg (by omega), if_neg (by simp [hbuf]), if_neg (by simp [Option.isSome_iff_ne_none.mp hpn])]
    · rw [State.taken_read]
      rfl
  · intro one
    show Host.Outcome.next (sigStatusCmd h block count buf s) = _
    unfold sigStatusCmd
    refine State.next_of_admitted hadmits ?_ rfl rfl ?_
    · rw [if_neg (by omega), if_neg (by simp [hbuf])]
    · rw [State.taken_read]
      rfl
  · intro words
    refine State.next_of_admitted hadmits (if_pos hbuf) rfl rfl ?_
    rw [State.taken_read]
    dsimp only [State.answerOk]
    rw [State.memWr_cycle]
    rfl
  · refine ⟨(s.freeBytes 64).1, by simp [State.freeBytes], State.next_of_admitted hadmits (if_pos hbuf) rfl rfl ?_⟩
    rw [State.taken_read]
    rfl
  · refine ⟨(s.freeBytes (32 * min count (s.eventLog.length - start))).1, by simp [State.freeBytes],
      State.next_of_admitted hadmits (if_pos hbuf) rfl rfl ?_⟩
    rw [State.taken_read]
    rfl

/-! ### Node traces (R440, R441) -/

theorem State.traceGrade_eq_none {s : State} (h : s.grade = 2) : s.traceGrade = none := if_pos h

/-- Settles O8. -/
theorem traceCommandsTakeEffect : Obligations.TraceCommandsTakeEffect := by
  refine ⟨fun s h hgrade hadmits => ?_, fun s h buf len hgrade hadmits hbuf hfrozen hlen => ?_, fun s a husable htrig hpost => ?_⟩
  · refine State.next_of_admitted hadmits (State.traceGrade_eq_none hgrade) rfl rfl ?_
    rw [State.taken_axis, State.taken_cycle]
  · intro x k u
    show Host.Outcome.next (traceReadCmd h buf len s) = _
    unfold traceReadCmd
    refine State.next_of_admitted hadmits ?_ rfl rfl ?_
    · rw [State.traceGrade_eq_none hgrade]
      exact if_pos hbuf
    · rw [State.taken_read]
      dsimp only
      rw [if_neg (by simp [hfrozen]), if_neg (by omega)]
      split <;> rfl
  · exact congrArg Host.Outcome.next (if_pos ⟨husable, htrig, hpost⟩)

/-! ### Direct writes (R105, R108, R374) -/

/-- A write of a PN that neither restarts the trace nor is one of the model's changes that PN alone. -/
theorem State.applyDirect_of_ordinary (s : State) (a : Nat) {pn : Nat} (v : Int) {d : PnDesc} (hdesc : pnDesc? pn = some d)
    (htrace : pn ≠ Pn.traceMask) (hmodel : modelPn pn = false) :
    s.applyDirect a pn v = s.setAxis a ((s.axis a).setPn pn (pnStore (s.axis a).raw d v)) := by
  have hwrite : (s.axis a).write pn v = (s.axis a).setPn pn (pnStore (s.axis a).raw d v) := by rw [Axis.write, hdesc]
  simp only [State.applyDirect, hwrite, if_neg htrace, hmodel, Bool.false_eq_true, false_and, if_false]

/-- Settles O11. -/
theorem directWritesTakeEffect : Obligations.DirectWritesTakeEffect := by
  refine ⟨fun s h count writes hadmits hlo hhi hslot => ?_, fun s => rfl, fun s c a pn v d hdirect hdue hdesc htrace hmodel => ?_⟩
  · intro ws hrefusal hpost hheld hfails u
    refine State.next_of_admitted hadmits ?_ rfl (firstRefusal_none (by simp [ws, hheld, hfails])) ?_
    · rw [if_neg (by omega), if_neg (by rintro ⟨h1, h2⟩; have := hslot h1; omega), hrefusal]
      exact if_neg (by simpa using hpost)
    · rw [State.taken_cycle]
      rfl
  · show Host.Outcome.next (paramWriteEffectCmd s) = _
    simp only [paramWriteEffectCmd, hdirect, List.filter_cons, hdue, List.filter_nil, Bool.not_true, Bool.false_eq_true, if_true,
      if_false, List.foldl_cons, List.foldl_nil, State.applyDirect_of_ordinary _ a v hdesc htrace hmodel]
    rfl

/-! ### The ends of a commit (R372, R373, R375 to R377) -/

/-- Settles O10: the commit in force takes the branch that its phase and the clause's hypotheses name. -/
theorem commitsApplyOrEnd : Obligations.CommitsApplyOrEnd := by
  refine ⟨fun s k hcommit hphase hdue hruns => ?_, fun s k isNode subject hcommit hphase => ?_, fun s k hcommit hphase hlate => ?_,
    fun s k hcommit hphase hopen => ?_⟩
  · refine ⟨s.applyCommit k k.cycle, ?_, rfl, rfl, rfl⟩
    show Host.Outcome.next (commitApplyCmd s) = _
    simp only [commitApplyCmd, hcommit, hphase, hdue, and_self, if_true, hruns]
  · show Host.Outcome.next (commitReadyMissCmd isNode subject s) = _
    simp only [commitReadyMissCmd, hcommit, hphase, if_true]
    rfl
  · intro n
    have hpast : (match k.named with
        | some c => decide (cycDiff s.cycle c < 4)
        | none => decide (256 < cycDiff k.checked s.cycle)) = true := by
      cases hnamed : k.named <;> rw [hnamed] at hlate <;> exact decide_eq_true hlate
    show Host.Outcome.next (commitAnswerTimeoutCmd s) = _
    simp only [commitAnswerTimeoutCmd, hcommit, hphase, true_and]
    exact congrArg Host.Outcome.next (if_pos hpast)
  · intro gen u
    show Host.Outcome.next (paramStoreWriteDoneCmd s) = _
    simp only [paramStoreWriteDoneCmd, hcommit, hphase, hopen, and_self, if_true]
    cases hb : s.stage.copyB <;> simp [u, gen, hb, State.storeNow, hcommit] <;> rfl

end Sys2Proof.Machine
end

section
/-!
SUPPORT. The motion commands of axes and groups, couplings, homing and the check of a stage set: states in which what a command does is not
what its statement writes out. Then the statements that these refute.
-/

namespace Sys2Proof.Machine

open Sys2Proof

/-! ### FLUSH of a held queue (R152) -/

/-- A STOP has left axis 0 suspended with one move in its held queue. -/
def queueHeldAtStop : State := { upIdle with axes := [(0, { prof := .suspended, queue := [{}], heldQueue := true })] }

/-- Refutes O1: FLUSH of a held queue also ends the holding, and its clause leaves `heldQueue` as it was. -/
theorem not_axisMotionCommandsTakeEffect : ¬ Obligations.AxisMotionCommandsTakeEffect := by
  rintro ⟨-, -, -, -, -, -, hflush, -⟩
  exact false_of_reading (fun t => (t.axis 0).heldQueue)
    (hflush queueHeldAtStop (hdrFor 0) (by decide) (by decide) (by decide)) rfl (by decide)

/-! ### FAULT_CLEAR of a remote feedback source (R131, R194) -/

/-- Axis 0 reads a remote port, has latched source 14, whose cause is gone, and has a homing offset. -/
def remoteFeedbackFault : State :=
  { upIdle with axes := [(0, { pn := [(Pn.fbSrc, 4 * 2 ^ 48)], faultActive := 1 <<< 14, pOff := 1 })] }

/-- Refutes O2: FAULT_CLEAR of source 14 starts a remote feedback source anew and takes its offset off, which the clause leaves out. -/
theorem not_axisEnableCommandsTakeEffect : ¬ Obligations.AxisEnableCommandsTakeEffect := by
  rintro ⟨-, -, -, -, hclear⟩
  obtain ⟨t, hexec, ⟨host, regs, rfl⟩, -⟩ := hclear remoteFeedbackFault (hdrFor 0) (by decide) (by decide) (by decide)
  exact false_of_reading (fun t => (t.axis 0).pOff)
    hexec rfl (show (0 : Int) ≠ 1 by decide)

/-! ### GROUP_MOVE on a moving group (R139, R168) -/

/-- Group 0 of axis 0 moves; a target list for one member stands at 0x1000. -/
def groupMoving : State :=
  { upIdle with axes := [(0, { pn := [(Pn.group, 0)], enabled := true, prof := .idle })], groups := [(0, { prof := .moving })]
                host := { upIdle.host with mem := [(0x1000, 1)] } }

/-- Refutes O3: a queued group move takes a place in the order of acceptance, and its clause leaves that count as it was. -/
theorem not_groupCommandsTakeEffect : ¬ Obligations.GroupCommandsTakeEffect := by
  rintro ⟨hmove, -⟩
  exact false_of_reading (fun t => t.planNo)
    (hmove groupMoving (hdrFor 0) 0x1000 ⟨1, 0, 0, 0, 0, [0]⟩ (by decide) (by decide) (by decide) (by decide)) rfl (by decide)

/-! ### HOME in the negative direction (R182) -/

/-- Axis 0 is to be homed by method 0 toward its negative limit. -/
def homesDown : State :=
  { upIdle with axes := [(0, { pn := [(Pn.group, -1 * 2 ^ 48), (Pn.limNegSrc, 0), (Pn.homeMethod, 0), (Pn.homeDir, 2 ^ 48)], enabled := true, prof := .idle })] }

/-- Refutes O5: the run keeps the direction that HOME_DIR gives, which the clause sets to its default. -/
theorem not_homingCommandsTakeEffect : ¬ Obligations.HomingCommandsTakeEffect := by
  rintro ⟨-, hhome, -⟩
  exact false_of_reading (fun t => (t.axis 0).homing.map (fun r => r.sense))
    (hhome homesDown (hdrFor 0) (by decide) (by decide) (by decide) (by decide) (by decide)) rfl (by decide)

/-! ### The check of a cam table that cannot be read (R340, R368) -/

/-- A STAGE_CHECK of set 0 is open; the set holds a cam table at an address that is not aligned. -/
def unreadableCam : State :=
  { upIdle with stage := { upIdle.stage with
      checks := [(0, {})], sets := [{ state := .checking, items := [{ kind := 11, a := 0, b := 0, value := 4 }] }] } }

/-- Refutes O9: the check of a cam table that cannot be read is also reported on EV62, whatever the check finds. -/
theorem not_stageCommandsTakeEffect : ¬ Obligations.StageCommandsTakeEffect := by
  rintro ⟨-, -, -, hcomplete, -⟩
  obtain ⟨hpasses, hfails⟩ := hcomplete unreadableCam 0 {} [] rfl (by decide)
  cases hf : unreadableCam.checkItems (unreadableCam.stageSet 0).items (cycAdd unreadableCam.cycle 2) with
  | none =>
    exact false_of_reading (fun t => t.host.raised.length)
      (hpasses hf) rfl (show 1 ≠ 0 by decide)
  | some f =>
    exact false_of_reading (fun t => t.host.raised.length)
      (hfails f hf) rfl (show 1 ≠ 0 by decide)

/-! ### CAM_ENGAGE toward an active limit (R177, R181) -/

/-- Axis 0 stands at its positive limit, axis 1 stands enabled, and cam table 0 is level. -/
def camAtLimit : State :=
  { upIdle with
    axes := [(0, { pn := [(Pn.group, -1 * 2 ^ 48)], enabled := true, prof := .idle, sw := [true, false, false] }),
             (1, { enabled := true, prof := .idle })]
    stage := { upIdle.stage with inForce := { upIdle.stage.inForce with cams := [(0, some ⟨false, 3, [0, 0, 0, 0]⟩)] } } }

/-- Refutes O4: the way to the cam's first position leads into the limit, for which the command is refused and the clause has no
hypothesis. -/
theorem not_couplingCommandsTakeEffect : ¬ Obligations.CouplingCommandsTakeEffect := by
  rintro ⟨-, hcam, -⟩
  exact false_of_reading (fun t => (t.axis 0).coupling.isSome)
    (hcam camAtLimit { hdrFor 0 with nslot := 2 } 0 0 1 0 1 0 0 ⟨false, 3, [0, 0, 0, 0]⟩ (by decide) (by decide) (by decide) (by decide)
      (by decide) (by decide) (by decide) rfl (by decide) (by decide) (by decide) (by decide) (by decide) (by decide) (by decide)
      (by decide) (by decide +kernel) (by decide +kernel)) rfl (by decide +kernel)

end Sys2Proof.Machine
end

section
/-!
SUPPORT. The journal's own rows, the ends of injections and identifications, the Foghorn, the host interface and its link. Then the
statements about them, which these settle.
-/

namespace Sys2Proof.Machine

open Sys2Proof

/-! ### The journal (R381, R388 to R391) -/

theorem State.flushSetups_of_none {s : State} (h : s.jnl.setupWaiting = []) : s.flushSetups = s := by
  have hs : { s with jnl := { s.jnl with setupWaiting := [] } } = s := by rw [← h]
  rw [State.flushSetups, h, List.foldl_nil, hs]

theorem splitOutbox_cons {r : OutRec} (rest : List OutRec) (h : r.journal ≠ 0) : splitOutbox (r :: rest) = some ([], r, rest) := by
  rw [splitOutbox, if_neg h]

theorem OutRec.extensions_eq_nil {r : OutRec} (h : r.extra = 0) : r.extensions = [] := by
  rw [OutRec.extensions, h, List.range_zero, List.map_nil]

theorem State.copyNow_of_none {s : State} (h : s.jnl.copyDue = none) : s.copyNow = s := by
  rw [State.copyNow, h]

theorem State.copyNow_of_due {s : State} {b : Nat} (h : s.jnl.copyDue = some b) (hopen : s.mramOpen = true) :
    s.copyNow = State.copyLive { s with jnl := { s.jnl with copyDue := none } } b := by
  rw [State.copyNow, h]
  exact if_pos hopen

theorem journalRecordScrubCmd_of_bad {s : State} (b : Nat) (hlive : s.live = true) (hsv : s.svRuns = true) :
    journalRecordScrubCmd (some b) s = s.copyNow.bankFault (b % 2) :=
  if_neg (by simp [hlive, hsv])

theorem journalRecordScrubCmd_of_good {s : State} (hlive : s.live = true) (hsv : s.svRuns = true) :
    journalRecordScrubCmd none s = s.copyNow :=
  if_neg (by simp [hlive, hsv])

/-- Settles O12: the first record waiting has nothing before it, no extensions and no store to name; the scrub is what its copies and its
bank come to. -/
theorem journalRowsTakeEffect : Obligations.JournalRowsTakeEffect := by
  refine ⟨fun s bad r rest hmram hlive hsv hbank hsetup hout hjournal hextra hstore => ?_, fun s b hlive hsv => ?_,
    fun s b hlive hsv hdue hopen => ?_, fun s hlive hsv hdue => ?_, fun s hlive => ?_⟩
  · intro behind u t
    have hruns : ¬(s.mramStop = true ∨ s.live = false ∨ s.svRuns = false ∨ (s.bankOk 0 = false ∧ s.bankOk 1 = false)) := by
      rcases hbank with hb | hb <;> simp [hmram, hlive, hsv, hb]
    show Host.Outcome.next (journalRecordWriteCmd bad s) = _
    rw [journalRecordWriteCmd, if_neg hruns, State.flushSetups_of_none hsetup]
    dsimp only
    rw [hout, splitOutbox_cons rest hjournal]
    simp only [OutRec.extensions_eq_nil hextra, List.foldl_nil, List.filter_nil, List.length_nil, Nat.add_zero, List.nil_append]
    rw [if_neg (show ¬(r.kind = .final ∧ r.opcode = 0x0203 ∧ r.status = St.ok) from hstore)]
  · exact congrArg Host.Outcome.next (journalRecordScrubCmd_of_bad b hlive hsv)
  · show Host.Outcome.next (journalRecordScrubCmd none s) = _
    rw [journalRecordScrubCmd_of_good hlive hsv]
    exact congrArg Host.Outcome.next (State.copyNow_of_due hdue hopen)
  · show Host.Outcome.next (journalRecordScrubCmd none s) = _
    rw [journalRecordScrubCmd_of_good hlive hsv]
    exact congrArg Host.Outcome.next (State.copyNow_of_none hdue)
  · exact congrArg Host.Outcome.next (if_neg (by simp [hlive]))

end Sys2Proof.Machine
end

section
/-!
SUPPORT. What acceptance and admission leave as it was: the parts of the state that the effect of a command looks at after it.
-/

namespace Sys2Proof.Machine

open Sys2Proof

@[simp] theorem State.taken_openFor (s : State) (k : CmdKind) (h : Hdr) (op : Nat) : (s.taken k).openFor h op = s.openFor h op := by
  unfold State.taken
  split <;> rfl

@[simp] theorem State.acceptLong_axis (s : State) (h : Hdr) (op extra : Nat) (body : List Byte) (a : Nat) :
    (s.acceptLong h op extra body).axis a = s.axis a := by
  obtain ⟨host, regs, e⟩ := s.acceptLong_same h op extra body
  rw [e]
  rfl

@[simp] theorem State.acceptLong_cycle (s : State) (h : Hdr) (op extra : Nat) (body : List Byte) :
    (s.acceptLong h op extra body).cycle = s.cycle := by
  obtain ⟨host, regs, e⟩ := s.acceptLong_same h op extra body
  rw [e]

end Sys2Proof.Machine
end

section
/-!
SUPPORT. Pods, injection and load identification (R239, R240, R427 to R439). Then the statements about them, which these settle.
-/

namespace Sys2Proof.Machine

open Sys2Proof

/-! ### Arming a pod wakes its engine (R50, R428) -/

/-- An ACQ_ARM buffer at 0x1000: one pea of 256 samples of one modulator channel, triggered at once. -/
def armBuffer : State :=
  { upIdle with host := { upIdle.host with mem := [(0x1000, 1), (0x1009, 1), (0x1010, 1), (0x1043, 0x30)] } }

/-- Refutes O13: arming also wakes the acquisition engine, and the clause leaves the engines as they were. -/
theorem not_acquisitionPodsTakeEffect : ¬ Obligations.AcquisitionPodsTakeEffect := by
  rintro ⟨harm, -⟩
  obtain ⟨pd, hexec, -⟩ := harm armBuffer (hdrFor 0) 0x1000 (armBuffer.argBuf 0x1000 128).2 (by decide) (by decide) (by decide)
    (by decide +kernel)
  have hwoken : bvGet (acqArmCmd (hdrFor 0) 0x1000 armBuffer).fab.awake 11 = true := by decide +kernel
  obtain ⟨host, regs, haccepts⟩ :=
    ((armBuffer.taken .long).setReg (R.podStat (hdrFor 0).subj + 4) 0).acceptLong_same (hdrFor 0) 0x0401 0 []
  rw [haccepts] at hexec
  refine false_of_reading (fun t => bvGet t.fab.awake 11) hexec rfl ?_
  rw [hwoken]
  show true ≠ bvGet armBuffer.fab.awake 11
  decide

/-! ### Load identification (R239, R240) -/

/-- A motion above STILL_V ends the identification, whatever its step came to. -/
theorem State.identJudge_of_moved (s : State) (x : Axis) {i : Ident} (short : Bool) (slopes : List Int × List Int)
    (h : i.moved = true) : s.identJudge x i short slopes = some (.inl 2) := if_pos h

theorem loadIdentStepEndCmd_of_code {s : State} {a code : Nat} {i : Ident} {short : Bool} {slopes : List Int × List Int}
    (hident : (s.axis a).ident = some i) (hjudge : s.identJudge (s.axis a) i short slopes = some (.inl code)) :
    loadIdentStepEndCmd a short slopes s = s.endIdent a i.own St.identFailed code none := by
  simp only [loadIdentStepEndCmd, hident, hjudge]

/-- Every result lies in the range of its PN. -/
def resultsFit (x : Axis) (rs : List (Nat × Nat × Int)) : Prop :=
  ∀ r, r ∈ rs → ∃ d, pnDesc? r.2.1 = some d ∧ pnInRange x.raw d r.2.2 = true

/-- The resistance as the first step measures it; the other steps leave it. -/
def Ident.rAfter (i : Ident) (rs : List (Nat × Nat × Int)) : Option Int :=
  match rs with
  | (0, _, v) :: _ => some v
  | _ => i.rMeas

/-- A step whose results fit leads on to the next, or ends the identification with all results. -/
theorem loadIdentStepEndCmd_of_results {s : State} {a : Nat} {i : Ident} {short : Bool} {slopes : List Int × List Int}
    {rs : List (Nat × Nat × Int)} (hident : (s.axis a).ident = some i)
    (hjudge : s.identJudge (s.axis a) i short slopes = some (.inr rs)) (hfit : resultsFit (s.axis a) rs) :
    loadIdentStepEndCmd a short slopes s =
      let results := rs.foldl (fun l r => l.set r.1 r.2.2) i.results
      if (i.stepsLeft.drop 1).isEmpty then s.endIdent a i.own St.ok 0 (some (results.flatMap bytes72))
      else s.identNext a { i with stepsLeft := i.stepsLeft.drop 1, results := results, rMeas := i.rAfter rs } := by
  have hok : (rs.all fun r => match pnDesc? r.2.1 with
      | some d => pnInRange (s.axis a).raw d r.2.2
      | none => true) = true := by
    refine List.all_eq_true.mpr fun r hr => ?_
    obtain ⟨d, hdesc, hrange⟩ := hfit r hr
    rw [hdesc]
    exact hrange
  simp only [loadIdentStepEndCmd, hident, hjudge]
  rw [if_neg (by rw [Bool.not_eq_false]; exact hok)]
  rfl

/-- Settles O14. -/
theorem injectionAndIdentificationTakeEffect : Obligations.InjectionAndIdentificationTakeEffect := by
  refine ⟨fun s h cfg bs hadmits hbuf hzero => ?_, fun s h hadmits => ?_, fun s a i hinj hover => ?_,
    fun s h steps iTest vTest hadmits => ?_, fun s a i short slopes hident hjudge => ?_,
    fun s a code i short slopes hident hjudge => ?_, fun s a i short slopes hident hmoved => ?_,
    fun s a i short slopes rs step next more => ?_, fun s a i short slopes rs step => ?_⟩
  · intro x i hrun hleaving henabled hmode hreact hinj hbad hcount
    show Host.Outcome.next (injectCmd h cfg s) = _
    unfold injectCmd
    rw [hbuf]
    refine State.next_of_admitted hadmits (if_pos hzero) (if_pos ⟨hrun, hleaving⟩) (firstRefusal_none ?_) ?_
    · simp only [x, i] at henabled hmode hreact hinj hbad
      simp [henabled, hmode, hinj, hbad, hcount, Axis.reactionRefusal, hreact]
    · simp only [State.taken_openFor, State.modAxis, State.acceptLong_axis, State.acceptLong_cycle, State.taken_axis, State.taken_cycle]
      rfl
  · intro x
    refine State.next_of_admitted hadmits rfl rfl rfl ?_
    rw [State.modAxis, State.taken_axis, State.taken_cycle]
  · intro x
    show Host.Outcome.next (injectionEndCmd a s) = _
    simp only [injectionEndCmd, hinj, hover, if_true, State.endInjection]
    rfl
  · intro x hlo hhi hcur hmax hspeed hrun hoff hnone huse hident hreact u
    refine State.next_of_admitted hadmits ?_ ?_ ?_ ?_
    · simp only [x] at hmax hspeed
      rw [if_neg]
      simp only [Bool.or_eq_true, decide_eq_true_eq]
      omega
    · exact if_pos hrun
    · simp only [x] at hoff hnone huse hident hreact
      exact firstRefusal_none (by simp [hoff, hnone, huse, hident, Axis.reactionRefusal, hreact])
    · simp only [State.taken_openFor, State.taken_cycle]
      rfl
  · show Host.Outcome.next (loadIdentStepEndCmd a short slopes s) = _
    simp only [loadIdentStepEndCmd, hident, hjudge]
  · exact congrArg Host.Outcome.next (loadIdentStepEndCmd_of_code hident hjudge)
  · exact congrArg Host.Outcome.next (loadIdentStepEndCmd_of_code hident (s.identJudge_of_moved _ short slopes hmoved))
  · intro x hident hleft hjudge hfit
    show Host.Outcome.next (loadIdentStepEndCmd a short slopes s) = _
    rw [loadIdentStepEndCmd_of_results hident hjudge hfit]
    simp only [hleft, List.drop_one, List.tail_cons, List.isEmpty_cons, Bool.false_eq_true, if_false]
    rfl
  · intro x hident hleft hjudge hfit u
    show Host.Outcome.next (loadIdentStepEndCmd a short slopes s) = _
    rw [loadIdentStepEndCmd_of_results hident hjudge hfit]
    simp only [hleft, List.drop_one, List.tail_cons, List.isEmpty_nil, if_true]
    rfl

end Sys2Proof.Machine
end

section
/-!
SUPPORT. The checks that all host commands share (R343, R346, R347, R514). Then the statement about them, which these settle.
-/

namespace Sys2Proof.Machine

open Sys2Proof

/-! ### The shared checks -/

/-- The opcodes whose commands have no arguments that could be refused before the lifecycle is looked at. -/
def opsWithoutArguments : List Nat :=
  [0x0102, 0x0103, 0x0104, 0x0105, 0x0106, 0x0107, 0x0109, 0x010A, 0x0111, 0x0112, 0x0113, 0x0130, 0x0302, 0x0303, 0x0304, 0x0402,
    0x0411, 0x0502, 0x0503]

/-- `c` is a host command of form `f`: where the VLN takes no commands it does nothing, and where a check before the chapter's own speaks
it is refused so, in the state itself or in the one in which its ring's FENCE is over. -/
def State.sharesChecks (s : State) (c : Instr) (f : HostForm) : Prop :=
  ∃ (u : State) (k : CmdKind) (fmt : Option Nat) (power : Option (Nat × Nat)),
    (u = s ∨ u = s.setFence f.hdr.ring none) ∧ (f.reads = false → k ≠ .read) ∧ (f.op ∉ opsWithoutArguments ∨ fmt = none) ∧
    (s.takesCommands = false → exec c s = .next s) ∧
    (∀ st d, s.takesCommands = true → s.preRefusal f.hdr f.op k f.subj fmt power = some (st, d) →
      exec c s = .next (u.refuse f.hdr f.op st d))

theorem State.hostCmd_of_notTaking {s : State} (h : Hdr) (op : Nat) (k : CmdKind) (extra : Nat) (subj : SubjKind) (fmt : Option Nat)
    (power chapter : Option (Nat × Nat)) (effect : State → State) (htakes : s.takesCommands = false) :
    s.hostCmd h op k extra subj fmt power chapter effect = s :=
  if_pos htakes

theorem State.hostCmd_of_preRefusal {s : State} {h : Hdr} {op : Nat} {k : CmdKind} {subj : SubjKind} {fmt : Option Nat}
    {power : Option (Nat × Nat)} {st d : Nat} (extra : Nat) (chapter : Option (Nat × Nat)) (effect : State → State)
    (htakes : s.takesCommands = true) (hpre : s.preRefusal h op k subj fmt power = some (st, d)) :
    s.hostCmd h op k extra subj fmt power chapter effect = s.refuse h op st d := by
  simp [State.hostCmd, htakes, hpre]

theorem State.preRefusal_of_hdr {s : State} {h : Hdr} {st : Nat} (op : Nat) (k : CmdKind) (subj : SubjKind) (fmt : Option Nat)
    (power : Option (Nat × Nat)) (hhdr : hdrCheck h = some st) : s.preRefusal h op k subj fmt power = some (st, 0) := by
  simp [State.preRefusal, hhdr]

theorem State.preRefusal_of_subj {s : State} {h : Hdr} {subj : SubjKind} (op : Nat) (k : CmdKind) (fmt : Option Nat)
    (power : Option (Nat × Nat)) (hhdr : hdrCheck h = none) (hsubj : s.subjOk subj h = false) :
    s.preRefusal h op k subj fmt power = some (St.axisRange, 0) := by
  simp [State.preRefusal, hhdr, hsubj]

/-- In RETIRED one of the first four checks speaks, and it is the lifecycle's where the three before it do not (R347, R514). -/
theorem State.preRefusal_of_retired {s : State} {op : Nat} {k : CmdKind} (h : Hdr) (subj : SubjKind) (fmt : Option Nat)
    (power : Option (Nat × Nat)) (hlcs : s.sec.lcs = 3) (hkind : k ≠ .read) (hop : op ≠ 0x0001) :
    ∃ st, s.preRefusal h op k subj fmt power = some (st, 0) ∧
      (hdrCheck h = none → s.subjOk subj h = true → fmt = none → st = St.lifecycle) := by
  cases hhdr : hdrCheck h with
  | some st => exact ⟨st, s.preRefusal_of_hdr op k subj fmt power hhdr, by simp⟩
  | none =>
    cases hsubj : s.subjOk subj h with
    | false => exact ⟨St.axisRange, s.preRefusal_of_subj op k fmt power hhdr hsubj, by simp⟩
    | true =>
      cases fmt with
      | some st => exact ⟨st, by simp [State.preRefusal, hhdr, hsubj], by simp⟩
      | none => exact ⟨St.lifecycle, by simp [State.preRefusal, hhdr, hsubj, hlcs, hkind, hop], fun _ _ _ => rfl⟩

/-- Most commands are run by `State.hostCmd` from the state itself, whatever the checks say. -/
theorem State.sharesChecks_of_exec {s : State} {c : Instr} {f : HostForm} {k : CmdKind} {extra : Nat} {fmt : Option Nat}
    {power chapter : Option (Nat × Nat)} {effect : State → State}
    (hexec : exec c s = .next (s.hostCmd f.hdr f.op k extra f.subj fmt power chapter effect)) (hkind : f.reads = false → k ≠ .read)
    (hargs : f.op ∉ opsWithoutArguments ∨ fmt = none) : s.sharesChecks c f := by
  refine ⟨s, k, fmt, power, .inl rfl, hkind, hargs, fun htakes => ?_, fun st d htakes hpre => ?_⟩
  · rw [hexec, State.hostCmd_of_notTaking _ _ _ _ _ _ _ _ _ htakes]
  · rw [hexec, State.hostCmd_of_preRefusal _ _ _ htakes hpre]

theorem State.clearRefused_of_notTaking {s : State} (h : Hdr) (htakes : s.takesCommands = false) : s.clearRefused h = s :=
  if_pos (.inl htakes)

theorem State.clearRefused_of_preRefusal {s : State} {h : Hdr} {r : Nat × Nat}
    (hpre : s.preRefusal h 0x010A .imm .axis none none = some r) : s.clearRefused h = s :=
  if_pos (.inr (.inl (by rw [hpre]; rfl)))

theorem State.faultClear_sharesChecks (s : State) (h : Hdr) : s.sharesChecks (.faultClear h) ⟨h, 0x010A, false, .axis⟩ := by
  refine ⟨s, .imm, none, none, .inl rfl, by simp, .inr rfl, fun htakes => ?_, fun st d htakes hpre => ?_⟩ <;>
    show Host.Outcome.next (faultClearCmd h s) = _ <;> rw [faultClearCmd]
  · rw [State.clearRefused_of_notTaking h htakes, State.hostCmd_of_notTaking _ _ _ _ _ _ _ _ _ htakes]
  · rw [State.clearRefused_of_preRefusal hpre, State.hostCmd_of_preRefusal _ _ _ htakes hpre]

/-- How ACQ_ARM judges its configuration before its chapter does (R340, R428). -/
def State.acqArmFmt (s : State) (cfg : Nat) : Option Nat :=
  match (s.argBuf cfg 128).1 with
  | some st => some st
  | none => if alignedAddr (parseArm (s.argBuf cfg 128).2).host then none else some St.hostAddress

/-- ACQ_ARM writes the cause of its own refusal before it is refused; the checks before its chapter keep it from that. -/
theorem State.acqArm_sharesChecks (s : State) (h : Hdr) (cfg : Nat) : s.sharesChecks (.acqArm h cfg) ⟨h, 0x0401, false, .pod⟩ := by
  refine ⟨s, .long, s.acqArmFmt cfg, none, .inl rfl, by simp, .inl (by simp [opsWithoutArguments]), fun htakes => ?_, fun st d htakes hpre => ?_⟩ <;>
    show Host.Outcome.next (acqArmCmd h cfg s) = _ <;> unfold acqArmCmd <;> dsimp only
  · rw [if_neg (by simp [htakes]), State.hostCmd_of_notTaking _ _ _ _ _ _ _ _ _ htakes]
  · rw [if_neg]
    · exact congrArg Host.Outcome.next (State.hostCmd_of_preRefusal _ _ _ htakes hpre)
    · rintro ⟨-, hnone, -⟩
      exact Option.some_ne_none _ (hpre.symm.trans hnone)

theorem State.fence_sharesChecks (s : State) (h : Hdr) (mask mode : Nat) :
    s.sharesChecks (.fence h mask mode) ⟨h, 0x0002, false, .none⟩ := by
  refine ⟨s.setFence h.ring none, .imm, fenceFmt mode, none, .inr rfl, by simp, .inl (by simp [opsWithoutArguments]), fun htakes => ?_,
    fun st d htakes hpre => ?_⟩ <;> show Host.Outcome.next (fenceCmd h mask mode s) = _ <;> unfold fenceCmd
  · rw [if_neg (by simp [htakes]), if_neg (by simp [htakes]), State.hostCmd_of_notTaking _ _ _ _ _ _ _ _ _ htakes]
  · rw [if_neg, if_pos htakes]
    · exact congrArg Host.Outcome.next (State.hostCmd_of_preRefusal (s := s.setFence h.ring none) _ _ _ htakes hpre)
    · rintro ⟨-, hnone, -⟩
      exact Option.some_ne_none _ (hpre.symm.trans hnone)

theorem State.groupMove_sharesChecks (s : State) (h : Hdr) (list : Nat) :
    s.sharesChecks (.groupMove h list) ⟨h, 0x0110, false, .group⟩ := by
  cases htargets : s.readTargets list (s.members h.subj).length with
  | none =>
    have hcmd : groupMoveCmd h list s = s.hostCmd h 0x0110 .long 0 .group (some St.hostAddress) none none (fun s => s) := by
      rw [groupMoveCmd, htargets]
    exact State.sharesChecks_of_exec (congrArg Host.Outcome.next hcmd) (by simp) (.inl (by simp [opsWithoutArguments]))
  | some l =>
    refine ⟨s, .long, if 2 ≤ l.flags then some St.reservedNonzero else none, none, .inl rfl, by simp, .inl (by simp [opsWithoutArguments]),
      fun htakes => ?_, fun st d htakes hpre => ?_⟩ <;>
      show Host.Outcome.next (groupMoveCmd h list s) = _ <;> unfold groupMoveCmd <;> dsimp only <;> rw [htargets]
    · exact congrArg Host.Outcome.next (State.hostCmd_of_notTaking _ _ _ _ _ _ _ _ _ htakes)
    · exact congrArg Host.Outcome.next (State.hostCmd_of_preRefusal _ _ _ htakes hpre)

theorem State.resume_sharesChecks (s : State) (h : Hdr) : s.sharesChecks (.resume h) ⟨h, 0x0103, false, .axis⟩ := by
  by_cases hlost : (s.axis h.subj).streamLost = true
  · exact State.sharesChecks_of_exec (k := .imm) (congrArg Host.Outcome.next (if_pos hlost)) (by simp) (.inr rfl)
  · exact State.sharesChecks_of_exec (k := .long) (congrArg Host.Outcome.next (if_neg hlost)) (by simp) (.inr rfl)

theorem State.setLimits_sharesChecks (s : State) (h : Hdr) (v a j : Int) :
    s.sharesChecks (.setLimits h v a j) ⟨h, 0x0105, false, .axis⟩ := by
  by_cases hmoving : (s.axis h.subj).prof = .moving ∧ (s.axis h.subj).cur.isSome = true
  · exact State.sharesChecks_of_exec (k := .long) (congrArg Host.Outcome.next (if_pos hmoving)) (by simp) (.inr rfl)
  · exact State.sharesChecks_of_exec (k := .imm) (congrArg Host.Outcome.next (if_neg hmoving)) (by simp) (.inr rfl)

/-- Every host command is run so: by the commands of R356, in their order. -/
theorem State.sharesChecks_of_hostForm (s : State) {c : Instr} {f : HostForm} (hform : hostForm c = some f) : s.sharesChecks c f := by
  cases c
  case fence h mask mode => exact Option.some.inj hform ▸ s.fence_sharesChecks h mask mode
  case resume h => exact Option.some.inj hform ▸ s.resume_sharesChecks h
  case setLimits h v a j => exact Option.some.inj hform ▸ s.setLimits_sharesChecks h v a j
  case faultClear h => exact Option.some.inj hform ▸ s.faultClear_sharesChecks h
  case groupMove h list => exact Option.some.inj hform ▸ s.groupMove_sharesChecks h list
  case acqArm h cfg => exact Option.some.inj hform ▸ s.acqArm_sharesChecks h cfg
  case paramRead =>
    cases hform
    exact State.sharesChecks_of_exec (congrArg Host.Outcome.next (by delta paramReadCmd; rfl)) (by simp) (.inl (by simp [opsWithoutArguments]))
  case sigStatus =>
    cases hform
    exact State.sharesChecks_of_exec (congrArg Host.Outcome.next (by delta sigStatusCmd; rfl)) (by simp) (.inl (by simp [opsWithoutArguments]))
  case traceRead =>
    cases hform
    exact State.sharesChecks_of_exec (congrArg Host.Outcome.next (by delta traceReadCmd; rfl)) (by simp) (.inl (by simp [opsWithoutArguments]))
  case fwUpdate =>
    cases hform
    exact State.sharesChecks_of_exec (congrArg Host.Outcome.next (by delta fwUpdateCmd; rfl)) (by simp) (.inl (by simp [opsWithoutArguments]))
  case stop | flush | setVelocity | setCurrent | axisDisable | groupStop | groupResume | groupFlush | home | bbRelease | bbFoghorn |
      bbFogClear | acqDisarm | injectStop | safConfirm | safAck =>
    cases hform
    exact State.sharesChecks_of_exec rfl (by simp) (.inr rfl)
  case nop | query | move | axisEnable | gearEngage | camEngage | decouple | stageWrite | stageCheck | stageCommit | stageDiscard |
      paramWrite | bbNodeInfo | inject | traceFreeze | loadIdent | safLoad | safStatus |
      powerState | jnlStatus | logRead | lifecycleSet =>
    cases hform
    exact State.sharesChecks_of_exec rfl (by simp) (.inl (by simp [opsWithoutArguments]))
  all_goals cases hform

/-- Settles O52: every host command is run behind the same checks, each of which gives its refusal where it speaks. -/
theorem hostCommandsShareTheirChecks : Obligations.HostCommandsShareTheirChecks := by
  intro s c f hform
  obtain ⟨u, k, fmt, power, hu, hkind, hargs, hidle, hrefused⟩ := s.sharesChecks_of_hostForm hform
  refine ⟨hidle, fun htakes => ⟨fun st hhdr => ?_, fun hhdr hsubj => ?_, fun hlcs hreads hop => ?_⟩⟩
  · exact ⟨u, hu, hrefused st 0 htakes (s.preRefusal_of_hdr f.op k f.subj fmt power hhdr)⟩
  · exact ⟨u, hu, hrefused _ 0 htakes (s.preRefusal_of_subj f.op k fmt power hhdr hsubj)⟩
  · obtain ⟨st, hpre, hnamed⟩ := s.preRefusal_of_retired f.hdr f.subj fmt power hlcs (hkind hreads) hop
    refine ⟨u, st, hu, hrefused st 0 htakes hpre, fun hhdr hsubj hmem => hnamed hhdr hsubj ?_⟩
    exact hargs.resolve_left fun hnot => hnot hmem

end Sys2Proof.Machine
end

section
/-!
SUPPORT. The way of a record to its completion ring (R348, R349), and the refusals in a reaction (R132). Then the statements about them,
which these settle.
-/

namespace Sys2Proof.Machine

open Sys2Proof

/-! ### The signal of a vector and a cached FINAL touch neither memory nor rings -/

theorem State.signalVec_ring (s : State) (v n : Nat) : (s.signalVec v).ring n = s.ring n := by
  unfold State.signalVec
  repeat' split
  all_goals rfl

theorem State.signalVec_mem (s : State) (v : Nat) : (s.signalVec v).host.mem = s.host.mem := by
  unfold State.signalVec
  repeat' split
  all_goals rfl

theorem State.signalVec_reg_ne (s : State) (v : Nat) {off : Nat} (h : off ≠ R.msixPba) : (s.signalVec v).reg off = s.reg off := by
  unfold State.signalVec
  repeat' split
  · exact State.setBit_reg_ne _ _ _ h
  all_goals rfl

/-! ### One record enters its ring (R349) -/

/-- The slot of a ring that its next record takes. -/
def State.crSlot (s : State) (n : Nat) : Nat := (s.ring n).crPi % s.crSize n

/-- What a ring is once a record has entered it: its producer index one on, PHASE changed with the last slot of a lap, and the long
command of a FINAL closed. -/
def State.ringAfter (s : State) (r : OutRec) : Ring :=
  { s.ring r.ring with
    crPi := ((s.ring r.ring).crPi + 1) % 2 ^ 32
    phase := if s.crSlot r.ring + 1 = s.crSize r.ring then !(s.ring r.ring).phase else (s.ring r.ring).phase
    opens := if r.kind = .final then (s.ring r.ring).opens.filter (fun o => o.seq != r.seq) else (s.ring r.ring).opens }

/-- A record in its slot and its ring, before a FINAL is cached and the ring's vector is signalled. -/
def State.crEntered (s : State) (r : OutRec) : State :=
  (s.memWr (s.base (R.crLo r.ring) (R.crHi r.ring) + 32 * s.crSlot r.ring) (r.bytes (s.ring r.ring).phase)).setRing r.ring
    (s.ringAfter r)

/-- The same with a FINAL in the result cache. -/
def State.crCached (s : State) (r : OutRec) : State :=
  if r.kind = .final then (s.crEntered r).cacheFinal r (s.ring r.ring).phase else s.crEntered r

theorem State.writeCr_eq (s : State) (r : OutRec) : s.writeCr r =
    if r.irq = true ∧ (r.kind = .final ∨ r.kind = .answer) then
      (s.crCached r).signalVec ((s.crCached r).fld (R.crCfg r.ring) 4 4) else s.crCached r := rfl

theorem State.crCached_mem (s : State) (r : OutRec) : (s.crCached r).host.mem = (s.crEntered r).host.mem := by
  unfold State.crCached
  split <;> rfl

theorem State.crCached_ring (s : State) (r : OutRec) (n : Nat) : (s.crCached r).ring n = (s.crEntered r).ring n := by
  unfold State.crCached
  split <;> rfl

theorem State.cacheFinal_regs (s : State) (r : OutRec) (phase : Bool) : (s.cacheFinal r phase).regs = s.regs := rfl

theorem State.crEntered_regs (s : State) (r : OutRec) : (s.crEntered r).regs = s.regs := by
  rw [State.crEntered, State.setRing_regs, State.memWr_regs]

theorem State.crCached_regs (s : State) (r : OutRec) : (s.crCached r).regs = s.regs := by
  unfold State.crCached
  split
  · exact (State.cacheFinal_regs _ _ _).trans (s.crEntered_regs r)
  · exact s.crEntered_regs r

theorem State.writeCr_mem (s : State) (r : OutRec) : (s.writeCr r).host.mem =
    writeMem s.host.mem (s.base (R.crLo r.ring) (R.crHi r.ring) + 32 * s.crSlot r.ring) (r.bytes (s.ring r.ring).phase) := by
  have hcached : (s.crCached r).host.mem = _ := s.crCached_mem r
  rw [State.writeCr_eq]
  split
  · rw [State.signalVec_mem, hcached]
    rfl
  · rw [hcached]
    rfl

theorem State.writeCr_ring (s : State) (r : OutRec) (n : Nat) : (s.writeCr r).ring n = (s.crEntered r).ring n := by
  rw [State.writeCr_eq]
  split
  · rw [State.signalVec_ring, State.crCached_ring]
  · rw [State.crCached_ring]

theorem State.writeCr_ring_self (s : State) (r : OutRec) : (s.writeCr r).ring r.ring = s.ringAfter r :=
  (s.writeCr_ring r r.ring).trans (State.setRing_ring_self _ _ _)

theorem State.writeCr_ring_ne (s : State) (r : OutRec) {n : Nat} (h : n ≠ r.ring) : (s.writeCr r).ring n = s.ring n :=
  (s.writeCr_ring r n).trans (State.setRing_ring_ne _ _ h)

theorem State.reg_congr {s t : State} (off : Nat) (h : t.regs = s.regs) : t.reg off = s.reg off := by
  rw [State.reg, State.reg, h]

theorem State.writeCr_reg_ne (s : State) (r : OutRec) {off : Nat} (h : off ≠ R.msixPba) : (s.writeCr r).reg off = s.reg off := by
  have hcached : (s.crCached r).reg off = s.reg off := State.reg_congr off (s.crCached_regs r)
  rw [State.writeCr_eq]
  split
  · rw [State.signalVec_reg_ne _ _ h, hcached]
  · exact hcached

theorem State.writeCr_seq (s : State) (r : OutRec) (n : Nat) : ((s.writeCr r).ring n).seq = (s.ring n).seq := by
  by_cases h : n = r.ring
  · rw [h, State.writeCr_ring_self]
    rfl
  · rw [State.writeCr_ring_ne _ _ h]

/-- Records on their way take no sequence number. -/
theorem State.drainGo_seq (l : List OutRec) (s : State) (blocked : List Nat) (kept : List OutRec) (n : Nat) :
    ((s.drainGo blocked kept l).ring n).seq = (s.ring n).seq := by
  induction l generalizing s blocked kept with
  | nil => rfl
  | cons r l ih =>
    unfold State.drainGo
    split
    · rw [ih, State.writeCr_seq]
    · rw [ih]

theorem State.post_seq (s : State) (r : OutRec) (n : Nat) : ((s.post r).ring n).seq = (s.ring n).seq :=
  State.drainGo_seq _ _ _ _ _

/-- A record that nothing waits before and that waits for its own journal record is all that waits. -/
theorem State.post_of_journalled {s : State} {r : OutRec} (hempty : s.host.outbox = []) (hjournal : r.journal ≠ 0) :
    s.post r = { s with host := { s.host with outbox := [r] } } := by
  simp [State.post, State.drain, hempty, State.drainGo, hjournal]

/-- One that needs none enters its ring at once. -/
theorem State.post_of_free {s : State} {r : OutRec} (hup : s.hostUp = true) (hempty : s.host.outbox = []) (hjournal : r.journal = 0) :
    s.post r = { (State.writeCr { s with host := { s.host with outbox := [r] } } r) with
      host := { (State.writeCr { s with host := { s.host with outbox := [r] } } r).host with outbox := [] } } := by
  have hup' : State.hostUp { s with host := { s.host with outbox := [r] } } = true := hup
  simp [State.post, State.drain, hempty, State.drainGo, hjournal, hup']

/-! ### Acceptance (R348, R350, R379) -/

theorem State.takeSeq_seq (s : State) (n : Nat) : ((s.takeSeq n).ring n).seq = (s.ring n).seq + 1 := by
  rw [State.takeSeq, State.setRing_ring_self]
  rfl

theorem State.acceptImm_took (s : State) (h : Hdr) (op cycle : Nat) : s.tookImm h op cycle (s.acceptImm h op cycle 0 none) := by
  refine ⟨s.acceptImm_same h op cycle 0 none, ?_, State.post_last _ _ Nat.one_ne_zero⟩
  rw [State.acceptImm, State.post_seq, State.takeSeq_seq]

/-- The state in which the ring of a long command has taken its number and holds it open. -/
def State.opened (s : State) (h : Hdr) (op : Nat) : State :=
  (s.takeSeq h.ring).setRing h.ring
    { (s.takeSeq h.ring).ring h.ring with opens := ((s.takeSeq h.ring).ring h.ring).opens ++ [s.openFor h op] }

theorem State.acceptLong_eq (s : State) (h : Hdr) (op extra : Nat) (body : List Byte) :
    s.acceptLong h op extra body = (s.opened h op).post (s.acceptRec h op extra body) := rfl

theorem State.acceptLong_took (s : State) (h : Hdr) (op extra : Nat) (body : List Byte) :
    s.tookLong h op extra body (s.acceptLong h op extra body) := by
  refine ⟨s.acceptLong_same h op extra body, ?_, State.post_last _ _ two_ne_zero⟩
  rw [State.acceptLong_eq, State.post_seq, State.opened, State.setRing_ring_self]
  exact s.takeSeq_seq h.ring

/-- Settles O53: a record that needs a journal record stays last in line, records on their way take no number, and where nothing waited
the ring still holds the command open. -/
theorem acceptedCommandsQueueTheirRecord : Obligations.AcceptedCommandsQueueTheirRecord := by
  refine ⟨State.acceptImm_took, State.acceptLong_took, fun s h op extra body hempty => ?_⟩
  rw [State.acceptLong_eq, State.post_of_journalled (s := s.opened h op) hempty two_ne_zero]
  show s.openFor h op ∈ ((s.opened h op).ring h.ring).opens
  rw [State.opened, State.setRing_ring_self]
  exact List.mem_append_right _ (List.mem_singleton_self _)

/-! ### Memory outside the completion rings (R349) -/

theorem writeMem_get_of_outside (m : SMap Byte) (a : Nat) (bs : List Byte) {b : Nat} (h : b < a ∨ a + bs.length ≤ b) :
    SMap.get 0 (writeMem m a bs) b = SMap.get 0 m b := by
  induction bs generalizing m a with
  | nil => rfl
  | cons x bs ih =>
    rw [List.length_cons] at h
    rw [writeMem, ih _ _ (by omega), SMap.get_set_ne _ _ _ _ (by omega)]

theorem OutRec.bytes_length (r : OutRec) (phase : Bool) : (r.bytes phase).length = 32 := by
  simp [OutRec.bytes]

/-- No ring below 16 has byte `a`, by what the registers say of their places. -/
def State.outsideRings (s : State) (a : Nat) : Prop :=
  ∀ n, n < 16 → a < s.base (R.crLo n) (R.crHi n) ∨ s.base (R.crLo n) (R.crHi n) + 32 * s.crSize n ≤ a

theorem State.crPlace_congr {s t : State} {n : Nat} (hn : n < 16) (h : ∀ off, off ≠ R.msixPba → t.reg off = s.reg off) :
    t.base (R.crLo n) (R.crHi n) = s.base (R.crLo n) (R.crHi n) ∧ t.crSize n = s.crSize n := by
  have hlo : R.crLo n ≠ R.msixPba := by simp only [R.crLo, R.msixPba]; omega
  have hhi : R.crHi n ≠ R.msixPba := by simp only [R.crHi, R.msixPba]; omega
  have hcfg : R.crCfg n ≠ R.msixPba := by simp only [R.crCfg, R.msixPba]; omega
  exact ⟨by rw [State.base, State.base, h _ hlo, h _ hhi], by rw [State.crSize, State.crSize, State.fld, State.fld, h _ hcfg]⟩

theorem State.outsideRings_congr {s t : State} {a : Nat} (h : ∀ off, off ≠ R.msixPba → t.reg off = s.reg off)
    (hout : s.outsideRings a) : t.outsideRings a := by
  intro n hn
  obtain ⟨hbase, hsize⟩ := State.crPlace_congr hn h
  rw [hbase, hsize]
  exact hout n hn

theorem State.crSlot_lt (s : State) (n : Nat) : s.crSlot n < s.crSize n := Nat.mod_lt _ (Nat.two_pow_pos _)

theorem State.writeCr_memByte (s : State) {r : OutRec} {a : Nat} (hring : r.ring < 16) (hout : s.outsideRings a) :
    (s.writeCr r).memByte a = s.memByte a := by
  have hslot := s.crSlot_lt r.ring
  have hplace := hout r.ring hring
  rw [State.memByte, State.writeCr_mem]
  refine writeMem_get_of_outside _ _ _ ?_
  rw [OutRec.bytes_length]
  omega

theorem State.drainGo_memByte (l : List OutRec) (s : State) (blocked : List Nat) (kept : List OutRec) {a : Nat}
    (hrings : ∀ q ∈ l, q.ring < 16) (hout : s.outsideRings a) : (s.drainGo blocked kept l).memByte a = s.memByte a := by
  induction l generalizing s blocked kept with
  | nil => rfl
  | cons r l ih =>
    have hrest := fun q hq => hrings q (List.mem_cons_of_mem _ hq)
    unfold State.drainGo
    split
    · rw [ih _ _ _ hrest (State.outsideRings_congr (fun _ h => s.writeCr_reg_ne r h) hout),
        State.writeCr_memByte s (hrings r List.mem_cons_self) hout]
    · exact ih _ _ _ hrest hout

/-- Settles O54: a record with nothing before it is written as `State.writeCr` writes it, and every write of the way out lies in a slot
of its own ring, whose place no record moves. -/
theorem recordsEnterOnlyTheirRing : Obligations.RecordsEnterOnlyTheirRing := by
  refine ⟨fun s r hup hempty hjournal hring => ?_, fun s r a hrings hout => ?_⟩
  · intro g slot
    rw [State.post_of_free hup hempty hjournal]
    have hafter := State.writeCr_ring_self { s with host := { s.host with outbox := [r] } } r
    refine ⟨State.writeCr_mem _ r, rfl, ?_, ?_⟩
    · exact congrArg Ring.crPi hafter
    · exact congrArg Ring.phase hafter
  · exact State.drainGo_memByte _ _ _ _ hrings hout

/-! ### Motion in a reaction (R132) -/

/-- A condition that holds, somewhere in the list, refuses. -/
theorem firstRefusal_of_mem {l : List (Bool × Nat × Nat)} {st d : Nat} (h : (true, st, d) ∈ l) : ∃ r, firstRefusal l = some r := by
  induction l with
  | nil => exact absurd h List.not_mem_nil
  | cons e l ih =>
    obtain ⟨c, st', d'⟩ := e
    cases c with
    | true => exact ⟨_, rfl⟩
    | false => exact ih (by simpa using h)

theorem Axis.reactionRefusal_of_inReaction {x : Axis} (h : x.inReaction = true) : x.reactionRefusal = (true, St.inReaction, 0) := by
  rw [Axis.reactionRefusal, h]

/-- A command whose chapter refuses it is refused, by its chapter or by a check before it. -/
theorem State.hostCmd_refusedBy {s : State} {chapter : Option (Nat × Nat)} (h : Hdr) (op : Nat) (k : CmdKind) (extra : Nat)
    (subj : SubjKind) (fmt : Option Nat) (power : Option (Nat × Nat)) (effect : State → State) (htakes : s.takesCommands = true)
    (hchapter : ∃ r, chapter = some r) :
    ∃ st d, s.hostCmd h op k extra subj fmt power chapter effect = s.refuse h op st d := by
  obtain ⟨⟨st, d⟩, rfl⟩ := hchapter
  cases hpre : s.preRefusal h op k subj fmt power with
  | some r => exact ⟨r.1, r.2, State.hostCmd_of_preRefusal _ _ _ htakes hpre⟩
  | none => exact ⟨st, d, State.hostCmd_refused _ htakes hpre⟩

theorem next_refusedBy {s t : State} {h : Hdr} {op : Nat} (hcmd : ∃ st d, t = s.refuse h op st d) :
    ∃ st d, (Host.Outcome.next t : Host.Outcome State Fault Refusal) = .next (s.refuse h op st d) := by
  obtain ⟨st, d, rfl⟩ := hcmd
  exact ⟨st, d, rfl⟩

section
variable {s : State} {h : Hdr} (htakes : s.takesCommands = true) (hreact : (s.axis h.subj).inReaction = true)
include htakes hreact

theorem resumeCmd_inReaction : ∃ st d, resumeCmd h s = s.refuse h 0x0103 st d := by
  have hchapter : ∃ r, s.resumeRefusal h.subj = some r :=
    firstRefusal_of_mem (st := St.inReaction) (d := 0) (by simp [Axis.reactionRefusal_of_inReaction hreact])
  unfold resumeCmd
  dsimp only
  split
  · exact State.hostCmd_refusedBy _ _ _ _ _ _ _ _ htakes hchapter
  · exact State.hostCmd_refusedBy _ _ _ _ _ _ _ _ htakes hchapter

theorem setLimitsCmd_inReaction (v a j : Int) : ∃ st d, setLimitsCmd h v a j s = s.refuse h 0x0105 st d := by
  unfold setLimitsCmd
  dsimp only
  rw [Axis.reactionRefusal_of_inReaction hreact]
  split
  · exact State.hostCmd_refusedBy _ _ _ _ _ _ _ _ htakes ⟨_, rfl⟩
  · exact State.hostCmd_refusedBy _ _ _ _ _ _ _ _ htakes ⟨_, rfl⟩

theorem flushCmd_inReaction : ∃ st d, flushCmd h s = s.refuse h 0x0104 st d :=
  State.hostCmd_refusedBy _ _ _ _ _ _ _ _ htakes
    (firstRefusal_of_mem (st := St.inReaction) (d := 0) (by simp [Axis.reactionRefusal_of_inReaction hreact]))

end

/-- The refusal of a reaction, first in its chapter and with the checks before it silent, names itself. -/
theorem State.hostCmd_inReaction {s : State} {h : Hdr} {op : Nat} {k : CmdKind} {extra : Nat} {x : Axis}
    (rest : List (Bool × Nat × Nat)) (effect : State → State) (htakes : s.takesCommands = true) (hreact : x.inReaction = true)
    (hpre : s.preRefusal h op k .axis none none = none) :
    s.hostCmd h op k extra .axis none none (firstRefusal (x.reactionRefusal :: rest)) effect = s.refuse h op 0x0331 0 := by
  rw [Axis.reactionRefusal_of_inReaction hreact]
  exact State.hostCmd_refused _ htakes hpre

/-- Settles O56: the reaction's refusal stands in the chapter of each command, and first in those of FLUSH, HOME and SET_LIMITS. -/
theorem motionIsRefusedInAReaction : Obligations.MotionIsRefusedInAReaction := by
  intro s h htakes hreact
  have hmem := Axis.reactionRefusal_of_inReaction hreact
  refine ⟨fun flags target v a j => next_refusedBy ?_, next_refusedBy (resumeCmd_inReaction htakes hreact),
    next_refusedBy (flushCmd_inReaction htakes hreact), fun v a j => next_refusedBy (setLimitsCmd_inReaction htakes hreact v a j),
    fun v => next_refusedBy ?_, fun iq => next_refusedBy ?_, fun mk m num den b => next_refusedBy ?_,
    fun mk tb m mo off sc b => next_refusedBy ?_, fun mode b => next_refusedBy ?_, next_refusedBy ?_,
    fun hhdr husable hlcs hpfail hrail => ?_⟩
  case refine_8 =>
    have hpre := fun op k => State.preRefusal_eq_none (op := op) (k := k) (subj := .axis) hhdr husable hlcs hpfail hrail
    refine ⟨?_, ?_, fun v a j => congrArg Host.Outcome.next ?_⟩
    · exact congrArg Host.Outcome.next (State.hostCmd_inReaction _ _ htakes hreact (hpre _ _))
    · exact congrArg Host.Outcome.next (State.hostCmd_inReaction _ _ htakes hreact (hpre _ _))
    · unfold setLimitsCmd
      dsimp only
      split
      · exact State.hostCmd_inReaction _ _ htakes hreact (hpre _ _)
      · exact State.hostCmd_inReaction _ _ htakes hreact (hpre _ _)
  all_goals
    exact State.hostCmd_refusedBy _ _ _ _ _ _ _ _ htakes (firstRefusal_of_mem (st := St.inReaction) (d := 0)
      (by simp [State.slaveRefusals, hmem]))

end Sys2Proof.Machine
end

section
/-!
SUPPORT. The release of a quarantined number and the Foghorn (R290, R318, R337), the poll, the heartbeat and the wake register (R342 to
R345, R352), event records and snapshots (R358 to R362), the set-up of the host structures (R341), the link's pin and PTM (R70, R364). Then
the statements about them, which these settle.
-/

namespace Sys2Proof.Machine

open Sys2Proof

/-! ### What a fold over lanes or outputs keeps -/

/-- What each step of a fold keeps, the fold keeps. -/
theorem foldl_keeps {α β : Type} (read : State → β) {f : State → α → State} (hf : ∀ s x, read (f s x) = read s) (l : List α) (s : State) :
    read (l.foldl f s) = read s := by
  induction l generalizing s with
  | nil => rfl
  | cons x l ih => rw [List.foldl_cons, ih, hf]

/-! ### The Foghorn (R318, R467) -/

theorem State.outOff_bb (s : State) (c : Nat) (lasting : Bool) : (s.outOff c lasting).bb = s.bb := by
  unfold State.outOff
  dsimp only
  split <;> rfl

theorem State.outOff_axes (s : State) (c : Nat) (lasting : Bool) : (s.outOff c lasting).axes = s.axes := by
  unfold State.outOff
  dsimp only
  split <;> rfl

theorem State.fogOutputs_bb (s : State) : s.fogOutputs.bb = s.bb :=
  foldl_keeps State.bb (fun t c => by split; exacts [t.outOff_bb c true, rfl]) _ _

theorem State.fogOutputs_axes (s : State) : s.fogOutputs.axes = s.axes :=
  foldl_keeps State.axes (fun t c => by split; exacts [t.outOff_axes c true, rfl]) _ _

/-- The backbone's state apart from its lanes. -/
def State.bbCore (s : State) : Backbone := { s.bb with lanes := [] }

/-- A Foghorn is latched with this reason, cause and sequence, and its reaction is due. -/
def Backbone.hasFoghorn (b : Backbone) (reason cause seq : Nat) : Prop :=
  b.fogLatched = true ∧ b.fogReason = reason ∧ b.fogCause = cause ∧ b.fogLast = seq ∧ b.fogDue = true

/-- A Foghorn that is new is latched; beside that only lanes and outputs change. -/
theorem State.takeFoghorn_of_new {s : State} {origin seq : Nat} (from_ : Option Nat) (reason cause cycle : Nat)
    (hnew : (origin, seq) ∉ s.bb.fogSeen) :
    (s.takeFoghorn from_ origin seq reason cause cycle).bb.hasFoghorn reason cause seq ∧
      (s.takeFoghorn from_ origin seq reason cause cycle).bb.fogSeq = s.bb.fogSeq ∧
      (s.takeFoghorn from_ origin seq reason cause cycle).axes = s.axes := by
  have hcore : (s.takeFoghorn from_ origin seq reason cause cycle).bbCore = { s.bbCore with
      fogSeen := (origin, seq) :: s.bb.fogSeen, fogLatched := true, fogReason := reason, fogCause := cause, fogLast := seq,
      fogDue := true } := by
    unfold State.takeFoghorn
    rw [if_neg hnew, State.bbCore, State.fogOutputs_bb]
    exact foldl_keeps State.bbCore (fun t n => by split <;> rfl) _ _
  have haxes : (s.takeFoghorn from_ origin seq reason cause cycle).axes = s.axes := by
    unfold State.takeFoghorn
    rw [if_neg hnew, State.fogOutputs_axes]
    exact foldl_keeps State.axes (fun t n => by split <;> rfl) _ _
  exact ⟨⟨(congrArg Backbone.fogLatched hcore :), (congrArg Backbone.fogReason hcore :), (congrArg Backbone.fogCause hcore :),
    (congrArg Backbone.fogLast hcore :), (congrArg Backbone.fogDue hcore :)⟩, (congrArg Backbone.fogSeq hcore :), haxes⟩

theorem State.raiseFoghorn_of_conductor {s : State} (reason cause : Nat) (hcond : s.conductor = true) :
    s.raiseFoghorn reason cause = ({ s with bb := { s.bb with fogSeq := (s.bb.fogSeq + 1) % 2 ^ 32 } }).takeFoghorn none s.uid
      ((s.bb.fogSeq + 1) % 2 ^ 32) reason cause s.cycle :=
  if_neg (by simp [hcond])

/-- A conductor's next Foghorn, which it has not seen, is latched. -/
theorem State.raiseFoghorn_of_new {s : State} (reason cause : Nat) (hcond : s.conductor = true)
    (hnew : (s.uid, (s.bb.fogSeq + 1) % 2 ^ 32) ∉ s.bb.fogSeen) :
    (s.raiseFoghorn reason cause).bb.hasFoghorn reason cause ((s.bb.fogSeq + 1) % 2 ^ 32) ∧
      (s.raiseFoghorn reason cause).bb.fogSeq = (s.bb.fogSeq + 1) % 2 ^ 32 ∧ (s.raiseFoghorn reason cause).axes = s.axes := by
  rw [State.raiseFoghorn_of_conductor reason cause hcond]
  exact State.takeFoghorn_of_new (s := { s with bb := { s.bb with fogSeq := (s.bb.fogSeq + 1) % 2 ^ 32 } }) none reason cause s.cycle hnew

theorem State.conductor_of_takes {s : State} (h : s.takesCommands = true) : s.conductor = true := by
  simp only [State.takesCommands, Bool.and_eq_true] at h
  exact h.1.2

theorem State.conductor_of_leads {s : State} (h : s.leads = true) : s.conductor = true := by
  simp only [State.leads, Bool.and_eq_true] at h
  exact h.1.2

@[simp] theorem State.taken_bb (s : State) (k : CmdKind) : (s.taken k).bb = s.bb := by
  unfold State.taken
  split <;> rfl

@[simp] theorem State.taken_axes (s : State) (k : CmdKind) : (s.taken k).axes = s.axes := by
  unfold State.taken
  split <;> rfl

@[simp] theorem State.taken_uid (s : State) (k : CmdKind) : (s.taken k).uid = s.uid := by
  unfold State.taken
  split <;> rfl

@[simp] theorem State.taken_conductor (s : State) (k : CmdKind) : (s.taken k).conductor = s.conductor := by
  unfold State.taken
  split <;> rfl

theorem State.acceptImm_bb (s : State) (h : Hdr) (op cycle detail : Nat) (ext : Option (List Byte)) :
    (s.acceptImm h op cycle detail ext).bb = s.bb := by
  obtain ⟨host, regs, e⟩ := s.acceptImm_same h op cycle detail ext
  rw [e]

theorem State.acceptImm_axes (s : State) (h : Hdr) (op cycle detail : Nat) (ext : Option (List Byte)) :
    (s.acceptImm h op cycle detail ext).axes = s.axes := by
  obtain ⟨host, regs, e⟩ := s.acceptImm_same h op cycle detail ext
  rw [e]

theorem foghornFrameCmd_of_bad {s : State} {n origin seq cause reason : Nat} {cycle : Nat × Ends} (hn : n < 4) (hlive : s.live = true)
    (hup : s.linkUp n = true) (hok : fogOk ⟨cycle.1, origin, seq, cause, reason, cycle.2⟩ = false) :
    foghornFrameCmd n origin seq cause reason cycle s = s.countBad n cycle.2.tail := by
  simp [foghornFrameCmd, hn, hlive, hup, hok]

theorem foghornFrameCmd_of_ok {s : State} {n origin seq cause reason : Nat} {cycle : Nat × Ends} (hn : n < 4) (hlive : s.live = true)
    (hup : s.linkUp n = true) (hok : fogOk ⟨cycle.1, origin, seq, cause, reason, cycle.2⟩ = true) :
    foghornFrameCmd n origin seq cause reason cycle s =
      if s.conductor then (s.countBad n cycle.2.tail).takeFoghorn (some n) origin (seq % 2 ^ 32) (reason % 2 ^ 16) (cause % 2 ^ 16)
        (cycle.1 % 2 ^ 32)
      else (s.countBad n cycle.2.tail).latchFog (seq % 2 ^ 32) := by
  have hruns : ¬(4 ≤ n ∨ s.live = false ∨ s.linkUp n = false) := by simp [hn, hlive, hup]
  unfold foghornFrameCmd
  dsimp only
  rw [if_neg hruns, if_neg (by simp [hok])]
  rfl

/-- Settles O15: a new Foghorn is latched whoever raises it, and what then becomes of lanes and outputs touches neither latch nor axes. -/
theorem releaseAndFoghornTakeEffect : Obligations.ReleaseAndFoghornTakeEffect := by
  refine ⟨fun s h hadmits hquar hrivals => ?_, fun s h reason hadmits hnew => ?_, fun s h hadmits => ?_,
    fun s m hleads hm hlatched hnew => ?_, fun s n origin seq cause reason cycle hn hlive hup hcond hok hnew => ?_,
    fun s n origin seq cause reason cycle hn hlive hup hcond hok => ?_, fun s n origin seq cause reason cycle hn hlive hup hok => ?_,
    fun s n e rest hn hlive hcond hup hend hslot hfits hpend => ?_⟩
  · intro x u v
    refine State.next_of_admitted hadmits rfl rfl (firstRefusal_none (by simp [hquar, hrivals])) ?_
    exact congrArg (fun c => State.acceptImm v h 0x0302 c 0 none) (State.taken_cycle s .imm)
  · have htaken := State.hostCmd_taken s h 0x0303 .imm 0 .none (fun s =>
      (s.raiseFoghorn (reason % 2 ^ 16) 0xFFFF).acceptImm h 0x0303 s.cycle 0 none) hadmits
    obtain ⟨⟨hlatched, hreason, hcause, hlast, hdue⟩, hseq, haxes⟩ := State.raiseFoghorn_of_new (s := s.taken .imm) (reason % 2 ^ 16)
      0xFFFF (by simpa using State.conductor_of_takes hadmits.1) (by simpa using hnew)
    refine ⟨_, congrArg Host.Outcome.next htaken, ?_⟩
    rw [State.taken_bb] at hlast hseq
    rw [State.taken_axes] at haxes
    rw [State.acceptImm_bb, State.acceptImm_axes]
    exact ⟨hlatched, hreason, hcause, hlast, hseq, hdue, haxes⟩
  · exact State.next_of_admitted hadmits rfl rfl rfl rfl
  · obtain ⟨⟨hlatched', hreason, hcause, hlast, -⟩, -, haxes⟩ :=
      State.raiseFoghorn_of_new 1 m (State.conductor_of_leads hleads) hnew
    have hrun : fogNodeRequestCmd m s = s.raiseFoghorn 1 m := by
      simp [fogNodeRequestCmd, hleads, hm, hlatched]
    exact ⟨_, congrArg Host.Outcome.next hrun, hlatched', hreason, hcause, hlast, haxes⟩
  · obtain ⟨⟨hlatched, hreason, hcause, hlast, -⟩, hseq, haxes⟩ := State.takeFoghorn_of_new (s := s.countBad n cycle.2.tail)
      (some n) (reason % 2 ^ 16) (cause % 2 ^ 16) (cycle.1 % 2 ^ 32) hnew
    have hrun := (foghornFrameCmd_of_ok hn hlive hup hok).trans (if_pos hcond)
    exact ⟨_, congrArg Host.Outcome.next hrun, hlatched, hreason, hcause, hlast, hseq, haxes⟩
  · exact congrArg Host.Outcome.next ((foghornFrameCmd_of_ok hn hlive hup hok).trans (if_neg (by simp [hcond])))
  · exact congrArg Host.Outcome.next (foghornFrameCmd_of_bad hn hlive hup hok)
  · have hruns : ¬(4 ≤ n ∨ s.live = false ∨ s.conductor = false ∨ s.linkUp n = false ∨ (s.lane n).lineEnd = true ∨
        (500 * 2 ^ 16 ≤ t72Diff s.phi0Now s.now ∧ t72Diff s.phi0Now s.now < 1500 * 2 ^ 16) ∨ s.fogFits n = false) := by
      simp only [hlive, hcond, hup, hend, hfits]
      rcases hslot with h | h <;> simp <;> omega
    show Host.Outcome.next (foghornSendCmd n s) = _
    unfold foghornSendCmd
    dsimp only
    rw [if_neg hruns, hpend]

end Sys2Proof.Machine
end

section
/-!
SUPPORT. The poll, the heartbeat and the wake register (R342 to R345, R352), event records and snapshots (R358 to R362), the set-up of the
host structures (R341), the link's pin and PTM (R70, R364). Then the statements about them, which these settle.
-/

namespace Sys2Proof.Machine

open Sys2Proof

/-! ### The poll, the heartbeat and the wake register (R342 to R345, R352) -/

theorem State.mode_of_isIdle {s : State} (h : s.isIdle = true) : s.mode = .idle := of_decide_eq_true h

theorem State.isIdle_of_standby {s : State} (h : s.mode = .standby) : s.isIdle = false := by
  rw [State.isIdle, h]
  rfl

/-- Events raise no frame between the dies, take no stage set and leave the next poll where it is. -/
theorem State.evC_pollSoon (s : State) (src subj code : Nat) : (s.evC src subj code).host.pollSoon = s.host.pollSoon := by
  obtain ⟨raised, log, pods, regs, e⟩ := s.evC_same src subj code
  rw [e]

theorem State.evC_die (s : State) (src subj code : Nat) : (s.evC src subj code).die = s.die := by
  obtain ⟨raised, log, pods, regs, e⟩ := s.evC_same src subj code
  rw [e]

theorem State.evC_stage (s : State) (src subj code : Nat) : (s.evC src subj code).stage = s.stage := by
  obtain ⟨raised, log, pods, regs, e⟩ := s.evC_same src subj code
  rw [e]

theorem State.wakePin_stage (s : State) (l2 : Bool) : (s.wakePin l2).stage = s.stage := by
  unfold State.wakePin
  split <;> rfl

/-- What no axis is part of, a fold over axes keeps. -/
theorem State.foldl_modAxis_keeps {β : Type} (read : State → β) (hread : ∀ s a f, read (State.modAxis s a f) = read s)
    (f : Nat → Axis → Axis) (l : List Nat) (s : State) : read (l.foldl (fun s a => s.modAxis a (f a)) s) = read s :=
  foldl_keeps read (fun t a => hread t a (f a)) l s

/-- A wake from Standby trains the link fast, brings the poll forward and leaves the stage sets alone (R492, R494). -/
theorem State.wakeUp_of_standby {s : State} (hstandby : s.mode = .standby) (hentering : s.pw.entering = false)
    (hcore : s.pw.shutCore = false) (hfield : s.pw.shutField = false) :
    (s.wakeUp .hifWake).die.fast = true ∧ (s.wakeUp .hifWake).host.pollSoon = true ∧ (s.wakeUp .hifWake).stage = s.stage := by
  have hwakes : ¬(s.mode ≠ .standby ∨ s.pw.shutCore = true ∨ s.pw.shutField = true) := by simp [hstandby, hcore, hfield]
  unfold State.wakeUp
  rw [if_neg (by simp [hentering]), if_neg hwakes]
  dsimp only [State.evWake]
  refine ⟨?_, ?_, ?_⟩
  · rw [State.evC_die, State.setFld_die, State.setFld_die, State.foldl_modAxis_keeps State.die (fun _ _ _ => rfl)]
  · rw [State.evC_pollSoon, State.setFld_host, State.setFld_host, State.foldl_modAxis_keeps State.host (fun _ _ _ => rfl)]
  · rw [State.evC_stage, State.setFld_stage, State.setFld_stage, State.foldl_modAxis_keeps State.stage (fun _ _ _ => rfl)]
    exact State.wakePin_stage _ _

/-- Settles O16: a poll that finds its block runs its parts in order; the wake register's two bits act apart. -/
theorem pollHeartbeatAndWakeTakeEffect : Obligations.PollHeartbeatAndWakeTakeEffect := by
  refine ⟨fun s bs htakes hup hbase hblock => ?_, fun s htakes hup hbase hblock => ?_, fun s htakes htmo hbase hlost => ?_,
    fun s v hcond hidle hreq => ?_, fun s v hcond hstandby hreq hentering hcore hfield => ?_⟩
  · intro v w y
    have hruns : ¬(s.takesCommands = false ∨ s.hostUp = false ∨ s.base R.dbLo R.dbHi = 0) := by simp [htakes, hup, hbase]
    show Host.Outcome.next (doorbellPollCmd s) = _
    unfold doorbellPollCmd
    dsimp only
    rw [if_neg hruns]
    have hblock' : v.memRd (s.base R.dbLo R.dbHi) 256 = some bs := hblock
    rw [hblock']
    rfl
  · have hrun : doorbellPollCmd s = State.evC { s with host := { s.host with
        pollSoon := false, signalled := if s.isIdle then [] else s.host.signalled } } 62 0xFFFF 2 := by
      have hruns : ¬(s.takesCommands = false ∨ s.hostUp = false ∨ s.base R.dbLo R.dbHi = 0) := by simp [htakes, hup, hbase]
      have hblock' : State.memRd { s with host := { s.host with
        pollSoon := false, signalled := if s.isIdle then [] else s.host.signalled } } (s.base R.dbLo R.dbHi) 256 = none := hblock
      unfold doorbellPollCmd
      dsimp only
      rw [if_neg hruns, hblock']
    obtain ⟨raised, log, pods, regs, e⟩ := State.evC_same { s with host := { s.host with
        pollSoon := false, signalled := if s.isIdle then [] else s.host.signalled } } 62 0xFFFF 2
    refine ⟨_, congrArg Host.Outcome.next hrun, ?_⟩
    rw [e]
    exact ⟨rfl, rfl, rfl⟩
  · have hruns : ¬(s.takesCommands = false ∨ s.fld R.hbCfg 0 16 = 0 ∨ s.base R.dbLo R.dbHi = 0 ∨ s.host.hbLost = true) := by
      simp [htakes, htmo, hbase, hlost]
    exact congrArg Host.Outcome.next (if_neg hruns)
  · have hrun : hifWakeCmd v s = { s with host := { s.host with pollSoon := true } } := by
      simp [hifWakeCmd, hcond, State.mode_of_isIdle hidle, hidle, hreq]
    exact congrArg Host.Outcome.next hrun
  · have hrun : hifWakeCmd v s = s.wakeUp .hifWake := by
      simp [hifWakeCmd, hcond, hstandby, State.isIdle_of_standby hstandby, hreq]
    exact ⟨_, congrArg Host.Outcome.next hrun, rfl, State.wakeUp_of_standby hstandby hentering hcore hfield⟩

/-! ### Event records and snapshots (R358 to R362) -/

theorem State.recordEvent_of_room {s : State} (e : Event) (hheld : s.host.held = []) (hroom : s.erRoom = true) :
    s.recordEvent e = State.putEvent { s with host := { s.host with held := [] } } e := by
  have hroom' : State.erRoom { s with host := { s.host with held := [] } } = true := hroom
  unfold State.recordEvent
  dsimp only
  rw [hheld]
  exact if_pos ⟨rfl, hroom'⟩

theorem take_eight_leBytes (g : Nat) (rest : List Byte) : (leBytes 8 g ++ rest).take 8 = leBytes 8 g :=
  List.take_left' (leBytes_length 8 g)

/-- Settles O17: an event's record is the last of its effects, and the closing word of a snapshot is its generation again. -/
theorem eventsAndSnapshotsAreWritten : Obligations.EventsAndSnapshotsAreWritten := by
  refine ⟨fun s e rest hraised hlive hcond => ?_, fun s e hheld hroom => ?_, fun s hlive hcond hen hup hrate => ?_⟩
  · intro u w key
    have hruns : ¬(s.live = false ∨ s.conductor = false) := by simp [hlive, hcond]
    show Host.Outcome.next (eventRecordWriteCmd s) = _
    unfold eventRecordWriteCmd
    rw [hraised]
    dsimp only
    rw [if_neg hruns]
  · exact State.recordEvent_of_room e hheld hroom
  · intro g n
    have hruns : ¬(s.live = false ∨ s.conductor = false ∨ s.bit R.snapCfg 0 = false ∨ s.hostUp = false ∨
        s.cycle % 2 ^ s.fld R.snapCfg 16 3 ≠ 0) := by simp [hlive, hcond, hen, hup, hrate]
    show Host.Outcome.next (snapshotWriteCmd s) = _
    unfold snapshotWriteCmd
    rw [if_neg hruns]
    dsimp only
    rw [take_eight_leBytes]
    rfl

/-! ### The set-up of the host structures (R341) -/

theorem bits_zero_one (v : Reg32) : bits v 0 1 = v.toNat % 2 := by simp [bits]

/-- Bit 0 of a merge whose mask takes it is that of the value written. -/
theorem bits_merge_zero_one (old v : Reg32) {mask : Nat} (hmask : mask % 2 = 1) (hfits : mask < 2 ^ 32) :
    bits (merge old v mask) 0 1 = bits v 0 1 := by
  have hkept : (0xFFFFFFFF - mask) % 2 = 0 := by omega
  rw [bits_zero_one, bits_zero_one, merge, BitVec.toNat_ofNat, Nat.mod_mod_of_dvd _ (by decide)]
  have h0 : ∀ x : Nat, x % 2 = (x.testBit 0).toNat := fun x => by
    rw [Nat.testBit_zero]; rcases Nat.mod_two_eq_zero_or_one x with h | h <;> simp [h]
  have hm : mask.testBit 0 = true := by simp [Nat.testBit_zero, hmask]
  have hk : (0xFFFFFFFF - mask).testBit 0 = false := by simp [Nat.testBit_zero, hkept]
  rw [h0, h0, Nat.testBit_or, Nat.testBit_and, Nat.testBit_and, hm, hk, Bool.and_false, Bool.and_true, Bool.false_or]

/-- Settles O18: the branches of a ring's configuration, and bit 0 of a value written over an event ring that is off. -/
theorem hostStructuresAreSetUp : Obligations.HostStructuresAreSetUp := by
  refine ⟨fun s n v hwrites hn => ?_, fun s n v hwrites hn => ?_, fun s n v hwrites hn hwas hchange => ?_, fun s v hwrites => ?_,
    fun s v hwrites => ?_, fun s v hwrites => ?_⟩
  · intro new hwas hnow hcheck u
    have hruns : ¬(s.hostWrites = false ∨ 16 ≤ n) := by simp [hwrites, hn]
    refine congrArg Host.Outcome.next ((if_neg hruns).trans ?_)
    unfold State.writeCqCfg
    dsimp only
    rw [if_neg (by simp [hwas]), if_neg (by rw [hwas, hnow]; decide), if_pos hnow, if_neg (by simp [new, hcheck])]
    rfl
  · intro new hwas hnow hcheck
    have hruns : ¬(s.hostWrites = false ∨ 16 ≤ n) := by simp [hwrites, hn]
    refine congrArg Host.Outcome.next ((if_neg hruns).trans ?_)
    unfold State.writeCqCfg
    dsimp only
    rw [if_neg (by simp [hwas]), if_neg (by rw [hwas, hnow]; decide), if_pos hnow, if_pos hcheck]
    rfl
  · have hruns : ¬(s.hostWrites = false ∨ 16 ≤ n) := by simp [hwrites, hn]
    exact congrArg Host.Outcome.next ((if_neg hruns).trans (if_pos ⟨hwas, hchange⟩))
  · exact congrArg Host.Outcome.next (if_neg (by simp [hwrites]))
  · intro u hwas hnow
    have hnew : bits (merge (u.reg R.erCfg) v 0xFF1) 0 1 = 0 := (bits_merge_zero_one _ _ (by decide) (by decide)).trans hnow
    refine congrArg Host.Outcome.next ((if_neg (by simp [hwrites])).trans ?_)
    unfold State.writeErCfg
    dsimp only
    rw [if_neg (by simp [u] at hwas ⊢; simp [hwas]), if_pos (by rw [hwas, hnew])]
  · exact congrArg Host.Outcome.next (if_neg (by simp [hwrites]))

/-- Settles O19: the pin is the link's, and a dialogue writes its pair or clears its bit. -/
theorem linkPinAndPtmTakeEffect : Obligations.LinkPinAndPtmTakeEffect := by
  refine ⟨fun s => rfl, fun s => rfl, fun s host t hlive hen => ?_, fun s hlive hen => ?_⟩
  · exact congrArg Host.Outcome.next (if_neg (by simp [hlive, hen]))
  · exact congrArg Host.Outcome.next (if_neg (by simp [hlive, hen]))

end Sys2Proof.Machine
end

section
/-!
SUPPORT. BAR2 (R363, R529): which words an eight-byte access to a word's low half covers, and what it reads and writes there. Then the
statement about it, which these settle.
-/

namespace Sys2Proof.Machine

open Sys2Proof

/-- An access to the low half of a word covers the first byte of that word alone, -/
theorem firstBytes_low (w : Nat) : firstBytes (16 * w) 8 = [w] := by
  have hfilter : (List.range 8).filter (fun i => decide ((16 * w + i) % 16 = 0)) = (List.range 8).filter (fun i => decide (i % 16 = 0)) :=
    List.filter_congr fun i _ => by rw [Nat.mul_add_mod]
  have hkept : (List.range 8).filter (fun i => decide (i % 16 = 0)) = [0] := by decide
  rw [firstBytes, hfilter, hkept, List.map_singleton, Nat.add_zero, Nat.mul_div_cancel_left _ (by decide)]

/-- and touches no other. -/
theorem touched_low (w : Nat) : touched (16 * w) 8 = [w] := by
  have hcount : (16 * w + 8 - 1) / 16 - 16 * w / 16 + 1 = 1 := by omega
  have hfirst : 16 * w / 16 = w := Nat.mul_div_cancel_left _ (by decide)
  rw [touched, if_neg (by decide), hcount, hfirst]
  rfl

/-- A byte of a word's low half is read from the word itself. -/
theorem State.bar2Byte_low {s : State} {w i : Nat} (hstore : s.bar2 = .store) (hw : w < 2 ^ 20) (hi : i < 8) :
    s.bar2Byte (16 * w + i) = (bytes72 (sext 72 (s.sigWord w).toNat)).getD i 0 := by
  have hplace : (16 * w + i) % 16 = i := by omega
  have hword : (16 * w + i) / 16 = w := by omega
  rw [State.bar2Byte, hstore]
  dsimp only
  rw [if_neg (by omega), hplace, hword, if_pos hi]

/-- A write that covers the low half of a word, by its producer and of no 72-bit kind, puts the merged value in the word. -/
theorem State.bar2Word_of_low {s : State} {w : Nat} {d : BlockDesc} {b : Nat → Option Byte} (hblock : s.sigBlock w = some d)
    (hproducer : d.producer = 256 + s.bb.number) (hkind : d.kind ≠ 3) (hlow : (b (16 * w)).isSome = true) :
    s.bar2Word w b = s.localSig w (storeForm d.kind (mergeLow w (s.sigWord w) b)) := by
  have hany : (List.range 8).any (fun i => (b (16 * w + i)).isSome) = true :=
    List.any_eq_true.mpr ⟨0, by simp, hlow⟩
  rw [State.bar2Word, hblock]
  dsimp only
  rw [if_neg (by simp [hproducer]), if_neg hkind, if_pos hany]

/-- Settles O21: an eight-byte access at a word's first byte meets that word alone, and one byte of the buffer is written where it lies. -/
theorem bar2ReachesTheSignalStore : Obligations.Bar2ReachesTheSignalStore := by
  refine ⟨fun s w hreads hstore hw => ?_, fun s w v d hreads hstore hblock hproducer hkind => ?_, fun s off v hreads hbuffer hoff => ?_⟩
  · have hbytes : ∀ t : State, t.bar2 = .store → t.sigWord w = s.sigWord w →
        (List.range 8).map (fun i => t.bar2Byte (16 * w + i)) =
          (List.range 8).map (fun i => (bytes72 (sext 72 (s.sigWord w).toNat)).getD i 0) := fun t ht hword =>
      List.map_congr_left fun i hi => by rw [State.bar2Byte_low ht hw (List.mem_range.mp hi), hword]
    show Host.Outcome.next (bar2ReadCmd (16 * w) 8 s) = _
    unfold bar2ReadCmd
    rw [if_neg (by simp [hreads]), if_pos hstore, firstBytes_low, List.foldl_cons, List.foldl_nil]
    dsimp only
    rw [hbytes { s with sig := { s.sig with latch := s.sig.latch.set 0 w (s.sigWord w) } } hstore rfl]
  · intro b
    show Host.Outcome.next (bar2WriteCmd (16 * w) 8 v s) = _
    unfold bar2WriteCmd
    rw [if_neg (by simp [hreads]), hstore]
    dsimp only
    rw [touched_low, List.foldl_cons, List.foldl_nil]
    exact congrArg Host.Outcome.next (State.bar2Word_of_low hblock hproducer hkind (by simp))
  · have hinside : ¬ 4194304 ≤ off := Nat.not_le.mpr hoff
    show Host.Outcome.next (bar2WriteCmd off 1 v s) = _
    unfold bar2WriteCmd
    rw [if_neg (by simp [hreads]), hbuffer]
    simp [hinside]

end Sys2Proof.Machine
end

section
/-!
SUPPORT. What the lifecycle's fuses and a debugger's resume do (R41, R513, R520), and the two statements about them.
-/

namespace Sys2Proof.Machine

open Sys2Proof

/-- A VLN on its way to RETIRED whose supply is low, so that MRAM takes no writes. -/
def retiringLow : State :=
  { upIdle with
    sec := { upIdle.sec with lcs := 0, setOwn := some (upIdle.openFor (hdrFor 0) 0x0605, 3, []) }
    pw := { upIdle.pw with lowRail := true } }

/-- Refutes O44: into RETIRED the stores in MRAM are erased, which waits until MRAM takes writes (R41). -/
theorem not_lifecycleRowsTakeEffect : ¬ Obligations.LifecycleRowsTakeEffect := by
  rintro ⟨-, -, -, -, hretired, -⟩
  obtain ⟨t, hexec, hlcs, -⟩ := hretired retiringLow _ [] rfl (by decide) (by decide)
  exact false_of_reading (fun t => t.sec.lcs) hexec rfl (by rw [hlcs]; decide)

/-- An open session with engine 6 halted, and a data word of it that the debugger wrote. -/
def haltedEngine : State :=
  { upIdle with
    sec := { upIdle.sec with lcs := 2, session := true, auth := true, halted := bvPut 0 6 true }
    fab := { upIdle.fab with mem := [(6 * 32768 + 16384, some 1)] } }

/-- Refutes O45: the data words that a debugger wrote are the engine's own again once it runs. -/
theorem not_debugRowsTakeEffect : ¬ Obligations.DebugRowsTakeEffect := by
  rintro ⟨-, -, -, -, -, -, hresume, -⟩
  exact false_of_reading (fun t => t.fab.mem) (hresume haltedEngine 6 (by decide) (by decide) (by decide) (by decide) (by decide)) rfl
    (by decide)

end Sys2Proof.Machine
end

section
/-!
SUPPORT. What a Flash brings to the conductor that takes it (R66, R304), and the statement about it.
-/

namespace Sys2Proof.Machine

open Sys2Proof

/-- A valid Flash of another Lantern. -/
def lanternFlash : FlashIn := ⟨0, 0, 0, 0, 0, 0, 0, 0, false, false, false, 1, 1, 0, true⟩

/-- A conductor that integrates and whose lane 0 has measured a delay of 4 quarters. -/
def integrating : State :=
  State.setLane { upIdle with bb := { upIdle.bb with cold := .integrate } } 0 { upIdle.lane 0 with median := some 4 }

/-- Refutes O33: c of R304 is the Flash's CORR and the delay of the link on which it arrived (R66), and the clauses take CORR alone. -/
theorem not_flashesAreTaken : ¬ Obligations.FlashesAreTaken := by
  rintro ⟨-, hvalid, -⟩
  obtain ⟨-, hintegrate, -⟩ := hvalid integrating 0 lanternFlash (by decide) (by decide) rfl rfl (by decide) (by decide)
  exact false_of_reading (fun t => t.bb.relay.map FlashIn.corr) (hintegrate (by decide) rfl) rfl (by decide +kernel)

end Sys2Proof.Machine
end

section
/-!
SUPPORT. When a buoy's pulse ends for a latch, and a comparator's second write of its channel; the statements about these rows.
-/

namespace Sys2Proof.Machine

open Sys2Proof

/-- Buoy 0 holds its pin; its pulse began in an earlier cycle and was stamped to end at 7, while its width now reads 1. Latch 0 of
port 0, which does not count live, waits for the buoy's falling edge. -/
def pulseRunning : State :=
  { upIdle with
    pins := { upIdle.pins with buoyActive := [[0]], buoyEnd := [(0, 7)] }
    regs := [(R.byWidth 0, 1), (R.fbStat 0, 1), (R.fbLatCtl 0 0, 32 + 8 + 3)] }

/-- Refutes O32: the falling edge lies WIDTH after the firing, which the buoy's own stamp holds, not after the cycle's φ0. -/
theorem not_timeRowsTakeEffect : ¬ Obligations.TimeRowsTakeEffect := by
  rintro ⟨-, -, -, -, -, -, -, hpin, -⟩
  exact false_of_reading (fun t => (t.fbp 0).latWait.map (Option.map LatchWait.t)) (hpin pulseRunning 0) rfl (by decide +kernel)

/-- Channel 13's comparator is on with both thresholds at -1, and the channels stand in no order of their keys. -/
def unsortedChannels : State :=
  { upIdle with
    sdm := [(14, { x := 1 }), (13, { fast := 1 })]
    regs := [(R.sdmCmp 13, 0xFFFFFFFF), (R.sdmCmpCfg 13, 1)] }

/-- Refutes O40: the model writes the filter's output and then what it lies beyond. The first write may be of the channel's default,
which drops its entry, and the second then lists it in order; the clause, of every state, writes both at once, where a map out of order
keeps the old entry behind the new one. -/
theorem not_powerStageRowsTakeEffect : ¬ Obligations.PowerStageRowsTakeEffect := by
  rintro ⟨-, hcomparator, -⟩
  exact false_of_reading (fun t => t.sdm) (hcomparator unsortedChannels 13 0 (by decide) (by decide) (by decide) rfl rfl
    (by decide) (by decide)) rfl (by decide +kernel)

end Sys2Proof.Machine
end

section
/-!
SUPPORT. The rows of the two safety channels and their PDUs (R394 to R417), and the two statements about them.
-/

namespace Sys2Proof.Machine

open Sys2Proof

theorem State.chan_setChan_self (s : State) (c : Chan) (x : SafChan) : (s.setChan c x).chan c = x := by cases c <;> rfl

theorem State.setChan_conductor (s : State) (c : Chan) (x : SafChan) : (s.setChan c x).conductor = s.conductor := by cases c <;> rfl

theorem State.setChan_node (s : State) (c : Chan) (x : SafChan) : (s.setChan c x).node = s.node := by cases c <;> rfl

theorem State.ev_chan (s : State) (src subj code value : Nat) (c : Chan) : (s.ev src subj code value).chan c = s.chan c := by
  obtain ⟨pods, regs, h⟩ := s.ev_same src subj code value
  rw [h]
  rfl

theorem SafChan.view_setView_self (x : SafChan) {sx : Nat} (v : SafAxisView) (h : sx < x.axes.length) : (x.setView sx v).view sx = v := by
  simp [SafChan.view, SafChan.setView, h]

/-- Settles O24. -/
theorem safetyChannelRowsTakeEffect : Obligations.SafetyChannelRowsTakeEffect := by
  refine ⟨fun s c m hcond hruns hcrc hseq => ?_, fun s a b hA hB ha hb => ?_, fun s a b hA hB hchanged => ?_,
    fun s c j p hcond hruns hpair hopen => ?_, fun s c j p st hcond hruns hpair hclosed => ?_, fun s j p hcond hruns hpair hfault => ?_,
    fun s hcond hB => ?_, fun s j p hcond hB hpair htp => ?_, fun s st hset hcond hrst hA hB => ?_,
    fun s c counts bad st hcond hruns hset => ?_, fun s sx st r hset hrec => ?_, fun s hdown => ?_⟩
  · have hgood : ¬(m.crcOk = false ∨ m.seq ≠ ((s.chan c).xtSeq + 1) % 2 ^ 32 ∧ (s.chan c).xtMissed = 0) := by
      rintro (h | ⟨h1, h2⟩)
      · simp [hcrc] at h
      · exact hseq.elim h1 fun h => h h2
    exact congrArg Host.Outcome.next ((if_neg (by simp [hcond, hruns])).trans (if_neg hgood))
  · show Host.Outcome.next (switchReadCmd a b false s) = _
    unfold switchReadCmd
    have hva : (if s.saf.chA.running then a % 16 else s.saf.chA.sw) = s.saf.chA.sw := (if_pos hA).trans ha
    have hvb : (if s.saf.chB.running then b % 16 else s.saf.chB.sw) = s.saf.chB.sw := (if_pos hB).trans hb
    rw [if_neg (by simp [hA]), hva, hvb]
    simp only [ne_eq, not_true_eq_false, decide_false, Bool.or_self, Bool.and_false, Bool.false_eq_true, false_and, if_false, if_true]
    rfl
  · intro u v
    show Host.Outcome.next (switchReadCmd a b false s) = _
    unfold switchReadCmd
    rw [if_neg (by simp [hA])]
    simp only [hA, hB, if_true]
    simp [hchanged, u, v]
  · intro u
    refine congrArg Host.Outcome.next ((if_neg (by simp [hcond, hruns, hpair, hopen])).trans ?_)
    simp [u]
  · intro u w hset
    refine congrArg Host.Outcome.next ((if_neg (by simp [hcond, hruns, hpair, hclosed])).trans ?_)
    simp only [w, u, Bool.false_eq_true, false_or, if_false] at hset ⊢
    simp only [hset]
  · have hserved : ¬(s.conductor = false ∨ (s.saf.chA.running = false ∧ s.saf.chB.running = false) ∨ (s.pair? j).isNone) := by
      rcases hruns with h | h <;> simp [hcond, h, hpair]
    exact congrArg Host.Outcome.next ((if_neg hserved).trans (if_neg (by simp [hfault])))
  · exact congrArg Host.Outcome.next (if_neg (by simp [hcond, hB]))
  · refine congrArg Host.Outcome.next ((if_neg (by simp [hcond, hB])).trans ?_)
    simp [hpair, htp]
  · show Host.Outcome.next (rstInAckCmd s) = _
    unfold rstInAckCmd
    simp only [hset]
    rw [if_neg (by simp [hcond, hrst, hA, hB])]
  · intro u
    refine congrArg Host.Outcome.next ((if_neg (by simp [hcond, hruns])).trans ?_)
    have hcycle : s.safetyCycle c counts bad = if c = .a then u.clearPairs.tryRelease else u.tryRelease := by
      unfold State.safetyCycle
      rw [hset]
      cases c
      · exact (if_pos rfl).symm
      · exact (if_neg (by decide)).symm
    exact congrArg (fun t => t.sendCrossTalk c) hcycle
  · intro u w
    show Host.Outcome.next (ss1EndCmd sx s) = _
    simp only [ss1EndCmd, hset, hrec, w, u]
  · intro u
    exact congrArg Host.Outcome.next (if_neg (by simp [hdown]))

/-- Settles O25. -/
theorem safetyPdusTakeEffect : Obligations.SafetyPdusTakeEffect := by
  refine ⟨fun s sx c p st r hset hrec hlive hruns hex hcrc => ?_, fun s sx q c p st r hset hrec hlive hruns hex hcrc hok => ?_,
    fun s sx c p st r hset hrec hlive hruns hex hcrc hok hcond => ?_, fun s st hset hlive => ?_,
    fun s sx c st r hset hrec hlive hruns hex hwd hcond => ?_, fun s sx c st r hset hrec hlive hruns hex hwd hcond hlen => ?_⟩
  · show Host.Outcome.next (safetyPduReceivedCmd sx c p s) = _
    simp only [safetyPduReceivedCmd, hset, hrec, hlive, hruns, hex, hcrc]
    rfl
  · intro v hseq hnext u
    show Host.Outcome.next (safetyPduReceivedCmd sx c p s) = _
    simp only [v] at hseq
    simp only [safetyPduReceivedCmd, hset, hrec, hlive, hruns, hex, hcrc, hok, hseq, hnext]
    rw [if_neg (by simp), if_neg (by simp), if_neg (by simp), if_neg (by omega), if_neg (by simp), State.setChan_conductor]
  · intro v hseq
    show Host.Outcome.next (safetyPduReceivedCmd sx c p s) = _
    simp only [v] at hseq
    simp only [safetyPduReceivedCmd, hset, hrec, hlive, hruns, hex, hcrc, hok, hseq]
    rw [if_neg (by simp), if_neg (by simp), if_neg (by simp)]
    refine congrArg Host.Outcome.next ?_
    unfold State.firstPdu
    exact congrArg (fun v => s.setChan c ((s.chan c).setView sx v)) (if_pos hcond)
  · show Host.Outcome.next (safetyPduExchangeCmd s) = _
    simp only [safetyPduExchangeCmd, hset]
    rw [if_neg (by simp [hlive])]
    rfl
  · intro u
    show Host.Outcome.next (safetyWatchdogTripCmd sx c s) = _
    simp only [safetyWatchdogTripCmd, hset, hrec]
    rw [if_neg (by simp [hlive, hruns, hex, hwd]), if_pos hcond]
    rfl
  · refine ⟨safetyWatchdogTripCmd sx c s, rfl, ?_⟩
    have hrun : safetyWatchdogTripCmd sx c s = (s.setChan c ((s.chan c).setView sx { (s.chan c).view sx with
        rxSeq := none, synced := false, pathOpen := true, state := .sto })).ev 27 sx (1 + chanIdx c) (s.node.nodeNo.getD 0) := by
      simp only [safetyWatchdogTripCmd, hset, hrec]
      rw [if_neg (by simp [hlive, hruns, hex, hwd]), if_neg (by simp [hcond]), State.setChan_node]
    rw [hrun, State.ev_chan, State.chan_setChan_self, SafChan.view_setView_self _ _ hlen]
    exact ⟨rfl, rfl, rfl⟩

end Sys2Proof.Machine
end

section
/-!
SUPPORT. The rows of a reaction's end, of the profile engine and of the converters, and the statements about them.
-/

namespace Sys2Proof.Machine

open Sys2Proof

/-- Settles O28. -/
theorem reactionsEndOrAreReplaced : Obligations.ReactionsEndOrAreReplaced := by
  refine ⟨fun s a => ?_, fun s a husable hen hreact hstill => ?_, fun s a husable hen hreact hstill => ?_⟩
  · intro x hrun husable hen hstill hvalid hslow hreact y u
    simp only [x] at hen hstill hvalid hslow hreact
    refine congrArg Host.Outcome.next (if_neg ?_)
    simp [hrun, husable, hen, hstill, hvalid, not_lt.mpr hslow, hreact]
  · exact congrArg Host.Outcome.next (if_pos ⟨husable, hen, hreact, hstill⟩)
  · exact congrArg Host.Outcome.next (if_pos ⟨husable, hen, hreact, hstill⟩)

/-- A stream is lost: the axis reports it, and rests where nothing else has it stop. -/
theorem streamLostCmd_of_overdue {s : State} {a : Nat} (hrun : s.isRun = true) (husable : s.usable a = true)
    (hen : (s.axis a).enabled = true) (hstreamed : (s.axis a).streamed = true) (hnew : (s.axis a).streamLost = false)
    (hseq : 0 ≤ (s.axis a).int Pn.streamSeqSig) (htmo : 0 < (s.axis a).int Pn.streamTmo)
    (hage : (s.axis a).int Pn.streamTmo < (s.axis a).streamAge) :
    streamLostCmd a s =
      let u := (s.setAxis a { ((s.axis a).profFlag fStreamLost true) with streamLost := true }).evFree 28 a
      if (s.axis a).ctrlMode = 2 ∨ (s.axis a).inReaction = true then u else u.request a (.toSpeed 0) := by
  refine if_neg ?_
  simp [hrun, husable, hen, hstreamed, hnew, not_lt.mpr hseq, not_le.mpr htmo, not_le.mpr hage]

/-- Settles O29. -/
theorem profileRowsTakeEffect : Obligations.ProfileRowsTakeEffect := by
  refine ⟨fun s pe hpe hrun heng => ?_, fun s a => ?_, fun s a => ?_, fun s a => ?_⟩
  · exact congrArg Host.Outcome.next (if_neg (by simp [hrun, heng, hpe]))
  · intro x hrun husable hen hstreamed hnew hseq htmo hage hmode hreact
    refine congrArg Host.Outcome.next ((streamLostCmd_of_overdue hrun husable hen hstreamed hnew hseq htmo hage).trans (if_neg ?_))
    rintro (h | h)
    · exact hmode h
    · exact absurd h (by rw [hreact]; decide)
  · intro x hrun husable hen hstreamed hnew hseq htmo hage hstays
    exact congrArg Host.Outcome.next
      ((streamLostCmd_of_overdue hrun husable hen hstreamed hnew hseq htmo hage).trans (if_pos hstays))
  · intro x hrun husable hen hmiss p u
    simp only [x] at hen hmiss
    exact congrArg Host.Outcome.next (if_neg (by simp [hrun, husable, hen, hmiss]))

/-- Settles O38. -/
theorem converterRowsTakeEffect : Obligations.ConverterRowsTakeEffect := by
  refine ⟨fun s k code sat current hk hlive heng hbusy => ?_, fun s k src hk hlive heng hlistens hbusy => ?_,
    fun s k src hk hlive heng hlistens hbusy htick => ?_, fun s k codes hk hbusy => ?_, fun s ref diode current hmode => ?_⟩
  · intro slot u x
    exact congrArg Host.Outcome.next (if_neg (by simp [hk, hlive, heng, hbusy]))
  · intro x
    exact congrArg Host.Outcome.next ((if_neg (by simp [hk, hlive, heng, hlistens])).trans (if_neg (by simp [hbusy])))
  · intro u
    exact congrArg Host.Outcome.next ((if_neg (by simp [hk, hlive, heng, hlistens])).trans ((if_pos hbusy).trans (if_neg htick)))
  · intro u w
    exact congrArg Host.Outcome.next (if_neg (by simp [hk, hbusy]))
  · intro u w
    exact congrArg Host.Outcome.next (if_neg (by simp [hmode]))

end Sys2Proof.Machine
end

section
/-!
SUPPORT. The Node role: what its rows leave of the role itself, and the statement about them (R284, R298 to R337).
-/

namespace Sys2Proof.Machine

open Sys2Proof

/-! ### No row of the Node role changes the role -/

theorem State.fogRelease_conductor (s : State) : s.fogRelease.conductor = s.conductor := rfl

theorem State.takeFog_conductor (s : State) (fog : Bool) (clr : Nat) : (s.takeFog fog clr).conductor = s.conductor := by
  simp only [State.takeFog, State.latchFog, apply_ite State.conductor, State.fogRelease_conductor, ite_self]

theorem State.takeGen_conductor (s : State) (gen : Nat) : (s.takeGen gen).conductor = s.conductor := by
  unfold State.takeGen
  repeat' split
  all_goals rfl

theorem State.highsOff_conductor (s : State) (k : Nat) (slow : Bool) : (s.highsOff k slow).conductor = s.conductor := by
  unfold State.highsOff
  split <;> rfl

theorem State.axisTriple_conductor (s : State) (k : Nat) (d i : List Int) (late : Bool) :
    (s.axisTriple k d i late).conductor = s.conductor := by
  simp only [State.axisTriple, State.writeTriple, apply_ite State.conductor, State.setBit_conductor, State.setPwmp_conductor, ite_self]

theorem State.storeBlock_conductor (s : State) (b kind bseq : Nat) (payload : List (BitVec 72)) :
    (s.storeBlock b kind bseq payload).conductor = s.conductor :=
  foldl_keeps State.conductor (f := fun t (w : BitVec 72 × Nat) => t.setSigWord (64 * b + w.2) (storeForm kind w.1)) (fun _ _ => rfl) payload.zipIdx s

theorem State.takeScatterBlock_conductor (s : State) (b : SigBlock) : (s.takeScatterBlock b).conductor = s.conductor := by
  simp only [State.takeScatterBlock, apply_ite State.conductor, State.storeBlock_conductor, State.setBlockStat_conductor, ite_self]

theorem State.nodeEnable_conductor (s : State) (i : Nat) : (s.nodeEnable i).conductor = s.conductor := by
  simp only [State.nodeEnable, State.nodeLeaveHalt, apply_ite State.conductor, State.modAxis_conductor, State.setBit_conductor,
    State.setPwmp_conductor, ite_self]

theorem State.setNodeAxis_conductor (s : State) (i : Nat) (x : NodeAxis) : (s.setNodeAxis i x).conductor = s.conductor := rfl

theorem State.takeScatterEntry_conductor (s : State) (late : Bool) (e : SEntry) :
    (s.takeScatterEntry late e).conductor = s.conductor := by
  simp only [State.takeScatterEntry, apply_ite State.conductor, State.axisTriple_conductor, State.nodeEnable_conductor,
    State.setNodeAxis_conductor, State.highsOff_conductor, ite_self]

theorem State.becomeMember_inForce (s : State) : s.becomeMember.node.inForce = s.node.inForce ∧
    s.becomeMember.node.pending = s.node.pending ∧ s.becomeMember.node.genMismatch = s.node.genMismatch := by
  unfold State.becomeMember
  split
  · exact ⟨rfl, rfl, rfl⟩
  · exact ⟨rfl, rfl, rfl⟩

/-- The adopted generation is in force, and nothing is pending. -/
theorem State.adopt_node (s : State) (g : Generation) (c : Nat) :
    (s.adopt g c).node.inForce = g ∧ (s.adopt g c).node.pending = none ∧ (s.adopt g c).node.genMismatch = false := by
  unfold State.adopt
  dsimp only
  split
  · obtain ⟨hforce, hpend, hgen⟩ := State.becomeMember_inForce _
    exact ⟨hforce, hpend, hgen⟩
  · exact ⟨rfl, rfl, rfl⟩

/-! ### The rows -/

/-- Settles O36. -/
theorem nodeRowsTakeEffect : Obligations.NodeRowsTakeEffect := by
  refine ⟨fun s port f res hside => ?_, fun s port f res hside hup hserved hend => ?_, fun s port f res hside hup hserved hend => ?_,
    fun s port f res hside hup hserved hend => ?_, fun s port f res hside hup hserved hend => ?_,
    fun s port f res hside hup hserved hend => ?_, fun s port f late hnode hside hup hserved hfirst hok => ?_,
    fun s i hi hlive hnode => ?_, fun s hlive hnode hmember hmissed => ?_, fun s r htakes haddr hnone hnew => ?_,
    fun s r htakes haddr hnone hnew => ?_, fun s n r g hnode htakes hown hpend hgood => ?_,
    fun s n i r g hnode htakes hown hpend hbad => ?_, fun s n r hn hcond hlantern hleads => ?_,
    fun s g htakes hpend hcomplete hadopt => ?_⟩
  · exact congrArg Host.Outcome.next (if_pos (by simp))
  · intro bad g t
    exact congrArg Host.Outcome.next (if_neg (by simp [hside, hup, hserved, hend]))
  · intro bad g t
    exact congrArg Host.Outcome.next (if_neg (by simp [hside, hup, hserved, hend]))
  · intro bad e g t u
    refine congrArg Host.Outcome.next ((if_neg (by simp [hside, hup, hserved, hend])).trans ?_)
    by_cases hok : gatherOk f = true
    · simp only [fwdGen, hok, if_true]
      rfl
    · simp only [fwdGen, hok]
      rfl
  · intro bad g t u
    refine congrArg Host.Outcome.next ((if_neg (by simp [hside, hup, hserved, hend])).trans ?_)
    by_cases hok : scatterOkF f = true
    · simp only [fwdGen, hok, if_true]
      rfl
    · simp only [fwdGen, hok]
      rfl
  · intro bad e g t u
    refine congrArg Host.Outcome.next ((if_neg (by simp [hside, hup, hserved, hend])).trans ?_)
    by_cases hok : slowOkF f = true
    · simp only [fwdGen, hok, if_true]
      rfl
    · simp only [fwdGen, hok]
      rfl
  · intro u v w
    refine congrArg Host.Outcome.next ((if_neg (by simp [hside, hup, hserved, hfirst, hok])).trans ?_)
    have hv : v.conductor = false :=
      (State.takeGen_conductor _ _).trans ((State.takeFog_conductor _ _ _).trans hnode)
    have hw : w.conductor = false :=
      (foldl_keeps State.conductor (fun s b => s.takeScatterBlock_conductor b) _ _).trans
        ((foldl_keeps State.conductor (fun s e => s.takeScatterEntry_conductor late e) _ _).trans hv)
    by_cases htakes : v.nodeState = .member ∧ v.node.genMismatch = false
    · rw [if_pos htakes]
      have hstays : ¬(v.nodeState ≠ .member ∨ v.node.genMismatch = true) := by simp [htakes]
      have hvNode : ¬v.conductor = true := by simp [hv]
      have hwNode : ¬w.conductor = true := by simp [hw]
      refine (if_neg hstays).trans ?_
      rw [if_neg hvNode]
      exact if_neg hwNode
    · rw [if_neg htakes]
      refine if_pos ?_
      by_cases hm : v.nodeState = .member
      · exact Or.inr (by simpa [hm] using htakes)
      · exact Or.inl hm
  · intro x hen hgot
    exact congrArg Host.Outcome.next (if_neg (by simp only [x] at hen hgot; simp [-List.getD_eq_getElem?_getD, hlive, hnode, hi, hen, hgot]))
  · exact congrArg Host.Outcome.next (if_pos ⟨hlive, hnode, hmember, hmissed⟩)
  · have hgen : s.generationFor r.gen = some { gen := r.gen } := by simp only [State.generationFor, hnone, if_neg hnew]
    refine congrArg Host.Outcome.next ((if_neg (by simp [htakes, haddr])).trans ?_)
    simp [hgen]
  · intro g
    have hgen : s.generationFor r.gen = some { gen := r.gen } := by simp only [State.generationFor, hnone, if_neg hnew]
    refine ⟨congrArg Host.Outcome.next ((if_neg (by simp [htakes, haddr])).trans ?_), fun hpart hparts => ?_⟩
    · rw [hgen]
      rfl
    · simp [g, Generation.cfgWhole, Generation.ordered, hpart, hparts, SMap.get]
  · refine congrArg Host.Outcome.next ((if_neg (by simp [hnode])).trans ((if_neg (by simp [htakes, hown])).trans ?_))
    simp only [hpend, Option.map_some, Generation.answer, hgood]
  · refine congrArg Host.Outcome.next ((if_neg (by simp [hnode])).trans ((if_neg (by simp [htakes, hown])).trans ?_))
    simp only [hpend, Option.map_some, Generation.answer, hbad]
  · exact congrArg Host.Outcome.next ((if_pos ⟨hcond, fun _ => hlantern⟩).trans (if_pos ⟨hleads, hn⟩))
  · refine ⟨s.adopt g (cycAdd s.cycle 1), congrArg Host.Outcome.next ((if_neg (by simp [htakes])).trans ?_), rfl, ?_⟩
    · rw [hpend]
      exact if_pos ⟨hcomplete, Or.inr hadopt⟩
    · exact s.adopt_node g _

end Sys2Proof.Machine
end

section
/-!
SUPPORT. Registers below the pods that an event leaves as they are, and the rows of the die-to-die link and the lane links (R24 to R29,
R266 to R276, R321).
-/

namespace Sys2Proof.Machine

open Sys2Proof

/-! ### Raising an event counts missed triggers of pods alone -/

theorem State.timedTriggerOne_reg (s : State) (tk targ at_ p : Nat) {off : Nat} (h : off < 0x6100) :
    (s.timedTriggerOne tk targ at_ p).reg off = s.reg off := by
  have hne : off ≠ R.podMissed p := by simp only [R.podMissed]; omega
  unfold State.timedTriggerOne
  repeat' split
  · exact s.bumpFld_reg_ne 0 32 1 hne
  · rfl
  · rfl
  · rfl

theorem State.timedTrigger_reg (s : State) (tk targ at_ : Nat) {off : Nat} (h : off < 0x6100) :
    (s.timedTrigger tk targ at_).reg off = s.reg off :=
  foldl_keeps (fun t => t.reg off) (fun t p => t.timedTriggerOne_reg tk targ at_ p h) _ s

theorem State.ev_reg (s : State) (src subj code value : Nat) {off : Nat} (h : off < 0x6100) :
    (s.ev src subj code value).reg off = s.reg off :=
  State.timedTrigger_reg _ _ _ _ h

theorem State.reg_withFree (s : State) (n off : Nat) : ({ s with free := n } : State).reg off = s.reg off := rfl

theorem State.evC_reg (s : State) (src subj code : Nat) {off : Nat} (h : off < 0x6100) :
    (s.evC src subj code).reg off = s.reg off := by
  unfold State.evC
  exact (State.reg_withFree _ _ _).trans (State.ev_reg s src subj code _ h)

theorem State.evC_bb (s : State) (src subj code : Nat) : (s.evC src subj code).bb = s.bb := by
  obtain ⟨raised, log, pods, regs, h⟩ := s.evC_same src subj code
  rw [h]

theorem State.evC_conductor (s : State) (src subj code : Nat) : (s.evC src subj code).conductor = s.conductor := by
  obtain ⟨raised, log, pods, regs, h⟩ := s.evC_same src subj code
  rw [h]

/-- Which lane closes the ring of lane `n` is read from the staged configuration alone. -/
theorem State.ringOf_congr {s t : State} (n : Nat) (h : t.reg (R.bbCfg (n - n % 2)) = s.reg (R.bbCfg (n - n % 2))) :
    t.ringOf n = s.ringOf n := by
  have hmode : t.laneMode (n - n % 2) = s.laneMode (n - n % 2) := by rw [State.laneMode, State.laneMode, State.fld, State.fld, h]
  rw [State.ringOf, State.ringOf, hmode]

theorem bbCfg_ne_bbStat (m n : Nat) : R.bbCfg m ≠ R.bbStat n := by simp only [R.bbCfg, R.bbStat]; omega
theorem bbCfg_ne_bbErr (m n : Nat) : R.bbCfg m ≠ R.bbErr n := by simp only [R.bbCfg, R.bbErr]; omega
theorem bbCfg_low {n : Nat} (h : n < 4) : R.bbCfg (n - n % 2) < 0x6100 := by simp only [R.bbCfg]; omega

/-! ### The die-to-die link -/

/-- Taking or discarding a frame leaves the end's own SEQ. -/
theorem State.coreTakes_die_txSeq (s : State) (f : DieFrame) : (s.coreTakes f).die.txSeq = s.die.txSeq := by
  rcases hgood : dieGood false f s.die.resync s.die.rxSeq with _ | _
  · rw [State.coreTakes_of_bad hgood]
  · rw [State.coreTakes_of_good hgood]

theorem State.withDie_congr {v : State} {d : DieLink} (h : v.die = d) (f : DieFrame) :
    ({ v with die := { v.die with
      rxSeq := f.seq % 16, resync := false, missing := 0, fio := f.fio, stat := f.stat, cfg := f.cfg, safe := f.safe } } : State) =
    { v with die := { d with
      rxSeq := f.seq % 16, resync := false, missing := 0, fio := f.fio, stat := f.stat, cfg := f.cfg, safe := f.safe } } := by
  rw [h]

theorem State.coreTakes_good_eq {s u v : State} {f : DieFrame} (h : dieGood false f s.die.resync s.die.rxSeq = true)
    (hu : u = s.setFld R.dioIn 16 16 (f.fio.toNat / 2 ^ 16)) (hv : v = if u.bit R.dioStat 0 then u.setFld R.dioIn 0 16 f.fio.toNat else u) :
    s.coreTakes f = { v with die := { s.die with
      rxSeq := f.seq % 16, resync := false, missing := 0, fio := f.fio, stat := f.stat, cfg := f.cfg, safe := f.safe } } := by
  have hdie : v.die = s.die := by
    rw [hv, hu]
    split
    · rw [State.setFld_die, State.setFld_die]
    · rw [State.setFld_die]
  rw [State.coreTakes, if_pos h, ← State.withDie_congr hdie, hv, hu]

theorem State.supplyLate_of_none {s : State} (h : s.field.unseen = []) : s.supplyLate = s := by
  rw [State.supplyLate, h]
  show ({ s with field := { s.field with unseen := [] } } : State) = s
  rw [← h]

/-- Settles O34. -/
theorem linkRowsTakeEffect : Obligations.LinkRowsTakeEffect := by
  refine ⟨fun s f hup hgood => ?_, fun s f hup hbad => ?_, fun s f hup hgood => ?_, fun s f hup => ?_, fun s hlost hboot hseen => ?_,
    fun s n hn hlive hclk hon hdown hcond hring => ?_, fun s n hn hup hcond hring => ?_,
    fun s n e c hn hlive hcond hring hopen hup hup' hclose hdue => ?_, fun s n hn hlive hup hcycle => ?_,
    fun s n seq node uid t1 t2 t3 t4 hn hlive hup hok => ?_, fun s n seq node uid t1 t2 t3 t4 hn hlive hup hok => ?_,
    fun s n seq node response uid t1 t2 t3 t4 hn hlive hup hbad => ?_⟩
  · intro u v
    rw [exec_linkFrameReceived_core f hup, State.coreTakes_good_eq (u := u) (v := v) hgood rfl rfl]
  · rw [exec_linkFrameReceived_core f hup, State.coreTakes_of_bad hbad]
  · rw [exec_linkFrameReceived_field f hup, State.fieldTakes, if_pos hgood]
  · refine ⟨(s.coreTakes f).coreSends, exec_linkFrameReceived_core f hup, ?_, ?_⟩
    · show ((s.coreTakes f).die.txSeq + 1) % 16 = _
      rw [State.coreTakes_die_txSeq]
    · refine ⟨_, rfl, rfl, ?_, rfl⟩
      show ((s.coreTakes f).die.txSeq + 1) % 16 % 16 = _
      rw [State.coreTakes_die_txSeq, Nat.mod_mod]
  · intro u
    refine congrArg Host.Outcome.next ((if_neg ?_).trans (congrArg State.fieldFound (State.supplyLate_of_none hseen)))
    rcases hlost with h | h <;> simp [h, hboot]
  · refine congrArg Host.Outcome.next ((if_neg (by simp [hn, hlive, hclk, hon, hdown])).trans ?_)
    rw [if_pos]
    rw [State.ringOf_congr (s := s), hring]
    rw [State.evC_reg _ _ _ _ (bbCfg_low hn), State.setBit_reg_ne _ _ _ (bbCfg_ne_bbStat _ _),
      State.setFld_reg_ne _ _ _ _ (bbCfg_ne_bbStat _ _)]
    rw [State.evC_conductor]
    exact hcond
  · refine ⟨if (Config.freeWord s.free).toNat % 2 = 0 then 0 else 6, by split <;> simp, ?_⟩
    intro u w x
    have hw : w.ringOf n = none := by
      rw [State.ringOf_congr (s := s), hring]
      rw [State.evC_reg _ _ _ _ (bbCfg_low hn), State.bumpFld_reg_ne _ _ _ _ (bbCfg_ne_bbErr _ _),
        State.setBit_reg_ne _ _ _ (bbCfg_ne_bbStat _ _), State.setFld_reg_ne _ _ _ _ (bbCfg_ne_bbStat _ _)]
      rfl
    have hxring : x.ringOf n = none := (State.ringOf_congr (s := w) n (State.reg_congr _ (State.setLane_regs _ _ _))).trans hw
    have hwcond : w.conductor = true := by
      rw [State.evC_conductor, State.bumpFld_conductor, State.setBit_conductor, State.setFld_conductor]
      exact hcond
    refine congrArg Host.Outcome.next ((if_neg (by simp [hn, hup])).trans ((if_pos hwcond).trans ?_))
    rw [hw]
    have hcut : (fun e : Nat × NodeRec => (e.1, if e.2.lane = n then x.nodeCutOff n e.2 else e.2)) = fun e => (e.1,
        if e.2.lane = n then { e.2 with rivals := [], state := if e.2.state = .announced then .absent else e.2.state } else e.2) := by
      funext e
      unfold State.nodeCutOff
      rw [hxring]
      simp only [and_true]
    rw [← hcut]
  · intro u
    refine congrArg Host.Outcome.next ((if_neg (by simp [hn, hlive])).trans ((if_pos hcond).trans ?_))
    rw [hring]
    dsimp only
    rw [hclose]
    refine (if_pos ⟨decide_eq_true hdue, hup, hup'⟩).trans ?_
    unfold State.closeRing
    rw [if_neg (by simp [hopen])]
  · intro q
    refine congrArg Host.Outcome.next (if_neg ?_)
    simp only [hlive, hup]
    simp
    exact ⟨hn, hcycle⟩
  · intro u v
    refine congrArg Host.Outcome.next ((if_neg (by simp [hn, hlive, hup])).trans ?_)
    exact (if_neg (by simp [hok])).trans (if_neg (by simp))
  · intro u v hseq ds
    have hrun : linkFrameCmd n true seq node uid t1 t2 t3 t4 s = v.newDelay n (t72Diff t1 t4 - t72Diff t2 t3) :=
      (if_neg (by simp [hn, hlive, hup])).trans ((if_neg (by simp [hok])).trans ((if_pos rfl).trans (if_pos hseq)))
    refine ⟨fun hfew => congrArg Host.Outcome.next (hrun.trans (if_pos hfew)), fun hfull => ?_⟩
    exact congrArg Host.Outcome.next (hrun.trans (if_neg (fun h => absurd hfull (Nat.ne_of_lt h))))
  · exact congrArg Host.Outcome.next ((if_neg (by simp [hn, hlive, hup])).trans (if_pos hbad))

end Sys2Proof.Machine
end

section
/-!
SUPPORT. The cold start, and the conductor's records of its nodes (R277, R278, R285 to R292).
-/

namespace Sys2Proof.Machine

open Sys2Proof

/-! ### COLDSTART frames leave on every lane that is in use -/

/-- Lane `n` of `s` once a COLDSTART frame has left on it, where it is in use and no line end. -/
def State.coldSent (s : State) (n : Nat) : Lane :=
  if s.laneOn n = true ∧ (s.lane n).lineEnd = false then
    { s.lane n with sent := (s.lane n).sent + 1, coldOut := some (sentCold s.coldRank s.uid) }
  else s.lane n

/-- The step of COLDSTART_SEND for lane `n`. -/
def State.coldSend (s : State) (n : Nat) : State :=
  if s.laneOn n = true ∧ (s.lane n).lineEnd = false then
    s.setLane n { s.lane n with sent := (s.lane n).sent + 1, coldOut := some (sentCold s.coldRank s.uid) }
  else s

theorem State.lane_setLane_self (s : State) {n : Nat} (x : Lane) (h : n < s.bb.lanes.length) : (s.setLane n x).lane n = x := by
  simp [State.lane, State.setLane, h]

theorem State.lane_setLane_ne (s : State) {n m : Nat} (x : Lane) (h : m ≠ n) : (s.setLane n x).lane m = s.lane m := by
  simp [State.lane, State.setLane, List.getElem?_set_ne (Ne.symm h)]

/-- `t` differs from `s` in its lanes alone. -/
def SameButLanes (s t : State) : Prop :=
  t = { s with bb := { s.bb with lanes := t.bb.lanes } } ∧ t.bb.lanes.length = s.bb.lanes.length

theorem SameButLanes.setLane {s t : State} (h : SameButLanes s t) (n : Nat) (x : Lane) : SameButLanes s (t.setLane n x) := by
  obtain ⟨heq, hlen⟩ := h
  refine ⟨?_, by simpa [State.setLane] using hlen⟩
  conv_lhs => rw [heq]
  rfl

theorem SameButLanes.coldSent {s t : State} (h : SameButLanes s t) {n : Nat} (hlane : t.lane n = s.lane n) : t.coldSent n = s.coldSent n := by
  have hon : t.laneOn n = s.laneOn n := by rw [h.1]; rfl
  have hrank : t.coldRank = s.coldRank := by rw [h.1]; rfl
  have huid : t.uid = s.uid := by rw [h.1]
  rw [State.coldSent, State.coldSent, hon, hlane, hrank, huid]

theorem State.coldSend_eq (s : State) (n : Nat) : SameButLanes s (s.coldSend n) ∧
    (n < s.bb.lanes.length → (s.coldSend n).lane n = s.coldSent n) ∧ ∀ m, m ≠ n → (s.coldSend n).lane m = s.lane m := by
  unfold State.coldSend State.coldSent
  have hself : SameButLanes s s := ⟨rfl, rfl⟩
  split
  · exact ⟨hself.setLane n _, fun h => s.lane_setLane_self _ h, fun m hm => s.lane_setLane_ne _ hm⟩
  · exact ⟨hself, fun _ => rfl, fun _ _ => rfl⟩

theorem SameButLanes.trans {s t u : State} (h : SameButLanes s t) (h' : SameButLanes t u) : SameButLanes s u := by
  refine ⟨?_, h'.2.trans h.2⟩
  conv_lhs => rw [h'.1, h.1]

/-- After the first `k` lanes, those have sent and the others stand as they were. -/
theorem State.coldSend_range (s : State) (k : Nat) (hk : k ≤ s.bb.lanes.length) :
    SameButLanes s ((List.range k).foldl State.coldSend s) ∧
      ∀ n, ((List.range k).foldl State.coldSend s).lane n = if n < k then s.coldSent n else s.lane n := by
  induction k with
  | zero => exact ⟨⟨rfl, rfl⟩, fun n => rfl⟩
  | succ k ih =>
    obtain ⟨hsame, hlanes⟩ := ih (by omega)
    rw [List.range_succ, List.foldl_append, List.foldl_cons, List.foldl_nil]
    generalize (List.range k).foldl State.coldSend s = t at hsame hlanes
    obtain ⟨hnext, hsent, hothers⟩ := t.coldSend_eq k
    refine ⟨hsame.trans hnext, fun n => ?_⟩
    rcases Nat.lt_trichotomy n k with h | h | h
    · rw [hothers n (by omega), hlanes, if_pos h, if_pos (by omega)]
    · subst h
      rw [hsent (by rw [hsame.2]; omega), hsame.coldSent (by rw [hlanes, if_neg (by omega)]), if_pos (by omega)]
    · rw [hothers n (by omega), hlanes, if_neg (by omega), if_neg (by omega)]

/-! ### A node's record -/

theorem exec_capabilityRecordReceived {s : State} {lane position : Nat} {r : CapRecord} (hlane : lane < 4) (hleads : s.leads = true) :
    exec (.capabilityRecordReceived lane position r) s =
      .next ((s.joinRecord (s.lineOf lane) position r false).measureHop (r.nodeNo % 256)) :=
  congrArg Host.Outcome.next (if_neg (by simp [hlane, hleads]))

theorem State.joinRecord_of_good {s : State} {lane position : Nat} {r : CapRecord} {skegil : Bool} (h : s.capReason r = none) :
    s.joinRecord lane position r skegil = s.takeRecord lane position r skegil := by
  simp only [State.joinRecord, h]

theorem State.joinRecord_of_reason {s : State} {lane position reason : Nat} {r : CapRecord} {skegil : Bool}
    (h : s.capReason r = some reason) :
    s.joinRecord lane position r skegil =
      (if (s.noderec (r.nodeNo % 256)).holds then s
       else s.setNoderec (r.nodeNo % 256) { s.noderec (r.nodeNo % 256) with
         state := .refused, reason := reason, lane := lane, position := position, record := some r, skegil := skegil }).ack
        lane r.uid (r.nodeNo % 256) (0x80 + reason) := by
  simp only [State.joinRecord, h]

/-- A first good record announces its node. -/
theorem State.takeRecord_of_new {s : State} {lane position : Nat} {r : CapRecord} {skegil : Bool}
    (helse : (s.dropRival r.uid r.nodeNo).uidElsewhere r.uid lane position = none)
    (habsent : ((s.dropRival r.uid r.nodeNo).noderec r.nodeNo).state = .absent) :
    s.takeRecord lane position r skegil =
      (((s.dropRival r.uid r.nodeNo).setNoderec r.nodeNo { (s.dropRival r.uid r.nodeNo).noderec r.nodeNo with
        state := .announced, reason := 0, lane := lane, position := position, record := some r, skegil := skegil, misses := 0 }).ack
          lane r.uid r.nodeNo 0).ev 24 r.nodeNo 1 0 := by
  simp only [State.takeRecord, helse]
  rw [if_neg (by simp [habsent]), if_neg (by simp [habsent, NodeRec.holds]), if_neg (by simp [habsent]), if_neg (by simp [habsent])]

/-- A new UID that claims a member's number has the number quarantined. -/
theorem State.takeRecord_of_claim {s : State} {lane position : Nat} {r : CapRecord} {skegil : Bool}
    (helse : (s.dropRival r.uid r.nodeNo).uidElsewhere r.uid lane position = none)
    (hmember : ((s.dropRival r.uid r.nodeNo).noderec r.nodeNo).state = .member)
    (huid : ((s.dropRival r.uid r.nodeNo).noderec r.nodeNo).uid ≠ some r.uid)
    (hrival : r.uid ∉ ((s.dropRival r.uid r.nodeNo).noderec r.nodeNo).rivals) :
    s.takeRecord lane position r skegil =
      (s.dropRival r.uid r.nodeNo).quarantine r.nodeNo 1 (((s.dropRival r.uid r.nodeNo).noderec r.nodeNo).rivals ++ [r.uid]) := by
  simp only [State.takeRecord, helse]
  rw [if_neg (by simp [hmember]), if_pos ⟨by simp [hmember, NodeRec.holds], huid⟩, if_neg (by simp [hmember]), if_neg hrival]

/-! ### The rows -/

/-- Settles O35. -/
theorem coldStartAndMembershipRowsTakeEffect : Obligations.ColdStartAndMembershipRowsTakeEffect := by
  refine ⟨fun s hlive hcond hcold hen => ?_, fun s hlive hcond hcold hlen => ?_, fun s n rank uid hn hlive hcond hup hok hcold => ?_,
    fun s n rank uid hn hlive hcond hup hbad => ?_, fun s hlive hcond hcold => ?_, fun s hlive hcond hcold => ?_,
    fun s lane position reason r hlane hleads hreason hholds => ?_, fun s lane position reason r hlane hleads hreason hholds => ?_,
    fun s lane position r hlane hleads hreason => ?_, fun s lane position r hlane hleads hreason => ?_,
    fun s n c hleads hlost hreadmit hdue => ?_, fun s lane position r hlane hleads hadmits => ?_,
    fun s lane position r hlane hleads hadmits => ?_⟩
  · exact congrArg Host.Outcome.next (if_pos ⟨hlive, hcond, hcold, hen⟩)
  · obtain ⟨⟨hsame, -⟩, hlanes⟩ := s.coldSend_range 4 (by omega)
    refine ⟨(List.range 4).foldl State.coldSend s, congrArg Host.Outcome.next (if_pos ⟨hlive, hcond, hcold⟩), ?_, ?_, fun n hn => ?_⟩
    · conv_lhs => rw [hsame]
      rw [hsame]
    · rw [hsame]
      exact hcold
    · rw [hlanes, if_pos hn]
      rfl
  · intro u
    have hcoldNow : u.bb.cold = .listen ∨ u.bb.cold = .coldstart := hcold
    refine congrArg Host.Outcome.next ((if_neg (by simp [hn, hlive, hcond, hup])).trans
      ((if_neg (by simp [hok])).trans ((if_pos hcoldNow).trans ?_)))
    by_cases hfirst : rank < u.coldRank ∨ rank = u.coldRank ∧ uid.1 < u.uid
    · rw [if_pos hfirst]
      exact if_pos (by simpa [State.yieldsTo] using hfirst)
    · rw [if_neg hfirst]
      exact if_neg (by simpa [State.yieldsTo] using hfirst)
  · exact congrArg Host.Outcome.next ((if_neg (by simp [hn, hlive, hcond, hup])).trans (if_pos hbad))
  · intro u
    exact ⟨congrArg Host.Outcome.next (if_pos ⟨hlive, hcond, hcold⟩), rfl, rfl, rfl, rfl, rfl, rfl⟩
  · exact congrArg Host.Outcome.next (if_pos ⟨hlive, hcond, hcold⟩)
  · intro l
    rw [exec_capabilityRecordReceived hlane hleads, State.joinRecord_of_reason hreason, if_pos hholds]
    rfl
  · intro u l
    rw [exec_capabilityRecordReceived hlane hleads, State.joinRecord_of_reason hreason, if_neg (by simp [hholds])]
    rfl
  · intro u x helse habsent
    rw [exec_capabilityRecordReceived hlane hleads, State.joinRecord_of_good hreason, State.takeRecord_of_new helse habsent]
  · intro u x helse hmember huid hrival
    rw [exec_capabilityRecordReceived hlane hleads, State.joinRecord_of_good hreason,
      State.takeRecord_of_claim helse hmember huid hrival]
  · intro u v
    show Host.Outcome.next (readmissionCmd n s) = _
    unfold readmissionCmd
    simp only [hreadmit]
    rw [if_pos ⟨hleads, hlost, hdue⟩]
    rfl
  · exact congrArg Host.Outcome.next ((if_neg (by simp [hlane, hleads])).trans (if_pos hadmits))
  · exact congrArg Host.Outcome.next ((if_neg (by simp [hlane, hleads])).trans (if_neg (by simp [hadmits])))

end Sys2Proof.Machine
end

section
/-!
SUPPORT. The rows of a CAN controller (R473 to R488), and the statement about them.
-/

namespace Sys2Proof.Machine

open Sys2Proof

theorem canWakeCfg_ne_canCtl (k : Nat) : R.canWakeCfg k ≠ R.canCtl k := by simp [R.canWakeCfg, R.canCtl]

/-- Clearing SLEEP leaves what a controller watches for. -/
theorem State.canWakeMode_setBit_canCtl (s : State) (k i : Nat) (b : Bool) :
    (s.setBit (R.canCtl k) i b).canWakeMode k = s.canWakeMode k := by
  rw [State.canWakeMode, State.canWakeMode, State.setBit_fld_ne _ _ _ _ _ (canWakeCfg_ne_canCtl k)]

/-- Settles O37. -/
theorem canRowsTakeEffect : Obligations.CanRowsTakeEffect := by
  intro s k hk hcond
  refine ⟨fun v hwrites hinit hclear hsleep => ?_, fun hlive hinit hjoin => ?_, fun e hon => ?_, fun hon htec => ?_,
    fun hlive hinit hawake hoff => ?_, fun f t i hon hclassic => ?_, fun f t hon hfd hno => ?_, fun high v hwrites => ?_,
    fun b t f hpend hon hlisten hfirst => ?_, fun b lec hon hpend => ?_, fun hlive hawake => ?_, fun hup hasleep hmode => ?_⟩
  · intro u hu
    refine congrArg Host.Outcome.next ((if_neg (by simp [hwrites, hcond, hk])).trans ((if_neg (by simp [hinit])).trans ?_))
    rw [if_neg (by simp [hsleep]), if_neg (by simp [hclear]), if_neg (by simp only [u] at hu; simp [hu])]
    rfl
  · exact congrArg Host.Outcome.next (if_neg (by simp [hlive, hcond, hk, hinit, hjoin]))
  · exact congrArg Host.Outcome.next (if_neg (by simp [hk, hon]))
  · exact congrArg Host.Outcome.next (if_neg (by simp [hk, hon, htec]))
  · exact congrArg Host.Outcome.next (if_neg (by simp [hk, hlive, hcond, hinit, hawake, hoff]))
  · intro u
    have hrun : canFrameReceivedCmd k f t s = u.canTake k f t :=
      (if_neg (by simp [hk, hon])).trans (if_neg (by simp [hclassic]))
    refine ⟨fun hfilter => congrArg Host.Outcome.next (hrun.trans ?_), fun hnone => congrArg Host.Outcome.next (hrun.trans ?_)⟩
    · simp only [State.canTake, hfilter]
    · simp only [State.canTake, hnone]
  · exact congrArg Host.Outcome.next ((if_neg (by simp [hk, hon])).trans (if_pos ⟨hfd, hno⟩))
  · exact congrArg Host.Outcome.next (if_neg (by simp [hwrites, hcond, hk]))
  · intro u w
    show Host.Outcome.next (canFrameSentCmd k b t s) = _
    unfold canFrameSentCmd
    rw [hpend]
    dsimp only
    rw [if_neg (by simp [hk, hon, hlisten, hfirst])]
  · have hrun : canTxFailCmd k b 1 lec s = if s.bufOneShot k b then s.canFail k b 1 0 else s :=
      if_neg (by simp [hk, hon, hpend])
    exact ⟨fun hagain => congrArg Host.Outcome.next (hrun.trans (if_neg (by simp [hagain]))),
      fun honce => congrArg Host.Outcome.next (hrun.trans (if_pos honce))⟩
  · intro u
    exact congrArg Host.Outcome.next (if_neg (by simp [hlive, hcond, hk, hawake]))
  · intro u w hinit
    refine congrArg Host.Outcome.next ((if_neg (by simp [hk, hcond, hup, hasleep, State.canWakes, hmode])).trans ?_)
    have hcount : u.canDecodeErrors k 1 = u :=
      if_neg (by rw [State.canWakeMode_setBit_canCtl, hmode]; decide)
    have hstays : ¬w.canInit k = true := by rw [hinit]; decide
    rw [hcount]
    dsimp only
    rw [if_neg hstays]

end Sys2Proof.Machine
end

section
/-!
SUPPORT. The rows of a feedback port (R196 to R214), and the statement about them.
-/

namespace Sys2Proof.Machine

open Sys2Proof

theorem natAbs_add_sign {n : Int} (h : n ≠ 0) : (n + n.sign).natAbs = n.natAbs + 1 := by
  rcases Int.lt_or_gt_of_ne h with hneg | hpos
  · rw [Int.sign_eq_neg_one_of_neg hneg]
    omega
  · rw [Int.sign_eq_one_of_pos hpos]
    omega

/-- A second illegal transition of a cycle, where no limit is set: it is counted. -/
theorem State.illegalAt_of_seen {s : State} {k : Nat} (hseen : (s.fbp k).illSeen = true)
    (hlim : ((((s.setBit (R.fbStat k) 8 true).bumpFld (R.fbIllCnt k) 0 16 1).bumpFld (R.fbIllCnt k) 16 8 1).setFbp k
      { s.fbp k with illSeen := true }).fld (R.fbCfg k) 16 8 = 0) :
    s.illegalAt k = (((s.setBit (R.fbStat k) 8 true).bumpFld (R.fbIllCnt k) 0 16 1).bumpFld (R.fbIllCnt k) 16 8 1).setFbp k
      { s.fbp k with illSeen := true } := by
  unfold State.illegalAt
  dsimp only
  rw [if_pos hseen, hlim]
  exact if_neg (by simp)

/-- The first index is checked against none before it. -/
theorem State.indexAt_of_first {s v : State} {k : Nat} (hfirst : s.bit (R.fbStat k) 2 = false)
    (hv : v = (s.setFbp k { s.fbp k with idxCount := (s.fbp k).count }).setBit (R.fbStat k) 2 true) :
    s.indexAt k = ((v.latchMeet k 0 1 0 true v.pinTime).latchMeet k 1 1 0 true v.pinTime).emuIndex k := by
  subst hv
  unfold State.indexAt
  dsimp only
  rw [if_pos (Or.inl hfirst)]

/-- A hit whose STEP is zero stops its channel; without EVT it raises no event. -/
theorem State.hitAt_of_last {s x y : State} {k j : Nat}
    (hx : x = ((s.setReg (R.cmpHits k j) (s.reg (R.cmpHits k j) + 1)).freeStep k j).cmpDrive k j)
    (hy : y = x.setFbp k { x.fbp k with cmpArm := (x.fbp k).cmpArm.set j 4 })
    (hquiet : y.bit (R.cmpCtl k j) 6 = false) (hstep : y.reg72 (R.cmpStep k j) = 0) :
    s.hitAt k j = y.setBit (R.cmpCtl k j) 0 false := by
  have hsilent : ¬(y.bit (R.cmpCtl k j) 6 = true ∧ (x.fbp k).cmpSeen.getD j false = false) := by rw [hquiet]; simp
  subst hx hy
  unfold State.hitAt
  dsimp only
  rw [if_neg hsilent, if_pos hstep]

/-- An SSI frame without an error and without a limit on its step moves the position by the change of its field. -/
theorem ssiFrameCmd_of_good {s : State} {k word f0 : Nat} (hk : k < 4) (hruns : s.fbRuns k = true) (hssi : s.fbMode k = 3)
    (hmeasured : (s.fbp k).loopMeasured = true) (hdone : (s.fbp k).ssiDone = false) (hlast : (s.fbp k).ssiLast = some f0)
    (hgood : s.ssiBad k word false = false) (hjump : s.fld (R.fbSsi2 k) 0 24 = 0) {w : Nat} (hw : w = s.fld (R.fbSsi k) 8 6)
    {pos : Int} (hpos : pos = satBits 72 ((s.fbp k).pos + sext w (tc w ((s.ssiField k word : Int) - f0)) * 2 ^ 32)) :
    ssiFrameCmd k word false s = (((s.setFbp k { s.fbp k with
      ssiDone := true, valid := true, ssiRun := 0, ssiLast := some (s.ssiField k word), pos := pos,
      hist := (s.fbp k).readSample pos true }).setReg72 (R.fbPos k) pos).setBit (R.fbStat k) 1 true).latchWrites k := by
  subst hw hpos
  unfold ssiFrameCmd
  rw [if_neg (by simp [hk, hruns, hssi, hmeasured, hdone])]
  simp only [hlast, hgood, hjump, Nat.lt_irrefl, false_and, decide_false, Bool.or_self, Bool.false_eq_true, if_false,
    Option.isNone_some]

/-- Settles O39. -/
theorem feedbackRowsTakeEffect : Obligations.FeedbackRowsTakeEffect := by
  intro s k hk
  refine ⟨fun run => ?_, fun run => ?_, fun word f0 hruns hssi hmeasured hdone hlast hgood hjump => ?_,
    fun delays hruns hssi hmeasured hfails => ?_, fun v hwrites => ?_, fun j run t rise hj => ?_, fun run => ?_,
    fun j hi run hj hwrites => ?_, fun j => ?_, fun hfull => ?_⟩
  · intro u v w hruns hlive hseen hlim
    have hserved : ¬(4 ≤ k ∨ u.fbRuns k = false ∨ u.fbLive k = false) := by simp [hk, hruns, hlive]
    exact congrArg Host.Outcome.next ((if_neg hserved).trans (State.illegalAt_of_seen hseen hlim))
  · intro u v hruns hmode hgate hfirst
    have hserved : ¬(4 ≤ k ∨ u.fbRuns k = false ∨ ¬(u.fbMode k = 1 ∨ u.fbMode k = 2) ∨ u.zGate k (u.fbp k).lev = false) := by
      simp [hk, hruns, hmode, hgate]
    exact congrArg Host.Outcome.next ((if_neg hserved).trans (State.indexAt_of_first hfirst rfl))
  · intro f w pos
    exact congrArg Host.Outcome.next (ssiFrameCmd_of_good hk hruns hssi hmeasured hdone hlast hgood hjump rfl rfl)
  · have hbad : delays.length ≠ 8 ∨
        delays.any (fun d => match d with | some t => decide (1000 < t) | none => true) = true :=
      hfails.imp_right fun h => List.any_eq_true.mpr ⟨none, h, rfl⟩
    exact congrArg Host.Outcome.next ((if_neg (by simp [hk, hruns, hssi, hmeasured])).trans (if_pos hbad))
  · refine ⟨?_, fun hhoming => ?_, fun hfree => ?_⟩
    · exact congrArg Host.Outcome.next ((if_neg (by simp [hk, hwrites])).trans (if_neg (by simp)))
    · exact congrArg Host.Outcome.next ((if_neg (by simp [hk, hwrites])).trans (if_pos ⟨rfl, hhoming⟩))
    · exact congrArg Host.Outcome.next ((if_neg (by simp [hk, hwrites])).trans (if_neg (by simp [hfree])))
  · intro u b hsrc hb hdue htakes hlive
    have hmeets : u.latchMeet k j 3 b rise t = u.latchDone k j (u.livePos k) t :=
      (if_neg (by simp [htakes])).trans ((if_neg (by simp)).trans (if_pos (Or.inr ⟨rfl, hlive⟩)))
    have hbuoy : u.fld (R.fbLatCtl k j) 0 2 = 3 ∧ b < 8 ∧ u.byDue b = true := ⟨hsrc, hb, hdue⟩
    show Host.Outcome.next (latchTriggerCmd k j run t rise s) = _
    unfold latchTriggerCmd
    dsimp only
    have hno : ∀ i, i < 3 → ¬u.fld (R.fbLatCtl k j) 0 2 = i := fun i hi => by rw [hsrc]; omega
    rw [if_neg (by omega), if_neg (hno 1 (by decide)), if_neg (hno 2 (by decide)), if_pos hbuoy, hmeets]
  · intro u d v w old new x y hruns hmode hlive hen harm hbehind hpast hquiet hstep z hoff hzlive
    have hmove : w.compareMove k 0 old new = z :=
      (if_pos ⟨hen, harm, hbehind, hpast⟩).trans (State.hitAt_of_last (x := x) (y := y) rfl rfl hquiet hstep)
    have hother : z.compareMove k 1 old new = z := if_neg (by rw [hoff]; simp)
    have hcount : v.countStep k d = z.emuFeed k d := by
      unfold State.countStep
      dsimp only
      rw [hmove, hother, if_pos hzlive]
    show Host.Outcome.next (compareHitCmd k 0 run s) = _
    unfold compareHitCmd
    dsimp only
    have hserved : ¬(4 ≤ k ∨ 2 ≤ 0 ∨ u.fbRuns k = false) := by simp [hk, hruns]
    rw [if_neg hserved, if_neg hmode, hcount]
  · intro u
    have hserved : ¬(4 ≤ k ∨ 2 ≤ j ∨ (s.pinsRun run).writable = false) := by simp [hk, hj, hwrites]
    refine ⟨fun hruns hahead => congrArg Host.Outcome.next ((if_neg hserved).trans (if_neg ?_)),
      fun hstays => congrArg Host.Outcome.next ((if_neg hserved).trans (if_pos hstays))⟩
    rintro (h | h)
    · exact absurd hruns (by rw [h]; decide)
    · exact absurd h (not_lt.mpr hahead)
  · exact congrArg Host.Outcome.next (if_neg (by omega))
  · have hmore : 255 < ((s.fbp k).emuWait + (s.fbp k).emuWait.sign).natAbs := by
      rw [natAbs_add_sign (by omega)]
      omega
    exact congrArg Host.Outcome.next ((if_neg (by simp [hk, hfull])).trans (if_pos hmore))

end Sys2Proof.Machine
end

section
/-!
SUPPORT. The field channels: what a debounced edge leaves of the field die, and the statement about the rows of the channels (R463 to R471).
-/

namespace Sys2Proof.Machine

open Sys2Proof

/-! ### What follows an edge leaves the field die's state -/

theorem State.ev_field (s : State) (src subj code value : Nat) : (s.ev src subj code value).field = s.field := by
  obtain ⟨pods, regs, h⟩ := s.ev_same src subj code value
  rw [h]

theorem State.evC_field (s : State) (src subj code : Nat) : (s.evC src subj code).field = s.field := by
  obtain ⟨raised, log, pods, regs, h⟩ := s.evC_same src subj code
  rw [h]

theorem State.evFree_field (s : State) (src subj : Nat) : (s.evFree src subj).field = s.field := by
  obtain ⟨raised, log, pods, regs, h⟩ := s.evFree_same src subj
  rw [h]

theorem State.setReg72_field (s : State) (lo : Nat) (v : Int) : (s.setReg72 lo v).field = s.field := rfl

theorem State.setRegT72_field (s : State) (lo t : Nat) : (s.setRegT72 lo t).field = s.field := rfl

theorem State.latchDone_field (s : State) (k j : Nat) (pos : Int) (t : Nat) : (s.latchDone k j pos t).field = s.field := by
  have hsave : (s.latchSave k j).field = s.field := by
    unfold State.latchSave
    dsimp only
    split <;> (split <;> rfl)
  simp only [State.latchDone]
  split
  · simp only [apply_ite State.field, State.setAxis_field, State.ev_field, State.setBit_field, State.setRegT72_field,
      State.setReg72_field, hsave, ite_self]
  · simp only [apply_ite State.field, State.ev_field, State.setBit_field, State.setRegT72_field, State.setReg72_field, hsave, ite_self]

theorem State.latchMeet_field (s : State) (k j src sel : Nat) (rise : Bool) (t : Nat) :
    (s.latchMeet k j src sel rise t).field = s.field := by
  simp only [State.latchMeet, apply_ite State.field, State.latchDone_field, State.setBit_field, State.setFbp_field, ite_self]

theorem State.fieldLatches_field (s : State) (ch : Nat) (level : Bool) (t : Nat) : (s.fieldLatches ch level t).field = s.field := by
  simp only [State.fieldLatches, State.latchesMeet, apply_ite State.field]
  rw [foldl_keeps State.field (fun u i => u.latchMeet_field _ _ 2 ch level t), ite_self]

theorem State.chatter_field (s : State) (ch : Nat) (level : Bool) : (s.chatter ch level).field = s.field :=
  foldl_keeps State.field (fun u a => by simp only [apply_ite State.field, State.setAxis_field, ite_self]) s.axisNos s

theorem State.evSupply_field (s : State) (code mv : Nat) : (s.evSupply code mv).field = s.field := by
  unfold State.evSupply
  dsimp only [State.freeW]
  rw [State.ev_field]

theorem State.evWake_field (s : State) (c : WakeCause) : (s.evWake c).field = s.field := by
  cases c
  · exact s.evC_field ..
  · exact s.ev_field ..
  · exact s.ev_field ..

theorem State.wakePin_field (s : State) (l2 : Bool) : (s.wakePin l2).field = s.field := by
  unfold State.wakePin
  split <;> rfl

theorem State.wakeUp_field (s : State) (c : WakeCause) : (s.wakeUp c).field = s.field := by
  unfold State.wakeUp
  split
  · split <;> rfl
  · split
    · rfl
    · dsimp only [State.freeW]
      rw [State.evWake_field, State.setFld_field, State.setFld_field,
        foldl_keeps State.field (f := fun u a => u.modAxis a (fun x => { x with therm := { x.therm with pastW := [], pastS := [] } }))
          (fun _ _ => rfl)]
      dsimp only
      rw [State.setFld_field, State.setWakeCause, State.setFld_field, State.setTransit, State.setBit_field, State.setPower,
        State.setFld_field, State.wakePin_field]

/-! ### Outputs that are off, and tests -/

/-- What a read-back shows does not change which channels are outputs. -/
theorem State.chOut_setBit_dioIn (s : State) (c i : Nat) (b : Bool) : (s.setBit R.dioIn i b).chOut c = s.chOut c := by
  have hne : R.dioCh c ≠ R.dioIn := by simp only [R.dioCh, R.dioIn]; omega
  have hclaimed : (s.setBit R.dioIn i b).claimed c = s.claimed c := rfl
  have hclaimedOut : (s.setBit R.dioIn i b).claimedOut c = s.claimedOut c := rfl
  rw [State.chOut, State.chOut, State.chCfg, State.chCfg, hclaimed, hclaimedOut, State.setBit_reg_ne _ _ _ hne]

theorem State.setVf_field (s : State) (mv : Nat) : (s.setVf mv).field = s.field :=
  State.setFld_field s R.dioStat 16 12 _

theorem State.showReadback_field (s : State) (ch : Nat) (level : Bool) : (s.showReadback ch level).field =
    { s.field with readback := if s.chOut ch = true then bvPut s.field.readback ch level else s.field.readback } := by
  unfold State.showReadback
  split <;> rfl

/-- The field die's state once a debounced edge has its stamp. -/
theorem fieldInputChangeCmd_field {s : State} {ch t : Nat} {level : Bool} (hch : ch < 16) (hboot : s.pw.boot = .up)
    (hvalid : s.inValid = true) (hdie : s.die.up = true) (hlevel : bvGet s.field.inputs ch ≠ level)
    (hroom : s.field.stampQueue.length < 16) {u : State}
    (hu : u = State.setBit { s with field := { s.field with inputs := bvPut s.field.inputs ch level } } R.dioIn ch level) :
    (fieldInputChangeCmd ch level t s).field =
      { (u.showReadback ch level).field with
        stampQueue := (u.showReadback ch level).field.stampQueue ++ [(ch, t)]
        edgeAt := (u.showReadback ch level).field.edgeAt.set 0 ch t } := by
  have hroomNow : ¬16 ≤ (u.showReadback ch level).field.stampQueue.length := by
    rw [State.showReadback_field, hu]
    exact not_le.mpr hroom
  subst hu
  unfold fieldInputChangeCmd
  rw [if_neg (by simp [hch, hboot, hvalid, hdie, hlevel])]
  dsimp only
  rw [if_neg hroomNow]
  simp only [apply_ite State.field, State.evFree_field, State.wakeUp_field, State.setBit_field, State.chatter_field,
    State.fieldLatches_field, ite_self]

theorem foldl_of_fixed {α β : Type} {f : β → α → β} {s : β} (l : List α) (h : ∀ x ∈ l, f s x = s) : l.foldl f s = s := by
  induction l with
  | nil => rfl
  | cons x l ih => rw [List.foldl_cons, h x List.mem_cons_self, ih fun y hy => h y (List.mem_cons_of_mem _ hy)]

theorem State.allOutputsOff_of_off {s : State} (lasting : Bool) (h : s.reg R.dioOutEn = 0) : s.allOutputsOff lasting = s :=
  foldl_of_fixed _ fun c _ => if_neg (by simp [State.bit, State.fld, h, bits])

theorem State.supplySeen_trip (s : State) (mv : Nat) : s.supplySeen 2 mv =
    (((((s.setVf mv).setBit R.dioStat 0 false).setBit R.dioStat 3 true).setBit R.dioStat 9 true).bumpFld R.dioCnt 16 16 1).evSupply 2
      mv := by
  unfold State.supplySeen
  dsimp only
  rw [if_neg (by decide), if_neg (by decide), if_pos rfl]

theorem State.supplyReport_of_up {s : State} (code mv : Nat) (hboot : s.pw.boot = .up) (hdie : s.die.up = true) :
    s.supplyReport code mv = s.supplySeen code mv :=
  (if_neg (by simp [hboot])).trans (if_pos hdie)

/-- Nothing was on at the trip, so nothing is restored. -/
theorem State.autoRestore_of_none {s : State} (h : s.field.tripEn = 0) :
    s.autoRestore = { s with field := { s.field with tripEn := 0 } } := by
  unfold State.autoRestore
  rw [foldl_of_fixed]
  exact fun c _ => if_neg (by simp [h, bvGet])

theorem State.supplySeen_recover (s : State) (mv : Nat) : s.supplySeen 3 mv =
    ((((s.setVf mv).setBit R.dioStat 0 true).setBit R.dioStat 3 false).evSupply 3 mv).autoRestore := by
  unfold State.supplySeen
  dsimp only
  rw [if_neg (by decide), if_neg (by decide), if_neg (by decide), if_pos rfl]

theorem State.supplySeen_recover_of_none {s w : State} {mv : Nat} (h : s.field.tripEn = 0)
    (hw : w = (((s.setVf mv).setBit R.dioStat 0 true).setBit R.dioStat 3 false).evSupply 3 mv) :
    s.supplySeen 3 mv = { w with field := { w.field with tripEn := 0 } } := by
  have hnothing : w.field.tripEn = 0 := by
    rw [hw, State.evSupply_field, State.setBit_field, State.setBit_field, State.setVf_field, h]
  rw [State.supplySeen_recover, ← hw, State.autoRestore_of_none hnothing]

theorem testBit_two_pow {c i : Nat} : decide (2 ^ c / 2 ^ i % 2 = 1) = decide (i = c) := by
  rw [← Nat.testBit_eq_decide_div_mod_eq, Nat.testBit_two_pow, decide_eq_decide]
  exact eq_comm

theorem filter_range_eq : ∀ c < 16, (List.range 16).filter (fun i => decide (i = c)) = [c] := by decide

/-- The mask of one output chooses that output. -/
theorem State.chosen_of_one {s : State} {c : Nat} (hc : c < 16) (hout : s.coreOut c = true) :
    (List.range 16).filter (fun i => decide (2 ^ c / 2 ^ i % 2 = 1) && s.coreOut i) = [c] := by
  have hpred : (fun i => decide (2 ^ c / 2 ^ i % 2 = 1) && s.coreOut i) = fun i => decide (i = c) := by
    funext i
    rw [testBit_two_pow]
    by_cases h : i = c
    · simp [h, hout]
    · simp [h]
  rw [hpred, filter_range_eq c hc]

/-- The check of an output that a write has changed is done with its first reading. -/
theorem State.checkDone_of_write {s : State} (ch : Nat) (good : Bool) (hidle : s.bit R.dioStat 4 = false) :
    s.checkDone ch 1 good =
      State.setBit { s with field := { s.field with checks := s.field.checks.set none ch none } } R.dioStat 4 false := by
  have hbit : ∀ f : FieldDie, ({ s with field := f } : State).bit R.dioStat 4 = false := fun _ => hidle
  unfold State.checkDone
  dsimp only
  rw [hbit, Bool.false_and]
  rfl

/-! ### The rows -/

/-- Settles O41. -/
theorem fieldRowsTakeEffect : Obligations.FieldRowsTakeEffect := by
  refine ⟨fun s ch t level hch hboot hvalid hdie hlevel hroom => ?_, fun s v hwrites hruns => ?_, fun s v hwrites hhalted => ?_,
    fun s ch hot hch hon => ?_, fun s c hc hwrites hidle hout => ?_, fun s ch hcheck hoff => ?_,
    fun s ch expect hcheck hon hdie hidle => ?_, fun s mv hdie hboot => ?_, fun s mv hdie hboot hoff => ?_,
    fun s mv hdie hboot hlow hnew => ?_⟩
  · refine ⟨fieldInputChangeCmd ch level t s, rfl, ?_⟩
    rw [fieldInputChangeCmd_field hch hboot hvalid hdie hlevel hroom rfl, State.showReadback_field, State.chOut_setBit_dioIn]
    rfl
  · exact congrArg Host.Outcome.next ((if_neg (by simp [hwrites])).trans (if_pos hruns))
  · exact congrArg Host.Outcome.next ((if_neg (by simp [hwrites])).trans (if_neg (by simp [hhalted])))
  · intro u
    exact congrArg Host.Outcome.next (if_neg (by simp [hch, hon]))
  · intro u
    show Host.Outcome.next (dioTestCmd (2 ^ c) s) = _
    unfold dioTestCmd
    rw [State.chosen_of_one hc hout, if_neg (by simp [hwrites, hidle])]
    rfl
  · intro u v
    have hlevel : s.checkLevel ch 2 false = false := if_pos rfl
    have hagain : (decide (2 = 2) && bvGet s.field.testOff ch && !false) = true := by simp [hoff]
    show Host.Outcome.next (readbackCheckCmd ch false s) = _
    unfold readbackCheckCmd
    rw [hcheck]
    dsimp only
    rw [hlevel, decide_eq_false (by simp : ¬false ≠ false), Bool.and_false, if_neg (by decide)]
    unfold State.checkDone
    dsimp only [State.setBit_field]
    rw [hagain]
    rfl
  · intro level u
    have hlevel : s.checkLevel ch 1 expect = level := if_neg (by decide)
    have hjudged : s.checkJudged ch 1 level = true := by simp [State.checkJudged, hdie, hon]
    show Host.Outcome.next (readbackCheckCmd ch (!level) s) = _
    unfold readbackCheckCmd
    rw [hcheck]
    dsimp only
    rw [hlevel, hjudged, decide_eq_true (by simp : (!level) ≠ level), Bool.and_true, if_pos rfl]
    have hdone : (State.setBit { s with field := { s.field with readback := bvPut s.field.readback ch (!level) } } R.dioIn (16 + ch)
        (!level)).checkDone ch 1 false = u := by
      refine (State.checkDone_of_write ch false ?_).trans rfl
      rw [State.bit, State.setBit_fld_ne _ _ _ _ _ (by decide)]
      exact hidle
    rw [Bool.not_true, hdone]
  · refine ⟨fun hlow hnew => ?_, fun hhigh hwarned => ?_, fun hhigh => ?_⟩
    · intro u
      exact congrArg Host.Outcome.next ((if_neg (by simp [hlow, hnew])).trans ((if_neg (by simp [hboot])).trans (if_pos hdie)))
    · intro u
      exact congrArg Host.Outcome.next ((if_neg (by simp [hhigh, hwarned])).trans ((if_neg (by simp [hboot])).trans (if_pos hdie)))
    · exact congrArg Host.Outcome.next ((if_neg (by simp [hhigh])).trans ((if_neg (by simp [hboot])).trans (if_pos hdie)))
  · refine ⟨fun hlow hnew => ?_, fun hhigh hgone hnone => ?_⟩
    · intro u w
      have hnone : (s.reg R.dioOutEn).setWidth 16 = (0 : BitVec 16) := by rw [hoff]; rfl
      refine congrArg Host.Outcome.next ((if_neg (by simp [hlow, hnew])).trans ?_)
      dsimp only
      rw [hnone, State.allOutputsOff_of_off (s := u) false hoff]
      rw [State.supplyReport_of_up (s := u) 2 mv hboot hdie, State.supplySeen_trip]
    · intro u w
      refine congrArg Host.Outcome.next ((if_neg (by simp [hhigh, hgone])).trans ?_)
      rw [State.supplyReport_of_up (s := u) 3 mv hboot hdie, State.supplySeen_recover_of_none (s := u) (w := w) hnone rfl]
  · exact congrArg Host.Outcome.next ((if_neg (by simp [hlow, hnew])).trans ((if_neg (by simp [hboot])).trans (if_neg (by simp [hdie]))))

end Sys2Proof.Machine
end

section
/-!
SUPPORT. Frames that leave a lane and come back to it (R297 to R329), and the statement about them.
-/

namespace Sys2Proof.Machine

open Sys2Proof

/-! ### Counting invalid blocks of a received frame -/

/-- `r` is `s` after BLOCK_ERR counted: no other register and nothing else has changed. -/
def CountedFrom (s r : State) : Prop := r = { s with regs := r.regs } ∧ ∀ off, off % 256 ≠ 0x0C → r.reg off = s.reg off

theorem CountedFrom.refl (s : State) : CountedFrom s s := ⟨rfl, fun _ _ => rfl⟩

theorem CountedFrom.countBad {s r : State} (h : CountedFrom s r) (n : Nat) (t : Trailer) : CountedFrom s (r.countBad n t) := by
  obtain ⟨heq, hreg⟩ := h
  refine ⟨?_, fun off hoff => ?_⟩
  · conv_lhs => rw [State.countBad, heq]
    rfl
  · have hne : off ≠ R.bbErr n := by simp only [R.bbErr]; omega
    rw [State.countBad, State.bumpFld_reg_ne _ _ _ _ hne, hreg off hoff]

theorem CountedFrom.foldl {α : Type} (port : State → α → Nat) (tail : α → Trailer) (l : List α) {s r : State} (h : CountedFrom s r) :
    CountedFrom s (l.foldl (fun v f => v.countBad (port v f) (tail f)) r) := by
  induction l generalizing r with
  | nil => exact h
  | cons f l ih => exact ih (h.countBad _ _)

theorem CountedFrom.laneMode {s r : State} (h : CountedFrom s r) (n : Nat) : r.laneMode n = s.laneMode n := by
  rw [State.laneMode, State.laneMode, State.fld, State.fld, h.2 _ (by simp only [R.bbCfg]; omega)]

theorem CountedFrom.linkUp {s r : State} (h : CountedFrom s r) (n : Nat) : r.linkUp n = s.linkUp n := by
  rw [State.linkUp, State.linkUp, State.bit, State.bit, State.fld, State.fld, h.2 _ (by simp only [R.bbStat]; omega)]

theorem CountedFrom.bb {s r : State} (h : CountedFrom s r) : r.bb = s.bb := by rw [h.1]
theorem CountedFrom.uid {s r : State} (h : CountedFrom s r) : r.uid = s.uid := by rw [h.1]
theorem CountedFrom.cycle {s r : State} (h : CountedFrom s r) : r.cycle = s.cycle := by rw [h.1]
theorem CountedFrom.now {s r : State} (h : CountedFrom s r) : r.now = s.now := by rw [h.1]; rfl
theorem CountedFrom.rung {s r : State} (h : CountedFrom s r) : r.rung = s.rung := by rw [h.1]; rfl
theorem CountedFrom.phi0Now {s r : State} (h : CountedFrom s r) : r.phi0Now = s.phi0Now := by rw [h.1]; rfl
theorem CountedFrom.laneServed {s r : State} (h : CountedFrom s r) (n : Nat) : r.laneServed n = s.laneServed n := by rw [h.1]; rfl
theorem CountedFrom.nodeAxes {s r : State} (h : CountedFrom s r) : r.nodeAxes = s.nodeAxes := by rw [h.1]; rfl
theorem CountedFrom.axis {s r : State} (h : CountedFrom s r) : r.axis = s.axis := by rw [h.1]; rfl
theorem CountedFrom.slots {s r : State} (h : CountedFrom s r) : r.slots = s.slots := by rw [h.1]; rfl
theorem CountedFrom.noderec {s r : State} (h : CountedFrom s r) : r.noderec = s.noderec := by rw [h.1]; rfl
theorem CountedFrom.lane {s r : State} (h : CountedFrom s r) : r.lane = s.lane := by rw [h.1]; rfl

theorem CountedFrom.ringOf {s r : State} (h : CountedFrom s r) (n : Nat) : r.ringOf n = s.ringOf n := by
  rw [State.ringOf, State.ringOf, h.laneMode]

theorem CountedFrom.lineOf {s r : State} (h : CountedFrom s r) (n : Nat) : r.lineOf n = s.lineOf n := by
  rw [State.lineOf, State.lineOf, h.ringOf]

theorem CountedFrom.insertPos {s r : State} (h : CountedFrom s r) (m : Nat) (l : List Nat) : r.insertPos m l = s.insertPos m l := by
  induction l with
  | nil => rfl
  | cons k l ih => simp only [State.insertPos, h.noderec, ih]

theorem CountedFrom.lineNodes {s r : State} (h : CountedFrom s r) (n : Nat) : r.lineNodes n = s.lineNodes n := by
  simp only [State.lineNodes, h.slots, h.lineOf, h.insertPos]

theorem CountedFrom.lineUp {s r : State} (h : CountedFrom s r) (n : Nat) : r.lineUp n = s.lineUp n := by
  have hport : r.portSends = s.portSends := funext fun p => by rw [State.portSends, State.portSends, h.linkUp, h.lane]
  rw [State.lineUp, State.lineUp, State.linePorts, State.linePorts, h.laneMode, hport]

theorem CountedFrom.laneSplit {s r : State} (h : CountedFrom s r) (n : Nat) : r.laneSplit n = s.laneSplit n := by
  simp only [State.laneSplit, State.laneAxes, h.lineNodes, h.nodeAxes, h.axis]

/-! ### Frames that leave -/

/-- The gather frame of a lane, with the header, places and CRC that belong to it. -/
theorem State.gatherOut_fields (s : State) (n : Nat) (flash : FlashIn) (odd : Bool) :
    let f := s.gatherOut n flash odd
    f.hdr.cycle = s.cycle ∧ f.hdr.ftype = 0x10 ∧ f.hdr.ver = 1 ∧ f.hdr.oddCopy = odd ∧ f.hdr.condUid = s.uid ∧
      f.hdr.schedGen = (s.lane n).gen ∧ f.flash = flash ∧ f.entries.map (fun e => (e.node, e.axis)) = s.laneEntries n ∧
      f.blocks.map (fun b => b.block) = (s.gatherBlocks n).map (fun e => e.1) ∧ f.conts.length = s.laneContainers n ∧ f.join = .empty ∧
      f.tail.crc = crc32c (gatherBody f) := by
  refine ⟨rfl, rfl, rfl, rfl, rfl, rfl, rfl, ?_, ?_, ?_, rfl, rfl⟩
  · simp [State.gatherOut, sentGather, Function.comp_def]
  · simp [State.gatherOut, sentGather, zeroBlock, Function.comp_def]
  · simp [State.gatherOut, sentGather]

/-- A frame leaves where a port of the line can send, and the line leads. -/
theorem State.sends_iff {s : State} {n : Nat} : s.sends n = true ↔ s.leadsLine n = true ∧ s.lineUp n = true := by
  rw [State.sends, Bool.and_eq_true]

/-- The copies of a lane's gather frame are back by their deadline, where not every axis of the lane uses split closure. -/
theorem gatherFrameReturnCmd_of_in_time {s r : State} {n : Nat} {copies : List GatherFrame}
    (hr : r = copies.foldl (fun v f => v.countBad (v.backPort n f.hdr) f.tail) s) (hleads : s.leadsLine n = true)
    (hcomes : (r.laneServed n && r.lineUp n) = true) (hsplit : r.laneSplit n = false)
    (htime : t72Diff (t72Mod ((r.phi0Now : Int) + gatherBackNs r.rung * 2 ^ 16)) r.now ≤ 0) :
    gatherFrameReturnCmd n copies s =
      let good := r.goodGathers n r.cycle copies
      let u := (r.laneEntries n).foldl (fun v e => v.takeEntry true good e) r
      let w := (u.lineNodes n).foldl (fun v m => v.judgeNode good m) u
      let x := (w.gatherBlocks n).foldl (fun v e => v.takeBlock (findBlock (good.map (fun f => f.blocks)) e) e) w
      ((x.handConts ((good.head?.map (fun f => f.conts)).getD [])).takeTurns n good).noticeRepair n := by
  have hlate : ¬t72Diff (t72Mod ((r.phi0Now : Int) + gatherBackNs r.rung * 2 ^ 16)) r.now > 0 := not_lt.mpr htime
  unfold gatherFrameReturnCmd
  rw [if_neg (by simp [hleads]), ← hr]
  simp only [hcomes, hsplit, if_true, Bool.false_and, Bool.false_eq_true, if_false, Nat.cast_zero, add_zero, hlate, decide_false, Bool.not_false]

/-- One copy of a lane's slow frame is back. -/
theorem slowFrameReturnCmd_of_one {s u : State} {n : Nat} {f out : SlowFrame} (hleads : s.leadsLine n = true)
    (hserved : s.laneServed n = true) (hout : s.slowSent n = some out) (hu : u = s.countBad (s.backPort n f.hdr) f.tail)
    (hup : u.lineUp n = true) :
    slowFrameReturnCmd n [f] s =
      let good := [f].filter (fun g => slowOkF g && decide (g.hdr.cycle = out.hdr.cycle) && decide (g.hdr.condUid = u.uid))
      let due := (u.slowBlocks n).filter (fun e => e.2.due out.hdr.cycle && (u.carrier e.2.producer).any (fun m => decide (m ∈ u.lineNodes n)))
      (good.flatMap (fun g => acksOf g.recs)).foldl State.takeAck
        (due.foldl (fun v e => v.takeBlock (findBlock (good.map (fun g => g.blocks.map (fun b => b.2))) e) e) u) := by
  unfold slowFrameReturnCmd
  rw [if_neg (by simp [hleads, hserved]), hout]
  dsimp only [List.foldl_cons, List.foldl_nil]
  rw [← hu, if_pos hup]

/-- Settles O31. -/
theorem framesDepartAndReturn : Obligations.FramesDepartAndReturn := by
  refine ⟨fun s n tx hsends hserved => ?_, fun s n hsends hserved => ?_, fun s n hsends hserved => ?_,
    fun s n copies hsends hserved hsplit hintime => ?_, fun s n f out hsends hserved hout hok hcycle huid => ?_,
    fun s n f out hsends hserved hout hbad => ?_⟩
  · exact ⟨congrArg Host.Outcome.next (if_neg (by simp [hsends, hserved])), fun odd => s.gatherOut_fields n _ odd⟩
  · intro t
    refine ⟨congrArg Host.Outcome.next (if_neg (by simp [hsends, hserved])), fun odd => ?_⟩
    refine ⟨rfl, rfl, rfl, rfl, rfl, rfl, rfl, ?_, rfl⟩
    simp [State.scatterOut, sentScatter]
  · refine ⟨congrArg Host.Outcome.next (if_neg (by simp [hsends, hserved])), fun odd => ?_⟩
    exact ⟨rfl, rfl, rfl, rfl, rfl⟩
  · intro r good u w x
    have hr : CountedFrom s r := by
      have h := CountedFrom.foldl (fun v f => v.backPort n f.hdr) GatherFrame.tail copies (CountedFrom.refl s)
      exact h
    obtain ⟨hleads, hup⟩ := State.sends_iff.mp hsends
    have hcomes : (r.laneServed n && r.lineUp n) = true := by rw [hr.laneServed, hr.lineUp, hserved, hup]; rfl
    have htime : t72Diff (t72Mod ((r.phi0Now : Int) + gatherBackNs r.rung * 2 ^ 16)) r.now ≤ 0 := by
      rw [hr.phi0Now, hr.rung, hr.now]
      exact hintime
    exact congrArg Host.Outcome.next (gatherFrameReturnCmd_of_in_time rfl hleads hcomes ((hr.laneSplit n).trans hsplit) htime)
  · intro u due
    have hu : CountedFrom s u := (CountedFrom.refl s).countBad _ _
    obtain ⟨hleads, hup⟩ := State.sends_iff.mp hsends
    have hgood : [f].filter (fun g => slowOkF g && decide (g.hdr.cycle = out.hdr.cycle) && decide (g.hdr.condUid = u.uid)) = [f] := by
      simp [hok, hcycle, hu.uid, huid]
    have hrun := slowFrameReturnCmd_of_one (f := f) hleads hserved hout rfl ((hu.lineUp n).trans hup)
    have hacks : [f].flatMap (fun g => acksOf g.recs) = acksOf f.recs := List.flatMap_singleton ..
    rw [hgood] at hrun
    dsimp only at hrun
    rw [hacks] at hrun
    exact congrArg Host.Outcome.next hrun
  · intro u due
    have hu : CountedFrom s u := (CountedFrom.refl s).countBad _ _
    obtain ⟨hleads, hup⟩ := State.sends_iff.mp hsends
    have hgood : [f].filter (fun g => slowOkF g && decide (g.hdr.cycle = out.hdr.cycle) && decide (g.hdr.condUid = u.uid)) = [] := by
      simp [hbad]
    have hrun := slowFrameReturnCmd_of_one (f := f) hleads hserved hout rfl ((hu.lineUp n).trans hup)
    rw [hgood] at hrun
    exact congrArg Host.Outcome.next hrun

end Sys2Proof.Machine
end

section
/-!
SUPPORT. The fabric's rows: who wins a bank group, a scrub pass, and a node that is lost (R36 to R45, R285, R289).
-/

namespace Sys2Proof.Machine

open Sys2Proof

/-! ### The first of the best -/

theorem firstBest_isSome {α : Type} (better : α → α → Bool) {l : List α} {c : α} (h : c ∈ l) : (firstBest better l).isSome = true := by
  cases l with
  | nil => cases h
  | cons x rest =>
    rw [firstBest]
    split
    · split <;> rfl
    · rfl

/-- Nothing in the list is better than the first of its best, for an order whose complement is transitive. -/
theorem firstBest_spec {α : Type} {better : α → α → Bool} (hasymm : ∀ x y, better x y = true → better y x = false)
    (hneg : ∀ x y z, better x y = false → better y z = false → better x z = false) {l : List α} {b : α}
    (h : firstBest better l = some b) : b ∈ l ∧ ∀ c ∈ l, better c b = false := by
  have hirrefl : ∀ x, better x x = false := fun x => by
    rcases hx : better x x with _ | _
    · rfl
    · exact absurd (hasymm x x hx) (by rw [hx]; decide)
  induction l generalizing b with
  | nil => cases h
  | cons x rest ih =>
    rcases hrest : firstBest better rest with _ | y
    · simp only [firstBest, hrest, Option.some.injEq] at h
      subst h
      cases rest with
      | nil => exact ⟨List.mem_cons_self, fun c hc => by rw [List.mem_singleton.mp hc]; exact hirrefl x⟩
      | cons z rest =>
        have hsome := firstBest_isSome better (List.mem_cons_self (a := z) (l := rest))
        rw [hrest] at hsome
        cases hsome
    · obtain ⟨hmem, hbest⟩ := ih hrest
      simp only [firstBest, hrest] at h
      split at h
      · next hy =>
        cases h
        refine ⟨List.mem_cons_of_mem _ hmem, fun c hc => ?_⟩
        rcases List.mem_cons.mp hc with rfl | hc
        · exact hasymm _ _ hy
        · exact hbest c hc
      · next hy =>
        cases h
        refine ⟨List.mem_cons_self, fun c hc => ?_⟩
        rcases List.mem_cons.mp hc with rfl | hc
        · exact hirrefl _
        · exact hneg c y x (hbest c hc) (by simpa using hy)

theorem Beat.older_eq_false (a b : Beat) : a.older b = false ↔ b.made < a.made ∨ (b.made = a.made ∧ b.requester ≤ a.requester) := by
  simp only [Beat.older, Bool.or_eq_false_iff, Bool.and_eq_false_iff, decide_eq_false_iff_not]
  omega

theorem Beat.older_eq_true (a b : Beat) : a.older b = true ↔ a.made < b.made ∨ (a.made = b.made ∧ a.requester < b.requester) := by
  simp [Beat.older]

theorem Fabric.sooner_eq_false (f : Fabric) (a b : Beat) :
    f.sooner a b = false ↔ f.turn b < f.turn a ∨ (f.turn b = f.turn a ∧ b.made ≤ a.made) := by
  simp only [Fabric.sooner, Bool.or_eq_false_iff, Bool.and_eq_false_iff, decide_eq_false_iff_not]
  omega

theorem Fabric.sooner_eq_true (f : Fabric) (a b : Beat) :
    f.sooner a b = true ↔ f.turn a < f.turn b ∨ (f.turn a = f.turn b ∧ a.made < b.made) := by
  simp [Fabric.sooner]

theorem firstBest_older {l : List Beat} {b : Beat} (h : firstBest Beat.older l = some b) : b ∈ l ∧ ∀ c ∈ l, c.older b = false :=
  firstBest_spec (fun x y hxy => by rw [Beat.older_eq_true] at hxy; rw [Beat.older_eq_false]; omega)
    (fun x y z hxy hyz => by rw [Beat.older_eq_false] at hxy hyz ⊢; omega) h

theorem firstBest_sooner (f : Fabric) {l : List Beat} {b : Beat} (h : firstBest f.sooner l = some b) :
    b ∈ l ∧ ∀ c ∈ l, f.sooner c b = false :=
  firstBest_spec (fun x y hxy => by rw [Fabric.sooner_eq_true] at hxy; rw [Fabric.sooner_eq_false]; omega)
    (fun x y z hxy hyz => by rw [Fabric.sooner_eq_false] at hxy hyz ⊢; omega) h

/-- The requests of a bank group that wait. -/
def Fabric.waitingAt (f : Fabric) (g : Nat) : List Beat := f.waiting.filter (fun b => decide (b.group = g))

theorem Fabric.mem_waitingAt {f : Fabric} {g : Nat} {b : Beat} : b ∈ f.waitingAt g ↔ b ∈ f.waiting ∧ b.group = g := by
  simp [Fabric.waitingAt]

/-- The winner is the oldest guaranteed request, or the soonest shared one where none is guaranteed. -/
theorem Fabric.winner_cases {f : Fabric} {g : Nat} {b : Beat} (h : f.winner g = some b) :
    firstBest Beat.older ((f.waitingAt g).filter Beat.guaranteed) = some b ∨
      ((f.waitingAt g).filter Beat.guaranteed = [] ∧ firstBest f.sooner (f.waitingAt g) = some b) := by
  rcases hbest : firstBest Beat.older ((f.waitingAt g).filter Beat.guaranteed) with _ | y
  · refine Or.inr ⟨List.eq_nil_iff_forall_not_mem.mpr fun c hc => ?_, ?_⟩
    · have hsome := firstBest_isSome Beat.older hc
      rw [hbest] at hsome
      cases hsome
    · simp only [Fabric.waitingAt] at hbest ⊢
      simpa only [Fabric.winner, hbest] using h
  · refine Or.inl ?_
    simp only [Fabric.waitingAt] at hbest
    simpa only [Fabric.winner, hbest] using h

/-- Node `n` as MEMBER_LOST leaves it, before one that has announced again is acknowledged. -/
def State.lostNode (s : State) (n : Nat) : State :=
  (((s.setNoderec n { s.noderec n with
    state := .lost, slot := true, again := false
    readmitAt := if (s.noderec n).again then some (cycAdd s.cycle 3) else (s.noderec n).readmitAt }).ev 24 n 3
      (s.noderec n).reason).raiseNodeLost n).tripNode n

theorem State.markLost_of_first {s : State} {n : Nat} (h : (s.noderec n).again = false) : s.markLost n = s.lostNode n := by
  simp only [State.markLost, State.lostNode, h]

theorem State.markLost_of_unknown {s : State} {n : Nat} (h : (s.noderec n).record = none) : s.markLost n = s.lostNode n := by
  rcases hagain : (s.noderec n).again with _ | _ <;> simp only [State.markLost, State.lostNode, h, hagain]

theorem State.markLost_of_again {s : State} {n : Nat} {r : CapRecord} (h : (s.noderec n).again = true)
    (hrecord : (s.noderec n).record = some r) :
    s.markLost n = (s.lostNode n).ack (s.noderec n).lane r.uid n 1 := by
  simp only [State.markLost, State.lostNode, h, hrecord]

/-! ### The rows -/

/-- Settles O30. -/
theorem fabricRowsTakeEffect : Obligations.FabricRowsTakeEffect := by
  refine ⟨fun s w hlive => ?_, fun f g b hwins => ?_, fun f g c hc hgroup => ?_, fun f b => ?_, fun s errs hlive hsingle => ?_,
    fun s r hlive => ?_, fun s n hleads hmember hmisses => ?_, fun s n hleads hquar hdropped hmisses => ?_⟩
  · intro f
    exact congrArg Host.Outcome.next (if_neg (by simp [hlive]))
  · rcases Fabric.winner_cases hwins with hold | ⟨hnone, hsoon⟩
    · obtain ⟨hmem, hbest⟩ := firstBest_older hold
      obtain ⟨hhere, hguaranteed⟩ := List.mem_filter.mp hmem
      obtain ⟨hwaits, hgroup⟩ := Fabric.mem_waitingAt.mp hhere
      refine ⟨hwaits, hgroup, fun c hc hcg hcguar => ⟨hguaranteed, ?_⟩, fun hshared => ?_⟩
      · exact (Beat.older_eq_false c b).mp (hbest c (List.mem_filter.mpr ⟨Fabric.mem_waitingAt.mpr ⟨hc, hcg⟩, hcguar⟩))
      · exact absurd hguaranteed (by rw [hshared]; decide)
    · obtain ⟨hhere, hbest⟩ := firstBest_sooner f hsoon
      obtain ⟨hwaits, hgroup⟩ := Fabric.mem_waitingAt.mp hhere
      refine ⟨hwaits, hgroup, fun c hc hcg hcguar => ?_, fun _ c hc hcg => ?_⟩
      · have hc' : c ∈ (f.waitingAt g).filter Beat.guaranteed := List.mem_filter.mpr ⟨Fabric.mem_waitingAt.mpr ⟨hc, hcg⟩, hcguar⟩
        rw [hnone] at hc'
        cases hc'
      · have h := (f.sooner_eq_false c b).mp (hbest c (Fabric.mem_waitingAt.mpr ⟨hc, hcg⟩))
        omega
  · have hhere : c ∈ f.waitingAt g := Fabric.mem_waitingAt.mpr ⟨hc, hgroup⟩
    unfold Fabric.winner
    dsimp only
    split
    · rfl
    · exact firstBest_isSome f.sooner hhere
  · refine ⟨rfl, fun h => ⟨if_pos h, if_pos h⟩, fun h => ⟨if_neg (by simp [h]), if_neg (by simp [h])⟩⟩
  · refine congrArg Host.Outcome.next ((if_neg (by simp [hlive])).trans (foldl_of_fixed errs fun e he => if_neg ?_))
    simpa using List.all_eq_true.mp hsingle e he
  · show Host.Outcome.next (scrubPassCmd [⟨r, true⟩] s) = _
    unfold scrubPassCmd
    rw [if_neg (by simp [hlive])]
    rfl
  · intro x u v
    show Host.Outcome.next (memberLostCmd n s) = _
    unfold memberLostCmd
    dsimp only
    rw [if_neg (by simp [hleads, hmisses]), if_pos hmember]
    rcases hagain : (s.noderec n).again with _ | _
    · rw [State.markLost_of_first hagain]
      rfl
    · rcases hrecord : (s.noderec n).record with _ | r
      · rw [State.markLost_of_unknown hrecord]
        rfl
      · rw [State.markLost_of_again hagain hrecord]
        rfl
  · exact congrArg Host.Outcome.next ((if_neg (by simp [hleads, hmisses])).trans ((if_neg (by simp [hquar])).trans
      (if_pos ⟨hquar, hdropped⟩)))

end Sys2Proof.Machine
end

section
/-!
SUPPORT. The power states and the clocks (R491 to R497), and the statement about them.
-/

namespace Sys2Proof.Machine

open Sys2Proof

/-! ### What a clock loss leaves of the power state -/

theorem State.highsOff_pw (s : State) (k : Nat) (slow : Bool) : (s.highsOff k slow).pw = s.pw := by
  unfold State.highsOff
  split <;> rfl

theorem State.chopFollow_pw (s : State) (c : Nat) : (s.chopFollow c).pw = s.pw := by
  simp only [State.chopFollow, apply_ite State.pw, State.setChopper_pw, ite_self]

theorem State.clockLoss_heldCause (s : State) : s.clockLoss.pw.heldCause = s.pw.heldCause := by
  unfold State.clockLoss
  dsimp only
  rw [foldl_keeps State.pw (fun u c => u.chopFollow_pw c), State.setBit_pw, foldl_keeps State.pw (fun u k => u.highsOff_pw k true)]

theorem State.allOutputsOff_pw (s : State) (lasting : Bool) : (s.allOutputsOff lasting).pw = s.pw :=
  foldl_keeps State.pw (fun u c => by simp only [State.outOff, apply_ite State.pw, State.setBit_pw, ite_self]) _ s

/-- The core die has stopped: its safe states stand, and the cause held from before, if any, stays. -/
theorem State.coreStop_safe (s : State) (cause : Nat) (boot : Boot) :
    (s.coreStop cause boot).pw.boot = boot ∧ (s.coreStop cause boot).pw.rstoutN = false ∧ (s.coreStop cause boot).pw.alertN = false ∧
      (s.coreStop cause boot).pw.heldCause = some (s.pw.heldCause.getD cause) ∧ (s.coreStop cause boot).die.up = false ∧
      (s.coreStop cause boot).saf.chA.sto = false ∧ (s.coreStop cause boot).saf.chB.sto = false := by
  refine ⟨rfl, rfl, ?_, ?_, rfl, rfl, rfl⟩
  · show (s.clockLoss.allOutputsOff true).pw.alertN = false
    rw [State.allOutputsOff_pw]
    rfl
  · show some ((s.clockLoss.allOutputsOff true).pw.heldCause.getD cause) = _
    rw [State.allOutputsOff_pw, State.clockLoss_heldCause]

/-- A cause met in Standby leads to Idle. -/
theorem State.wakeUp_eq {s : State} (c : WakeCause) (hstandby : s.mode = .standby) (hentering : s.pw.entering = false)
    (hcore : s.pw.shutCore = false) (hfield : s.pw.shutField = false) {a u v : State}
    (ha : a = { s with free := s.free + 2, pw := { s.pw with
      aonSeconds := s.pw.aonSeconds + (Config.freeWord (s.free + 1)).toNat % 2 ^ 32 } })
    (hu : u = (((((a.wakePin ((Config.freeWord (s.free + 1)).getLsbD 32)).setFld R.pwrState 0 2 1).setBit R.pwrState 2 false).setFld
      R.pwrState 8 4 (wakeCode c)).setFld R.clkStat 1 3 7))
    (hv : v = { u with
      die := { u.die with fast := true }, host := { u.host with pollSoon := true }
      therm := { u.therm with started := false, woken := true }, bb := { u.bb with cold := .listen } }) :
    s.wakeUp c = (((v.axisNos.foldl (fun (y : State) a => y.setAxis a { y.axis a with
      therm := { (y.axis a).therm with pastW := [], pastS := [] } }) v).setFld R.thmRetain 16 2 2).setFld R.thmRetain 0 16
        ((Config.freeWord s.free).toNat % 2 ^ 16)).evWake c := by
  have hwakes : ¬(s.mode ≠ .standby ∨ s.pw.shutCore = true ∨ s.pw.shutField = true) := by simp [hstandby, hcore, hfield]
  subst ha hu hv
  unfold State.wakeUp
  rw [if_neg (by simp [hentering]), if_neg hwakes]
  rfl

/-- Settles O42. -/
theorem powerStateRowsTakeEffect : Obligations.PowerStateRowsTakeEffect := by
  refine ⟨fun s h target hadmits htarget hfree => ?_, fun s hlive hentering hout => ?_, fun s c hstandby hentering hcore hfield => ?_,
    fun s hpowered hboot hsession => ?_, fun s hlost => ?_, fun s hlive => ?_, fun s hlive hlocked => ?_, fun s hlive => ?_,
    fun s hlive hlocked => ?_, fun s hlive => ?_⟩
  · intro own u
    have hrange : (if 2 < target then some St.argument else none) = none := if_neg (by omega)
    refine ⟨fun hsame => ?_, fun hother hstandby => ?_, fun hother hnot => ?_⟩
    · refine State.next_of_admitted hadmits hrange hfree rfl ?_
      exact (if_pos hsame).trans (by rw [State.taken_cycle]; rfl)
    · intro v
      refine State.next_of_admitted hadmits hrange hfree rfl ?_
      exact (if_neg hother).trans ((if_pos hstandby).trans (by rw [State.taken_cycle]; rfl))
    · intro v
      refine State.next_of_admitted hadmits hrange hfree rfl ?_
      exact (if_neg hother).trans ((if_neg hnot).trans (by rw [State.taken_cycle]; rfl))
  · intro u v w x
    refine ⟨rfl, rfl, rfl, ?_⟩
    show Host.Outcome.next (standbyEntryCmd s) = _
    unfold standbyEntryCmd
    rw [if_neg (by simp [hlive, hentering, hout])]
    extract_lets s1 s2 die pw s3 s4 host host'
    have hx : s4 = x := rfl
    cases hkept : x.host.wakeKept with
    | none => simp only [hx, hkept]
    | some cause => simp only [host, host', hx, hkept]
  · intro d a b u v w
    have hpin : b = a.wakePin (d.getLsbD 32) := rfl
    exact congrArg Host.Outcome.next (State.wakeUp_eq (a := a) (u := u) (v := v) c hstandby hentering hcore hfield rfl (by rw [← hpin]) rfl)
  · have hclosed : s.endSession = s := if_pos hsession
    have hruns : ¬(s.powered = false ∨ s.pw.boot = .clockLost) := by simp [hpowered, hboot]
    refine ⟨(s.coreStop 4 .clockLost).setBit R.clkStat 0 false, ?_, ?_⟩
    · show Host.Outcome.next (slowClockLossCmd s) = _
      rw [slowClockLossCmd, if_neg hruns, hclosed]
    · rw [State.setBit_pw, State.setBit_die, State.setBit_saf]
      exact s.coreStop_safe 4 .clockLost
  · exact congrArg Host.Outcome.next (if_pos hlost)
  · exact congrArg Host.Outcome.next (if_pos hlive)
  · intro u
    have hlanes : (List.range 4).foldl (fun t n => t.linkDown n) s = u := by
      rw [show List.range 4 = [0, 1, 2, 3] from rfl]
      simp only [List.foldl_cons, List.foldl_nil, u]
    show Host.Outcome.next (backbonePllUnlockCmd s) = _
    rw [backbonePllUnlockCmd, if_neg (by simp [hlive, hlocked]), hlanes]
  · exact congrArg Host.Outcome.next (if_pos hlive)
  · exact congrArg Host.Outcome.next (if_neg (by simp [hlive, hlocked]))
  · exact congrArg Host.Outcome.next (if_pos hlive)

end Sys2Proof.Machine
end

section
/-!
SUPPORT. What ends an axis's work leaves alone: `State.still` blanks the parts of the state that ending an axis's work, its records and its
events may write; every operation of that kind keeps the rest.
-/

namespace Sys2Proof.Machine

open Sys2Proof

theorem State.signalVec_pollSoon (s : State) (v : Nat) : (s.signalVec v).host.pollSoon = s.host.pollSoon := by
  unfold State.signalVec
  split
  · rfl
  · split <;> rfl

theorem State.writeCr_pollSoon (s : State) (r : OutRec) : (s.writeCr r).host.pollSoon = s.host.pollSoon := by
  unfold State.writeCr
  extract_lets ring size slot written opens taken cached
  have hcached : cached.host.pollSoon = s.host.pollSoon := by
    show (if r.kind = .final then taken.cacheFinal r ring.phase else taken).host.pollSoon = _
    split
    · rfl
    · rfl
  split
  · exact (State.signalVec_pollSoon _ _).trans hcached
  · exact hcached

theorem State.drainGo_pollSoon (l : List OutRec) (s : State) (blocked : List Nat) (kept : List OutRec) :
    (s.drainGo blocked kept l).host.pollSoon = s.host.pollSoon := by
  induction l generalizing s blocked kept with
  | nil => rfl
  | cons r rest ih =>
    unfold State.drainGo
    split
    · exact (ih _ _ _).trans (s.writeCr_pollSoon r)
    · exact ih _ _ _

/-- What the end of an axis's work, its records and its events write is blank. -/
def State.still (s : State) : State :=
  { s with axes := [], groups := [], host := { pollSoon := s.host.pollSoon }, regs := [], pods := [], pwm := [], fab := {}, eventLog := [], free := 0, planNo := 0 }

theorem State.setPwmp_still (s : State) (k : Nat) (x : PwmPort) : (s.setPwmp k x).still = s.still := rfl

theorem State.setAxis_still (s : State) (a : Nat) (x : Axis) : (s.setAxis a x).still = s.still := rfl

theorem State.modAxis_still (s : State) (a : Nat) (f : Axis → Axis) : (s.modAxis a f).still = s.still := rfl

theorem State.setGroup_still (s : State) (g : Nat) (x : Group) : (s.setGroup g x).still = s.still := rfl

theorem State.withPlanNo_still (s : State) (n : Nat) : ({ s with planNo := n } : State).still = s.still := rfl

theorem State.withFree_still (s : State) (n : Nat) : ({ s with free := n } : State).still = s.still := rfl

theorem State.ev_still (s : State) (src subj code value : Nat) : (s.ev src subj code value).still = s.still := by
  obtain ⟨regs, pods, h⟩ := s.ev_same src subj code value
  rw [h]
  rfl

theorem State.evC_still (s : State) (src subj code : Nat) : (s.evC src subj code).still = s.still :=
  (State.withFree_still _ _).trans (s.ev_still _ _ _ _)

theorem State.post_still (s : State) (r : OutRec) : (s.post r).still = s.still := by
  have hsoon : (s.post r).host.pollSoon = s.host.pollSoon := State.drainGo_pollSoon _ _ _ _
  obtain ⟨host, regs, h⟩ := s.post_same r
  rw [h] at hsoon ⊢
  unfold State.still
  dsimp only at hsoon ⊢
  rw [hsoon]

theorem State.final_still (s : State) (o : Open) (status cycle detail : Nat) (ext : Option (List Byte)) (body : List Byte) :
    (s.final o status cycle detail ext body).still = s.still := s.post_still _

theorem State.finalMove_still (s : State) (o : Open) (status cycle : Nat) (remain : Int) :
    (s.finalMove o status cycle remain).still = s.still := s.final_still ..

theorem State.finalPlain_still (s : State) (o : Open) (status : Nat) : (s.finalPlain o status).still = s.still := s.final_still ..

theorem State.finalOpt_still (s : State) (o : Option Open) (status : Nat) : (s.finalOpt o status).still = s.still := by
  cases o with
  | none => rfl
  | some own => exact s.finalPlain_still own status

theorem State.wake_still (s : State) (e : Nat) : (s.wake e).still = s.still := by
  unfold State.wake
  split <;> rfl

theorem State.request_still (s : State) (a : Nat) (w : PlanReq) : (s.request a w).still = s.still := by
  simp only [State.request, State.wake_still, State.withPlanNo_still, State.setAxis_still]

theorem State.requestGroup_still (s : State) (g : Nat) (w : GroupReqKind) : (s.requestGroup g w).still = s.still := by
  simp only [State.requestGroup, State.wake_still, State.withPlanNo_still, State.setGroup_still]

theorem State.endMove_still (s : State) (a : Nat) (m : Move) : (s.endMove a m).still = s.still := by
  simp only [State.endMove, apply_ite State.still, State.setAxis_still, State.finalMove_still, ite_self]

theorem State.endReached_still (s : State) (a : Nat) : (s.endReached a).still = s.still := by
  unfold State.endReached
  dsimp only
  split
  · simp only [apply_ite State.still, State.endMove_still, ite_self]
  · rfl

theorem State.dropCoupling_still (s : State) (a : Nat) : (s.dropCoupling a).still = s.still := by
  unfold State.dropCoupling
  dsimp only
  split <;> split <;> simp only [State.finalOpt_still, State.setAxis_still]

theorem State.dropReqs_still (s : State) (a : Nat) : (s.dropReqs a).still = s.still :=
  (foldl_keeps State.still (fun t _ => t.finalPlain_still _ _) _ _).trans (s.modAxis_still a _)

theorem State.endHoming_still (s : State) (a status code : Nat) : (s.endHoming a status code).still = s.still := by
  unfold State.endHoming
  dsimp only
  split
  · simp only [State.final_still, State.setAxis_still]
  · rfl

theorem State.endInjection_still (s : State) (a status cycle : Nat) : (s.endInjection a status cycle).still = s.still := by
  unfold State.endInjection
  dsimp only
  split
  · simp only [State.final_still, State.setAxis_still]
  · rfl

theorem State.failIdent_still (s : State) (a code : Nat) : (s.failIdent a code).still = s.still := by
  unfold State.failIdent
  dsimp only
  split
  · simp only [State.final_still, State.setAxis_still]
  · rfl

theorem State.suspendGroupOf_still (s : State) (a : Nat) : (s.suspendGroupOf a).still = s.still := by
  simp only [State.suspendGroupOf, apply_ite State.still, State.requestGroup_still, State.setGroup_still, ite_self]

theorem State.endWork_still (s : State) (a : Nat) : (s.endWork a).still = s.still := by
  simp only [State.endWork, State.suspendGroupOf_still, State.dropReqs_still, State.dropCoupling_still, State.endHoming_still,
    State.failIdent_still, State.endInjection_still]

theorem State.suspendMove_still (s : State) (a : Nat) (remain : Int) : (s.suspendMove a remain).still = s.still := by
  unfold State.suspendMove
  dsimp only
  split
  · simp only [State.setAxis_still, apply_ite State.still, State.finalMove_still, ite_self]
  · rfl

theorem State.takeRemain_still (s : State) (a : Nat) : (s.takeRemain a).still = s.still := by
  unfold State.takeRemain
  split <;> rfl

theorem State.unstartGroup_still (s : State) (a : Nat) : (s.unstartGroup a).still = s.still := by
  unfold State.unstartGroup
  dsimp only
  split
  · rfl
  split
  · rw [apply_ite State.still, foldl_keeps State.still (fun t b => t.modAxis_still b _), State.setGroup_still, ite_self]
  · rfl

theorem State.unstart_still (s : State) (a : Nat) : (s.unstart a).still = s.still :=
  (State.unstartGroup_still _ a).trans (s.modAxis_still a _)

theorem State.disableAxis_still (s : State) (a : Nat) : (s.disableAxis a).still = s.still := by
  simp only [State.disableAxis, State.modAxis_still, State.suspendMove_still, State.takeRemain_still, State.endReached_still,
    State.endWork_still, State.unstart_still]

theorem State.beginQstop_still (s : State) (a : Nat) : (s.beginQstop a).still = s.still := by
  simp only [State.beginQstop, apply_ite State.still, State.disableAxis_still, State.request_still, State.modAxis_still,
    State.endWork_still, State.unstart_still, ite_self]

theorem State.beginTstop_still (s : State) (a : Nat) : (s.beginTstop a).still = s.still := by
  simp only [State.beginTstop, apply_ite State.still, State.disableAxis_still, State.modAxis_still, State.endReached_still,
    State.endWork_still, State.unstart_still, ite_self]

theorem State.highsOff_still (s : State) (k : Nat) (slow : Bool) : (s.highsOff k slow).still = s.still := by
  simp only [State.highsOff, apply_ite State.still, State.setPwmp_still, ite_self]

theorem State.axisHighsOff_still (s : State) (a : Nat) : (s.axisHighsOff a).still = s.still := by
  unfold State.axisHighsOff
  split
  · exact s.highsOff_still _ false
  · rfl

theorem State.saf_of_still {s t : State} (h : t.still = s.still) : t.saf = s.saf := by
  have hsaf : t.still.saf = s.still.saf := congrArg State.saf h
  exact hsaf

end Sys2Proof.Machine
end

section
/-!
SUPPORT. What a reaction leaves alone: besides the end of an axis's work it may only put safety axes in STO. `Falls b s` says that `s` differs
from `b` in no more than that, and that no STO pin has risen.
-/

namespace Sys2Proof.Machine

open Sys2Proof

/-- The safety state without what STO on a safety axis writes. -/
def Safety.settled (f : Safety) : Safety :=
  { f with causes := [], acked := [], chA := { f.chA with axes := [], sto := false }, chB := { f.chB with axes := [], sto := false } }

/-- The state without what a reaction writes. -/
def State.calm (s : State) : State := { s.still with saf := s.saf.settled }

/-- `s` is `b` after reactions alone, and its STO pins are no higher. -/
structure Falls (b s : State) : Prop where
  calm : s.calm = b.calm
  pinA : b.saf.chA.sto = false → s.saf.chA.sto = false
  pinB : b.saf.chB.sto = false → s.saf.chB.sto = false

theorem Falls.refl (s : State) : Falls s s := ⟨rfl, id, id⟩

theorem Falls.trans {b s t : State} (h : Falls b s) (h' : Falls s t) : Falls b t :=
  ⟨h'.calm.trans h.calm, fun hb => h'.pinA (h.pinA hb), fun hb => h'.pinB (h.pinB hb)⟩

theorem State.calm_of_still {b s : State} (h : s.still = b.still) : s.calm = b.calm := by
  unfold State.calm
  rw [h, State.saf_of_still h]

theorem Falls.of_still {b s : State} (h : s.still = b.still) : Falls b s :=
  ⟨State.calm_of_still h, fun hb => by rw [State.saf_of_still h, hb], fun hb => by rw [State.saf_of_still h, hb]⟩

theorem Falls.foldl {α : Type} {f : State → α → State} (hf : ∀ t x, Falls t (f t x)) (l : List α) (s : State) : Falls s (l.foldl f s) := by
  induction l generalizing s with
  | nil => exact Falls.refl s
  | cons x l ih => exact (hf s x).trans (ih (f s x))

theorem Falls.ite {b s t : State} {c : Prop} [Decidable c] (h : Falls b s) (h' : Falls b t) : Falls b (if c then s else t) := by
  split
  · exact h
  · exact h'

/-! What the calm part shows of a state. -/

theorem Falls.faults {b s : State} (h : Falls b s) : s.saf.faults = b.saf.faults := by
  have hsaf : s.calm.saf.faults = b.calm.saf.faults := by rw [h.calm]
  exact hsaf

theorem Falls.confirmed {b s : State} (h : Falls b s) : s.saf.confirmed = b.saf.confirmed := by
  have hsaf : s.calm.saf.confirmed = b.calm.saf.confirmed := by rw [h.calm]
  exact hsaf

theorem Falls.loadOwn {b s : State} (h : Falls b s) : s.saf.loadOwn = b.saf.loadOwn := by
  have hsaf : s.calm.saf.loadOwn = b.calm.saf.loadOwn := by rw [h.calm]
  exact hsaf

theorem Falls.bDown {b s : State} (h : Falls b s) : s.saf.bDown = b.saf.bDown := by
  have hsaf : s.calm.saf.bDown = b.calm.saf.bDown := by rw [h.calm]
  exact hsaf

theorem Falls.runningA {b s : State} (h : Falls b s) : s.saf.chA.running = b.saf.chA.running := by
  have hsaf : s.calm.saf.chA.running = b.calm.saf.chA.running := by rw [h.calm]
  exact hsaf

theorem Falls.die {b s : State} (h : Falls b s) : s.die = b.die := by
  have hdie : s.calm.die = b.calm.die := by rw [h.calm]
  exact hdie

theorem Falls.cycle {b s : State} (h : Falls b s) : s.cycle = b.cycle := by
  have hcycle : s.calm.cycle = b.calm.cycle := by rw [h.calm]
  exact hcycle

theorem Falls.time {b s : State} (h : Falls b s) : s.time = b.time := by
  have htime : s.calm.time = b.calm.time := by rw [h.calm]
  exact htime

theorem Falls.therm {b s : State} (h : Falls b s) : s.therm = b.therm := by
  have htherm : s.calm.therm = b.calm.therm := by rw [h.calm]
  exact htherm

/-- A channel of which only the views and the pin change, the pin not upwards. -/
theorem Falls.setChan (s : State) (c : Chan) (axes : List SafAxisView) (pin : Bool) (hpin : (s.chan c).sto = false → pin = false) :
    Falls s (s.setChan c { s.chan c with axes := axes, sto := pin }) := by
  cases c
  · exact ⟨rfl, hpin, id⟩
  · exact ⟨rfl, id, hpin⟩

theorem State.setView_falls (s : State) (c : Chan) (sx : Nat) (v : SafAxisView) : Falls s (s.setChan c ((s.chan c).setView sx v)) :=
  Falls.setChan s c _ (s.chan c).sto id

theorem State.dropPin_falls (s : State) (c : Chan) : Falls s (s.setChan c { s.chan c with sto := false }) :=
  Falls.setChan s c (s.chan c).axes false fun _ => rfl

theorem State.unack_falls (s : State) (sx : Nat) : Falls s (s.unack sx) := ⟨rfl, id, id⟩

theorem State.latchCause_falls (s : State) (sx i : Nat) : Falls s (s.latchCause sx i) := ⟨rfl, id, id⟩

theorem State.disableAxis_falls (s : State) (a : Nat) : Falls s (s.disableAxis a) := Falls.of_still (s.disableAxis_still a)

theorem State.ev_falls (s : State) (src subj code value : Nat) : Falls s (s.ev src subj code value) :=
  Falls.of_still (s.ev_still src subj code value)

theorem State.evC_falls (s : State) (src subj code : Nat) : Falls s (s.evC src subj code) := Falls.of_still (s.evC_still src subj code)

/-- A safety axis in STO in channel `c`, its servo axis disabled. -/
theorem State.stoView_falls (s : State) (c : Chan) (sx a : Nat) (v : SafAxisView) (f : Axis → Axis) :
    Falls s ((((s.setChan c ((s.chan c).setView sx v)).unack sx).disableAxis a).modAxis a f) :=
  (((s.setView_falls c sx v).trans (State.unack_falls _ sx)).trans (State.disableAxis_falls _ a)).trans
    (Falls.of_still (State.modAxis_still _ a f))

theorem State.stoOne_falls (s : State) (st : SafSet) (c : Chan) (sx : Nat) : Falls s (s.stoOne st c sx) := by
  unfold State.stoOne
  split
  · exact Falls.refl s
  · refine Falls.ite (Falls.refl s) (Falls.ite ?_ (Falls.trans ?_ (State.ev_falls _ _ _ _ _)))
    · exact s.stoView_falls c sx _ _ _
    · exact s.stoView_falls c sx _ _ _

theorem State.stoEnter_falls (s : State) (st : SafSet) (c : Chan) (sx : Nat) : Falls s (s.stoEnter st c sx) := by
  unfold State.stoEnter
  split
  · exact Falls.refl s
  · split
    · exact s.stoOne_falls st c sx
    · exact ((Falls.foldl (fun t x => t.stoOne_falls st c x) _ s).trans (State.dropPin_falls _ c)).trans
        (Falls.foldl (fun t a => t.disableAxis_falls a) _ _)

theorem State.applyReaction_falls (s : State) (a : Nat) (r0 : Reaction) : Falls s (s.applyReaction a r0) := by
  have hstart : ∀ (c : Prop) [Decidable c] (x : Axis), Falls s ((if c then s.axisHighsOff a else s).setAxis a x) := by
    intro c _ x
    refine Falls.of_still ((State.setAxis_still _ a x).trans ?_)
    rw [apply_ite State.still, State.axisHighsOff_still, ite_self]
  unfold State.applyReaction
  dsimp only
  split
  · exact Falls.refl s
  · split
    · exact hstart _ _
    · exact hstart _ _
    · split
      · exact (hstart _ _).trans (Falls.of_still (State.beginQstop_still _ a))
      · exact hstart _ _
    · split
      · exact (hstart _ _).trans (Falls.of_still (State.beginTstop_still _ a))
      · exact hstart _ _
    · exact (hstart _ _).trans (State.disableAxis_falls _ a)
    · exact (hstart _ _).trans (State.disableAxis_falls _ a)
    · split
      · exact (((hstart _ _).trans (State.disableAxis_falls _ a)).trans (State.latchCause_falls _ _ _)).trans (State.stoEnter_falls _ _ _ _)
      · exact (hstart _ _).trans (State.disableAxis_falls _ a)

theorem State.raiseSource_falls (s : State) (a src : Nat) (value : Int) (own : Bool) : Falls s (s.raiseSource a src value own) := by
  unfold State.raiseSource
  dsimp only
  split
  · exact Falls.refl s
  · refine Falls.trans ?_ (State.applyReaction_falls _ a _)
    have hset : ∀ (e : Option Nat) (x : Axis) (v : Nat), Falls s (match e with | some e => (s.setAxis a x).ev e a src v | none => s.setAxis a x) := by
      intro e x v
      cases e with
      | none => exact Falls.of_still (s.setAxis_still a x)
      | some e => exact (Falls.of_still (s.setAxis_still a x)).trans (State.ev_falls _ _ _ _ _)
    exact Falls.ite ((hset _ _ _).trans (State.ev_falls _ _ _ _ _)) (hset _ _ _)

end Sys2Proof.Machine
end

section
/-!
SUPPORT. STO in a whole channel, the latch of a global cause, and the loss of the die link at one end.
-/

namespace Sys2Proof.Machine

open Sys2Proof

theorem State.stoAll_falls (s : State) (c : Chan) : Falls s (s.stoAll c) := by
  unfold State.stoAll
  split
  · exact (s.dropPin_falls c).trans (Falls.foldl (fun t sx => t.stoEnter_falls _ c sx) _ _)
  · exact (s.dropPin_falls c).trans (Falls.foldl (fun t a => t.disableAxis_falls a) _ _)

theorem State.stoAll_pinA (s : State) : (s.stoAll .a).saf.chA.sto = false := by
  unfold State.stoAll
  split
  · exact (Falls.foldl (fun t sx => t.stoEnter_falls _ .a sx) _ _).pinA rfl
  · exact (Falls.foldl (fun t a => t.disableAxis_falls a) _ _).pinA rfl

theorem State.stoAll_pinB (s : State) : (s.stoAll .b).saf.chB.sto = false := by
  unfold State.stoAll
  split
  · exact (Falls.foldl (fun t sx => t.stoEnter_falls _ .b sx) _ _).pinB rfl
  · exact (Falls.foldl (fun t a => t.disableAxis_falls a) _ _).pinB rfl

/-- STO in both channels. -/
theorem State.stoBoth_falls (s : State) : Falls s ((s.stoAll .a).stoAll .b) := (s.stoAll_falls .a).trans (State.stoAll_falls _ .b)

theorem State.stoBoth_pinA (s : State) : ((s.stoAll .a).stoAll .b).saf.chA.sto = false := (State.stoAll_falls _ .b).pinA s.stoAll_pinA

theorem State.stoBoth_pinB (s : State) : ((s.stoAll .a).stoAll .b).saf.chB.sto = false := State.stoAll_pinB _

theorem bvGet_bvPut_self {w : Nat} (v : BitVec w) (i : Nat) (hi : i < w) : bvGet (bvPut v i true) i = true := by
  unfold bvGet bvPut
  rw [if_pos rfl, BitVec.getLsbD_or, BitVec.getLsbD_ofNat, Nat.testBit_two_pow_self]
  simp [hi]

/-- A global cause that is latched stands among the faults. -/
theorem State.latchGlobal_fault (s : State) (i : Nat) (hi : i < 9) : bvGet (s.latchGlobal i).saf.faults i = true := by
  unfold State.latchGlobal
  split
  · next hset => exact hset
  · dsimp only
    rw [(State.ev_falls _ _ _ _ _).faults]
    exact bvGet_bvPut_self _ _ hi

theorem State.latchGlobal_die (s : State) (i : Nat) : (s.latchGlobal i).die = s.die := by
  unfold State.latchGlobal
  split
  · rfl
  · exact (State.ev_falls _ _ _ _ _).die

theorem State.latchGlobal_runningA (s : State) (i : Nat) : (s.latchGlobal i).saf.chA.running = s.saf.chA.running := by
  unfold State.latchGlobal
  split
  · rfl
  · exact (State.ev_falls _ _ _ _ _).runningA

theorem State.latchGlobal_pins (s : State) (i : Nat) :
    (s.saf.chA.sto = false → (s.latchGlobal i).saf.chA.sto = false) ∧ (s.saf.chB.sto = false → (s.latchGlobal i).saf.chB.sto = false) := by
  unfold State.latchGlobal
  split
  · exact ⟨id, id⟩
  · exact ⟨fun h => (State.ev_falls _ _ _ _ _).pinA h, fun h => (State.ev_falls _ _ _ _ _).pinB h⟩

theorem State.latchGlobal_bDown (s : State) (i : Nat) : (s.latchGlobal i).saf.bDown = s.saf.bDown := by
  unfold State.latchGlobal
  split
  · rfl
  · exact (State.ev_falls _ _ _ _ _).bDown

/-- A global cause in force: both pins are low, and it is latched. -/
theorem State.globalSto_safe (s : State) (i : Nat) (hi : i < 9) :
    (s.globalSto i).saf.chA.sto = false ∧ (s.globalSto i).saf.chB.sto = false ∧ bvGet (s.globalSto i).saf.faults i = true := by
  refine ⟨State.stoBoth_pinA _, State.stoBoth_pinB _, ?_⟩
  unfold State.globalSto
  rw [(State.stoBoth_falls _).faults]
  exact s.latchGlobal_fault i hi

/-- The latch of LINK_LOSS in one channel, whose pin is low already. -/
theorem State.linkLostIn_fault (s : State) (c : Chan) : bvGet (s.linkLostIn c).saf.faults Glob.linkLoss = true := by
  unfold State.linkLostIn
  dsimp only
  rw [(State.stoAll_falls _ c).faults]
  split
  · next hset => rw [(State.ev_falls _ _ _ _ _).faults]; exact hset.2
  · exact State.latchGlobal_fault _ _ (by decide)

theorem State.linkLostIn_die (s : State) (c : Chan) : (s.linkLostIn c).die = s.die := by
  have hchan : ∀ x, (s.setChan c x).die = s.die := by cases c <;> exact fun _ => rfl
  unfold State.linkLostIn
  dsimp only
  rw [(State.stoAll_falls _ c).die]
  split
  · rw [(State.ev_falls _ _ _ _ _).die, hchan]
  · rw [State.latchGlobal_die, hchan]

theorem State.linkLostIn_pinA (s : State) (h : s.saf.chA.sto = false) : (s.linkLostIn .b).saf.chA.sto = false := by
  unfold State.linkLostIn
  dsimp only
  refine (State.stoAll_falls _ .b).pinA ?_
  split
  · exact (State.ev_falls _ _ _ _ _).pinA h
  · exact (State.latchGlobal_pins _ _).1 h

theorem State.outputsLost_saf (s : State) : s.outputsLost.saf = s.saf :=
  foldl_keeps State.saf (fun u c => by simp only [State.outOff, apply_ite State.saf, State.setBit_saf, ite_self]) _ s

theorem State.outputsLost_die (s : State) : s.outputsLost.die = s.die :=
  foldl_keeps State.die (fun u c => by simp only [State.outOff, apply_ite State.die, State.setBit_die, ite_self]) _ s

/-- The core die's end has lost the link. -/
theorem State.coreLosesLink_safe {s : State} (hup : s.die.up = true) (hmissing : 8 ≤ s.die.missing) :
    s.coreLosesLink.saf.chA.sto = false ∧ bvGet s.coreLosesLink.saf.faults Glob.linkLoss = true ∧
      s.coreLosesLink.die = { s.die with up := false, lost := true } := by
  have hstands : ¬(s.die.up = false ∨ s.die.missing < 8) := by simp [hup, hmissing]
  unfold State.coreLosesLink
  rw [if_neg hstands]
  refine ⟨State.stoAll_pinA _, State.linkLostIn_fault _ _, ?_⟩
  dsimp only
  rw [State.linkLostIn_die, State.setBit_die, State.outputsLost_die]

theorem State.coreLosesLink_fieldEnd (s : State) : s.coreLosesLink.die.fieldEnd = s.die.fieldEnd := by
  unfold State.coreLosesLink
  split
  · rfl
  · dsimp only
    rw [State.linkLostIn_die, State.setBit_die, State.outputsLost_die]

/-- The field die's end, which acts after it, leaves the core die's end and its pin as they are. -/
theorem State.fieldLosesLink_core {s : State} (hpin : s.saf.chA.sto = false) (hfault : bvGet s.saf.faults Glob.linkLoss = true) :
    s.fieldLosesLink.saf.chA.sto = false ∧ bvGet s.fieldLosesLink.saf.faults Glob.linkLoss = true ∧
      s.fieldLosesLink.die.up = s.die.up ∧ s.fieldLosesLink.die.lost = s.die.lost := by
  unfold State.fieldLosesLink
  split
  · exact ⟨hpin, hfault, rfl, rfl⟩
  · dsimp only
    refine ⟨State.linkLostIn_pinA _ ?_, State.linkLostIn_fault _ _, ?_, ?_⟩
    · rw [State.outputsLost_saf]
      exact hpin
    · rw [State.linkLostIn_die, State.outputsLost_die]
    · rw [State.linkLostIn_die, State.outputsLost_die]

theorem State.fieldLosesLink_safe {s : State} (hup : s.die.fieldEnd.up = true) (hmissing : 8 ≤ s.die.fieldEnd.missing) :
    s.fieldLosesLink.saf.chB.sto = false ∧ bvGet s.fieldLosesLink.saf.faults Glob.linkLoss = true ∧
      s.fieldLosesLink.die.fieldEnd.up = false ∧ s.fieldLosesLink.die.fieldEnd.lost = true := by
  have hstands : ¬(s.die.fieldEnd.up = false ∨ s.die.fieldEnd.missing < 8) := by simp [hup, hmissing]
  unfold State.fieldLosesLink
  rw [if_neg hstands]
  refine ⟨State.stoAll_pinB _, State.linkLostIn_fault _ _, ?_, ?_⟩
  · dsimp only
    rw [State.linkLostIn_die, State.outputsLost_die]
  · dsimp only
    rw [State.linkLostIn_die, State.outputsLost_die]

/-- Channel B's supply fails in operation: the cause is latched, and its pin goes low with every safety axis in STO. -/
theorem State.supplyCause_safe (s : State) :
    let t := ((s.latchGlobal Glob.bSupply).stoAll .b).demandTests
    bvGet t.saf.faults Glob.bSupply = true ∧ t.saf.bDown = s.saf.bDown ∧ t.saf.chA.running = s.saf.chA.running := by
  refine ⟨?_, ?_, ?_⟩
  · show bvGet ((s.latchGlobal Glob.bSupply).stoAll .b).saf.faults Glob.bSupply = true
    rw [(State.stoAll_falls _ .b).faults]
    exact s.latchGlobal_fault _ (by decide)
  · show ((s.latchGlobal Glob.bSupply).stoAll .b).saf.bDown = _
    rw [(State.stoAll_falls _ .b).bDown, State.latchGlobal_bDown]
  · show ((s.latchGlobal Glob.bSupply).stoAll .b).saf.chA.running = _
    rw [(State.stoAll_falls _ .b).runningA, State.latchGlobal_runningA]

/-- Settles O23: a global cause is latched and drops both pins; the loss of a supply or of the link drops the pin of its own channel. -/
theorem safetyFaultsDropThePins : Obligations.SafetyFaultsDropThePins := by
  unfold Obligations.SafetyFaultsDropThePins
  refine ⟨?_, ?_, ?_, ?_, ?_, ?_⟩
  · intro s c hruns
    have hstands : ¬s.chanRuns c = false := by simp [hruns]
    refine ⟨_, rfl, ?_⟩
    unfold stoReadbackFaultCmd
    rw [if_neg hstands]
    cases c
    · exact s.globalSto_safe _ (by decide)
    · exact s.globalSto_safe _ (by decide)
  · intro s hcond hruns
    have hstands : ¬(s.conductor = false ∨ (s.saf.chA.running = false ∧ s.saf.chB.running = false)) := by
      rcases hruns with h | h <;> simp [hcond, h]
    refine ⟨_, rfl, ?_⟩
    unfold xtalkFaultCmd
    rw [if_neg hstands]
    exact State.globalSto_safe _ _ (by decide)
  · intro s c m hcond hruns hcrc hmissed
    have hstands : ¬(s.conductor = false ∨ s.chanRuns c = false) := by simp [hcond, hruns]
    refine ⟨_, rfl, ?_⟩
    unfold crossTalkMessageCmd State.xtalkMiss
    dsimp only
    rw [if_neg hstands, if_pos (Or.inl hcrc), if_pos hmissed]
    exact State.globalSto_safe _ _ (by decide)
  · intro s hup hmissing
    obtain ⟨hpin, hfault, hdie⟩ := State.coreLosesLink_safe hup hmissing
    obtain ⟨hpin', hfault', hup', hlost'⟩ := State.fieldLosesLink_core hpin hfault
    exact ⟨_, rfl, hpin', hfault', hup'.trans (by rw [hdie]), hlost'.trans (by rw [hdie])⟩
  · intro s hup hmissing
    rw [← State.coreLosesLink_fieldEnd s] at hup hmissing
    obtain ⟨hpin, hfault, hdown, hlost⟩ := State.fieldLosesLink_safe hup hmissing
    exact ⟨_, rfl, hpin, hfault, hdown, hlost⟩
  · intro s hdown
    have hstands : ¬s.saf.bDown = true := by simp [hdown]
    refine ⟨_, rfl, ?_⟩
    unfold channelBSupplyLossCmd
    rw [if_neg hstands]
    by_cases hup : s.pw.boot = .up
    · have hdown' : ({ s with saf := { s.saf with bDown := true } } : State).pw.boot = .up := hup
      obtain ⟨hfault, hbDown, hrunning⟩ := State.supplyCause_safe { s with saf := { s.saf with bDown := true } }
      dsimp only
      rw [if_pos hup]
      exact ⟨rfl, rfl, hbDown, fun _ => hfault, hrunning⟩
    · dsimp only
      rw [if_neg hup]
      exact ⟨rfl, rfl, rfl, fun h => absurd h hup, rfl⟩

end Sys2Proof.Machine
end

section
/-!
SUPPORT. The safety commands of the host: what acceptance leaves of the safety state, and what SAF_LOAD does when every confirmation is gone.
-/

namespace Sys2Proof.Machine

open Sys2Proof

theorem State.acceptLong_saf (s : State) (h : Hdr) (op extra : Nat) (body : List Byte) :
    (s.acceptLong h op extra body).saf = s.saf := by
  obtain ⟨host, regs, heq⟩ := s.acceptLong_same h op extra body
  rw [heq]

theorem State.acceptImm_saf (s : State) (h : Hdr) (op cycle detail : Nat) (ext : Option (List Byte)) :
    (s.acceptImm h op cycle detail ext).saf = s.saf := by
  obtain ⟨host, regs, heq⟩ := s.acceptImm_same h op cycle detail ext
  rw [heq]

theorem State.taken_saf (s : State) (k : CmdKind) : (s.taken k).saf = s.saf := by
  unfold State.taken
  split <;> rfl

theorem State.selectedSet_congr {s t : State} (h : t.saf = s.saf) : t.selectedSet = s.selectedSet := by
  unfold State.selectedSet
  rw [h]

/-- Without confirmations no set is in force. -/
theorem State.setInForce_of_unconfirmed {s : State} (h : s.saf.confirmed = []) : s.setInForce = none := by
  unfold State.setInForce
  split
  · refine if_neg ?_
    rintro ⟨hgood, -⟩
    simp [State.setGood, h, SMap.get] at hgood
  · rfl

theorem State.stoGone_falls (s : State) (was : Option Nat) : Falls s (s.stoGone was) := by
  unfold State.stoGone
  split
  · exact State.ev_falls _ _ _ _ _
  · exact (Falls.of_still (s.withFree_still (s.free + 1))).trans (State.ev_falls _ _ _ _ _)

theorem State.withAcked_falls (s : State) (l : List Nat) : Falls s { s with saf := { s.saf with acked := l } } := ⟨rfl, id, id⟩

/-- The change of the set in force to none is STO and events. -/
theorem State.forceChanged_falls (before : State) {s : State} (h : s.saf.confirmed = []) : Falls s (before.forceChanged s) := by
  unfold State.forceChanged
  refine Falls.ite (Falls.refl s) ?_
  extract_lets u v back w
  have hu : Falls s u := s.evC_falls 60 0xFFFF 8
  have hv : Falls s v := by
    refine hu.trans (Falls.foldl (fun t a => ?_) _ _)
    exact Falls.ite (Falls.trans (Falls.of_still (State.modAxis_still t a _)) (State.stoGone_falls _ _)) (Falls.refl t)
  have hnone : v.setInForce.isNone = true := by
    rw [State.setInForce_of_unconfirmed (hv.confirmed.trans h)]
    rfl
  rw [if_pos hnone]
  have hw : Falls v w := v.stoBoth_falls
  exact (hv.trans hw).trans (w.withAcked_falls _)

theorem State.nameAxes_saf (s : State) :
    s.nameAxes.saf.confirmed = s.saf.confirmed ∧ s.nameAxes.saf.sets = s.saf.sets ∧ s.nameAxes.saf.loadOwn = s.saf.loadOwn ∧
      s.nameAxes.saf.chA.sto = s.saf.chA.sto ∧ s.nameAxes.saf.chB.sto = s.saf.chB.sto :=
  ⟨rfl, rfl, rfl, rfl, rfl⟩

/-- What SAF_LOAD leaves: no confirmation, both pins low, the sets of its image, and its FINAL still owed. -/
theorem safLoad_result (before u : State) (sets : SMap (Option SafSet)) (own : Open) (hconf : u.saf.confirmed = []) {v : State}
    (hv : v = ((before.forceChanged u).stoAll .a).stoAll .b) {t : State}
    (ht : t = ({ v with saf := { v.saf with sets := sets, loadOwn := v.saf.loadOwn ++ [own] } } : State).nameAxes) :
    t.saf.confirmed = [] ∧ t.saf.chA.sto = false ∧ t.saf.chB.sto = false ∧ t.saf.sets = sets ∧
      t.saf.loadOwn = u.saf.loadOwn ++ [own] := by
  have hfalls : Falls u v := hv ▸ (State.forceChanged_falls before hconf).trans (State.stoBoth_falls _)
  have hpinA : v.saf.chA.sto = false := hv ▸ State.stoBoth_pinA _
  have hpinB : v.saf.chB.sto = false := hv ▸ State.stoBoth_pinB _
  obtain ⟨h1, h2, h3, h4, h5⟩ :=
    ({ v with saf := { v.saf with sets := sets, loadOwn := v.saf.loadOwn ++ [own] } } : State).nameAxes_saf
  rw [ht, h1, h2, h3, h4, h5]
  exact ⟨hfalls.confirmed.trans hconf, hpinA, hpinB, rfl, congrArg (· ++ [own]) hfalls.loadOwn⟩

end Sys2Proof.Machine
end
section
namespace Sys2Proof.Machine

open Sys2Proof

/-- Settles O22: each command's own effect, on the state in which it was accepted. -/
theorem safetyHostCommandsTakeEffect : Obligations.SafetyHostCommandsTakeEffect := by
  unfold Obligations.SafetyHostCommandsTakeEffect
  refine ⟨?_, ?_, ?_, ?_⟩
  · intro s h addr bs hadmits haligned hread hswA hswB
    have hfmt : (if (65536 : Nat) ≠ 65536 then some St.argument
        else if alignedAddr addr = false ∨ (s.memRd addr 65536).isNone then some St.hostAddress else none) = none := by
      simp [haligned, hread]
    have hchapter : firstRefusal [(decide (s.saf.chA.sw ≠ 0) || decide (s.saf.chB.sw ≠ 0), St.sealedInUse, 0),
        (s.mramHold, St.writeHold, 0)] = none := by
      obtain ⟨-, -, -, hlong⟩ := hadmits
      obtain ⟨-, -, -, hhold, -⟩ := hlong (by decide)
      exact firstRefusal_none (by simp [hswA, hswB, hhold])
    refine ⟨_, State.next_of_admitted hadmits hfmt rfl hchapter rfl, ?_⟩
    obtain ⟨hconf, hpinA, hpinB, hsets, hown⟩ := safLoad_result (s.taken .long)
      { (s.taken .long).acceptLong h 0x0501 0 [] with
        saf := { ((s.taken .long).acceptLong h 0x0501 0 []).saf with confirmed := [] } }
      (parseSets ((s.memRd addr 65536).getD [])) ((s.taken .long).openFor h 0x0501) rfl rfl rfl
    refine ⟨hconf, hpinA, hpinB, ?_, ?_⟩
    · rw [hsets, hread]
      rfl
    · rw [hown, State.taken_openFor]
      show ((s.taken .long).acceptLong h 0x0501 0 []).saf.loadOwn ++ _ = _
      rw [State.acceptLong_saf, State.taken_saf]
  · intro s own rest hown hlive hopen
    have hstands : ¬(s.live = false ∨ s.mramOpen = false) := by simp [hlive, hopen]
    dsimp only
    refine ⟨fun hgood => congrArg Host.Outcome.next ?_, fun k hbad => congrArg Host.Outcome.next ?_⟩
    · unfold safetyImageWrittenCmd
      rw [hown]
      dsimp only
      rw [if_neg hstands, hgood]
      rfl
    · unfold safetyImageWrittenCmd
      rw [hown]
      dsimp only
      rw [if_neg hstands, hbad]
      rfl
  · intro s h check st hadmits hset hvalid
    dsimp only
    have hsaf : ((s.taken .long).acceptLong h 0x0502 0 []).saf = s.saf := (State.acceptLong_saf ..).trans (s.taken_saf .long)
    have hcycle : ((s.taken .long).acceptLong h 0x0502 0 []).cycle = s.cycle := by rw [State.acceptLong_cycle, State.taken_cycle]
    generalize hu : (s.taken .long).acceptLong h 0x0502 0 [] = u at hsaf hcycle
    have hset' : u.selectedSet = some st := (State.selectedSet_congr hsaf).trans hset
    have hvalid' : ¬st.valid u.saf.chA.sw = false := by rw [hsaf, hvalid]; decide
    refine ⟨fun hA hB => State.next_of_admitted hadmits rfl rfl rfl ?_, fun hno => State.next_of_admitted hadmits rfl rfl rfl ?_⟩
    · have hagree : ¬(u.checkAgrees .a check && u.checkAgrees .b check) = false := by simp [hA, hB]
      dsimp only
      rw [hu, State.taken_openFor, hset']
      dsimp only
      rw [if_neg hvalid', if_neg hagree, hcycle]
      rfl
    · have hagree : (u.checkAgrees .a check && u.checkAgrees .b check) = false := by
        rcases hno with h | h <;> simp [h]
      dsimp only
      rw [hu, State.taken_openFor, hset']
      dsimp only
      rw [if_neg hvalid', if_pos hagree, hcycle]
      rfl
  · intro s h st hadmits hset htest hsrc hpresent
    dsimp only
    have hchapter : firstRefusal [(s.ackTest (s.selectedSet.getD {}) h.subj, St.guardTestPending, 0),
        (decide ((s.selectedSet.getD {}).ackSrc = 1), St.safetyDenied, 0),
        (s.ackPresent (s.selectedSet.getD {}) h.subj, St.safetyDenied, 0)] = none :=
      firstRefusal_none (by simp [hset, htest, hsrc, hpresent])
    have hsaf : ((s.taken .imm).acceptImm h 0x0503 s.cycle 0 none).saf = s.saf := (State.acceptImm_saf ..).trans (s.taken_saf .imm)
    generalize hu : (s.taken .imm).acceptImm h 0x0503 s.cycle 0 none = u at hsaf
    refine ⟨fun hA hB => ?_, fun hno => State.next_of_admitted hadmits rfl rfl hchapter ?_⟩
    · have hruns : ¬(u.saf.chA.running = false ∨ u.saf.chB.running = false) := by simp [hsaf, hA, hB]
      refine ⟨fun hall => State.next_of_admitted hadmits rfl rfl hchapter ?_,
        fun r hone hrec => State.next_of_admitted hadmits rfl rfl hchapter ?_⟩
      · dsimp only
        rw [State.taken_cycle, hu, if_neg hruns, if_pos hall, hset]
        rfl
      · dsimp only
        rw [State.taken_cycle, hu, if_neg hruns, if_neg hone, hset]
        dsimp only [Option.getD]
        rw [hrec]
    · have hstopped : u.saf.chA.running = false ∨ u.saf.chB.running = false := by rw [hsaf]; exact hno
      dsimp only
      rw [State.taken_cycle, hu, if_pos hstopped]

end Sys2Proof.Machine
end

section
/-!
SUPPORT. What the supervision of an axis leaves of the cycle: its grade, its number and its φ0.
-/

namespace Sys2Proof.Machine

open Sys2Proof

theorem State.timedTrigger_falls (s : State) (tk targ at_ : Nat) : Falls s (s.timedTrigger tk targ at_) := by
  obtain ⟨regs, pods, heq⟩ := s.timedTrigger_same tk targ at_
  rw [heq]
  exact ⟨rfl, id, id⟩

theorem State.injectionTrigger_falls (s : State) (a : Nat) (x y : Axis) : Falls s (s.injectionTrigger a x y) :=
  Falls.ite (State.timedTrigger_falls _ _ _ _) (Falls.refl s)

theorem State.raiseOpt_falls (s : State) (a src : Nat) (v : Option Int) : Falls s (s.raiseOpt a src v) := by
  cases v with
  | none => exact Falls.refl s
  | some e => exact s.raiseSource_falls a src e true

theorem State.setAxis_falls (s : State) (a : Nat) (x : Axis) : Falls s (s.setAxis a x) := Falls.of_still (s.setAxis_still a x)

theorem Falls.grade {b s : State} (h : Falls b s) : s.grade = b.grade := by
  have hgrade : s.calm.grade = b.calm.grade := by rw [h.calm]
  exact hgrade

theorem State.calm_phi0Now (s : State) : s.calm.phi0Now = s.phi0Now := rfl

theorem Falls.phi0Now {b s : State} (h : Falls b s) : s.phi0Now = b.phi0Now := by
  rw [← State.calm_phi0Now s, h.calm, State.calm_phi0Now]

/-- The parts of the background part that come before the trace. -/
theorem State.supervised_falls (s : State) (a : Nat) (x y z : Axis) (fe mo : Option Int) :
    Falls s ((((s.setAxis a x).injectionTrigger a y z).raiseOpt a 0 fe).raiseOpt a 1 mo) :=
  (((s.setAxis_falls a x).trans (State.injectionTrigger_falls _ a y z)).trans (State.raiseOpt_falls _ a 0 fe)).trans
    (State.raiseOpt_falls _ a 1 mo)

/-- Settles O27: each row's guards stand, and the trace is recorded with the cycle and the φ0 of the row's state. -/
theorem loopPartsRunOncePerCycle : Obligations.LoopPartsRunOncePerCycle := by
  unfold Obligations.LoopPartsRunOncePerCycle
  refine ⟨?_, ?_, ?_, ?_, ?_⟩
  · intro s a hrun hcond husable huse hdone hengine
    show Host.Outcome.next (loopCriticalPartCmd a s) = _
    unfold loopCriticalPartCmd
    rw [if_neg (by simp [hrun]), if_neg (by simp [hcond]), if_neg (by simp [husable, huse, hdone, hengine])]
  · intro s a hrun hcond ha
    show Host.Outcome.next (loopCriticalPartCmd a s) = _
    unfold loopCriticalPartCmd
    rw [if_neg (by simp [hrun]), if_pos hcond, if_pos ha]
  · intro s a hcond hdone
    show Host.Outcome.next (loopCriticalPartCmd a s) = _
    unfold loopCriticalPartCmd
    rw [if_neg (c := s.conductor = false) (by simp [hcond]), if_pos (Or.inr (Or.inr (Or.inl hdone))), ite_self]
  · intro s a hrun hcond husable huse hdone
    show Host.Outcome.next (criticalPartOverrunCmd a s) = _
    unfold criticalPartOverrunCmd
    dsimp only
    rw [if_neg (by simp [hrun, hcond, husable, huse, hdone])]
    simp only [State.raiseIf, State.evEngine, decide_eq_true_eq, Option.getD, Nat.succ_le_succ_iff]
    rfl
  · intro s a hrun hcond husable huse hdone hbg hengine
    dsimp only
    show Host.Outcome.next (loopBackgroundPartCmd a s) = _
    unfold loopBackgroundPartCmd
    dsimp only
    rw [if_neg (by simp [hrun]), if_neg (by simp [hcond]), if_neg (by simp [husable, huse, hdone, hbg, hengine])]
    rw [(State.supervised_falls s a _ _ _ _ _).grade, (State.supervised_falls s a _ _ _ _ _).cycle,
      (State.supervised_falls s a _ _ _ _ _).phi0Now]

end Sys2Proof.Machine
end

section
/-!
SUPPORT. The cycle numbering and the time under the operations of a feedback port, of its emulations and of its samples: none of them
touches what the cycle is reckoned from.
-/

namespace Sys2Proof.Machine

open Sys2Proof

/-- What the cycle and its φ0 are reckoned from. -/
structure CycleFrame where
  cycle : Nat
  time : Nat
  epoch : Nat
  nE : Nat
  bb : Backbone
  stage : Staging

def State.frame (s : State) : CycleFrame := ⟨s.cycle, s.time, s.epoch, s.nE, s.bb, s.stage⟩

/-- A choice between two states that keep the frame keeps it. -/
theorem frame_ite {b s t : State} {c : Prop} [Decidable c] (h : s.frame = b.frame) (h' : t.frame = b.frame) :
    (if c then s else t).frame = b.frame := by
  split
  · exact h
  · exact h'

theorem Falls.frame {b s : State} (h : Falls b s) : s.frame = b.frame := by
  have hframe : s.calm.frame = b.calm.frame := by rw [h.calm]
  exact hframe

theorem State.setReg_frame (s : State) (off : Nat) (v : Reg32) : (s.setReg off v).frame = s.frame := rfl

theorem State.setFld_frame (s : State) (off lo w x : Nat) : (s.setFld off lo w x).frame = s.frame := rfl

theorem State.setBit_frame (s : State) (off i : Nat) (v : Bool) : (s.setBit off i v).frame = s.frame := rfl

theorem State.bumpFld_frame (s : State) (off lo w n : Nat) : (s.bumpFld off lo w n).frame = s.frame := rfl

theorem State.setReg72_frame (s : State) (lo : Nat) (v : Int) : (s.setReg72 lo v).frame = s.frame := rfl

theorem State.setRegT72_frame (s : State) (lo t : Nat) : (s.setRegT72 lo t).frame = s.frame := rfl

theorem State.setFbp_frame (s : State) (k : Nat) (x : FbPort) : (s.setFbp k x).frame = s.frame := rfl

theorem State.setAxis_frame (s : State) (a : Nat) (x : Axis) : (s.setAxis a x).frame = s.frame := rfl

theorem State.freeW_frame (s : State) : s.freeW.2.frame = s.frame := rfl

theorem State.ev_frame (s : State) (src subj code value : Nat) : (s.ev src subj code value).frame = s.frame :=
  (s.ev_falls src subj code value).frame

theorem State.raiseSource_frame (s : State) (a src : Nat) (value : Int) (own : Bool) :
    (s.raiseSource a src value own).frame = s.frame :=
  (s.raiseSource_falls a src value own).frame

theorem State.freeStep_frame (s : State) (k j : Nat) : (s.freeStep k j).frame = s.frame := rfl

theorem State.cmpSkipBy_frame (s : State) (k j n : Nat) : (s.cmpSkipBy k j n).frame = s.frame :=
  (State.bumpFld_frame ..).trans (State.setReg72_frame ..)

theorem State.emuEmit_frame (s : State) (e : Nat) (d : Int) : (s.emuEmit e d).frame = s.frame :=
  (State.setFld_frame ..).trans (State.setFbp_frame ..)

theorem State.cmpDrive_frame (s : State) (k j : Nat) : (s.cmpDrive k j).frame = s.frame := by
  simp only [State.cmpDrive, apply_ite State.frame, State.setBit_frame, State.setFbp_frame, ite_self]

theorem State.hitAt_frame (s : State) (k j : Nat) : (s.hitAt k j).frame = s.frame := by
  simp only [State.hitAt, State.freeStep_frame, apply_ite State.frame, State.setBit_frame, State.setReg72_frame, State.ev_frame,
    State.setFbp_frame, State.cmpDrive_frame, State.setReg_frame, ite_self]

theorem State.compareMove_frame (s : State) (k j : Nat) (old new : Int) : (s.compareMove k j old new).frame = s.frame := by
  simp only [State.compareMove, apply_ite State.frame, State.hitAt_frame, ite_self]

theorem State.emuPush_frame (s : State) (e : Nat) (d : Int) : (s.emuPush e d).frame = s.frame := by
  simp only [State.emuPush, apply_ite State.frame, State.setBit_frame, State.setFld_frame, State.setFbp_frame, ite_self]

theorem State.emuCount_frame (s : State) (e : Nat) (d : Int) : (s.emuCount e d).frame = s.frame := by
  simp only [State.emuCount, apply_ite State.frame, State.emuPush_frame, State.setFbp_frame, ite_self]

theorem State.emuCounts_frame (s : State) (e : Nat) (d : Int) (n : Nat) : (s.emuCounts e d n).frame = s.frame :=
  foldl_keeps State.frame (fun t _ => t.emuCount_frame e d) _ s

theorem State.emuFeed_frame (s : State) (k : Nat) (d : Int) : (s.emuFeed k d).frame = s.frame :=
  foldl_keeps State.frame (fun t e => by simp only [apply_ite State.frame, State.emuCount_frame, ite_self]) _ s

theorem State.countStep_frame (s : State) (k : Nat) (d : Int) : (s.countStep k d).frame = s.frame := by
  simp only [State.countStep, apply_ite State.frame, State.emuFeed_frame, State.compareMove_frame, State.setFbp_frame, ite_self]

theorem State.feedbackFault_frame (s : State) (k c : Nat) : (s.feedbackFault k c).frame = s.frame := by
  unfold State.feedbackFault
  refine (apply_ite State.frame _ _ _).trans ((if_congr Iff.rfl rfl ?_).trans (ite_self _))
  dsimp only
  split
  · rw [State.raiseSource_frame, State.setAxis_frame, State.ev_frame, State.setBit_frame]
  · rw [State.ev_frame, State.setBit_frame]

theorem State.illegalAt_frame (s : State) (k : Nat) : (s.illegalAt k).frame = s.frame := by
  unfold State.illegalAt
  extract_lets p marked level seen told lim
  have hmarked : marked.frame = s.frame :=
    (State.bumpFld_frame ..).trans ((State.bumpFld_frame ..).trans (State.setBit_frame ..))
  have hseen : seen.frame = s.frame := (State.setFbp_frame ..).trans hmarked
  have htold : told.frame = s.frame := frame_ite hseen ((State.ev_frame ..).trans hseen)
  exact frame_ite ((State.feedbackFault_frame ..).trans htold) htold

theorem State.emuIndex_frame (s : State) (k : Nat) : (s.emuIndex k).frame = s.frame :=
  foldl_keeps State.frame (fun t e => by simp only [apply_ite State.frame, State.setFbp_frame, ite_self]) _ s

theorem State.latchSave_frame (s : State) (k j : Nat) : (s.latchSave k j).frame = s.frame :=
  frame_ite rfl (State.setFbp_frame ..)

theorem State.latchDone_frame (s : State) (k j : Nat) (pos : Int) (t : Nat) : (s.latchDone k j pos t).frame = s.frame := by
  unfold State.latchDone
  dsimp only
  split
  · simp only [apply_ite State.frame, State.setAxis_frame, State.ev_frame, State.setBit_frame, State.setRegT72_frame,
      State.setReg72_frame, State.latchSave_frame, ite_self]
  · simp only [apply_ite State.frame, State.ev_frame, State.setBit_frame, State.setRegT72_frame, State.setReg72_frame,
      State.latchSave_frame, ite_self]

theorem State.latchMeet_frame (s : State) (k j src sel : Nat) (rise : Bool) (t : Nat) :
    (s.latchMeet k j src sel rise t).frame = s.frame := by
  simp only [State.latchMeet, apply_ite State.frame, State.latchDone_frame, State.setBit_frame, State.setFbp_frame, ite_self]

theorem State.indexAt_frame (s : State) (k : Nat) : (s.indexAt k).frame = s.frame := by
  simp only [State.indexAt, apply_ite State.frame, State.feedbackFault_frame, State.ev_frame, State.setReg_frame,
    State.setBit_frame, State.freeW_frame, State.emuIndex_frame, State.latchMeet_frame, State.setFbp_frame, ite_self]

theorem State.decode_frame (s : State) (k : Nat) (old new : FbLevels) : (s.decode k old new).frame = s.frame := by
  unfold State.decode
  extract_lets mode step counted
  have hcounted : counted.frame = s.frame := by
    show State.frame (match step with | none => _ | some d => _) = _
    cases step with
    | none => exact s.illegalAt_frame k
    | some d => exact frame_ite rfl (s.countStep_frame k _)
  have hindex : (counted.indexAt k).frame = s.frame := (State.indexAt_frame ..).trans hcounted
  exact frame_ite hcounted (frame_ite hindex (frame_ite hindex hcounted))

theorem State.portSettle_frame (s : State) (k : Nat) : (s.portSettle k).frame = s.frame := by
  simp only [State.portSettle, apply_ite State.frame, State.decode_frame, State.setFbp_frame, ite_self]

theorem State.pinChange_frame (s : State) (e : FbEdge) : (s.pinChange e).frame = s.frame :=
  frame_ite rfl ((State.portSettle_frame ..).trans (State.setFbp_frame ..))

theorem State.rearmTick_frame (s : State) (k j : Nat) : (s.rearmTick k j).frame = s.frame := by
  unfold State.rearmTick
  extract_lets p n armed behind
  have harmed : armed.frame = s.frame := State.setFbp_frame ..
  exact frame_ite rfl (frame_ite ((State.setBit_frame ..).trans ((State.cmpSkipBy_frame ..).trans harmed)) harmed)

theorem State.compareTick_frame (s : State) (k : Nat) : (s.compareTick k).frame = s.frame := by
  simp only [State.compareTick, apply_ite State.frame, State.compareMove_frame, State.setFbp_frame, State.rearmTick_frame, ite_self]

theorem State.emuSpreadTick_frame (s : State) (e : Nat) : (s.emuSpreadTick e).frame = s.frame := by
  simp only [State.emuSpreadTick, apply_ite State.frame, State.emuCounts_frame, State.setFbp_frame, ite_self]

theorem State.emuTick_frame (s : State) (e : Nat) : (s.emuTick e).frame = s.frame := by
  simp only [State.emuTick, State.emuEmit_frame, apply_ite State.frame, State.setFbp_frame,
    State.emuSpreadTick_frame, ite_self]

theorem State.portTick_frame (s : State) (k : Nat) : (s.portTick k).frame = s.frame := by
  simp only [State.portTick, apply_ite State.frame, State.emuTick_frame, State.compareTick_frame, State.portSettle_frame,
    State.setFbp_frame, ite_self]

theorem State.fbTick_frame (s : State) : s.fbTick.frame = s.frame :=
  foldl_keeps State.frame (fun t k => t.portTick_frame k) _ { s with pins := { s.pins with tick := s.pins.tick + 1 } }

theorem State.fbTicks_frame (n : Nat) (s : State) : (State.fbTicks n s).frame = s.frame := by
  induction n generalizing s with
  | zero => rfl
  | succ n ih => exact (ih s.fbTick).trans s.fbTick_frame

theorem State.pinsRun_frame (s : State) (r : PinRun) : (s.pinsRun r).frame = s.frame :=
  (State.fbTicks_frame _ _).trans
    (foldl_keeps State.frame (fun t e => (State.pinChange_frame _ e).trans (State.fbTicks_frame _ t)) _ s)

end Sys2Proof.Machine
end

section
/-!
SUPPORT. The other parts of φ0 leave the cycle and its time alone: samples, reloads, the power state, the node role, signals, CAN.
-/

namespace Sys2Proof.Machine

open Sys2Proof

theorem State.setPwmp_frame (s : State) (k : Nat) (x : PwmPort) : (s.setPwmp k x).frame = s.frame := rfl

theorem State.setSdmc_frame (s : State) (c : Nat) (x : SdmCh) : (s.setSdmc c x).frame = s.frame := rfl

theorem State.setChopper_frame (s : State) (c : Nat) (x : Chopper) : (s.setChopper c x).frame = s.frame := rfl

theorem State.setAdcv_frame (s : State) (k : Nat) (x : Adc) : (s.setAdcv k x).frame = s.frame := rfl

theorem State.setCanc_frame (s : State) (k : Nat) (x : Can) : (s.setCanc k x).frame = s.frame := rfl

theorem State.setSigWord_frame (s : State) (w : Nat) (v : BitVec 72) : (s.setSigWord w v).frame = s.frame := rfl

theorem State.setBlockStat_frame (s : State) (b : Nat) (x : BlockStat) : (s.setBlockStat b x).frame = s.frame := rfl

theorem State.withField_frame (s : State) (f : FieldDie) : ({ s with field := f } : State).frame = s.frame := rfl

theorem State.withPw_frame (s : State) (p : Power) : ({ s with pw := p } : State).frame = s.frame := rfl

theorem State.evC_frame (s : State) (src subj code : Nat) : (s.evC src subj code).frame = s.frame := (s.evC_falls src subj code).frame

theorem State.evK_frame (s : State) (src subj value : Nat) : (s.evK src subj value).frame = s.frame := by
  obtain ⟨raised, log, pods, regs, h⟩ := s.evK_same src subj value
  rw [h]
  rfl

theorem State.final_frame (s : State) (o : Open) (status cycle detail : Nat) (ext : Option (List Byte)) (body : List Byte) :
    (s.final o status cycle detail ext body).frame = s.frame := (Falls.of_still (s.final_still ..)).frame

/-! ## The feedback ports -/

theorem State.latchWrite_frame (s : State) (k j : Nat) : (s.latchWrite k j).frame = s.frame := by
  unfold State.latchWrite
  dsimp only
  split
  · rfl
  refine frame_ite rfl ?_
  split
  · exact (State.setBit_frame ..).trans (State.setFbp_frame ..)
  · rfl
  · exact frame_ite ((State.latchDone_frame ..).trans (State.setFbp_frame ..))
      (frame_ite rfl ((State.setBit_frame ..).trans (State.setFbp_frame ..)))

theorem State.latchWrites_frame (s : State) (k : Nat) : (s.latchWrites k).frame = s.frame :=
  (State.latchWrite_frame ..).trans (State.latchWrite_frame ..)

theorem State.leakLevel_frame (s : State) (k : Nat) : (s.leakLevel k).frame = s.frame :=
  frame_ite (State.setFbp_frame ..) (frame_ite (State.setFbp_frame ..) ((State.setFld_frame ..).trans (State.setFbp_frame ..)))

theorem State.judgeAmp_frame (s : State) (k : Nat) (sn cs : Int) : (s.judgeAmp k sn cs).2.frame = s.frame := by
  unfold State.judgeAmp
  extract_lets m low high amp lowSet highSet run port counted
  have hamp : amp.frame = s.frame := State.setFld_frame ..
  have hlow : lowSet.frame = s.frame := frame_ite ((State.setBit_frame ..).trans hamp) hamp
  have hhigh : highSet.frame = s.frame := frame_ite ((State.setBit_frame ..).trans hlow) hlow
  have hcounted : counted.frame = s.frame := (State.setFbp_frame ..).trans hhigh
  exact frame_ite ((State.feedbackFault_frame ..).trans hcounted) hcounted

theorem State.sincosSample_frame (s : State) (k : Nat) (sin cos : Int) : (s.sincosSample k sin cos).frame = s.frame := by
  have hfree : ∀ (c : Prop) [Decidable c] (t : State), (if c then t.freeW else ((0 : BitVec 72), t)).2.frame = t.frame := by
    intro c _ t
    split <;> rfl
  have hamp : ∀ sn cs, (s.judgeAmp k sn cs).2.frame = s.frame := s.judgeAmp_frame k
  unfold State.sincosSample
  simp only [apply_ite State.frame, State.feedbackFault_frame, State.setBit_frame, State.setFbp_frame, hfree, hamp, ite_self]

theorem State.portSample_frame (s : State) (k : Nat) (sin cos : Int) : (s.portSample k sin cos).frame = s.frame := by
  unfold State.portSample
  extract_lets p fresh leaked p1 p2 sampled p3 kept
  have hfresh : fresh.frame = s.frame := State.setFbp_frame ..
  have hleaked : leaked.frame = s.frame := (State.leakLevel_frame ..).trans hfresh
  have hsampled : sampled.frame = s.frame := by
    refine Eq.trans ?_ hleaked
    show State.frame (match leaked.fbMode k with | 1 => _ | 2 => _ | 4 => _ | _ => _) = _
    split
    · exact State.setFbp_frame ..
    · exact (State.sincosSample_frame ..).trans (State.setFbp_frame ..)
    · exact State.setFbp_frame ..
    · exact State.setFbp_frame ..
  have hkept : kept.frame = s.frame := (State.setFbp_frame ..).trans hsampled
  refine frame_ite hfresh ?_
  exact (State.latchWrites_frame ..).trans ((State.setBit_frame ..).trans ((State.setReg72_frame ..).trans hkept))

theorem State.emuPhi0_frame (s : State) (e : Nat) : (s.emuPhi0 e).frame = s.frame := by
  unfold State.emuPhi0
  extract_lets k p fed src newest
  have hfed : fed.frame = s.frame := State.emuCounts_frame ..
  refine frame_ite rfl ?_
  split
  · exact (State.setFbp_frame ..).trans hfed
  · exact (State.setFbp_frame ..).trans hfed

theorem State.feedbackPhi0_frame (s : State) (sin cos : List Int) : (s.feedbackPhi0 sin cos).frame = s.frame :=
  (foldl_keeps State.frame (fun t e => t.emuPhi0_frame e) _ _).trans
    (foldl_keeps State.frame (fun t k => t.portSample_frame k _ _) _ s)

/-! ## Modulators, choppers, converters -/

theorem State.sdmSample_frame (s : State) (c : Nat) (x : Int) : (s.sdmSample c x).frame = s.frame := by
  unfold State.sdmSample
  extract_lets p n marked x' stuck held marks v
  have hheld : held.frame = s.frame := State.setSdmc_frame ..
  have hmarks : marks.frame = s.frame := (State.setBit_frame ..).trans ((State.setBit_frame ..).trans hheld)
  exact frame_ite ((State.setBit_frame ..).trans (State.setBit_frame ..))
    ((State.setReg_frame ..).trans ((State.setReg_frame ..).trans hmarks))

theorem State.sdmPhi0_frame (s : State) (xs : List Int) : (s.sdmPhi0 xs).frame = s.frame :=
  foldl_keeps State.frame (fun t c => t.sdmSample_frame c _) _ s

theorem State.chopFollow_frame (s : State) (c : Nat) : (s.chopFollow c).frame = s.frame :=
  frame_ite (State.setChopper_frame ..) (frame_ite (frame_ite rfl (State.setChopper_frame ..))
    (frame_ite rfl (State.setChopper_frame ..)))

theorem State.chopperPhi0_frame (s : State) (k share : Nat) : (s.chopperPhi0 k share).frame = s.frame := by
  unfold State.chopperPhi0
  split
  · rfl
  · extract_lets x c u e full ovl flagged x' marked followed
    have hmarked : marked.frame = s.frame := (State.setChopper_frame ..).trans (State.setAxis_frame ..)
    have hfollowed : followed.frame = s.frame := (State.chopFollow_frame ..).trans hmarked
    exact frame_ite ((State.raiseSource_frame ..).trans hfollowed) hfollowed

theorem adcInjectedTriggerCmd_frame (k : Nat) (src : AdcTrigger) (s : State) : (adcInjectedTriggerCmd k src s).frame = s.frame :=
  frame_ite rfl (frame_ite
    (frame_ite rfl ((State.evK_frame ..).trans ((State.setBit_frame ..).trans (State.bumpFld_frame ..))))
    ((State.setBit_frame ..).trans (State.setAdcv_frame ..)))

theorem State.samplePhi0_frame (s : State) (x : Phi0Sample) : (s.samplePhi0 x).frame = s.frame := by
  unfold State.samplePhi0
  extract_lets ports channels choppers
  have hports : ports.frame = s.frame := State.feedbackPhi0_frame ..
  have hchannels : channels.frame = s.frame := (State.sdmPhi0_frame ..).trans hports
  have hchoppers : choppers.frame = s.frame :=
    (foldl_keeps State.frame (fun t k => t.chopperPhi0_frame k _) _ channels).trans hchannels
  exact (foldl_keeps State.frame (fun t k => adcInjectedTriggerCmd_frame k .phi0 t) _ choppers).trans hchoppers

/-! ## Axes, ports of the power stage, the power state -/

theorem State.eachAxis_frame (s : State) (f : Nat → Axis → Axis) : (s.eachAxis f).frame = s.frame :=
  foldl_keeps State.frame (fun _ _ => State.setAxis_frame ..) _ s

theorem State.startPeriod_frame (s : State) (k i : Nat) : (s.startPeriod k i).frame = s.frame := by
  unfold State.startPeriod
  extract_lets p ticks m w16 gs on hs ls t1 t2 t3 waits
  have h1 : t1.frame = s.frame := State.setReg_frame ..
  have h2 : t2.frame = s.frame := (State.bumpFld_frame ..).trans ((State.bumpFld_frame ..).trans h1)
  have h3 : t3.frame = s.frame := (foldl_keeps State.frame (fun _ _ => State.setReg_frame ..) _ t2).trans h2
  exact (State.setPwmp_frame ..).trans h3

theorem State.reload_frame (s : State) (k : Nat) : (s.reload k).frame = s.frame :=
  (State.startPeriod_frame ..).trans (State.setPwmp_frame ..)

theorem State.wakePinPhi0_frame (s : State) : s.wakePinPhi0.frame = s.frame := by
  unfold State.wakePinPhi0
  split
  · exact frame_ite rfl (State.withPw_frame ..)
  · rfl

theorem State.powerChange_frame (s : State) : s.powerChange.frame = s.frame := by
  unfold State.powerChange
  split
  · extract_lets power t u
    have ht : t.frame = s.frame := (State.setBit_frame ..).trans ((State.setFld_frame ..).trans (State.withPw_frame ..))
    have hu : u.frame = s.frame := frame_ite ((State.setFld_frame ..).trans ht) ht
    exact frame_ite rfl ((State.final_frame ..).trans ((State.evC_frame ..).trans hu))
  · rfl

/-! ## Blocks, field outputs, CAN, SYNC_OUT -/

theorem State.agePhi0_frame (s : State) : s.agePhi0.frame = s.frame :=
  foldl_keeps State.frame (fun _ _ => State.setBlockStat_frame ..) _ s

theorem State.outOff_frame (s : State) (c : Nat) (lasting : Bool) : (s.outOff c lasting).frame = s.frame :=
  frame_ite ((State.withField_frame ..).trans (State.setBit_frame ..)) (State.setBit_frame ..)

theorem State.outOn_frame (s : State) (c : Nat) : (s.outOn c).frame = s.frame :=
  (State.withField_frame ..).trans ((State.withField_frame ..).trans ((State.setBit_frame ..).trans (State.setBit_frame ..)))

theorem State.fieldWrite_frame (s : State) (enables : Bool) (v : Reg32) : (s.fieldWrite enables v).frame = s.frame := by
  unfold State.fieldWrite
  split
  · exact foldl_keeps State.frame
      (fun t c => frame_ite (frame_ite (t.outOff_frame c false) rfl) (frame_ite rfl (t.outOn_frame c))) _ s
  · exact foldl_keeps State.frame (fun t c => frame_ite rfl (State.setBit_frame ..)) _ s

theorem State.fieldDeliver_frame (s : State) : s.fieldDeliver.frame = s.frame := by
  unfold State.fieldDeliver
  extract_lets o e die t u
  have hu : u.frame = s.frame := by
    show State.frame (match o with | some v => _ | none => _) = _
    cases o with
    | none => exact State.withField_frame ..
    | some v => exact (State.fieldWrite_frame ..).trans (State.withField_frame ..)
  refine frame_ite rfl ?_
  cases e with
  | none => exact hu
  | some v => exact (State.fieldWrite_frame ..).trans hu

theorem State.fieldSignals_frame (s : State) : s.fieldSignals.frame = s.frame := by
  unfold State.fieldSignals
  extract_lets t b u b' stat w
  have ht : t.frame = s.frame := State.fieldDeliver_frame ..
  have hu : u.frame = s.frame := frame_ite ht (frame_ite ht
    ((foldl_keeps State.frame (fun _ _ => frame_ite (State.setBit_frame ..) rfl) _ t).trans ht))
  have hw : w.frame = s.frame := (foldl_keeps State.frame (fun _ _ => State.setSigWord_frame ..) _ u).trans hu
  exact frame_ite hu (frame_ite ((State.setBlockStat_frame ..).trans hu) ((State.setBlockStat_frame ..).trans hw))

theorem State.setCanPending_frame (s : State) (k b : Nat) (f : Option CanFrame) : (s.setCanPending k b f).frame = s.frame :=
  (State.setBit_frame ..).trans (State.setCanc_frame ..)

theorem State.canFail_frame (s : State) (k b cause lec : Nat) : (s.canFail k b cause lec).frame = s.frame := by
  unfold State.canFail
  extract_lets t
  have ht : t.frame = s.frame := (State.setBit_frame ..).trans (State.setCanPending_frame ..)
  exact frame_ite ((State.ev_frame ..).trans ht) ht

theorem State.canRequest_frame (s : State) (k b : Nat) : (s.canRequest k b).frame = s.frame := by
  unfold State.canRequest
  extract_lets f can t u
  have hu : u.frame = s.frame := (State.setCanPending_frame ..).trans (State.setCanc_frame ..)
  exact frame_ite rfl (frame_ite ((State.canFail_frame ..).trans hu) hu)

theorem State.canCyclic_frame (s : State) (n : Nat) : (s.canCyclic n).frame = s.frame :=
  frame_ite rfl (foldl_keeps State.frame
    (fun t k => foldl_keeps State.frame (fun u b => frame_ite rfl (u.canRequest_frame k b)) _ t) _ s)

theorem State.syncOutPhi0_frame (s : State) : s.syncOutPhi0.frame = s.frame := frame_ite rfl rfl

/-! ## The new cycle -/

/-- The cycle, its time, and the marks of the backbone that a new cycle clears. -/
structure CycleBeat where
  cycle : Nat
  time : Nat
  firstPhi0 : Bool
  flashSeen : Bool

def State.beat (s : State) : CycleBeat := ⟨s.cycle, s.time, s.bb.firstPhi0, s.bb.flashSeen⟩

theorem State.beat_of_frame {s t : State} (h : t.frame = s.frame) : t.beat = s.beat :=
  congrArg (fun f => (⟨f.cycle, f.time, f.bb.firstPhi0, f.bb.flashSeen⟩ : CycleBeat)) h

theorem State.becomeMember_beat (s : State) : s.becomeMember.beat = s.beat := by
  unfold State.becomeMember
  split
  · rfl
  · rfl

theorem State.nodePhi0_beat (s : State) : s.nodePhi0.beat = s.beat := by
  unfold State.nodePhi0
  extract_lets node t
  have ht : t.beat = s.beat := rfl
  split
  · exact t.becomeMember_beat.trans ht
  · exact ht

theorem State.fogPhi0_beat (s : State) : s.fogPhi0.beat = s.beat := by
  unfold State.fogPhi0
  extract_lets t
  have ht : t.beat = s.beat := State.beat_of_frame (frame_ite
    ((foldl_keeps State.frame (fun u c => frame_ite (u.outOff_frame c true) rfl) _ _).trans (State.withField_frame ..)) rfl)
  split
  · exact (State.beat_of_frame (foldl_keeps State.frame (fun u a => u.raiseSource_frame a 18 0 true) _ _)).trans ht
  · exact ht

theorem cycDiff_self (n : Nat) : cycDiff n n = 0 := by
  unfold cycDiff
  rw [Int.sub_self]
  rfl

/-- An anchor at cycle `n` leaves the count up to `n` as it was. -/
theorem Backbone.anchorAt_elapsed (b : Backbone) (n : Nat) :
    (b.anchorAt n).elapsed + cycDiff (b.anchorAt n).anchor n = b.elapsed + cycDiff b.anchor n := by
  show b.elapsed + cycDiff b.anchor n + cycDiff n n = _
  rw [cycDiff_self, Int.add_zero]

theorem State.burstsPhi0_frame (s : State) : s.burstsPhi0.frame = s.frame :=
  foldl_keeps State.frame (fun t e => (Falls.of_still (t.wake_still e)).frame) _ { s with fab := _ }

/-- φ0 of a cycle is reckoned from the frame. -/
theorem State.phi0_of_frame {s t : State} (h : t.frame = s.frame) (n : Nat) : t.phi0 n = s.phi0 n := by
  have hepoch : t.epoch = s.epoch := congrArg CycleFrame.epoch h
  have hbb : t.bb = s.bb := congrArg CycleFrame.bb h
  have hstage : t.stage = s.stage := congrArg CycleFrame.stage h
  unfold State.phi0 State.sinceE State.rung
  rw [hepoch, hbb, hstage]

/-- What the step of the counters leaves: cycle `n`, and, where no rung change is due, the time of its φ0. -/
theorem State.stepCycle_beat (s : State) :
    s.stepCycle.cycle = s.nextCycle ∧ (s.bb.nextRung = none → s.stepCycle.time = s.phi0 s.nextCycle * 2 ^ 16) ∧
      s.stepCycle.bb.firstPhi0 = false ∧ s.stepCycle.bb.flashSeen = false := by
  refine ⟨rfl, fun hrung => ?_, rfl, rfl⟩
  have hframe : s.burstsPhi0.frame = s.frame := s.burstsPhi0_frame
  have hbb : s.burstsPhi0.bb = s.bb := congrArg CycleFrame.bb hframe
  have hsame : s.burstsPhi0.rungPhi0 s.nextCycle = s.burstsPhi0 := by
    unfold State.rungPhi0
    rw [hbb, hrung]
  unfold State.stepCycle
  dsimp only
  rw [hsame, ← State.phi0_of_frame hframe]
  unfold State.phi0 State.sinceE State.rung
  dsimp only
  rw [Backbone.anchorAt_elapsed]

theorem State.nextCycle_of_frame {s t : State} (h : t.frame = s.frame) : t.nextCycle = s.nextCycle := by
  have hcycle : t.cycle = s.cycle := congrArg CycleFrame.cycle h
  have hbb : t.bb = s.bb := congrArg CycleFrame.bb h
  unfold State.nextCycle
  rw [hcycle, hbb]

/-- The rest of φ0 keeps the beat that the step of the counters set. -/
theorem cyclePhi0Cmd_beat {s : State} (x : Phi0Sample) (hlive : s.live = true) (hcycle : s.hasCycle = true) :
    (cyclePhi0Cmd x s).beat = (s.pinsRun x.pins).stepCycle.beat := by
  unfold cyclePhi0Cmd
  rw [if_neg (by simp [hlive, hcycle])]
  extract_lets t u v w y z
  have hu : u.beat = t.beat := State.beat_of_frame (State.eachAxis_frame ..)
  have hv : v.beat = u.beat := State.beat_of_frame (foldl_keeps State.frame (fun r k => r.reload_frame k) _ u)
  have hw : w.beat = v.beat :=
    (State.nodePhi0_beat _).trans (State.beat_of_frame ((State.powerChange_frame _).trans v.wakePinPhi0_frame))
  have hy : y.beat = w.beat := State.beat_of_frame (w.samplePhi0_frame x)
  have hz : z.beat = y.beat := State.beat_of_frame ((State.fieldSignals_frame _).trans y.agePhi0_frame)
  have hend : ((z.fogPhi0.canCyclic z.cycle).syncOutPhi0).beat = z.beat :=
    (State.beat_of_frame ((State.syncOutPhi0_frame _).trans (State.canCyclic_frame _ _))).trans z.fogPhi0_beat
  exact hend.trans (hz.trans (hy.trans (hw.trans (hv.trans hu))))

/-- Settles O26: the counters step on what the history of the pins leaves, and the rest of φ0 keeps them. -/
theorem cyclePhi0BeginsTheNextCycle : Obligations.CyclePhi0BeginsTheNextCycle := by
  unfold Obligations.CyclePhi0BeginsTheNextCycle
  intro s x hlive hcycle
  have hpins : (s.pinsRun x.pins).frame = s.frame := s.pinsRun_frame x.pins
  have hbb : (s.pinsRun x.pins).bb = s.bb := congrArg CycleFrame.bb hpins
  have hnext : (s.pinsRun x.pins).nextCycle = s.nextCycle := State.nextCycle_of_frame hpins
  have hbeat := cyclePhi0Cmd_beat x hlive hcycle
  obtain ⟨hn, htime, hfirst, hflash⟩ := (s.pinsRun x.pins).stepCycle_beat
  have hcyc : (cyclePhi0Cmd x s).cycle = s.nextCycle := (congrArg CycleBeat.cycle hbeat).trans (hn.trans hnext)
  refine ⟨cyclePhi0Cmd x s, rfl, hcyc, fun hrung => ?_, ?_, ?_, ?_⟩
  · rw [hcyc, ← State.phi0_of_frame hpins, ← hnext]
    exact (congrArg CycleBeat.time hbeat).trans (htime (by rw [hbb, hrung]))
  · exact (congrArg CycleBeat.firstPhi0 hbeat).trans hfirst
  · exact (congrArg CycleBeat.flashSeen hbeat).trans hflash
  · exact (Laws.cyclePhi0Cmd_keeps x (Laws.Keeps.rfl' s)).2.2.1

end Sys2Proof.Machine
end

section
/-!
SUPPORT. The nodes of the thermal model through the rest of an update: events, registers and fault sources leave them, and the time.
-/

namespace Sys2Proof.Machine

open Sys2Proof

/-- The nodes of the model, and when they are. -/
structure Heat where
  t0 : Int
  t1 : Int
  t2 : Int
  time : Nat
  cycle : Nat

def State.heat (s : State) : Heat := ⟨s.therm.t0, s.therm.t1, s.therm.t2, s.time, s.cycle⟩

theorem Falls.heat {b s : State} (h : Falls b s) : s.heat = b.heat := by
  unfold State.heat
  rw [h.therm, h.time, h.cycle]

theorem heat_ite {b s t : State} {c : Prop} [Decidable c] (h : s.heat = b.heat) (h' : t.heat = b.heat) :
    (if c then s else t).heat = b.heat := by
  split
  · exact h
  · exact h'

theorem State.setFld_heat (s : State) (off lo w x : Nat) : (s.setFld off lo w x).heat = s.heat := rfl

theorem State.setBit_heat (s : State) (off i : Nat) (v : Bool) : (s.setBit off i v).heat = s.heat := rfl

theorem State.ev_heat (s : State) (src subj code value : Nat) : (s.ev src subj code value).heat = s.heat :=
  (s.ev_falls src subj code value).heat

theorem State.showDie_heat (s : State) (rate : Rat) : (s.showDie rate).heat = s.heat :=
  (State.setFld_heat ..).trans ((State.setFld_heat ..).trans ((State.setFld_heat ..).trans
    ((State.setFld_heat ..).trans (State.setFld_heat ..))))

theorem State.limitSource_heat (s : State) (on : Bool) : (s.limitSource on).heat = s.heat :=
  foldl_keeps State.heat (fun t a => heat_ite rfl (heat_ite
    ((State.raiseSource_falls _ a 19 0 false).heat.trans (State.setAxis_falls t a _).heat) (State.setAxis_falls t a _).heat)) _ s

theorem State.judgeDie_heat (s : State) (rate : Rat) : (s.judgeDie rate).heat = s.heat := by
  unfold State.judgeDie
  extract_lets v warn t1 t2 lim was t3 t4 t5 hit t6 therm t7
  have h1 : t1.heat = s.heat := heat_ite (State.ev_heat ..) rfl
  have h3 : t3.heat = s.heat := (State.setBit_heat ..).trans ((State.setBit_heat ..).trans h1)
  have h4 : t4.heat = s.heat := heat_ite ((State.ev_heat ..).trans h3) (heat_ite ((State.ev_heat ..).trans h3) h3)
  have h5 : t5.heat = s.heat := (State.limitSource_heat ..).trans h4
  have h6 : t6.heat = s.heat := heat_ite ((State.ev_heat ..).trans h5) h5
  have h7 : t7.heat = s.heat := h6
  refine heat_ite ?_ h7
  exact (foldl_keeps State.heat (fun t a => heat_ite (t.raiseSource_falls a 19 0 false).heat rfl) _ _).trans
    ((State.setBit_heat ..).trans h7)

theorem State.judgeHold_heat (s : State) (tell : Bool) : (s.judgeHold tell).heat = s.heat :=
  heat_ite rfl (heat_ite ((State.evC_falls _ _ _ _).heat.trans (State.setBit_heat ..)) (State.setBit_heat ..))

/-- What follows the step of the nodes in an update. -/
theorem State.dieUpdate_heat (s : State) (ws : List (List Nat)) (field : Int) :
    (s.dieUpdate ws field).heat =
      (((s.clampThmCfg.showPower ws).takeReadings field (62500 * max 1 ws.length)).1.stepNodes ws (62500 * max 1 ws.length)).heat := by
  unfold State.dieUpdate
  extract_lets dt u
  generalize u.takeReadings field dt = readings
  obtain ⟨v, broke⟩ := readings
  dsimp only
  generalize v.stepNodes ws dt = w
  rw [State.setBit_heat, State.judgeHold_heat, State.judgeDie_heat, State.showDie_heat,
    foldl_keeps State.heat (fun t d => (State.ev_heat ..).trans (State.setBit_heat ..)),
    foldl_keeps State.heat (fun t i => State.ev_heat ..)]
  rfl

/-! ## Whether the nodes have been set -/

theorem DieThermal.judgeAll_started (f : DieThermal × List Nat → Nat → DieThermal × List Nat)
    (hf : ∀ a i, (f a i).1.started = a.1.started) (l : List Nat) (a : DieThermal × List Nat) :
    (l.foldl f a).1.started = a.1.started := by
  induction l generalizing a with
  | nil => rfl
  | cons i l ih => exact (ih (f a i)).trans (hf a i)

theorem State.showPower_keeps {α : Type} (read : State → α) (hfld : ∀ t off lo w x, read (State.setFld t off lo w x) = read t)
    (hrails : ∀ (t : State) l, read { t with therm := { t.therm with rails := l } } = read t) (s : State) (ws : List (List Nat)) :
    read (s.showPower ws) = read s := by
  unfold State.showPower
  extract_lets therm t total u
  exact (foldl_keeps read (fun v i => (hfld ..).trans (hfld ..)) _ u).trans ((hfld ..).trans (hrails s _))

theorem State.clampThmCfg_keeps {α : Type} (read : State → α) (hfld : ∀ t off lo w x, read (State.setFld t off lo w x) = read t)
    (s : State) : read s.clampThmCfg = read s :=
  (hfld ..).trans ((hfld ..).trans (hfld ..))

/-- The readings are judged in the thermal state; else only registers are written. -/
theorem State.takeReadings_keeps {α : Type} (read : State → α) (hfld : ∀ t off lo w x, read (State.setFld t off lo w x) = read t)
    (hbit : ∀ t off i v, read (State.setBit t off i v) = read t)
    (htherm : ∀ (t : State) (x : DieThermal), x.started = t.therm.started → read { t with therm := x } = read t)
    (s : State) (field : Int) (dt : Nat) : read (s.takeReadings field dt).1 = read s := by
  have hbits : ∀ (f : State → Nat → Bool) (t : State),
      read ((List.range 4).foldl (fun t d => t.setBit R.thmStat (4 + d) (f t d)) t) = read t := fun f t =>
    foldl_keeps read (fun t d => hbit ..) _ t
  unfold State.takeReadings
  extract_lets u one
  have hu : read u = read s := hfld ..
  have hone := DieThermal.judgeAll_started one (fun _ _ => rfl) (List.range 4) (u.therm, [])
  generalize (List.range 4).foldl one (u.therm, []) = judged at hone
  obtain ⟨x, broke⟩ := judged
  dsimp only
  split
  · exact (hbit ..).trans ((hbits _ _).trans ((htherm u (x.judge 4 (fieldCode field) dt).1 hone).trans hu))
  · exact (hbit ..).trans ((hbits _ _).trans ((htherm u x hone).trans hu))

/-- Up to the step of the nodes, an update leaves the time and the cycle, and whether the nodes have been set. -/
theorem State.readings_keep {α : Type} (read : State → α) (hfld : ∀ t off lo w x, read (State.setFld t off lo w x) = read t)
    (hbit : ∀ t off i v, read (State.setBit t off i v) = read t)
    (htherm : ∀ (t : State) (x : DieThermal), x.started = t.therm.started → read { t with therm := x } = read t)
    (s : State) (ws : List (List Nat)) (field : Int) (dt : Nat) :
    read ((s.clampThmCfg.showPower ws).takeReadings field dt).1 = read s :=
  (State.takeReadings_keeps read hfld hbit htherm _ field dt).trans
    ((State.showPower_keeps read hfld (fun t _ => htherm t _ rfl) _ ws).trans (State.clampThmCfg_keeps read hfld s))

end Sys2Proof.Machine
end
section
namespace Sys2Proof.Machine

open Sys2Proof

theorem State.clockLoss_shut (s : State) : s.clockLoss.pw.shutCore = s.pw.shutCore ∧ s.clockLoss.pw.shutField = s.pw.shutField := by
  unfold State.clockLoss
  dsimp only
  rw [foldl_keeps State.pw (fun u c => u.chopFollow_pw c), State.setBit_pw, foldl_keeps State.pw (fun u k => u.highsOff_pw k true)]
  exact ⟨rfl, rfl⟩

/-- The stop of the core die leaves what shut it down. -/
theorem State.coreStop_shut (s : State) (cause : Nat) (boot : Boot) :
    (s.coreStop cause boot).pw.shutCore = s.pw.shutCore ∧ (s.coreStop cause boot).pw.shutField = s.pw.shutField := by
  obtain ⟨hcore, hfield⟩ := s.clockLoss_shut
  refine ⟨Eq.trans ?_ hcore, Eq.trans ?_ hfield⟩
  · show (s.clockLoss.allOutputsOff true).pw.shutCore = _
    rw [State.allOutputsOff_pw]
  · show (s.clockLoss.allOutputsOff true).pw.shutField = _
    rw [State.allOutputsOff_pw]

theorem State.mode_of_live {s : State} (h : s.live = true) : s.mode ≠ .standby := by
  intro hmode
  simp [State.live, State.isRun, State.isIdle, hmode] at h

/-- Settles O43: an update of the die steps its nodes and reports; a shutdown stops the core die; the rest are their rows. -/
theorem thermalRowsTakeEffect : Obligations.ThermalRowsTakeEffect := by
  unfold Obligations.ThermalRowsTakeEffect
  refine ⟨?_, ?_, ?_, ?_, ?_, ?_⟩
  · intro s ws field hlive hsv hstarted
    dsimp only
    have hcmd : dieThermalUpdateCmd ws field s = s.dieUpdate ws field := by
      unfold dieThermalUpdateCmd
      rw [if_neg (State.mode_of_live hlive), if_neg (by simp [hlive, hsv])]
    have hheat := s.dieUpdate_heat ws field
    refine ⟨dieThermalUpdateCmd ws field s, rfl, ?_⟩
    rw [hcmd]
    generalize hv : ((s.clampThmCfg.showPower ws).takeReadings field (62500 * max 1 ws.length)).1 = v at hheat
    have hset : v.therm.started = s.therm.started := hv ▸ State.readings_keep (fun t => t.therm.started)
      (fun _ _ _ _ _ => rfl) (fun _ _ _ _ => rfl) (fun _ _ h => h) s ws field _
    have htime : v.time = s.time := hv ▸ State.readings_keep State.time
      (fun _ _ _ _ _ => rfl) (fun _ _ _ _ => rfl) (fun _ _ _ => rfl) s ws field _
    have hcycle : v.cycle = s.cycle := hv ▸ State.readings_keep State.cycle
      (fun _ _ _ _ _ => rfl) (fun _ _ _ _ => rfl) (fun _ _ _ => rfl) s ws field _
    unfold State.stepNodes at hheat
    rw [if_neg (by simp [hset, hstarted])] at hheat
    exact ⟨congrArg Heat.t0 hheat, congrArg Heat.t1 hheat, congrArg Heat.t2 hheat, (congrArg Heat.time hheat).trans htime,
      (congrArg Heat.cycle hheat).trans hcycle⟩
  · intro s ws field hstandby
    exact congrArg Host.Outcome.next (if_pos hstandby)
  · intro s field hpowered hboot hsession
    have hstands : ¬(s.powered = false ∨ ((true : Bool) = false ∧ field = false)) := by simp [hpowered]
    refine ⟨_, rfl, ?_⟩
    unfold hardwareThermalShutdownCmd
    rw [if_neg hstands]
    extract_lets pw u
    have hu : u.endSession = u := if_pos hsession
    have hboot' : ¬u.pw.boot = .hotStop := hboot
    rw [if_neg hboot', if_pos (by simp), hu]
    obtain ⟨h1, h2, h3, h4, h5, h6, h7⟩ := u.coreStop_safe 3 .hotStop
    obtain ⟨hcore, hfield⟩ := u.coreStop_shut 3 .hotStop
    refine ⟨h1, hcore.trans ?_, hfield, h4, h2, h5, h6, h7⟩
    exact Bool.or_true _
  · intro s hboot hcore hfield
    show Host.Outcome.next (thermalRestartCmd s) = _
    unfold thermalRestartCmd
    dsimp only
    rw [if_neg (by simp [hboot]), hcore, hfield]
    rfl
  · intro s a dt hlive hsv husable
    exact congrArg Host.Outcome.next (if_neg (by simp [hlive, hsv, husable]))
  · intro s hlive hsv
    have hstands : ¬s.live = false := by simp [hlive]
    have hcmd : ∀ u : State, u = { s with pw := { s.pw with aonSeconds := s.pw.aonSeconds + 1 } } →
        thermalStateSaveCmd s = u.saveThermal := by
      rintro u rfl
      exact (if_neg hstands).trans (if_pos hsv)
    have hopen : ∀ u : State, u = { s with pw := { s.pw with aonSeconds := s.pw.aonSeconds + 1 } } → u.mramOpen = !s.mramStop := by
      rintro u rfl
      show (s.svRuns && !s.mramStop) = _
      rw [hsv, Bool.true_and]
    refine ⟨fun hstop => congrArg Host.Outcome.next ((hcmd _ rfl).trans (if_pos ?_)),
      fun hgoes => congrArg Host.Outcome.next ((hcmd _ rfl).trans (if_neg ?_))⟩
    · rw [hopen _ rfl, hstop]
      rfl
    · rw [hopen _ rfl, hgoes]
      decide

end Sys2Proof.Machine
end

section
/-!
SUPPORT. What the end of a boot shows of the state, and what the replay of the journal leaves of the power record.
-/

namespace Sys2Proof.Machine

open Sys2Proof

/-- What the end of a boot decides. -/
structure BootView where
  boot : Boot
  rstoutN : Bool
  heldCause : Option Nat
  up : Bool
  secCnt : Nat
  pollSoon : Bool
  restartCause : Nat

def State.bootView (s : State) : BootView :=
  ⟨s.pw.boot, s.pw.rstoutN, s.pw.heldCause, s.die.up, s.sec.secCnt, s.host.pollSoon, s.jnl.restartCause⟩

theorem State.calm_bootView (s : State) : s.calm.bootView = s.bootView := rfl

theorem Falls.bootView {b s : State} (h : Falls b s) : s.bootView = b.bootView := by
  rw [← State.calm_bootView s, h.calm, State.calm_bootView]

theorem State.setReg_bootView (s : State) (off : Nat) (v : Reg32) : (s.setReg off v).bootView = s.bootView := rfl

theorem State.setFld_bootView (s : State) (off lo w x : Nat) : (s.setFld off lo w x).bootView = s.bootView := rfl

theorem State.setBit_bootView (s : State) (off i : Nat) (v : Bool) : (s.setBit off i v).bootView = s.bootView := rfl

theorem State.withNode_bootView (s : State) (n : NodeRole) : ({ s with node := n } : State).bootView = s.bootView := rfl

theorem State.setAdcv_bootView (s : State) (k : Nat) (x : Adc) : (s.setAdcv k x).bootView = s.bootView := rfl

theorem State.setChan_bootView (s : State) (c : Chan) (x : SafChan) : (s.setChan c x).bootView = s.bootView := by
  cases c <;> rfl

theorem State.nodeConfig_bootView (s : State) : s.nodeConfig.bootView = s.bootView := by
  unfold State.nodeConfig
  extract_lets t u
  have hu : u.bootView = s.bootView :=
    (State.setFld_bootView ..).trans ((State.setFld_bootView ..).trans (State.setBit_bootView ..))
  split
  · exact (State.withNode_bootView ..).trans ((State.setReg_bootView ..).trans ((State.setReg_bootView ..).trans hu))
  · exact hu

theorem State.fieldFound_bootView (s : State) : s.fieldFound.bootView = s.bootView :=
  (State.setBit_bootView ..).trans ((State.setBit_bootView ..).trans (State.setBit_bootView ..))

theorem State.adcStart_bootView (s : State) : s.adcStart.bootView = s.bootView :=
  foldl_keeps State.bootView (fun _ _ => State.setAdcv_bootView ..) _ s

theorem State.nameAxes_bootView (s : State) : s.nameAxes.bootView = s.bootView :=
  (State.setChan_bootView ..).trans (State.setChan_bootView ..)

theorem State.startChan_bootView (s : State) (c : Chan) : (s.startChan c).bootView = s.bootView :=
  (State.nameAxes_bootView _).trans (State.setChan_bootView ..)

theorem State.latchGlobal_bootView (s : State) (i : Nat) : (s.latchGlobal i).bootView = s.bootView := by
  unfold State.latchGlobal
  split
  · rfl
  · exact (State.ev_falls _ _ _ _ _).bootView

theorem State.judgeSet_bootView (s : State) : s.judgeSet.bootView = s.bootView := by
  unfold State.judgeSet
  split
  · split
    · rfl
    · exact (State.stoBoth_falls _).bootView.trans (s.latchGlobal_bootView _)
  · rfl

theorem State.setPins_bootView (s : State) : s.setPins.bootView = s.bootView :=
  (State.setChan_bootView ..).trans (State.setChan_bootView ..)

theorem State.demandTests_bootView (s : State) : s.demandTests.bootView = s.bootView := rfl

theorem State.safetyStart_bootView (s : State) : s.safetyStart.bootView = s.bootView := by
  unfold State.safetyStart
  extract_lets saf t u v
  have ht : t.bootView = s.bootView := rfl
  have hu : u.bootView = s.bootView := (State.startChan_bootView ..).trans ht
  have hv : v.bootView = s.bootView := by
    show State.bootView (if u.saf.bDown then u.nameAxes else u.startChan .b) = _
    split
    · exact (State.nameAxes_bootView _).trans hu
    · exact (State.startChan_bootView ..).trans hu
  exact (State.setPins_bootView _).trans ((State.judgeSet_bootView _).trans ((State.demandTests_bootView v).trans hv))

theorem State.showTrip_bootView (s : State) (k : Nat) : (s.showTrip k).bootView = s.bootView :=
  (State.setBit_bootView ..).trans ((State.setBit_bootView ..).trans (State.setBit_bootView ..))

theorem State.raiseTrip_bootView (s : State) (k : Nat) : (s.raiseTrip k).bootView = s.bootView := by
  unfold State.raiseTrip
  extract_lets t
  have ht : t.bootView = s.bootView := s.showTrip_bootView k
  split
  · exact (State.raiseSource_falls _ _ _ _ _).bootView.trans ((State.setAxis_falls _ _ _).bootView.trans ht)
  · exact (State.ev_falls _ _ _ _ _).bootView.trans ht

theorem State.raiseTrips_bootView (s : State) : s.raiseTrips.bootView = s.bootView := by
  refine foldl_keeps State.bootView (fun t k => ?_) _ s
  split
  · exact t.raiseTrip_bootView k
  · rfl

/-! ## The start of the axis models -/

theorem State.thermStart_keeps {α : Type} (read : State → α) (hfld : ∀ t off lo w x, read (State.setFld t off lo w x) = read t)
    (haxis : ∀ t a x, read (State.setAxis t a x) = read t) (hfree : ∀ (t : State) n, read { t with free := n } = read t)
    (s : State) (sram : List (Nat × Int × Int × Int)) (kept : Bool) : read (s.thermStart sram kept) = read s := by
  have hword : ∀ (n : Nat), read (if n = 2 then s.freeW else ((0 : BitVec 72), s)).2 = read s := by
    intro n
    split
    · exact hfree ..
    · rfl
  unfold State.thermStart
  extract_lets age
  generalize (if kept = true then _ else _ : Nat × List (Nat × Int × Int × Int) × Nat) = source
  obtain ⟨n, list, shown⟩ := source
  dsimp only
  exact (foldl_keeps read (fun _ _ => haxis ..) _ _).trans ((hfld ..).trans ((hfld ..).trans (hword n)))

end Sys2Proof.Machine
end

section
/-!
SUPPORT. The replay of the journal leaves the power record, and with it the cause of the restart.
-/

namespace Sys2Proof.Machine

open Sys2Proof

theorem State.pw_of_still {s t : State} (h : t.still = s.still) : t.pw = s.pw := by
  have hpw : t.still.pw = s.still.pw := congrArg State.pw h
  exact hpw

theorem pw_ite {b s t : State} {c : Prop} [Decidable c] (h : s.pw = b.pw) (h' : t.pw = b.pw) : (if c then s else t).pw = b.pw := by
  split
  · exact h
  · exact h'

theorem State.withJnl_pw (s : State) (j : Journal) : ({ s with jnl := j } : State).pw = s.pw := rfl

theorem State.withHost_pw (s : State) (h : HostIf) : ({ s with host := h } : State).pw = s.pw := rfl

theorem State.withPlanNo_pw (s : State) (n : Nat) : ({ s with planNo := n } : State).pw = s.pw := rfl

theorem State.setReg72_pw (s : State) (lo : Nat) (v : Int) : (s.setReg72 lo v).pw = s.pw := rfl

theorem State.evC_pw (s : State) (src subj code : Nat) : (s.evC src subj code).pw = s.pw := State.pw_of_still (s.evC_still src subj code)

/-! ## The configuration -/

theorem State.latchRestore_pw (s : State) (k j c : Nat) : (s.latchRestore k j c).pw = s.pw := by
  unfold State.latchRestore
  split
  · exact pw_ite rfl ((State.setBit_pw ..).trans ((State.setBit_pw ..).trans ((State.setReg_pw ..).trans
      ((State.setReg72_pw ..).trans (State.setReg72_pw ..)))))
  · rfl

theorem State.portStart_pw (s : State) (k : Nat) : (s.portStart k).pw = s.pw := by
  unfold State.portStart State.portStartAt
  extract_lets t p u v w
  have ht : t.pw = s.pw := (State.latchRestore_pw ..).trans (State.latchRestore_pw ..)
  have hv : v.pw = s.pw := (State.setBit_pw ..).trans ((State.setBit_pw ..).trans ((State.setBit_pw ..).trans
    ((State.setReg_pw ..).trans ht)))
  have hw : w.pw = s.pw := (State.setFbp_pw ..).trans hv
  split
  · exact (State.setAxis_pw ..).trans hw
  · exact hw

theorem State.pinsLoaded_pw (s t : State) : (s.pinsLoaded t).pw = t.pw :=
  foldl_keeps State.pw (fun _ _ => pw_ite (State.setPwmp_pw ..) rfl) _ t

theorem State.sdmSettle_pw (s : State) (c : Nat) : (s.sdmSettle c).pw = s.pw := State.setSdmc_pw ..

theorem State.withStage_pw (s : State) (st : Staging) : ({ s with stage := st } : State).pw = s.pw := rfl

theorem State.loadStore_pw (s : State) : s.loadStore.pw = s.pw := by
  unfold State.loadStore
  extract_lets c stage t regs u v w x y
  have ht : t.pw = s.pw := State.withStage_pw ..
  have hu : u.pw = s.pw := (State.pinsLoaded_pw ..).trans
    ((foldl_keeps State.pw (fun _ _ => State.setReg_pw ..) _ t).trans ht)
  have hv : v.pw = s.pw := (foldl_keeps State.pw (fun _ _ => (State.setBit_pw ..).trans (State.setBit_pw ..)) _ u).trans hu
  have hw : w.pw = s.pw := (foldl_keeps State.pw (fun _ _ => State.modAxis_pw ..) _ v).trans hv
  have hx : x.pw = s.pw := (foldl_keeps State.pw (fun _ _ => pw_ite rfl (State.setAxis_pw ..)) _ w).trans hw
  have hy : y.pw = s.pw := (foldl_keeps State.pw (fun _ _ => pw_ite rfl (State.portStart_pw ..)) _ x).trans hx
  exact (foldl_keeps State.pw (fun _ _ => pw_ite (State.sdmSettle_pw ..) rfl) _ y).trans hy

/-! ## Rings and their owed records -/

theorem State.restoreSetup_pw (s : State) (n : Nat) (r : JRec) : (s.restoreSetup n r).pw = s.pw := by
  simp only [State.restoreSetup, State.setReg_pw]

theorem State.rebuildResult_pw (s : State) (ring seq : Nat) : (s.rebuildResult ring seq).pw = s.pw := by
  unfold State.rebuildResult
  split
  · dsimp only
    split
    · rfl
    · rfl
  · rfl

theorem State.rewriteOwed_pw (s : State) (r : JRec) : (s.rewriteOwed r).pw = s.pw :=
  (State.rebuildResult_pw ..).trans (State.memWr_pw ..)

theorem State.restoreRing_pw (s : State) (j : List JRec) (db : Option (List Byte)) (n : Nat) : (s.restoreRing j db n).pw = s.pw := by
  unfold State.restoreRing
  dsimp only
  split
  · exact State.setRing_pw ..
  · exact (foldl_keeps State.pw (fun t r => t.rewriteOwed_pw r) _ _).trans (State.setRing_pw ..)
  · exact (State.withHost_pw ..).trans (State.setRing_pw ..)

/-! ## Banks -/

theorem State.setBank_pw (s : State) (b : Nat) (m : SMap (Option JRec)) : (s.setBank b m).pw = s.pw := pw_ite rfl rfl

theorem State.writeSlot_pw (s : State) (b : Nat) (r : JRec) : (s.writeSlot b r).pw = s.pw :=
  (State.withJnl_pw ..).trans (State.setBank_pw ..)

theorem State.copyLive_pw (s : State) (b : Nat) : (s.copyLive b).pw = s.pw :=
  pw_ite rfl (foldl_keeps State.pw (fun t r => t.writeSlot_pw _ r) _ s)

theorem State.copyNow_pw (s : State) : s.copyNow.pw = s.pw := by
  unfold State.copyNow
  split
  · exact pw_ite ((State.copyLive_pw ..).trans (State.withJnl_pw ..)) rfl
  · rfl

theorem State.bankFault_pw (s : State) (b : Nat) : (s.bankFault b).pw = s.pw :=
  pw_ite rfl ((State.copyNow_pw _).trans ((State.withJnl_pw ..).trans ((State.evC_pw ..).trans
    ((State.setBit_pw ..).trans (State.setBit_pw ..)))))

theorem State.dropBad_pw (s : State) (b : Nat) : (s.dropBad b).pw = s.pw :=
  pw_ite rfl ((State.bankFault_pw ..).trans ((State.bumpFld_pw ..).trans (State.setBank_pw ..)))

/-! ## What goes on after the restart -/

theorem State.keepMoves_pw (s : State) (j : List JRec) (a : Nat) : (s.keepMoves j a).pw = s.pw :=
  pw_ite rfl ((State.modAxis_pw ..).trans (State.withPlanNo_pw ..))

theorem State.keepGroup_pw (s : State) (j : List JRec) (g : Nat) : (s.keepGroup j g).pw = s.pw :=
  pw_ite rfl ((State.setGroup_pw ..).trans (State.withPlanNo_pw ..))

theorem State.replayOpen_pw (s : State) (j : List JRec) (r : JRec) : (s.replayOpen j r).pw = s.pw := by
  unfold State.replayOpen
  extract_lets g t f
  have ht : t.pw = s.pw := State.setRing_pw ..
  exact pw_ite ht (pw_ite ht ((State.bumpFld_pw ..).trans ((State.pw_of_still (State.post_still ..)).trans ht)))

/-- The replay, up to its own record, leaves the power record. -/
theorem journalReplayCmd_eq {s : State} (hboot : s.pw.boot = .replay) (hopen : s.mramStop = false) (hsv : s.svRuns = true) :
    ∃ v : State, v.pw = s.pw ∧ ∃ u : State,
      u = { v.writeRecord (v.restartRec (v.pw.heldCause.getD 1)) none with
        jnl := { (v.writeRecord (v.restartRec (v.pw.heldCause.getD 1)) none).jnl with restartCause := v.pw.heldCause.getD 1 }
        pw := { (v.writeRecord (v.restartRec (v.pw.heldCause.getD 1)) none).pw with boot := .replayed } } ∧
      journalReplayCmd s = (u.evC 59 0xFFFF 5).ev 59 0xFFFF 4 (u.fld R.jnlReplay 0 16) := by
  have hstands : ¬(s.pw.boot ≠ .replay ∨ s.mramStop = true ∨ s.svRuns = false) := by simp [hboot, hopen, hsv]
  unfold journalReplayCmd
  rw [if_neg hstands]
  extract_lets t j u base db v w x y z r cause
  have ht : t.pw = s.pw := s.loadStore_pw
  have hu : u.pw = s.pw := (foldl_keeps State.pw (fun p q => p.restoreSetup_pw _ q) _ t).trans ht
  have hv : v.pw = s.pw := pw_ite ((State.evC_pw ..).trans hu) hu
  have hw : w.pw = s.pw := (foldl_keeps State.pw (fun p n => p.restoreRing_pw j db n) _ v).trans hv
  have hx : x.pw = s.pw := ((State.dropBad_pw ..).trans (State.dropBad_pw ..)).trans hw
  have hy : y.pw = s.pw := (foldl_keeps State.pw (fun p a => p.keepMoves_pw j a) _ x).trans hx
  have hz : z.pw = s.pw := (foldl_keeps State.pw (fun p g => p.keepGroup_pw j g) _ y).trans hy
  have hr : r.pw = s.pw := (foldl_keeps State.pw (fun p q => p.replayOpen_pw j q) _ z).trans hz
  exact ⟨r, hr, _, rfl, rfl⟩

end Sys2Proof.Machine
end

section
namespace Sys2Proof.Machine

open Sys2Proof

theorem State.uid_of_still {s t : State} (h : t.still = s.still) : t.uid = s.uid := by
  have huid : t.still.uid = s.still.uid := congrArg State.uid h
  exact huid

/-- What BOOT_COMPLETE sets as Idle is reached: the power record, the link, the poll, the thermal model and the security counter. -/
def State.idleReached (t : State) : State :=
  { t with
    pw := { t.pw with boot := .up, rstoutN := true, alertN := t.conductor || t.pw.alertN, heldCause := none, sramKept := false }
    die := { t.die.trained with fast := true }
    host := { t.host with pollSoon := true }
    therm := { t.therm with started := false }
    sec := { t.sec with secCnt := max t.sec.secCnt t.flash.runningCnt } }

/-- PWR_STATE and CLK_STAT of Idle. -/
def State.idleShown (t : State) : State := (((t.setPower 1).setTransit false).setWakeCause 7).setFld R.clkStat 0 4 15

/-- What starts with Idle: the field inputs, the converters, the safety channels, and the trips of the boot. -/
def State.idleStarted (t : State) : State :=
  ((if t.conductor then t else t.nodeConfig).fieldFound.adcStart).safetyStart.raiseTrips

theorem State.idleReached_bootView (t : State) : t.idleReached.bootView =
    ⟨.up, true, none, true, max t.sec.secCnt t.flash.runningCnt, true, t.jnl.restartCause⟩ := rfl

theorem State.idleShown_bootView (t : State) : t.idleShown.bootView = t.bootView :=
  (State.setFld_bootView ..).trans ((State.setFld_bootView ..).trans ((State.setBit_bootView ..).trans (State.setFld_bootView ..)))

theorem State.idleStarted_bootView (t : State) : t.idleStarted.bootView = t.bootView := by
  have hconfig : (if t.conductor = true then t else t.nodeConfig).bootView = t.bootView := by
    split
    · rfl
    · exact t.nodeConfig_bootView
  unfold State.idleStarted
  rw [State.raiseTrips_bootView, State.safetyStart_bootView, State.adcStart_bootView, State.fieldFound_bootView]
  exact hconfig

theorem bootCompleteCmd_of_replayed {s t u : State} (hboot : s.pw.boot = .replayed)
    (ht : t = s.thermStart (s.axes.map (fun e => (e.1, e.2.therm.tw, e.2.therm.tb, e.2.therm.ts))) s.pw.sramKept)
    (hu : u = t.idleReached.idleShown.idleStarted) : bootCompleteCmd s = u.ev 63 1 7 u.jnl.restartCause := by
  have hstands : ¬s.pw.boot ≠ .replayed := by simp [hboot]
  rw [hu, ht]
  unfold bootCompleteCmd
  rw [if_neg hstands]
  unfold State.idleStarted State.idleShown State.idleReached
  dsimp only

/-- The state in which Idle is reached, before its event. -/
theorem bootCompleteCmd_eq {s : State} (hboot : s.pw.boot = .replayed) :
    ∃ u : State, bootCompleteCmd s = u.ev 63 1 7 s.jnl.restartCause ∧
      u.bootView = ⟨.up, true, none, true, max s.sec.secCnt s.flash.runningCnt, true, s.jnl.restartCause⟩ := by
  have hcmd := bootCompleteCmd_of_replayed hboot rfl rfl
  have hsec := s.thermStart_keeps State.sec (fun _ _ _ _ _ => rfl) (fun _ _ _ => rfl) (fun _ _ => rfl)
  have hflash := s.thermStart_keeps State.flash (fun _ _ _ _ _ => rfl) (fun _ _ _ => rfl) (fun _ _ => rfl)
  have hjnl := s.thermStart_keeps State.jnl (fun _ _ _ _ _ => rfl) (fun _ _ _ => rfl) (fun _ _ => rfl)
  generalize hu : State.idleStarted _ = u at hcmd
  have hview : u.bootView = ⟨.up, true, none, true, max s.sec.secCnt s.flash.runningCnt, true, s.jnl.restartCause⟩ := by
    rw [← hu, State.idleStarted_bootView, State.idleShown_bootView, State.idleReached_bootView, hsec, hflash, hjnl]
  have hcause : u.jnl.restartCause = s.jnl.restartCause := congrArg BootView.restartCause hview
  exact ⟨u, by rw [hcmd, hcause], hview⟩

/-- The only held FINAL, no move's, is posted, and nothing is held any longer (R387). -/
theorem replayFinalReleaseCmd_of_single {s u : State} {r : OutRec} (hlive : s.live = true) (hheld : s.jnl.replayHeld = [r])
    (hmove : isMove r.opcode = false) (hu : u = (s.post (s.releasedFinal r)).bumpFld R.jnlReplay 0 16 1) :
    replayFinalReleaseCmd r.ring s = { u with jnl := { u.jnl with replayHeld := [] } } := by
  have hstands : ¬(s.pw.boot ≠ .replayed ∧ s.live = false) := by simp [hlive]
  have hjnl : u.jnl.replayHeld = [r] := by
    have hpost : (s.post (s.releasedFinal r)).still.jnl = s.still.jnl := congrArg State.jnl (s.post_still _)
    have hsame : (s.post (s.releasedFinal r)).jnl = s.jnl := hpost
    rw [hu, State.bumpFld_jnl, hsame, hheld]
  have hmove' : ¬isMove r.opcode = true := by simp [hmove]
  unfold replayFinalReleaseCmd
  rw [if_neg hstands, hheld, List.find?_cons_of_pos (by simp)]
  dsimp only
  rw [if_neg hmove', ← hu, hjnl, List.erase_cons_head]
  rfl

/-- Settles O46: what each row's guards let through, and what the end of a boot and the replay keep. -/
theorem bootRowsTakeEffect : Obligations.BootRowsTakeEffect := by
  unfold Obligations.BootRowsTakeEffect
  refine ⟨?_, ?_, ?_, ?_, ?_, ?_, ?_, ?_, ?_, ?_, ?_, ?_, ?_, ?_, ?_, ?_⟩
  · intro s role sel hboot
    have hcmd : porstNRiseCmd role sel s = s.sampleStraps role sel := if_pos hboot
    exact ⟨_, rfl, by rw [hcmd]; exact ⟨rfl, rfl, rfl, rfl, rfl, rfl⟩⟩
  · intro s
    exact ⟨_, rfl, rfl, rfl, rfl, rfl, rfl, rfl, rfl, rfl, rfl, rfl, rfl, rfl, rfl, rfl, rfl, rfl, rfl, rfl, rfl, rfl⟩
  · intro s hboot hsel
    have hslots : ¬(s.conductor = true ∧ s.bootsel = 1) := fun h => hsel h.1 h.2
    show Host.Outcome.next (imageCheckCmd s) = _
    unfold imageCheckCmd
    rw [if_pos hboot, if_neg hslots]
    dsimp only
    cases s.bootable s.flash.named with
    | some im => rfl
    | none =>
      cases s.bootable (1 - s.flash.named) with
      | some im => rfl
      | none => rfl
  · intro s hboot hcond hsel
    show Host.Outcome.next (imageCheckCmd s) = _
    unfold imageCheckCmd
    rw [if_pos hboot, if_pos ⟨hcond, hsel⟩]
    rfl
  · intro s hboot hgo hup
    show Host.Outcome.next (sysBootGoCmd s) = _
    unfold sysBootGoCmd
    dsimp only
    rw [if_neg (by simp [hboot, hgo, hup]), apply_ite (s.setReg R.sysBootStat)]
  · intro s v hlive hcond hup hlcs hkey
    exact congrArg Host.Outcome.next (if_neg (by simp [hlive, hcond, hup, hlcs, hkey]))
  · intro s hboot
    obtain ⟨u, hcmd, hview⟩ := bootCompleteCmd_eq hboot
    exact ⟨u, congrArg Host.Outcome.next hcmd, congrArg BootView.boot hview, congrArg BootView.rstoutN hview,
      congrArg BootView.heldCause hview, congrArg BootView.up hview, congrArg BootView.secCnt hview, congrArg BootView.pollSoon hview⟩
  · intro s hruns
    exact congrArg Host.Outcome.next (if_pos hruns)
  · intro s
    rfl
  · intro s hboot
    exact congrArg Host.Outcome.next (if_neg hboot)
  · intro s hboot
    have hcmd : brownOutCmd s = { s.restart 2 .brownOut with pw := { (s.restart 2 .brownOut).pw with lowRail := true } } := if_neg hboot
    exact ⟨_, rfl, by rw [hcmd]; exact ⟨rfl, rfl, rfl, rfl, rfl, rfl⟩⟩
  · intro s role sel hboot
    have hcmd : brownOutEndCmd role sel s =
        { s with pw := { s.pw with lowRail := false, pfail := false } }.sampleStraps role sel := if_neg (by simp [hboot])
    exact ⟨_, rfl, by rw [hcmd]; exact ⟨rfl, rfl, rfl, rfl, rfl⟩⟩
  · intro s hpfail hboot
    show Host.Outcome.next (pfailNAssertCmd s) = _
    unfold pfailNAssertCmd
    rw [if_neg (by simp [hpfail])]
    dsimp only
    rw [if_pos hboot]
    rfl
  · intro s hpfail hboot
    show Host.Outcome.next (pfailNReleaseCmd s) = _
    unfold pfailNReleaseCmd
    rw [if_neg (by simp [hpfail, hboot])]
    dsimp only
    rw [if_pos hboot]
    rfl
  · intro s hboot hopen hsv
    obtain ⟨v, hv, u, hu, hcmd⟩ := journalReplayCmd_eq hboot hopen hsv
    refine ⟨u, congrArg Host.Outcome.next hcmd, ?_, ?_, ?_⟩
    · rw [hu]
    · rw [hu, ← hv]
    · have huid : (journalReplayCmd s).uid = s.uid := (Laws.journalReplayCmd_keeps (Laws.Keeps.rfl' s)).2.2.1
      rw [hcmd, State.uid_of_still (State.ev_still ..), State.uid_of_still (State.evC_still ..)] at huid
      exact huid
  · intro s r hlive hheld hmove
    exact congrArg Host.Outcome.next (replayFinalReleaseCmd_of_single hlive hheld hmove rfl)

end Sys2Proof.Machine
end
